-- ==== Sys2Proof/Word.lean ====
section
/-! DEFINITION. The word and octet types of the part (R1), and the types of the commands' operands. -/
namespace Sys2Proof

/-- A word is 24 bits (R1). -/
abbrev Word := BitVec 24

/-- An octet is 8 bits (R1). -/
abbrev Octet := BitVec 8

/-- The bus initiators (R13): an application core, link core A or B, a DMA channel, the debug port. -/
inductive Who where
  | app (k : Fin 4)
  | lcA
  | lcB
  | dma (n : Fin 32)
  | dbg
  deriving DecidableEq, Repr

/-- The transports of commands (R248): the host SPI port, the host UART, and a core's mailbox. -/
inductive Transport where
  | spi
  | uart
  | mb (k : Fin 4)
  deriving DecidableEq, Repr

/-- A power agent's answer to a mode change (R426), a refusal with its reason (R429). -/
inductive AgentAnswer where
  | accept
  | refuse (reason : Octet)
  | delay
  deriving DecidableEq, Repr

/-- What one discipline measurement gives link firmware (R17, R18): the offset to the source in counter units, and for the
mesh exchange its four instants. -/
inductive DiscMeasure where
  | ptp (offset : Int)
  | pps (captured : BitVec 72)
  | mesh (t1 t2 t3 t4 : BitVec 72)
  deriving DecidableEq, Repr

/-- A discipline sample: the measurement, the source's advertised uncertainty plus the measurement error in ns (R26), the
servo's rate uncertainty in ppb (R26), the new value the servo gives RATE, and STEPCNT as read before the exchange (R24). -/
structure DiscSample where
  meas : DiscMeasure
  uncert : Word
  rateUnc : BitVec 12
  rate : BitVec 32
  stepcnt0 : Octet
  deriving DecidableEq, Repr

/-- The time at which the read engine chooses a channel (R399, R400): whether a new window of 256 bus cycles has begun since the last choice, and
how many of the bursts in the shared buffer the write engine writes out before the next one. -/
structure BurstTime where
  fresh : Bool
  leave : Nat
  deriving DecidableEq, Repr

/-- An edge at a capture channel (R44): its polarity, and the nanoseconds from the last tick to it. -/
structure CapEdge where
  rising : Bool
  sub : Fin 25
  deriving DecidableEq, Repr

/-- What a full calibration ends with (R99): the trims of SYN1, SYN2 and SYNT, and where CALSTOP ended it the number of items
finished. -/
structure FullCalEnd where
  trim : List Word
  items : Fin 7
  deriving DecidableEq, Repr

/-- The normalised metrics of a lane's three correlators (R127, R469) in 1/256 dB, signed. -/
structure Metrics where
  m0 : BitVec 16
  m1 : BitVec 16
  m2 : BitVec 16
  deriving DecidableEq, Repr

/-- The metrics as numbers, by slot. -/
def Metrics.toInts (m : Metrics) : List Int := [m.m0.toInt, m.m1.toInt, m.m2.toInt]

end Sys2Proof
end

