-- ==== Sys2Proof/Syntax.lean ====
section
/-! DEFINITION. The commands the part takes: one constructor per row of the spec's table of operations and events.
A constructor's operands are what the environment says of the command: who acts, on what, with what value. -/
namespace Sys2Proof

/-- A command: an operation on the part or an event at it. Each constructor's docstring gives the table's mnemonic and
the rule that governs it. -/
inductive Instr where
  /-- MT_TICK (R9). -/
  | mtTick
  /-- LF_TICK (R29). -/
  | lfTick
  /-- READ_MT_NOW0 (R12): w reads MT_NOW0. -/
  | readMtNow0 (w : Who)
  /-- MT_CTRL_STEP (R20): w writes v, with STEP = 1, to MT_CTRL. -/
  | mtCtrlStep (w : Who) (v : Word)
  /-- MT_STEP_APPLY (R20). -/
  | mtStepApply
  /-- SLEW_START (R21): w writes v to MT_SLEW1. -/
  | slewStart (w : Who) (v : Word)
  /-- SLEWSTOP (R21): w writes v, with SLEWSTOP = 1, to MT_CTRL. -/
  | slewstop (w : Who) (v : Word)
  /-- MT_SLEW_DONE (R21). -/
  | mtSlewDone
  /-- MT_RATE_COMMIT (R10): w writes v to MT_RATE1. -/
  | mtRateCommit (w : Who) (v : Word)
  /-- MT_USET_WRITE (R25): w writes v to MT_USET. -/
  | mtUsetWrite (w : Who) (v : Word)
  /-- MT_UALARM_WRITE (R27): w writes v to MT_UALARM. -/
  | mtUalarmWrite (w : Who) (v : Word)
  /-- LF_WINDOW_END (R28). -/
  | lfWindowEnd
  /-- BRIDGE_ENTER (R30). -/
  | bridgeEnter
  /-- BRIDGE_EXIT (R473). -/
  | bridgeExit
  /-- ARM_COMPARE (R38): w writes v to MTCn_CMP2. -/
  | armCompare (w : Who) (n : Fin 32) (v : Word)
  /-- COMPARE_DISARM (R38): w writes v, with DISARM = 1, to MTCn_CTRL. -/
  | compareDisarm (w : Who) (n : Fin 32) (v : Word)
  /-- COMPARE_MATCH (R40): channel n. -/
  | compareMatch (n : Fin 32)
  /-- PPS_PULSE_END (R43). -/
  | ppsPulseEnd
  /-- CAPTURE_EVENT (R46): an edge on CAPn. -/
  | captureEvent (n : Fin 8) (e : CapEdge)
  /-- READ_CAPTURE (R46): w reads MT_CAPn_0. -/
  | readCapture (w : Who) (n : Fin 8)
  /-- DISCIPLINE_SAMPLE (R18): the sample and what its source advertises. -/
  | disciplineSample (m : DiscSample)
  /-- SOURCE_LOST (R15): the source that is lost. -/
  | sourceLost (src : BitVec 2)
  /-- PTP_EVENT_STAMP (R36). -/
  | ptpEventStamp
  /-- COURSE_RUN_WRITE (R49): w writes v, with RUN = 1, to Cn_CFG. -/
  | courseRunWrite (w : Who) (n : Fin 16) (v : Word)
  /-- COURSE_STOP_WRITE (R50): w writes v, with RUN = 0, to Cn_CFG. -/
  | courseStopWrite (w : Who) (n : Fin 16) (v : Word)
  /-- COURSE_STOPNOW (R50): w writes v, with STOPNOW = 1, to Cn_CFG. -/
  | courseStopnow (w : Who) (n : Fin 16) (v : Word)
  /-- COURSE_BOUNDARY (R50). -/
  | courseBoundary (n : Fin 16)
  /-- GATE_COMMIT (R76): w writes v, with GO = 1, to GATE.COMMIT. -/
  | gateCommit (w : Who) (v : Word)
  /-- GUARD_EVALUATION (R61): gate g in iteration it. -/
  | guardEvaluation (g : BitVec 12) (it : BitVec 48)
  /-- GATE_PRETUNE (R59). -/
  | gatePretune (g : BitVec 12) (it : BitVec 48)
  /-- RX_LISTEN (R54). -/
  | rxListen (g : BitVec 12) (it : BitVec 48)
  /-- RX_EXPECT (R54). -/
  | rxExpect (g : BitVec 12) (it : BitVec 48)
  /-- RX_SOUND (R54). -/
  | rxSound (g : BitVec 12) (it : BitVec 48)
  /-- TX_QUEUE (R65). -/
  | txQueue (g : BitVec 12) (it : BitVec 48)
  /-- TX_BEACON (R54). -/
  | txBeacon (g : BitVec 12) (it : BitVec 48)
  /-- TX_SOUND (R54). -/
  | txSound (g : BitVec 12) (it : BitVec 48)
  /-- EMIT_EVENT (R54). -/
  | emitEvent (g : BitVec 12) (it : BitVec 48)
  /-- GATE_WIN_END (R54). -/
  | gateWinEnd (g : BitVec 12) (it : BitVec 48)
  /-- GATE_TUNE (R54). -/
  | gateTune (g : BitVec 12) (it : BitVec 48)
  /-- GATE_CALIBRATE (R54). -/
  | gateCalibrate (g : BitVec 12) (it : BitVec 48)
  /-- WAKE_APP (R54). -/
  | wakeApp (g : BitVec 12) (it : BitVec 48)
  /-- RX_WINDOW_CLOSE (R63). -/
  | rxWindowClose (g : BitVec 12) (it : BitVec 48)
  /-- ACK_WAIT_END (R213). -/
  | ackWaitEnd (band : Fin 2)
  /-- SYNTH_LOCK (R84): synthesizer SYN1, SYN2 or SYNT. -/
  | synthLock (band : Fin 2) (syn : Fin 3)
  /-- SYNTH_COLD_FALLBACK (R85). -/
  | synthColdFallback (band : Fin 2) (syn : Fin 3)
  /-- CAL_COMMIT (R87): w writes v, with GO = 1, to CALCOMMIT. -/
  | calCommit (w : Who) (band : Fin 2) (v : Word)
  /-- CAL_SLICE_START (R97). -/
  | calSliceStart (band : Fin 2)
  /-- CAL_SLICE_DONE (R94): none where the slice fails, else the trims of SYN1, SYN2 and SYNT as the last of a VCOSWEEP gives them; the words measured for its entry. -/
  | calSliceDone (band : Fin 2) (res : Option (List Word)) (w1 w2 w3 : Word)
  /-- FULL_CAL_START (R99): w writes v, with FULLGO = 1, to the front end's CTRL. -/
  | fullCalStart (w : Who) (band : Fin 2) (v : Word)
  /-- FULL_CAL_DONE (R99): what its items have given, and the new words w1 to w3 of the entries calibrated. -/
  | fullCalDone (band : Fin 2) (e : FullCalEnd) (results : List (Nat × List Word))
  /-- CALSTOP (R99): w writes v, with CALSTOP = 1, to the front end's CTRL. -/
  | calstop (w : Who) (band : Fin 2) (v : Word)
  /-- CALAGE_TICK (R100). -/
  | calageTick (band : Fin 2)
  /-- SENSOR_REFRESH (R103). -/
  | sensorRefresh (band : Fin 2) (temp vmain : Octet)
  /-- TX_RAMP_UP (R108). -/
  | txRampUp (band : Fin 2)
  /-- TX_LATE (R108). -/
  | txLate (band : Fin 2)
  /-- TX_END (R105): the PA's output deviates by more than 1.5 dB, which a frame under PACHK finds. -/
  | txEnd (band : Fin 2) (paDev : Bool)
  /-- BLANK_END (R106). -/
  | blankEnd (band : Fin 2)
  /-- TX_HALT (R105): w writes v, with HALT = 1, to CHn_CTRL. -/
  | txHalt (w : Who) (band : Fin 2) (v : Word)
  /-- CCA_DONE (R109): the mean power, signed dBm. -/
  | ccaDone (band : Fin 2) (mean : Octet)
  /-- OFFMIN_END (R111). -/
  | offminEnd (band : Fin 2) (rule : Fin 4)
  /-- BUCKET_ENTRY (R112). -/
  | bucketEntry (band : Fin 2) (rule : Fin 4)
  /-- PATH_AGC_WINDOW (R117): the band and its path, the captured power in 0.5 dBFS, and whether the ADC overloaded. -/
  | pathAgcWindow (band path : Fin 2) (power : Octet) (ovl : Bool)
  /-- GAIN_APPLY (R119). -/
  | gainApply (p : Fin 4)
  /-- PREAMBLE_DETECT (R127): the lane, the normalised metrics of its correlators, the preamble's arrival at the lane, the levels of the paths and the SNR. -/
  | preambleDetect (n : Fin 16) (m : Metrics) (peak : BitVec 72) (rssi1 rssi2 snr : Octet)
  /-- HEADER_DECODE (R150): the header bits as decoded, h0 in bit 0; for the standard modes, whether the PHR passes, with its FCS type in bit 0 (1: two octets) and its length in bits [26:15]. -/
  | headerDecode (n : Fin 16) (hdr : BitVec 52) (phrOk : Bool)
  /-- CODEWORD_DECODE (R135): the lanes that have received a codeword since the last step, the engine, and the iterations after which its codeword's syndrome is zero, 31 for never. -/
  | codewordDecode (arrived : List (Fin 16)) (e : Fin 4) (its : BitVec 5)
  /-- FRAME_END (R153): the lane, the PSDU without its FCS, whether the FCS matches, and what a measured frame gives for its record. -/
  | frameEnd (n : Fin 16) (psdu : List Octet) (fcsOk : Bool) (spread : BitVec 12) (tones : List Word)
  /-- LANE_OOS_WRITE (R133): w writes v to LANE.OOS. -/
  | laneOosWrite (w : Who) (v : Word)
  /-- SPAN_APPLY (R134). -/
  | spanApply (band : Fin 2)
  /-- FRAME_ACCEPT (R181). -/
  | frameAccept
  /-- ACK_TRANSMIT (R195). -/
  | ackTransmit (band : Fin 2)
  /-- KEY_LOAD_COMMIT (R179): w writes v, with GO = 1, to KEYCOMMIT. -/
  | keyLoadCommit (w : Who) (v : Word)
  /-- KEY_CLEAR (R179): w writes v, with CLEAR = 1, to KEYCOMMIT. -/
  | keyClear (w : Who) (v : Word)
  /-- KEY_WALK_DONE (R179). -/
  | keyWalkDone (slot : Fin 16)
  /-- TXCTR_COMMIT (R180): w writes v to KEYn_TXCTR1. -/
  | txctrCommit (w : Who) (slot : Fin 16) (v : Word)
  /-- TXLIM_COMMIT (R180): w writes v to KEYn_TXLIM1. -/
  | txlimCommit (w : Who) (slot : Fin 16) (v : Word)
  /-- NBR_COMMIT (R200): w writes v, with GO = 1, to NBR.COMMIT. -/
  | nbrCommit (w : Who) (v : Word)
  /-- HEARD_REFRESH (R62). -/
  | heardRefresh
  /-- TONEMAP_COMPUTE (R160). -/
  | tonemapCompute
  /-- TONEMAP_FEEDBACK (R164): the authenticated neighbour and the element after its OUI. -/
  | tonemapFeedback (nbr : BitVec 13) (elem : List Octet)
  /-- SOUNDING_POLICY_TICK (R277). -/
  | soundingPolicyTick (nbr : BitVec 13)
  /-- FWD_PROCESS (R207): the pipeline: class 0 (true) or the shared one. -/
  | fwdProcess (c0 : Bool)
  /-- ROUTE_COMMIT (R205): w writes v, with GO = 1, to FWD.COMMIT. -/
  | routeCommit (w : Who) (v : Word)
  /-- QUEUE_PUSH (R219). -/
  | queuePush (w : Who) (n : Fin 128) (v : Word)
  /-- QUEUE_PUSHHEAD (R219). -/
  | queuePushhead (w : Who) (n : Fin 128) (v : Word)
  /-- QUEUE_POP (R219). -/
  | queuePop (w : Who) (n : Fin 128)
  /-- QUEUE_PEEK (R219). -/
  | queuePeek (w : Who) (n : Fin 128)
  /-- QUEUE_CLASS_WRITE (R221): w writes v to Qn_CFG. -/
  | queueClassWrite (w : Who) (n : Fin 128) (v : Word)
  /-- FREEBUF (R223). -/
  | freebuf (w : Who) (v : Word)
  /-- ALLOC (R224). -/
  | alloc (w : Who)
  /-- QM_TIMEOUT (R225). -/
  | qmTimeout (n : Fin 128)
  /-- RWIN_REQUEST (R234). -/
  | rwinRequest
  /-- RW_READ (R240): the pipeline: class 0 (true) or the shared one. -/
  | rwRead (c0 : Bool)
  /-- RW_WRITE (R240). -/
  | rwWrite (c0 : Bool)
  /-- RW_ADD (R240). -/
  | rwAdd (c0 : Bool)
  /-- RW_SWAP (R240). -/
  | rwSwap (c0 : Bool)
  /-- RWIN_READBACK_DONE (R241). -/
  | rwinReadbackDone (c0 : Bool)
  /-- RWIN_RESPONSE (R235). -/
  | rwinResponse
  /-- RWIN_TIMEOUT (R236): the operation whose time has passed. -/
  | rwinTimeout (opid : BitVec 16)
  /-- WINDOW_COMMIT (R229): w writes v, with GO = 1, to RWIN.COMMIT. -/
  | windowCommit (w : Who) (v : Word)
  /-- SPI_WRITE (R253): the octets between the operation octet and the rising edge of HOST_CS_N. -/
  | spiWrite (p : List Octet)
  /-- SPI_READ (R253): octets that the host clocks after the operation octet. -/
  | spiRead (n : Nat)
  /-- SPI_STATUS (R253): the operation octet (0x03, or an undefined one) and the octets clocked after it. -/
  | spiStatus (op : Octet) (n : Nat)
  /-- SPI_REPEAT (R253). -/
  | spiRepeat (n : Nat)
  /-- UART_PACKET (R255): the octets after the sync octet. -/
  | uartPacket (p : List Octet)
  /-- UART_GAP_TIMEOUT (R255). -/
  | uartGapTimeout
  /-- UART_REPLY_SENT (R261). -/
  | uartReplySent
  /-- MAILBOX_POST (R258). -/
  | mailboxPost (w : Who) (k : Fin 4) (v : Word)
  /-- MAILBOX_COPY_DONE (R258). -/
  | mailboxCopyDone (k : Fin 4)
  /-- MAILBOX_REPLY_WRITE (R259). -/
  | mailboxReplyWrite (k : Fin 4)
  /-- PING (R273): the accepted command of this transport and tag. -/
  | ping (t : Transport) (tag : Octet)
  /-- GET_INFO (R273): the accepted command of this transport and tag. -/
  | getInfo (t : Transport) (tag : Octet)
  /-- RESET_DOMAIN (R274): the accepted command of this transport and tag. -/
  | resetDomain (t : Transport) (tag : Octet)
  /-- DEFERRED_RESET_START (R274). -/
  | deferredResetStart
  /-- GET_RESET_CAUSE (R273): the accepted command of this transport and tag. -/
  | getResetCause (t : Transport) (tag : Octet)
  /-- SET_MODE (R274): the accepted command of this transport and tag. -/
  | setMode (t : Transport) (tag : Octet)
  /-- GET_MODE (R273): the accepted command of this transport and tag. -/
  | getMode (t : Transport) (tag : Octet)
  /-- GET_WAKE_RECORD (R273): the accepted command of this transport and tag. -/
  | getWakeRecord (t : Transport) (tag : Octet)
  /-- RADIO_CONFIG (R275): the accepted command of this transport and tag. -/
  | radioConfig (t : Transport) (tag : Octet)
  /-- TUNE (R275): the accepted command of this transport and tag. -/
  | tune (t : Transport) (tag : Octet)
  /-- CALIBRATE (R275): the accepted command of this transport and tag. -/
  | calibrate (t : Transport) (tag : Octet)
  /-- SET_CAL_POLICY (R275): the accepted command of this transport and tag. -/
  | setCalPolicy (t : Transport) (tag : Octet)
  /-- SET_TX_POWER (R275): the accepted command of this transport and tag. -/
  | setTxPower (t : Transport) (tag : Octet)
  /-- LOAD_POWER_CURVE (R104): the accepted command of this transport and tag. -/
  | loadPowerCurve (t : Transport) (tag : Octet)
  /-- LANE_ASSIGN (R131): the accepted command of this transport and tag. -/
  | laneAssign (t : Transport) (tag : Octet)
  /-- LANE_RELEASE (R132): the accepted command of this transport and tag. -/
  | laneRelease (t : Transport) (tag : Octet)
  /-- TX_FRAME (R276): the accepted command of this transport and tag. -/
  | txFrame (t : Transport) (tag : Octet)
  /-- TX_FRAME_RETRY (R276): the command whose backoff has passed. -/
  | txFrameRetry (t : Transport) (tag : Octet)
  /-- MEASURE_CHANNEL (R275): the accepted command of this transport and tag. -/
  | measureChannel (t : Transport) (tag : Octet)
  /-- MEASURE_DONE (R275): the measuring command and what its lane measured. -/
  | measureDone (t : Transport) (tag mean peak share : Octet)
  /-- SOUND (R277): the accepted command of this transport and tag. -/
  | sound (t : Transport) (tag : Octet)
  /-- MT_GET (R278): the accepted command of this transport and tag. -/
  | mtGet (t : Transport) (tag : Octet)
  /-- MT_STEP (R279): the accepted command of this transport and tag. -/
  | mtStep (t : Transport) (tag : Octet)
  /-- MT_SLEW (R279): the accepted command of this transport and tag. -/
  | mtSlew (t : Transport) (tag : Octet)
  /-- MT_SOURCE (R278): the accepted command of this transport and tag. -/
  | mtSource (t : Transport) (tag : Octet)
  /-- MT_STATUS (R278): the accepted command of this transport and tag. -/
  | mtStatus (t : Transport) (tag : Octet)
  /-- GATE_WRITE (R280): the accepted command of this transport and tag. -/
  | gateWrite (t : Transport) (tag : Octet)
  /-- GATE_READ (R280): the accepted command of this transport and tag. -/
  | gateRead (t : Transport) (tag : Octet)
  /-- COURSE_CONFIG (R280): the accepted command of this transport and tag. -/
  | courseConfig (t : Transport) (tag : Octet)
  /-- COURSE_START (R280): the accepted command of this transport and tag. -/
  | courseStart (t : Transport) (tag : Octet)
  /-- COURSE_STOP (R280): the accepted command of this transport and tag. -/
  | courseStop (t : Transport) (tag : Octet)
  /-- HOPSEQ_WRITE (R280): the accepted command of this transport and tag. -/
  | hopseqWrite (t : Transport) (tag : Octet)
  /-- NBR_READ (R281): the accepted command of this transport and tag. -/
  | nbrRead (t : Transport) (tag : Octet)
  /-- NBR_WRITE (R281): the accepted command of this transport and tag. -/
  | nbrWrite (t : Transport) (tag : Octet)
  /-- NBR_EVICT (R188): the accepted command of this transport and tag. -/
  | nbrEvict (t : Transport) (tag : Octet)
  /-- ROUTE_WRITE (R281): the accepted command of this transport and tag. -/
  | routeWrite (t : Transport) (tag : Octet)
  /-- ROUTE_READ (R281): the accepted command of this transport and tag. -/
  | routeRead (t : Transport) (tag : Octet)
  /-- TONEMAP_WRITE (R158): the accepted command of this transport and tag. -/
  | tonemapWrite (t : Transport) (tag : Octet)
  /-- TONEMAP_READ (R281): the accepted command of this transport and tag. -/
  | tonemapRead (t : Transport) (tag : Octet)
  /-- KEY_LOAD (R179): the accepted command of this transport and tag. -/
  | keyLoad (t : Transport) (tag : Octet)
  /-- KEY_SELECT (R283): the accepted command of this transport and tag. -/
  | keySelect (t : Transport) (tag : Octet)
  /-- SEC_STATUS (R282): the accepted command of this transport and tag. -/
  | secStatus (t : Transport) (tag : Octet)
  /-- WINDOW_DEFINE (R227): the accepted command of this transport and tag. -/
  | windowDefine (t : Transport) (tag : Octet)
  /-- WINDOW_CLOSE (R229): the accepted command of this transport and tag. -/
  | windowClose (t : Transport) (tag : Octet)
  /-- WINDOW_OP (R285): the accepted command of this transport and tag. -/
  | windowOp (t : Transport) (tag : Octet)
  /-- STAGE_BEGIN (R378): the accepted command of this transport and tag. -/
  | stageBegin (t : Transport) (tag : Octet)
  /-- STAGE_WRITE (R379): the accepted command of this transport and tag. -/
  | stageWrite (t : Transport) (tag : Octet)
  /-- STAGE_COMMIT (R380): the accepted command of this transport and tag. -/
  | stageCommit (t : Transport) (tag : Octet)
  /-- STAGE_STATUS (R286): the accepted command of this transport and tag. -/
  | stageStatus (t : Transport) (tag : Octet)
  /-- LINKFW_LOAD (R300): the accepted command of this transport and tag. -/
  | linkfwLoad (t : Transport) (tag : Octet)
  /-- LINKFW_SWAP (R301): the accepted command of this transport and tag. -/
  | linkfwSwap (t : Transport) (tag : Octet)
  /-- TABLE_BANK_SWAP (R303): the accepted command of this transport and tag. -/
  | tableBankSwap (t : Transport) (tag : Octet)
  /-- SELFTEST (R287): the accepted command of this transport and tag. -/
  | selftest (t : Transport) (tag : Octet)
  /-- GET_COUNTERS (R287): the accepted command of this transport and tag. -/
  | getCounters (t : Transport) (tag : Octet)
  /-- CLEAR_COUNTERS (R287): the accepted command of this transport and tag. -/
  | clearCounters (t : Transport) (tag : Octet)
  /-- ECHO (R287): the accepted command of this transport and tag. -/
  | echo (t : Transport) (tag : Octet)
  /-- ABORT (R267): the accepted command of this transport and tag. -/
  | abort (t : Transport) (tag : Octet)
  /-- HEARTBEAT (R291): core B (true) or A writes v to its heartbeat register. -/
  | heartbeat (c : Bool) (v : Word)
  /-- SUPERVISOR_TIMEOUT (R292): the core whose timer has expired. -/
  | supervisorTimeout (c : Bool)
  /-- TAKEOVER_RESUME (R298): the interruption in units of 0.1 µs. -/
  | takeoverResume (dur : BitVec 16)
  /-- SWAPGO (R301). -/
  | swapgo (w : Who) (v : Word)
  /-- STANDBY_LOAD (R300). -/
  | standbyLoad (w : Who) (v : Word)
  /-- STANDBY_READY (R300). -/
  | standbyReady
  /-- BANKSWAP_GO (R303). -/
  | bankswapGo (w : Who) (v : Word)
  /-- BANKSWAP_CANCEL (R303). -/
  | bankswapCancel (w : Who) (v : Word)
  /-- INTERRUPT_TAKE (R335): core k is between two instructions. -/
  | interruptTake (k : Fin 4)
  /-- ADD (R309). -/
  | add (k : Fin 4) (d a b : BitVec 4)
  /-- SUB (R309). -/
  | sub (k : Fin 4) (d a b : BitVec 4)
  /-- AND (R309). -/
  | andR (k : Fin 4) (d a b : BitVec 4)
  /-- OR (R309). -/
  | orR (k : Fin 4) (d a b : BitVec 4)
  /-- XOR (R309). -/
  | xorR (k : Fin 4) (d a b : BitVec 4)
  /-- NOR (R309). -/
  | nor (k : Fin 4) (d a b : BitVec 4)
  /-- LTS (R309). -/
  | lts (k : Fin 4) (d a b : BitVec 4)
  /-- LTU (R309). -/
  | ltu (k : Fin 4) (d a b : BitVec 4)
  /-- SHL (R309). -/
  | shl (k : Fin 4) (d a b : BitVec 4)
  /-- SHR (R309). -/
  | shr (k : Fin 4) (d a b : BitVec 4)
  /-- SAR (R309). -/
  | sar (k : Fin 4) (d a b : BitVec 4)
  /-- ROR (R309). -/
  | ror (k : Fin 4) (d a b : BitVec 4)
  /-- MIN (R309). -/
  | minS (k : Fin 4) (d a b : BitVec 4)
  /-- MAX (R309). -/
  | maxS (k : Fin 4) (d a b : BitVec 4)
  /-- MINU (R309). -/
  | minu (k : Fin 4) (d a b : BitVec 4)
  /-- MAXU (R309). -/
  | maxu (k : Fin 4) (d a b : BitVec 4)
  /-- ADDS (R309). -/
  | adds (k : Fin 4) (d a b : BitVec 4)
  /-- SUBS (R309). -/
  | subs (k : Fin 4) (d a b : BitVec 4)
  /-- ABS (R309). -/
  | abs (k : Fin 4) (d a b : BitVec 4)
  /-- CLZ (R309). -/
  | clz (k : Fin 4) (d a b : BitVec 4)
  /-- POPC (R309). -/
  | popc (k : Fin 4) (d a b : BitVec 4)
  /-- REVO (R309). -/
  | revo (k : Fin 4) (d a b : BitVec 4)
  /-- SEXO (R309). -/
  | sexo (k : Fin 4) (d a b : BitVec 4)
  /-- SEX12 (R309). -/
  | sex12 (k : Fin 4) (d a b : BitVec 4)
  /-- ADD_K (R310). -/
  | addK (k : Fin 4) (d a : BitVec 4) (imm : BitVec 10)
  /-- AND_K (R310). -/
  | andK (k : Fin 4) (d a : BitVec 4) (imm : BitVec 10)
  /-- OR_K (R310). -/
  | orK (k : Fin 4) (d a : BitVec 4) (imm : BitVec 10)
  /-- XOR_K (R310). -/
  | xorK (k : Fin 4) (d a : BitVec 4) (imm : BitVec 10)
  /-- LTS_K (R310). -/
  | ltsK (k : Fin 4) (d a : BitVec 4) (imm : BitVec 10)
  /-- LTU_K (R310). -/
  | ltuK (k : Fin 4) (d a : BitVec 4) (imm : BitVec 10)
  /-- SHL_K (R310). -/
  | shlK (k : Fin 4) (d a : BitVec 4) (imm : BitVec 10)
  /-- SHR_K (R310). -/
  | shrK (k : Fin 4) (d a : BitVec 4) (imm : BitVec 10)
  /-- SAR_K (R310). -/
  | sarK (k : Fin 4) (d a : BitVec 4) (imm : BitVec 10)
  /-- ROR_K (R310). -/
  | rorK (k : Fin 4) (d a : BitVec 4) (imm : BitVec 10)
  /-- WHI (R310). -/
  | whi (k : Fin 4) (d : BitVec 4) (imm : BitVec 14)
  /-- ADH (R310). -/
  | adh (k : Fin 4) (d : BitVec 4) (imm : BitVec 14)
  /-- ADDS_K (R310). -/
  | addsK (k : Fin 4) (d a : BitVec 4) (imm : BitVec 10)
  /-- RSB_K (R310). -/
  | rsbK (k : Fin 4) (d a : BitVec 4) (imm : BitVec 10)
  /-- EXT_K (R310). -/
  | extK (k : Fin 4) (d a : BitVec 4) (imm : BitVec 10)
  /-- LDW (R311). -/
  | ldw (k : Fin 4) (d a : BitVec 4) (imm : BitVec 10)
  /-- STW (R311). -/
  | stw (k : Fin 4) (d a : BitVec 4) (imm : BitVec 10)
  /-- LDO (R311). -/
  | ldo (k : Fin 4) (d a : BitVec 4) (imm : BitVec 10)
  /-- LDOS (R311). -/
  | ldos (k : Fin 4) (d a : BitVec 4) (imm : BitVec 10)
  /-- STO (R311). -/
  | sto (k : Fin 4) (d a : BitVec 4) (imm : BitVec 10)
  /-- LDP (R311). -/
  | ldp (k : Fin 4) (d a : BitVec 4) (imm : BitVec 10)
  /-- STP (R311). -/
  | stp (k : Fin 4) (d a : BitVec 4) (imm : BitVec 10)
  /-- SWP (R312). -/
  | swp (k : Fin 4) (d a : BitVec 4) (imm : BitVec 10)
  /-- CB_EQ (R313). -/
  | cbEq (k : Fin 4) (a b : BitVec 4) (off : BitVec 10)
  /-- CB_NE (R313). -/
  | cbNe (k : Fin 4) (a b : BitVec 4) (off : BitVec 10)
  /-- CB_LT (R313). -/
  | cbLt (k : Fin 4) (a b : BitVec 4) (off : BitVec 10)
  /-- CB_GE (R313). -/
  | cbGe (k : Fin 4) (a b : BitVec 4) (off : BitVec 10)
  /-- CB_LTU (R313). -/
  | cbLtu (k : Fin 4) (a b : BitVec 4) (off : BitVec 10)
  /-- CB_GEU (R313). -/
  | cbGeu (k : Fin 4) (a b : BitVec 4) (off : BitVec 10)
  /-- CB_DEC (R313). -/
  | cbDec (k : Fin 4) (a b : BitVec 4) (off : BitVec 10)
  /-- CB_ANY (R313). -/
  | cbAny (k : Fin 4) (a b : BitVec 4) (off : BitVec 10)
  /-- JMP (R313). -/
  | jmp (k : Fin 4) (off : BitVec 18)
  /-- CALL (R313). -/
  | call (k : Fin 4) (off : BitVec 18)
  /-- JMPR (R313). -/
  | jmpr (k : Fin 4) (d a : BitVec 4) (imm : BitVec 10)
  /-- CALLR (R313). -/
  | callr (k : Fin 4) (d a : BitVec 4) (imm : BitVec 10)
  /-- TRAP (R314). -/
  | trap (k : Fin 4) (code : BitVec 12)
  /-- BKPT (R314). -/
  | bkpt (k : Fin 4) (code : BitVec 12)
  /-- XRET (R330). -/
  | xret (k : Fin 4) (rest : BitVec 12)
  /-- WAIT (R314). -/
  | wait (k : Fin 4) (rest : BitVec 12)
  /-- FENCE (R314). -/
  | fence (k : Fin 4) (rest : BitVec 12)
  /-- EI (R314). -/
  | ei (k : Fin 4) (rest : BitVec 12)
  /-- DI (R314). -/
  | di (k : Fin 4) (d : BitVec 4) (rest : BitVec 8)
  /-- ILINE (R315). -/
  | iline (k : Fin 4) (a : BitVec 4) (imm : BitVec 10)
  /-- DCLEAN (R315). -/
  | dclean (k : Fin 4) (a : BitVec 4) (imm : BitVec 10)
  /-- DFLUSH (R315). -/
  | dflush (k : Fin 4) (a : BitVec 4) (imm : BitVec 10)
  /-- DINV (R315). -/
  | dinv (k : Fin 4) (a : BitVec 4) (imm : BitVec 10)
  /-- IALL (R315). -/
  | iall (k : Fin 4) (a : BitVec 4) (imm : BitVec 10)
  /-- DCLEANALL (R315). -/
  | dcleanall (k : Fin 4) (a : BitVec 4) (imm : BitVec 10)
  /-- DFLUSHALL (R315). -/
  | dflushall (k : Fin 4) (a : BitVec 4) (imm : BitVec 10)
  /-- DINVALL (R315). -/
  | dinvall (k : Fin 4) (a : BitVec 4) (imm : BitVec 10)
  /-- FCINV (R315). -/
  | fcinv (k : Fin 4) (a : BitVec 4) (imm : BitVec 10)
  /-- MFS (R316). -/
  | mfs (k : Fin 4) (d a : BitVec 4) (imm : BitVec 10)
  /-- MTS (R316). -/
  | mts (k : Fin 4) (d a : BitVec 4) (imm : BitVec 10)
  /-- MUL (R317). -/
  | mul (k : Fin 4) (d a b : BitVec 4)
  /-- MULH (R317). -/
  | mulh (k : Fin 4) (d a b : BitVec 4)
  /-- MULHU (R317). -/
  | mulhu (k : Fin 4) (d a b : BitVec 4)
  /-- MULL (R317). -/
  | mull (k : Fin 4) (d a b : BitVec 4)
  /-- MULLU (R317). -/
  | mullu (k : Fin 4) (d a b : BitVec 4)
  /-- DIV (R318). -/
  | div (k : Fin 4) (d a b : BitVec 4)
  /-- DIVU (R318). -/
  | divu (k : Fin 4) (d a b : BitVec 4)
  /-- REM (R318). -/
  | rem (k : Fin 4) (d a b : BitVec 4)
  /-- REMU (R318). -/
  | remu (k : Fin 4) (d a b : BitVec 4)
  /-- MUL_K (R317). -/
  | mulK (k : Fin 4) (d a : BitVec 4) (imm : BitVec 10)
  /-- DIVL (R318). -/
  | divl (k : Fin 4) (d a b : BitVec 4)
  /-- DIVLU (R318). -/
  | divlu (k : Fin 4) (d a b : BitVec 4)
  /-- FMUL (R319). -/
  | fmul (k : Fin 4) (d a b : BitVec 4)
  /-- FMULT (R319). -/
  | fmult (k : Fin 4) (d a b : BitVec 4)
  /-- MAC (R319). -/
  | mac (k : Fin 4) (d a b : BitVec 4)
  /-- MSU (R319). -/
  | msu (k : Fin 4) (d a b : BitVec 4)
  /-- MACZ (R319). -/
  | macz (k : Fin 4) (d a b : BitVec 4)
  /-- ACCR (R319). -/
  | accr (k : Fin 4) (d a b : BitVec 4)
  /-- ACCW (R319). -/
  | accw (k : Fin 4) (d a b : BitVec 4)
  /-- ACCSH (R319). -/
  | accsh (k : Fin 4) (d a b : BitVec 4)
  /-- CADD (R319). -/
  | cadd (k : Fin 4) (d a b : BitVec 4)
  /-- CADDS (R319). -/
  | cadds (k : Fin 4) (d a b : BitVec 4)
  /-- CSUB (R319). -/
  | csub (k : Fin 4) (d a b : BitVec 4)
  /-- CSUBS (R319). -/
  | csubs (k : Fin 4) (d a b : BitVec 4)
  /-- CCONJ (R319). -/
  | cconj (k : Fin 4) (d a b : BitVec 4)
  /-- CMUL (R319). -/
  | cmul (k : Fin 4) (d a b : BitVec 4)
  /-- HINT (R320). -/
  | hint (k : Fin 4) (rest : BitVec 18)
  /-- AESKEY (R322). -/
  | aeskey (k : Fin 4) (d a b : BitVec 4)
  /-- AESENC (R322). -/
  | aesenc (k : Fin 4) (d a b : BitVec 4)
  /-- AESDEC (R322). -/
  | aesdec (k : Fin 4) (d a b : BitVec 4)
  /-- SHAINIT (R322). -/
  | shainit (k : Fin 4) (d a b : BitVec 4)
  /-- SHABLK (R322). -/
  | shablk (k : Fin 4) (d a b : BitVec 4)
  /-- SHAOUT (R322). -/
  | shaout (k : Fin 4) (d a b : BitVec 4)
  /-- MODSEL (R322). -/
  | modsel (k : Fin 4) (d a b : BitVec 4)
  /-- MODMUL (R322). -/
  | modmul (k : Fin 4) (d a b : BitVec 4)
  /-- MODADD (R322). -/
  | modadd (k : Fin 4) (d a b : BitVec 4)
  /-- MODSUB (R322). -/
  | modsub (k : Fin 4) (d a b : BitVec 4)
  /-- RAND (R322). -/
  | rand (k : Fin 4) (d a b : BitVec 4)
  /-- VSETL (R323). -/
  | vsetl (k : Fin 4) (d a b : BitVec 4)
  /-- VADD (R323). -/
  | vadd (k : Fin 4) (d a b : BitVec 4)
  /-- VSUB (R323). -/
  | vsub (k : Fin 4) (d a b : BitVec 4)
  /-- VMUL (R323). -/
  | vmul (k : Fin 4) (d a b : BitVec 4)
  /-- VMULC (R323). -/
  | vmulc (k : Fin 4) (d a b : BitVec 4)
  /-- VSCALE (R323). -/
  | vscale (k : Fin 4) (d a b : BitVec 4)
  /-- VPOW (R323). -/
  | vpow (k : Fin 4) (d a b : BitVec 4)
  /-- VDOT (R323). -/
  | vdot (k : Fin 4) (d a b : BitVec 4)
  /-- VFFT (R323). -/
  | vfft (k : Fin 4) (d a b : BitVec 4)
  /-- VIFFT (R323). -/
  | vifft (k : Fin 4) (d a b : BitVec 4)
  /-- SETPEND (R335): w writes v to Ck_SETPEND. -/
  | setpend (w : Who) (k : Fin 4) (v : Word)
  /-- CORE_OFFLINE (R337): w sets CORECTL.OFFLINE bit k. -/
  | coreOffline (w : Who) (k : Fin 4)
  /-- CORE_RESTART (R337): w clears CORECTL.OFFLINE bit k. -/
  | coreRestart (w : Who) (k : Fin 4)
  /-- WATCHDOG_KICK (R339): w writes v to Ck_WDKICK. -/
  | watchdogKick (w : Who) (k : Fin 4) (v : Word)
  /-- WATCHDOG_WARN (R339). -/
  | watchdogWarn (k : Fin 4)
  /-- WATCHDOG_EXPIRE (R339). -/
  | watchdogExpire (k : Fin 4)
  /-- DEBUG_HALT (R340): the debug port writes v, with its HALT field non-zero, to DBG.CTRL. -/
  | debugHalt (v : Word)
  /-- DEBUG_STEP (R340): the debug port writes v to DBG.CTRL. -/
  | debugStep (v : Word)
  /-- DEBUG_RESUME (R340): the debug port writes v to DBG.CTRL. -/
  | debugResume (v : Word)
  /-- LHALT (R292): the debug port halts link core A (false) or B (true). -/
  | lhalt (c : Bool)
  /-- DBGACC_UPDATE (R466): Update-DR with this register. -/
  | dbgaccUpdate (dr : BitVec 50)
  /-- DEBUG_LEVEL_WRITE (R467): the debug port writes v to DBG.LEVEL. -/
  | debugLevelWrite (v : Word)
  /-- MERGE_DRAIN (R351): the entry of this word. -/
  | mergeDrain (word : Word)
  /-- GROOM_READ (R353). -/
  | groomRead
  /-- BANK_OFFLINE (R356). -/
  | bankOffline (w : Who) (k : Fin 16)
  /-- BANK_ISOLATED (R356). -/
  | bankIsolated (k : Fin 16)
  /-- BANK_ONLINE (R356). -/
  | bankOnline (w : Who) (k : Fin 16)
  /-- BANK_INIT_DONE (R356). -/
  | bankInitDone (k : Fin 16)
  /-- REPAIR_ROW (R359): the caller; bank and row for a link-firmware call (an application core's stand in its g2 and g3); whether the OTP record verifies. -/
  | repairRow (w : Who) (bank row : Word) (verified : Bool)
  /-- FS_INFO (R362): the caller; the argument of a link core's call (an application core's stands in its g2). -/
  | fsInfo (w : Who) (g2 : Word)
  /-- FS_ERASE (R367): the caller; the arguments of a link core's call. -/
  | fsErase (w : Who) (g2 g3 : Word)
  /-- FS_PROGRAM (R366). -/
  | fsProgram (w : Who) (g2 g3 g4 : Word)
  /-- FS_STATUS (R362). -/
  | fsStatus (w : Who)
  /-- FS_SUSPEND (R369). -/
  | fsSuspend (w : Who)
  /-- FS_RESUME (R369). -/
  | fsResume (w : Who)
  /-- FS_ABANDON (R371). -/
  | fsAbandon (w : Who)
  /-- FS_REFRESH (R372). -/
  | fsRefresh (w : Who) (g2 : Word)
  /-- FLASH_DONE (R363). -/
  | flashDone
  /-- AUTO_SUSPEND (R368). -/
  | autoSuspend
  /-- AUTO_RESUME (R368). -/
  | autoResume
  /-- START_HOUSE_COPY (R383). -/
  | startHouseCopy
  /-- COPY_COMPLETE (R385). -/
  | copyComplete
  /-- DMA_MOVE (R390): Channel n executes a MOVE. -/
  | dmaMove (n : Fin 32)
  /-- DMA_LOOP (R394): Channel n executes a LOOP. -/
  | dmaLoop (n : Fin 32)
  /-- DMA_WAIT (R395): Channel n executes a WAIT. -/
  | dmaWait (n : Fin 32)
  /-- DMA_WAIT_END (R395): What channel n waits for has come. -/
  | dmaWaitEnd (n : Fin 32)
  /-- DMA_TIMEOUT (R395): TMO of channel n's WAIT or QPOP has passed. -/
  | dmaTimeout (n : Fin 32)
  /-- DMA_SIGNAL (R396): Channel n executes a SIGNAL. -/
  | dmaSignal (n : Fin 32)
  /-- DMA_QPOP (R397): Channel n executes a QPOP. -/
  | dmaQpop (n : Fin 32)
  /-- DMA_QPUSH (R397): Channel n executes a QPUSH. -/
  | dmaQpush (n : Fin 32)
  /-- DMA_SYNC (R398): Channel n executes a SYNC. -/
  | dmaSync (n : Fin 32)
  /-- DMA_SYNC_DONE (R398): The read-back of channel n's SYNC returns. -/
  | dmaSyncDone (n : Fin 32)
  /-- DMA_END (R389): Channel n executes an END. -/
  | dmaEnd (n : Fin 32)
  /-- DMA_BURST (R399): The read engine chooses channel n; its time. -/
  | dmaBurst (n : Fin 32) (at_ : BurstTime)
  /-- CHANNEL_START (R401): w writes v, with EN = 1, to CHn_CTRL. -/
  | channelStart (w : Who) (n : Fin 32) (v : Word)
  /-- CHANNEL_STOP (R401): w writes v, with EN = 0, to CHn_CTRL. -/
  | channelStop (w : Who) (n : Fin 32) (v : Word)
  /-- CHANNEL_STOPPED (R401): Channel n's burst or read-back has finished. -/
  | channelStopped (n : Fin 32)
  /-- SWTRIG (R395): w writes v, with SWTRIG = 1, to CHn_CTRL. -/
  | swtrig (w : Who) (n : Fin 32) (v : Word)
  /-- CLRPEND (R395): w writes v, with CLRPEND = 1, to CHn_CTRL. -/
  | clrpend (w : Who) (n : Fin 32) (v : Word)
  /-- FABRIC_CHANNEL_EVENT (R410). -/
  | fabricChannelEvent (c : Fin 64)
  /-- FABRIC_HELD_EMIT (R411). -/
  | fabricHeldEmit (c : Fin 64)
  /-- TASK_DELIVER (R412): the channel whose event is delivered. -/
  | taskDeliver (c : Fin 64)
  /-- LUT_UPDATE (R414): one fabric clock. -/
  | lutUpdate
  /-- LUT_CTL_WRITE (R414). -/
  | lutCtlWrite (w : Who) (j : Fin 32) (v : Word)
  /-- FABRIC_LOCK (R415): w writes v, with LOCK = 1, to CHn_CFG. -/
  | fabricLock (w : Who) (c : Fin 64) (v : Word)
  /-- PIN_EVENT (R405): an edge at a GPIO ball. -/
  | pinEvent (pin : Fin 48) (rising : Bool)
  /-- GT_ARM (R419). -/
  | gtArm (w : Who) (n : Fin 16)
  /-- GT_ADVANCE (R418): one cycle of the timer's clock. -/
  | gtAdvance (n : Fin 16)
  /-- GT_END (R419). -/
  | gtEnd (n : Fin 16)
  /-- GT_CASCADE_WRAP (R421). -/
  | gtCascadeWrap (n : Fin 16)
  /-- GT_TOP_WRITE (R420). -/
  | gtTopWrite (w : Who) (n : Fin 16) (v : Word)
  /-- GT_CAPTURE (R422). -/
  | gtCapture (n : Fin 16)
  /-- GT_CAP_READ (R422). -/
  | gtCapRead (w : Who) (n : Fin 16)
  /-- MODE_REQUEST (R425): w writes v, with GO = 1, to PMU.REQ. -/
  | modeRequest (w : Who) (v : Word)
  /-- AGENT_ANSWER (R426): the agent, its answer, and the load in microamperes it declares. -/
  | agentAnswer (agent : Fin 19) (ans : AgentAnswer) (load : BitVec 12)
  /-- AGENT_DELAY_EXPIRY (R428). -/
  | agentDelayExpiry (agent : Fin 19)
  /-- MODE_CHANGE_TIMEOUT (R427). -/
  | modeChangeTimeout
  /-- MODE_COMMIT (R426). -/
  | modeCommit
  /-- DOMAIN_ISOLATE (R426). -/
  | domainIsolate
  /-- MODE_CHANGE_COMPLETE (R426). -/
  | modeChangeComplete
  /-- WAKE_SOURCE (R432): the code of R432. -/
  | wakeSource (code : Octet)
  /-- WAKE_PIN_EDGE (R432). -/
  | wakePinEdge (pin : Fin 4) (rising : Bool)
  /-- REGULATOR_READY (R434). -/
  | regulatorReady
  /-- REGULATOR_TIMEOUT (R436). -/
  | regulatorTimeout
  /-- REG_RETRY (R436). -/
  | regRetry
  /-- XO_READY (R434). -/
  | xoReady
  /-- XO_TIMEOUT (R435). -/
  | xoTimeout
  /-- XO_RETRY (R435). -/
  | xoRetry
  /-- PLL_LOCK (R434). -/
  | pllLock
  /-- TCLK_TRIM_WINDOW (R438): the TCLK cycles counted in the 1 ms of reference. -/
  | tclkTrimWindow (count : Nat)
  /-- POR (R439). -/
  | por
  /-- BROWNOUT_MAIN (R439). -/
  | brownoutMain
  /-- BROWNOUT_LP (R431). -/
  | brownoutLp
  /-- RESET_PIN_ASSERT (R439). -/
  | resetPinAssert
  /-- RESET_PIN_RELEASE (R439). -/
  | resetPinRelease
  /-- RSTCTRL_GO (R440): w writes v, with GO = 1, to SYS.RSTCTRL. -/
  | rstctrlGo (w : Who) (v : Word)
  /-- VMAIN_LOSS (R424). -/
  | vmainLoss
  /-- SUPPLY_SWITCH (R450): VCELL is the greater. -/
  | supplySwitch (cell : Bool)
  /-- BACKUP_RESET (R451). -/
  | backupReset
  /-- RTC_TICK (R447). -/
  | rtcTick
  /-- RTC_ALARM (R444). -/
  | rtcAlarm (k : Fin 2)
  /-- ADJGO (R443): w writes v, with ADJGO = 1, to RTC_CTRL. -/
  | adjgo (w : Who) (v : Word)
  /-- RTC_TRIM_WINDOW (R448). -/
  | rtcTrimWindow
  /-- TAP_INSTRUCTION_LOAD (R464). -/
  | tapInstructionLoad (ir : Octet)
  /-- TAP_RESET (R464). -/
  | tapReset
  /-- REGISTER_WRITE (R3). -/
  | registerWrite (w : Who) (a v : Word)
  /-- TUNE_HOLD_END (R54). -/
  | tuneHoldEnd (g : BitVec 12) (it : BitVec 48)
  /-- FEM_LEAD_SWITCH (R93). -/
  | femLeadSwitch (band : Fin 2)
  /-- FEM_LAG_RETURN (R93). -/
  | femLagReturn (band : Fin 2)
  /-- TMHOLD_EXPIRY (R162). -/
  | tmholdExpiry (idx : BitVec 11)
  /-- FLASH_PULSE_END (R368): the verify after the pulse passes. -/
  | flashPulseEnd (ok : Bool)
  /-- UART_SYNC_OCTET (R256). -/
  | uartSyncOctet
  /-- HOST_CTS_N_CHANGE (R256): the new level: low is active. -/
  | hostCtsNChange (low : Bool)
  /-- VIO_LOSS (R455): VIO1 (false) or VIO2 (true). -/
  | vioLoss (second : Bool)
  /-- VIO_RETURN (R455). -/
  | vioReturn (second : Bool)
  /-- REFERENCE_FAILURE (R30). -/
  | referenceFailure
  /-- LF_OSCILLATOR_READY (R437). -/
  | lfOscillatorReady
  /-- MADC_SEQUENCE_END (R405): a result crosses its limit. -/
  | madcSequenceEnd (limit : Bool)
  /-- PERIPHERAL_SERVICE_REQUEST (R405): the signal source of the requesting block. -/
  | peripheralServiceRequest (src : BitVec 7)
  deriving DecidableEq, Repr

end Sys2Proof
end

