-- ==== Sys2Proof/Decode.lean ====
section
/-! DEFINITION. The table's words: the block takes commands, and spec/opcode_table.json gives no row bits. -/
namespace Sys2Proof

/-- The command that a word spells by the table's bits: none, since no row of the table has bits. -/
def decodeTableWord (_nbits _w : Nat) : Option Instr := none

end Sys2Proof
end

