-- ==== Sys2Proof/Config.lean ====
section
/-! DEFINITION. What the spec leaves open. Every constant here is opaque and has no body: no proof can see a value of it, so
a statement holds whatever the value is. A free value that differs from use to use is applied to the draw counter that the
state holds (State.draws), which each use advances. -/
namespace Sys2Proof.Config

/-- The boot ROM's contents: the spec gives its services, not its words (log 3). -/
opaque bootRom : Nat → BitVec 24
/-- The word the n-th open draw returns (log 2). -/
opaque freeWord : Nat → BitVec 24
/-- The octet the n-th open draw returns (log 2). -/
opaque freeOctet : Nat → BitVec 8
/-- The yes or no the n-th open draw returns (log 2). -/
opaque freeBool : Nat → Bool
/-- The number the n-th open draw returns (log 2). -/
opaque freeNat : Nat → Nat
/-- The signed number the n-th open draw returns (log 2). -/
opaque freeInt : Nat → Int
/-- A value times a twiddle factor of a CP1 transform, other than the exact ones 1, -i and i: the spec gives the transform and not how a
product is rounded (R323, log 22). Arguments: inverse, the values of the stage, the factor's index, the value. -/
opaque twiddle : Bool → Nat → Nat → Int × Int → Int × Int
/-- Whether a CP1 transform's scaling by 1/2 rounds an odd value up (R323, log 22). -/
opaque roundUp : Int → Bool

/-- Heroft's internal group delays by bank offset (R140): ITV980_TABLES.TXT is not among the spec's files (log 7). -/
opaque groupDelay : Nat → BitVec 24
/-- Heroft's OUI (R470), likewise (log 7). -/
opaque oui : BitVec 24

/-- The LDPC base matrices of R152 by rate, row and column, a shift for Z = 96 or none for a zero block:
ITV980_LDPC_BASE.TXT is not among the spec's files (log 91). -/
opaque ldpcBase : Nat → Nat → Nat → Option Nat

/-- The frame-format descriptor that sounding frames are built from, which no rule names (log 9). -/
opaque soundDesc : Nat

/-- The frame-format descriptor of the frames that carry tone-map feedback, which no rule names (log 9). -/
opaque feedbackDesc : Nat

/-- The word in which an entry's w11 keeps a sounding policy, an encoding that the spec does not give (log 129). -/
opaque soundWord : Nat → BitVec 24

/-- What an engine takes for a word of memory that it cannot correct: by address, errors and stored word (R350, log 69). -/
opaque badWord : Nat → BitVec 32 → BitVec 24 → BitVec 24

/-- What a flash word of undefined contents reads as: by draw and address (R366, R371, log 69). -/
opaque openFlash : Nat → Nat → BitVec 24

end Sys2Proof.Config
end

