-- ==== Sys2Proof/Machine/State.lean ====
section
/-! DEFINITION. The state of the part as plain data, the reasons a step may stop, and the state after reset.
A register of the spec's register tables has ONE home, `State.regs`, a sparse table from its word address to its value (an
address not listed holds the register's reset value). What the registers do not show (the mesh-time counter, queues,
engines in progress, the cores) stands in the structures below. -/
namespace Sys2Proof.Machine

open Sys2Proof

/-- Why the machine would stop with a fault. The spec gives the part no bus fault and no stuck state (R4: an access it does
not honour reads zero and has its write ignored). -/
inductive Fault where
  /-- Raised by nobody: every command has an effect or is ignored under R4. Safe. -/
  | neverRaised
  deriving DecidableEq, Repr

/-- Why a command would have no meaning. -/
inductive Refusal where
  /-- Raised by exec for a command that is not modelled. Safe. -/
  | notModelled (mnemonic : String)
  deriving DecidableEq, Repr

/-- The memories of R342, by octet: octet 3·w + lane of word w (R1, R342). An octet not listed reads as `memDefault` gives
it. `shipped` says that link memory still holds the table banks as shipped (R470). -/
structure Memory where
  cells : List Host.Cell
  shipped : Bool
  deriving DecidableEq, Repr

/-- A word of a bank port's merge buffer (R351): its word address and the octets written to its lanes. -/
structure MergeEntry where
  word : Nat
  o0 : Option Octet
  o1 : Option Octet
  o2 : Option Octet
  deriving DecidableEq, Repr

/-- Behind the ECC block: the bits by which a stored word differs from the word its code was computed for (R348, R355),
the merge buffers, oldest entry first (R351), the power of the banks (R356, R357): those of link memory and the packet buffer (bits 0 to 3
and 4 to 7) that have lost their contents and are not initialised yet; and the rows that spares replace, as (bank, row, spare) (R358). -/
structure EccState where
  flips : List (Nat × BitVec 32)
  octFlips : List (Nat × BitVec 13)
  merge : List MergeEntry
  isolating : BitVec 16
  b15oct : Bool
  down : BitVec 8
  spares : List (Nat × Nat × Nat)
  deriving DecidableEq, Repr

/-- One-time-programmable storage: the debug level (R467), the fuse records (R358), the rollback counter and public keys'
digest slots (R376, R377) and the factory trims. -/
structure OtpState where
  debugLevel : BitVec 2
  fuses : List Word
  rollback : Word
  tclkTrim : BitVec 10
  pubKeys : List (List Octet)
  deriving DecidableEq, Repr

/-- How far a time source is towards being qualified (R14): the offsets of its last accepted samples, newest first, at most
15, and whether it is qualified. -/
structure SrcQual where
  recent : List Int
  qual : Bool
  deriving DecidableEq, Repr

/-- The mesh-time unit behind its registers: the counter with its fraction (R9), the RATE in force and one that waits for the end of
bridging (R31), the low word of a slew written while another is in progress (R21), the slew's fraction and a zero slew, a step asked
for, the uncertainty's fraction and its alarm (R25, R27), the snapshots of R13 and R46, the compare values, the pulses on PPS_OUT
with their edges and ends (R43), bridging (R30), the learning window: its start (while bridged, the time it has measured), whether it
waits for an LF edge, and whether a step has spoilt it (R28); the qualification of each source, the PTP stamp
(R36), the holdover stability (R26), the path delay measured last (R18), what neighbours advertise (stratum, uncertainty)
and whether MT_SOURCE has named the parent (R18). -/
structure MtState where
  ctr : BitVec 72
  frac : BitVec 40
  rate : BitVec 32
  rateNext : Option (BitVec 32)
  slewLo : Option Word
  slewAcc : Nat
  slewZero : Bool
  stepPend : Bool
  ufrac : Nat
  alarm : Bool
  snaps : List (Nat × BitVec 48)
  capSnaps : List (Nat × BitVec 48)
  cmp : List (Nat × BitVec 72)
  pps : List (BitVec 72 × BitVec 72)
  bridgeReq : Bool
  exitReq : Bool
  lfStart : BitVec 72
  lfWait : Bool
  lfSpoilt : Bool
  qual : List (Nat × SrcQual)
  ptpSec : Nat
  ptpNs : Nat
  holdStab : BitVec 12
  pathDelay : Int
  adverts : List (Nat × (Nat × Nat))
  parentSet : Bool
  deriving DecidableEq, Repr

/-- A fabric channel (R410, R411): fabric clocks since its last emission (4: four or more), an event held back, and the
register stage (0 empty, 1 entered in this clock, 2 due at the tasks). -/
structure ChanSt where
  since : Nat
  held : Bool
  stage : Nat
  deriving DecidableEq, Repr

/-- The event fabric behind its registers: source events on their way through the synchroniser with the clocks they still
need (R409), the channels, the LUT cells' states and outputs and filter counts (R414), the two stages of the gate-signal
synchroniser, and the channels already served in this clock. -/
structure FabricState where
  arr : List (Nat × Nat)
  chans : List (Nat × ChanSt)
  lutQ : BitVec 32
  lutOut : BitVec 32
  filt : List (Nat × Nat)
  gs1 : BitVec 16
  gs2 : BitVec 16
  done : List Nat
  deriving DecidableEq, Repr

/-- The general timers behind their registers: prescaler counts and event counts (R418). -/
structure TimerState where
  presc : List (Nat × Nat)
  evs : List (Nat × Nat)
  deriving DecidableEq, Repr

/-- Who asked for a mode change (R425, R432): SET_MODE on transport `t`, link firmware, a WAKE_APP activation, a wake source. -/
inductive ChangeBy where
  | command (t : Nat)
  | firmware
  | gate
  | wake (code : Octet)
  deriving DecidableEq, Repr

/-- The mode change in progress (R426): who asked, which agents have delayed, whether the domains are isolated, whether
the commit is held until the SET_MODE reply has left (R426 step 4), and whether that reply has been queued. -/
structure ModeChange where
  kind : ChangeBy
  delayed : BitVec 19
  isolated : Bool
  replyHold : Bool
  said : Bool
  deriving DecidableEq, Repr

/-- Supplies, oscillators and the change of mode behind the PMU, CLK and SYS registers: the supplies; RESET_N low; a power-on
reset that waits for its supplies; the hold of R465; the change in progress; a WAKE_APP request kept; the main regulator
ready; running on RC40 under R435; the end of R436; the mode left; good trim windows; the loads declared; the wake instant;
failed regulator attempts; the mode that a timed retry enters; the reference that the last XO start took (0 crystal, 1 TCXO). -/
structure PowerState where
  vmain : Bool
  vio1 : Bool
  vio2 : Bool
  resetPin : Bool
  porWait : Bool
  tapHold : Bool
  change : Option ModeChange
  gateReq : Bool
  regReady : Bool
  xoFail : Bool
  dead : Bool
  left : BitVec 3
  trimGood : Nat
  loads : List (Nat × Nat)
  wakeInst : BitVec 72
  attempts : Nat
  retry : Option Nat
  tcxo : Bool
  deriving DecidableEq, Repr

/-- The backup domain behind its registers: the RTC count (R442), its snapshots, the trim accumulator in units
of 2^-20 (R447), a pending adjustment, the alarms' last match, the start of the automatic trim window (R448), the start house's state as link firmware
mirrors it in backup RAM (R377), and the copy's journal there: the sector, whether its erase is complete, and its lines programmed
(R384). -/
structure BackupState where
  rtc : BitVec 48
  snaps : List (Nat × Word)
  trimAcc : Int
  adj : Option (BitVec 48)
  prev : BitVec 2
  winRtc : BitVec 48
  winMt : BitVec 72
  winStep : Octet
  winOk : Bool
  stage : Nat
  copy : Option (Nat × Bool × Nat)
  deriving DecidableEq, Repr

/-- The TAP and the debug port (R464, R466): instruction register, access register, LCKSTAT's snapshot, the steps a halted core still has
to take (R340), and an access that its target makes wait (R368). -/
structure DebugState where
  ir : Octet
  dr : BitVec 50
  lck : BitVec 72
  stepReq : BitVec 4
  held : Option (BitVec 50)
  deriving DecidableEq, Repr

/-- Levels at balls that other blocks see: the GPIO inputs, the wake pins, HOST_CTS_N; and a
measurement-ADC sequence in progress (R407). -/
structure PinState where
  gpio : BitVec 48
  wake : BitVec 4
  cts : Bool
  madcBusy : Bool
  deriving DecidableEq, Repr

/-- A D-cache line (R333): its line number (word address / 8), its way, its 8 words, whether it is dirty, and which of its words fail their
parity (R332). -/
structure CLine where
  line : Nat
  way : Bool
  dirty : Bool
  words : List Word
  bad : BitVec 8
  deriving DecidableEq, Repr

/-- A CP1 function that was interrupted (R324): what it must find unchanged to go on (its word, its registers' values and VL), the sums that a
VDOT has reached, and the vector that a transform began with. -/
structure VecPart where
  key : List Nat
  re : Int
  im : Int
  input : List Word
  deriving DecidableEq, Repr

/-- One application core (R305, R306, R326): g1 to g15, the program counter, the system registers by number, the accumulator,
the snapshot of the cycle count, the caches, the state of its coprocessors, a CP1 function that was
interrupted, the entry words of the boot-ROM services that have not returned
to it, the last called first, and whether a handler runs meanwhile (R370). -/
structure Core where
  g : List (Nat × Word)
  pc : Word
  sys : List (Nat × Word)
  acc : BitVec 56
  sat : Bool
  cycSnap : Word
  waiting : Bool
  dcache : List CLine
  icache : List (Nat × Bool)
  aesKey : BitVec 128
  sha : List (BitVec 32)
  modN : Bool
  vec : Option VecPart
  svc : List Word
  away : Bool
  deriving DecidableEq, Repr

/-- A reply in a transport's store (R251): its journal record, opcode, tag, status and result. -/
structure Reply where
  rcd : Nat
  opc : Octet
  tag : Octet
  status : Octet
  result : List Octet
  deriving DecidableEq, Repr

/-- A framed packet in a receive slot: its transport, its octets from LEN on, and whether the octets received are LEN + 2. -/
structure Packet where
  t : Nat
  octets : List Octet
  whole : Bool
  deriving DecidableEq, Repr

/-- A SELFTEST under way (R287): its record, its MASK and the instant at which it ends. -/
structure SelfTest where
  rcd : Nat
  mask : Nat
  until_ : BitVec 72
  deriving DecidableEq, Repr

/-- To which transports a notice goes: to all that enable its class, to all of these but one, or to one whatever its mask (R274, R289). -/
inductive NoticeTo where
  | all
  | but (t : Nat)
  | only (t : Nat)
  deriving DecidableEq, Repr

/-- A notice still to be queued: to whom, its class, its code and its payload. -/
structure LateNotice where
  to_ : NoticeTo
  cls : Nat
  code : Nat
  payload : List Octet
  deriving DecidableEq, Repr

/-- The command port behind its registers: notices and replies waiting on each transport, packets in slots in the order framed, the
reply or notice that the last READ removed (R253), a packet that the UART is receiving into a slot or discarding (R256), the
mailbox copies under way (core, address), the order of the next acceptance, the transports whose first notice since the
port was discarded has come, the domain whose reset discarded it (R289), the mailboxes whose port an application-domain reset has discarded since, what the SPI port and the UART last sent, the domains whose resets wait for their
replies to leave, with the commands' records (R274), MT_SOURCE's PTP options and domain, and the record of a command that executes and is not long-running, with
a TUNE's start and whether it searches cold, the records that a takeover found ACCEPTED (R298), the self-tests under way, whether
the last octet of the UART's packet has started before HOST_CTS_N went inactive (R256), and what link firmware is still to queue once its
interrupted service resumes (R294, R298): final replies (record, status, result) and notices; by record the instant in ns at which its command was accepted; the USER values
of the operations that link firmware has outstanding (R285), and WOPCQ as the last start of the link domain found it (R376). -/
structure CmdpState where
  notices : List (Nat × List (List Octet))
  replies : List (Nat × List Reply)
  slots : List Packet
  lastOut : List Octet
  uartIn : Bool
  uartDrop : Bool
  mbCopy : List (Nat × Nat)
  seq : Word
  resetSaid : BitVec 6
  resetDom : Nat
  resetApp : BitVec 6
  spiOut : List Octet
  uartOut : List Octet
  deferred : List (Nat × Nat)
  ptp : Octet × Octet
  exec : Option Nat
  tuneStart : BitVec 72
  tuneCold : Bool
  replay : List Nat
  tests : List SelfTest
  uartTail : Bool
  lateReplies : List (Nat × Nat × List Octet)
  lateNotices : List LateNotice
  accepted : List (Nat × Nat)
  winUsers : List Nat
  winCq : Nat
  deriving DecidableEq, Repr

/-- A queue of QM (R217, R225): its cells with their words, head first; the TMO of the episode that runs (0: none); the episode has
timed out. -/
structure QueueSt where
  cells : List (Nat × Word)
  tmo : Nat
  fired : Bool
  deriving DecidableEq, Repr

/-- The words of a queue, head first. -/
def QueueSt.words (q : QueueSt) : List Word := q.cells.map (·.2)

/-- The queue manager behind its registers: queues not empty, and the packet buffers in use. -/
structure QmState where
  q : List (Nat × QueueSt)
  used : List Nat
  deriving DecidableEq, Repr

/-- A frame in FWD (R206): its descriptor, whether it was received, its class, and its PSDU length (R211). -/
structure FwdFrame where
  desc : Word
  rx : Bool
  cls : Nat
  psdu : Nat
  deriving DecidableEq, Repr

/-- FWD's two pipelines (R211), first in front, and when the last NOHOP notice of each destination was sent (R289). -/
structure FwdState where
  c0 : List FwdFrame
  other : List FwdFrame
  nohop : List (Nat × BitVec 72)
  deriving DecidableEq, Repr

/-- An activation of a gate (R59): the gate and its iteration, the entry's six words as read, its instant, guard and pre-tune
instant in ns, its phase (0 guard fixed, 1 claimed, 2 fired, 3 waiting for an acknowledgement, 4 window closed with verdicts
pending), the bank it uses (B: true), its channel, its lane, the descriptor it took, and for a transmission whether a TX_LATE of it
counts in the engine's LATE (R69, R73). -/
structure Activ where
  gate : Nat
  iter : Nat
  w : List Word
  inst : Nat
  guard : Nat
  pre : Nat
  phase : Nat
  bank : Bool
  chan : Nat
  lane : Option Nat
  desc : Option Word
  late : Bool
  deriving DecidableEq, Repr

/-- The gate engine behind its registers: activations, the last iteration judged of each gate plus one, the instants before which
nothing is made (by course, R49; at 16 the last step's boundary, R73; at 17 the engine's last return, R52), the instants of the gates' last commits (R77), the courses
that have fired an activation, the mark (iteration, offset) of each course as the last backward step found it (R74), when the
engine stopped (R52), and the boundary instant of a pending bank swap (R78). -/
structure GateState where
  acts : List Activ
  made : List (Nat × Nat)
  floor : List (Nat × Nat)
  commits : List (Nat × Nat)
  fired : BitVec 16
  passed : List (Nat × (Nat × Nat))
  stopped : Option Nat
  swap : Option Nat
  deriving DecidableEq, Repr

/-- Who transmits. -/
inductive TxBy where
  | gate (g i : Nat)
  | ack
  | command (t : Nat) (tag : Octet)
  deriving DecidableEq, Repr

/-- A built frame whose TXTIME is filled in as it leaves (R172): the header before and after the TXTIME content, the payload, and
for a secured frame the key slot, the counter and the level. -/
structure Seal where
  front : List Octet
  back : List Octet
  pay : List Octet
  sec : Option (Nat × Nat × Nat)
  deriving DecidableEq, Repr

/-- A transmission that holds a chain or waits for it: its source, class, channel, profile, mode, port and routine state, its
bank, its PSDU without FCS and, where it carries TXTIME, the parts to fill in, the PHY header it is sent with (R149), its airtime in
microseconds, the channel's FREQ and transmit trims as its one read of the calibration entry found them (R87), its instant
and latest start in ns, its ramp, drive settings, a clear-channel assessment still to come, the acknowledgement it expects
(neighbour, counter, none in an unsecured frame), the acknowledgement lane, the descriptor it carries, whether SYNT has been
tuned for it, whether its ramp-up has started and its first symbol has left, the counter value at which its first sample leaves the modulator (R32), whether it is a
retry that still waits for its backoff (R276), the data tones' codes it is sent with (R157), and the feedback element that a frame of
link firmware carries (R162), and the instant of the last attempt's first symbol. -/
structure TxReq where
  src : TxBy
  cls : Nat
  chan : Nat
  prof : Nat
  mode : Nat
  port : Nat
  routine : Nat
  bank : Bool
  psdu : List Octet
  seal_ : Option Seal
  hdr : BitVec 52
  air : Nat
  freq : Nat
  trim : Word
  inst : Nat
  latest : Nat
  ramp : Nat
  pwr : Nat
  drive : Nat
  bias : Nat
  cca : Bool
  expect : Option (Nat × Option Nat)
  ackLane : Option Nat
  desc : Option Word
  tuned : Bool
  up : Bool
  begun : Bool
  launch : BitVec 72
  retry : Bool
  codes : List Nat
  fb : List Octet
  sent : Option Nat
  deriving DecidableEq, Repr

/-- A sender's wait for an acknowledgement (R197, R471): the neighbour and counter, when the frame's last symbol left in ns,
whether the wait has ended, and the transmission. -/
structure AckWait where
  nbr : Nat
  ctr : Option Nat
  sent : Nat
  elapsed : Bool
  tx : TxReq
  deriving DecidableEq, Repr

/-- What a tune has loaded into a synthesizer (R84): FREQ, and VCO band, capacitor code and loop gain with the synthesizer's trim
added; none where a cold search finds them. -/
structure SynLoad where
  freq : Word
  code : Option (Nat × Octet × Octet)
  deriving DecidableEq, Repr

/-- A calibration slice (R94): its item, the path (items of one path) or 1024 × synthesizer + entry, whether a gate or command asked
for it, and for a gate the microseconds it may last (R54). -/
structure CalSlice where
  item : Nat
  x : Nat
  asked : Bool
  limit : Option Nat
  deriving DecidableEq, Repr

/-- The front-end module lines a receive activation holds or is to hold (R93), in the order of claims: gate and iteration, pattern,
FEM_LAG in µs, whether they are driven, whether it has counted in FEMCONF, and when they return in ns. -/
structure FemHold where
  gate : Nat
  iter : Nat
  pat : Nat
  lag : Nat
  on : Bool
  conf : Bool
  off : Option Nat
  deriving DecidableEq, Repr

/-- A band's front end and chain behind their registers: the transmission that holds the chain, those that wait, the wait for an
acknowledgement, blanking, the instant at which the last ramp-down ends, the tunes under way (synthesizer, 1 warm or 2 cold) and
what they have loaded, the calibration slice, the slices done of multi-slice items (16 × item + path), the rotation's place and
each item's path, the full calibration's stop request and its start in ns, PACHK armed, items whose starvation has been signalled, by FREQ the
end of the last transmission in ns (R111), the patterns of receive activations, the transmission's pattern with when it returns,
a span centre waiting (R134), and the class of an acknowledgement that ramps down with the instant in ns at which it leaves the
chain (R196). -/
structure BandSt where
  chain : Option TxReq
  waiting : List TxReq
  wait : Option AckWait
  blank : Bool
  down : Nat
  tune : List (Nat × Nat)
  loaded : List (Nat × SynLoad)
  slice : Option CalSlice
  sliceNo : List (Nat × Nat)
  rot : Nat
  alt : BitVec 16
  fullStop : Bool
  fullAt : Nat
  pachk : Bool
  starved : BitVec 16
  sentAt : List (Nat × Nat)
  femRx : List FemHold
  femTx : Option (Nat × Option Nat)
  span : Option Nat
  ackDown : Option (Nat × Nat)
  deriving DecidableEq, Repr

/-- A frame a lane is receiving: its timestamp, slot and mode, the levels, its bank, the header of a TL-OFDM frame, the
length of its PSDU, the tone-map codes copied, the codewords not yet decoded, whether one failed, and the number of
codewords still to arrive, and at its detection the activations whose windows it may belong to, the holder's class, and the lane's
channel, profile and input; the lanes that have left the same frame to this one (R129); and the packet buffers allocated for it
(R224). -/
structure RxFrame where
  ts : BitVec 72
  slot : Nat
  mode : Nat
  rssi1 : Octet
  rssi2 : Octet
  snr : Octet
  bank : Bool
  hdr : Option (BitVec 52)
  len : Nat
  codes : List Nat
  left : Nat
  failed : Bool
  toCome : Nat
  acts : List (Nat × Nat)
  hcls : Nat
  chan : Nat
  prof : Nat
  input : Nat
  twins : List Nat
  bufs : List Nat
  deriving DecidableEq, Repr

/-- A lane behind its registers: the frame in reception, the suspended standing assignment (channel, input, profile), and
the holder having left it to finish its frame (DRAIN), the measuring command, and the lane AGC's gain as it froze (R126). -/
structure LaneSt where
  frame : Option RxFrame
  susp : Option (Nat × Nat × Nat)
  drain : Bool
  measure : Option (Nat × Octet)
  gain : Octet
  deriving DecidableEq, Repr

/-- A frame a lane has handed to LINK: the lane and band, the status (R153), the report, the PSDU, when it ended, the class for
the order of R472, and what a measured frame gives for its record. -/
structure RxDone where
  lane : Nat
  band : Nat
  status : Nat
  fr : RxFrame
  psdu : List Octet
  ended : BitVec 72
  cls : Nat
  spread : Nat
  tones : List Word
  deriving DecidableEq, Repr

/-- The last timing sample of a neighbour (R198): e and t in counter units of 1/256 ns, the deviation, the sender's and this node's STEPCNT. -/
structure DriftRef where
  e : Int
  t : Nat
  dev : Int
  step : Nat
  mine : Nat
  deriving DecidableEq, Repr

/-- A cached acknowledgement (R195): neighbour, acknowledged counter, octets; its state 0 scheduled or in the air, 1 sent. -/
structure AckCached where
  nbr : Nat
  ctr : Nat
  psdu : List Octet
  sent : Bool
  deriving DecidableEq, Repr

/-- LINK and the lanes behind their registers: keys by slot, reload walks (slot, how long they have run in ns, the entries reached), the staged key, the unsecured
sequence count, frames confirmed of TENTATIVE entries, drift references, the acknowledgement cache, newest first, frames
waiting for a verdict, the lanes, codewords waiting (lane, class) in order of arrival, by path, in
order, the gain indices that the samples do not carry yet, the index whose digital gain is in force, and the windows it has stood at or below LO
(R117, R119), the tone-map entries superseded, by entry when it was last named or used in ns (R158), feedback elements received
(neighbour, element from its subtype on), sounding policies (neighbour, the word of its w11, the policy), the
accountant's slots and buckets, low words staged for counters, by buffer the LOADSEQ under which a record took its counter and the
frame first sent for it (R175), and the addresses that LINK's index holds for each neighbour entry (R186). -/
structure LinkState where
  keys : List (Nat × List Octet)
  walk : List (Nat × (Nat × Nat))
  stage : List Word
  unsec : Octet
  conf : List (Nat × Nat)
  drift : List (Nat × DriftRef)
  acks : List AckCached
  inbox : List RxDone
  lanes : List (Nat × LaneSt)
  cwq : List (Nat × Nat)
  gainPend : List (Nat × Nat)
  digital : List (Nat × Nat)
  agcLow : List (Nat × Nat)
  old : List Nat
  tmLast : List (Nat × Nat)
  fbIn : List (Nat × List Octet)
  sounding : List (Nat × Word × Nat)
  duty : List (Nat × Nat × Nat)
  bucket : List (Nat × Nat)
  ctrStage : List (Nat × Word)
  recSeq : List (Nat × Word)
  recOct : List (Nat × List Octet)
  index : List (Nat × (Nat × Nat × Nat))
  deriving DecidableEq, Repr

/-- The command port after a reset. -/
def CmdpState.reset : CmdpState :=
  { notices := [], replies := [], slots := [], lastOut := [], uartIn := false, uartDrop := false, mbCopy := [], seq := 0,
    resetSaid := 0, resetDom := 0, resetApp := 0, spiOut := [], uartOut := [], deferred := [], ptp := (0, 0), exec := none,
    tuneStart := 0, tuneCold := false, replay := [], tests := [], uartTail := false, lateReplies := [], lateNotices := [], accepted := [],
    winUsers := [], winCq := 96 }

/-- A band with nothing under way. -/
def BandSt.idle : BandSt :=
  { chain := none, waiting := [], wait := none, blank := false, down := 0, tune := [], loaded := [], slice := none,
    sliceNo := [], rot := 0, alt := 0, fullStop := false, fullAt := 0, pachk := false, starved := 0, sentAt := [], femRx := [], femTx := none,
    span := none, ackDown := none }

/-- The gate engine after a reset. -/
def GateState.reset : GateState :=
  { acts := [], made := [], floor := [], commits := [], fired := 0, passed := [], stopped := none, swap := none }

/-- LINK and the lanes after a chip-domain reset. -/
def LinkState.reset : LinkState :=
  { keys := [], walk := [], stage := [], unsec := 0, conf := [], drift := [], acks := [], inbox := [], lanes := [],
    cwq := [], gainPend := [], digital := [], agcLow := [], old := [], tmLast := [], fbIn := [], sounding := [],
    duty := [], bucket := [], ctrStage := [], recSeq := [], recOct := [],
    index := [] }

/-- An outstanding request (R234): its OPID, target, USER, completion queue, class and timeout. -/
structure RwinSlot where
  opid : Nat
  dest : Nat
  user : Nat
  cq : Nat
  cls : Nat
  tmo : Nat
  deriving DecidableEq, Repr

/-- An operation or response delivered to RWIN: its descriptor, class, originator, NOALT, whether it came from this node
itself (R237), the receive record's key slot and neighbour and timestamp, and the element's octets. -/
structure RwinOp where
  desc : Word
  cls : Nat
  orig : Nat
  noalt : Bool
  own : Bool
  key : Nat
  nbr : Nat
  ts : List Word
  elem : List Octet
  deriving DecidableEq, Repr

/-- An operation that has written and waits for its read-back (R241): the operation, the words it covers (first, count;
count 0: a doorbell), and the data its response will carry. -/
structure RwinBusy where
  op : RwinOp
  base : Nat
  words : Nat
  data : List Octet
  deriving DecidableEq, Repr

/-- RWIN behind its registers: outstanding slots, the two pipelines, the operation in each that waits for its read-back,
responses delivered, and the response cache, newest first (originator, OPID, octets). -/
structure RwinState where
  slots : List RwinSlot
  c0 : List RwinOp
  other : List RwinOp
  busyC0 : Option RwinBusy
  busyOther : Option RwinBusy
  resps : List RwinOp
  cache : List (Nat × Nat × List Octet)
  deriving DecidableEq, Repr

/-- RWIN after a reset. -/
def RwinState.reset : RwinState :=
  { slots := [], c0 := [], other := [], busyC0 := none, busyOther := none, resps := [], cache := [] }

/-- Who started a flash operation (R365, R370): an application core, which waits in ROM or not; a link core, likewise; the
staging commands; the start-house copy; a staging command that ABORT has ended, whose line is finished (R268). -/
inductive FlashBy where
  | core (k : Fin 4) (wait : Bool)
  | link (wait : Bool)
  | stage
  | copy
  | gone
  deriving DecidableEq, Repr

/-- The flash controller's operation (R365): 1 program, 2 erase, 6 refresh; its line or sector base, the words to program,
automatic suspension, who started it, the pulses used, the result its pulses have come to, and an FS_ABANDON that waits
for the line's pulses to end. -/
structure FlashOp where
  kind : Nat
  addr : Nat
  data : List Word
  autosusp : Bool
  by_ : FlashBy
  pulses : Nat
  result : Option Nat
  abandon : Bool
  deriving DecidableEq, Repr

/-- What a record of the flash journal says (R371, R377, R384, R385): the start house's state, a sector's mark and its end, a copy's start,
ERASE_START and SECTOR_DONE of a sector, COMPLETE. -/
inductive JKind where
  | stage (n : Nat)
  | mark (sector : Nat)
  | unmark (sector : Nat)
  | start
  | eraseStart (sector : Nat)
  | sectorDone (sector : Nat)
  | complete
  deriving DecidableEq, Repr

/-- A record of the flash journal, one line, and whether its CRC-24 matches (R383). -/
structure JRec where
  kind : JKind
  ok : Bool
  deriving DecidableEq, Repr

/-- The flash array and controller behind the FLASHC registers: the operation, the suspension of an erase (0 none, 1 by
FS_SUSPEND, 2 automatic), the flash journal's marks of interrupted sectors (R371), sectors and lines (by their base) whose
contents an operation that did not finish has left undefined, the bits by which a stored word and its check bits [30:24] differ from
the code word written (R361), the lines of the shared flash cache (R333), the address of the last operation, cores and whether a link core
waits in FS_SUSPEND, statuses that wait for a core to come back to the service from a handler (R370), what a call of a link core last
returned in g3 to g5 (R362), and the flash journal: which of sectors 2 and 3 holds the newer records (false: sector 2), its records and the
other's, oldest first (R384). -/
structure FlashState where
  op : Option FlashOp
  susp : Nat
  marks : List Nat
  badSectors : List Nat
  badLines : List Nat
  errs : List (Nat × BitVec 32)
  cache : List (Nat × List Word)
  last : Word
  waiters : List (Fin 4)
  linkWaits : Bool
  rets : List (Fin 4 × Nat)
  linkG : List Word
  jsel : Bool
  jnew : List JRec
  jold : List JRec
  deriving DecidableEq, Repr

/-- A staging command under way: STAGE_BEGIN (0) or STAGE_WRITE (1), its journal record, the sectors or lines done, how many it
has, and the header or lines it programs. -/
structure StageJob where
  kind : Nat
  rcd : Nat
  next : Nat
  count : Nat
  base : Nat
  data : List Word
  deriving DecidableEq, Repr

/-- The start-house copy (R383, R384): the sector in progress, whether its erase is complete, its lines recorded, the failures
of the digest so far, and whether the boot ROM is at work on it. -/
structure CopyJob where
  sector : Nat
  erased : Bool
  lines : Nat
  fails : Nat
  active : Bool
  deriving DecidableEq, Repr

/-- The start house (R377): 0 IDLE, 1 OPEN, 2 COMMITTED, 3 COPYING, 4 INTERRUPTED; the lines counted as written, the header's
journaled digest, the status of the last start-house command, the command and the copy under way, an application-domain
start whose check by the boot ROM is still to come (R382), and the outcome of a staging operation that ended while link firmware's service
was interrupted (R299). -/
structure StageState where
  st : Nat
  lines : List Nat
  digest : List Octet
  status : Octet
  job : Option StageJob
  copy : Option CopyJob
  boot : Bool
  outcome : Option Nat
  deriving DecidableEq, Repr

/-- The link cores behind LSUP (R290 to R301): the versions that core A and core B run, the image that the standby loads (0 installed, 1 staged,
2 and 4 the one it ran, 3 the one the owner runs) and the record of the LINKFW_LOAD that waits, whether each supervisor timer runs, and the cause of a token move under way with
the old owner restarting. -/
structure LsupState where
  verA : Word
  verB : Word
  load : Option (Nat × Option Nat)
  timerA : Bool
  timerB : Bool
  move : Option Nat
  deriving DecidableEq, Repr

/-- A stopped flash controller. -/
def FlashState.reset : FlashState :=
  { op := none, susp := 0, marks := [], badSectors := [], badLines := [], errs := [], cache := [], last := 0, waiters := [],
    linkWaits := false, rets := [], linkG := [], jsel := false, jnew := [], jold := [] }

/-- An empty start house. -/
def StageState.reset : StageState :=
  { st := 0, lines := [], digest := [], status := 0, job := none, copy := none, boot := true, outcome := none }

/-- The link cores after a link-domain reset: core A owns and core B boots from the image that A runs. -/
def LsupState.reset : LsupState :=
  { verA := 0, verB := 0, load := some (3, none), timerA := false, timerB := false, move := none }

/-- A DMA channel behind its registers (R394, R398, R401): ACTIVE of its loop counters, a MOVE under way, the word address it last
wrote, a SYNC's read-back that is out, a start held until it has stopped, and the first two words of the MOVE, WAIT or QPOP in
progress. -/
structure DmaCh where
  on0 : Bool
  on1 : Bool
  moving : Bool
  last : Option Nat
  sync : Bool
  held : Option Word
  insn : Word
  arg : Word
  deriving DecidableEq, Repr

/-- A burst in the shared buffer (R399): its channel and its units, read and not yet written. -/
structure DmaBurst where
  ch : Nat
  units : List Word
  deriving DecidableEq, Repr

/-- A write that a port has accepted from the write engine and that has not landed (R398): its word, its lane if it is an octet, and the
value. -/
structure Posted where
  word : Nat
  lane : Option Nat
  v : Word
  deriving DecidableEq, Repr

/-- The whole part. -/
structure State where
  regs : List (Nat × Word)
  mem : Memory
  ecc : EccState
  otp : OtpState
  mt : MtState
  fab : FabricState
  tmr : TimerState
  pwr : PowerState
  bkp : BackupState
  dbg : DebugState
  pins : PinState
  cores : Vector Core 4
  cmdp : CmdpState
  qm : QmState
  fwd : FwdState
  gates : GateState
  bandS : BandSt
  bandG : BandSt
  link : LinkState
  rwin : RwinState
  flash : FlashState
  stage : StageState
  lsup : LsupState
  dma : List (Nat × DmaCh)
  dmaTurn : Nat × Nat
  dmaBuf : List DmaBurst
  dmaPost : List Posted
  dmaUsed : List (Nat × Nat)
  rdata : Word
  draws : Nat
  pending : List Instr
  deriving DecidableEq, Repr

/-- An application core after its reset (R326, R329, and the system registers' reset values): supervisor mode, the boot ROM's
first word next. The general registers, the accumulator and the coprocessors' state have no reset value in the spec: zero
(log 5). -/
def Core.reset : Core :=
  { g := [], pc := 0, sys := [], acc := 0, sat := false, cycSnap := 0, waiting := false, dcache := [],
    icache := [], aesKey := 0, sha := [], modN := false, vec := none, svc := [], away := false }

/-- The mesh-time unit after a chip-domain reset (R11). -/
def MtState.reset : MtState :=
  { ctr := 0, frac := 0, rate := 0, rateNext := none, slewLo := none, slewAcc := 0, slewZero := false, stepPend := false, ufrac := 0,
    alarm := false, snaps := [], capSnaps := [], cmp := [], pps := [], bridgeReq := false,
    exitReq := false, lfStart := 0, lfWait := true, lfSpoilt := false, qual := [], ptpSec := 0, ptpNs := 0,
    holdStab := 0x064, pathDelay := 0, adverts := [], parentSet := false }

/-- The fabric after a chip-domain reset: nothing under way, every cell at 0. -/
def FabricState.reset : FabricState :=
  { arr := [], chans := [], lutQ := 0, lutOut := 0, filt := [], gs1 := 0, gs2 := 0, done := [] }

/-- The TAP in Test-Logic-Reset, with IDCODE (R464), and a debug port that holds no access. -/
def DebugState.reset : DebugState := { ir := 0x01, dr := 0, lck := 0, stepReq := 0, held := none }

/-- The part right after a power-on reset (R439, R440): registers at their reset values, memory with nothing listed, the
application cores at RESET, no command waiting. -/
def State.reset : State :=
  { regs := []
    mem := { cells := [], shipped := true }
    ecc := { flips := [], octFlips := [], merge := [], isolating := 0, b15oct := false, down := 0, spares := [] }
    otp := { debugLevel := 0, fuses := [], rollback := 0, tclkTrim := 0, pubKeys := [] }
    mt := MtState.reset
    fab := FabricState.reset
    tmr := { presc := [], evs := [] }
    pwr := { vmain := true, vio1 := true, vio2 := true, resetPin := false, porWait := false, tapHold := false,
             change := none, gateReq := false, regReady := true, xoFail := false, dead := false, left := 0, trimGood := 0,
             loads := [], wakeInst := 0, attempts := 0, retry := none, tcxo := false }
    bkp := { rtc := 0, snaps := [], trimAcc := 0, adj := none, prev := 0, winRtc := 0, winMt := 0,
             winStep := 0, winOk := false, stage := 0, copy := none }
    dbg := DebugState.reset
    pins := { gpio := 0, wake := 0, cts := false, madcBusy := false }
    cores := Vector.replicate 4 Core.reset
    cmdp := CmdpState.reset
    qm := { q := [], used := [] }
    fwd := { c0 := [], other := [], nohop := [] }
    gates := GateState.reset
    bandS := BandSt.idle
    bandG := BandSt.idle
    link := LinkState.reset
    rwin := RwinState.reset
    flash := FlashState.reset
    stage := StageState.reset
    lsup := LsupState.reset
    dma := []
    dmaTurn := (31, 32)
    dmaBuf := []
    dmaPost := []
    dmaUsed := []
    rdata := 0
    draws := 0
    pending := [] }

end Sys2Proof.Machine
end

