-- ==== Sys2Proof/Machine/RegMap.lean ====
section
/-! DEFINITION. The register map: every register of the spec's register tables, its address, the access codes of its
fields (R3) and its reset value. Every row is read from the tables under "Registers" of the chapter its comment names. -/
namespace Sys2Proof.Machine

/-- MT_NOW0 (01_mesh_time.md). -/
abbrev R.mtNow0 : Nat := 0xF04000
/-- MT_NOW1 (01_mesh_time.md). -/
abbrev R.mtNow1 : Nat := 0xF04001
/-- MT_NOW2 (01_mesh_time.md). -/
abbrev R.mtNow2 : Nat := 0xF04002
/-- MT_CTRL (01_mesh_time.md). -/
abbrev R.mtCtrl : Nat := 0xF04004
/-- MT_STATUS (01_mesh_time.md). -/
abbrev R.mtStatus : Nat := 0xF04005
/-- MT_RATE0 (01_mesh_time.md). -/
abbrev R.mtRate0 : Nat := 0xF04006
/-- MT_RATE1 (01_mesh_time.md). -/
abbrev R.mtRate1 : Nat := 0xF04007
/-- MT_STEP, register `i` of 3 (01_mesh_time.md). -/
abbrev R.mtStep (i : Nat) : Nat := 0xF04008 + 1 * i
/-- MT_SLEW0 (01_mesh_time.md). -/
abbrev R.mtSlew0 : Nat := 0xF0400B
/-- MT_SLEW1 (01_mesh_time.md). -/
abbrev R.mtSlew1 : Nat := 0xF0400C
/-- MT_SLEWCFG (01_mesh_time.md). -/
abbrev R.mtSlewcfg : Nat := 0xF0400D
/-- MT_UNCERT (01_mesh_time.md). -/
abbrev R.mtUncert : Nat := 0xF0400E
/-- MT_USET (01_mesh_time.md). -/
abbrev R.mtUset : Nat := 0xF0400F
/-- MT_UCFG (01_mesh_time.md). -/
abbrev R.mtUcfg : Nat := 0xF04010
/-- MT_UALARM (01_mesh_time.md). -/
abbrev R.mtUalarm : Nat := 0xF04011
/-- MT_LFRATIO0 (01_mesh_time.md). -/
abbrev R.mtLfratio0 : Nat := 0xF04012
/-- MT_LFRATIO1 (01_mesh_time.md). -/
abbrev R.mtLfratio1 : Nat := 0xF04013
/-- MT_LFCFG (01_mesh_time.md). -/
abbrev R.mtLfcfg : Nat := 0xF04014
/-- MT_SRC (01_mesh_time.md). -/
abbrev R.mtSrc : Nat := 0xF04015
/-- MT_PARENT (01_mesh_time.md). -/
abbrev R.mtParent : Nat := 0xF04016
/-- MT_OFFSET, register `i` of 2 (01_mesh_time.md). -/
abbrev R.mtOffset (i : Nat) : Nat := 0xF04017 + 1 * i
/-- MT_CAPSTAT (01_mesh_time.md). -/
abbrev R.mtCapstat : Nat := 0xF04020
/-- MT_PPSCFG (01_mesh_time.md). -/
abbrev R.mtPpscfg : Nat := 0xF04021
/-- MT_MFLAG0 (01_mesh_time.md). -/
abbrev R.mtMflag0 : Nat := 0xF04022
/-- MT_MFLAG1 (01_mesh_time.md). -/
abbrev R.mtMflag1 : Nat := 0xF04023
/-- MTC_CMP, register `i`, `j` of 32 by 3 (01_mesh_time.md). -/
abbrev R.mtcCmp (i j : Nat) : Nat := 0xF04100 + 8 * i + 1 * j
/-- MTC_IVL, register `i`, `j` of 32 by 2 (01_mesh_time.md). -/
abbrev R.mtcIvl (i j : Nat) : Nat := 0xF04103 + 8 * i + 1 * j
/-- MTC_CTRL, register `i` of 32 (01_mesh_time.md). -/
abbrev R.mtcCtrl (i : Nat) : Nat := 0xF04105 + 8 * i
/-- MTC_STAT, register `i` of 32 (01_mesh_time.md). -/
abbrev R.mtcStat (i : Nat) : Nat := 0xF04106 + 8 * i
/-- MT_CAP, register `i`, `j` of 8 by 3 (01_mesh_time.md). -/
abbrev R.mtCap (i j : Nat) : Nat := 0xF04200 + 4 * i + 1 * j
/-- MT_CAP_CFG, register `i` of 8 (01_mesh_time.md). -/
abbrev R.mtCapCfg (i : Nat) : Nat := 0xF04203 + 4 * i
/-- GATE_CTRL (02_gates_and_courses.md). -/
abbrev R.gateCtrl : Nat := 0xF05000
/-- GATE_STATUS (02_gates_and_courses.md). -/
abbrev R.gateStatus : Nat := 0xF05001
/-- GATE_STAGE, register `i` of 6 (02_gates_and_courses.md). -/
abbrev R.gateStage (i : Nat) : Nat := 0xF05002 + 1 * i
/-- GATE_COMMIT (02_gates_and_courses.md). -/
abbrev R.gateCommit : Nat := 0xF05008
/-- GATE_GUARDMAX (02_gates_and_courses.md). -/
abbrev R.gateGuardmax : Nat := 0xF05009
/-- GATE_LANEPOOL (02_gates_and_courses.md). -/
abbrev R.gateLanepool : Nat := 0xF0500A
/-- GATE_C0LANES (02_gates_and_courses.md). -/
abbrev R.gateC0lanes : Nat := 0xF0500B
/-- GATE_COUNTERS, register `i` of 15 (02_gates_and_courses.md). -/
abbrev R.gateCounters (i : Nat) : Nat := 0xF05010 + 1 * i
/-- GATE_HOPLEN, register `i` of 16 (02_gates_and_courses.md). -/
abbrev R.gateHoplen (i : Nat) : Nat := 0xF05020 + 1 * i
/-- COURSE_CFG, register `i` of 16 (02_gates_and_courses.md). -/
abbrev R.courseCfg (i : Nat) : Nat := 0xF05100 + 16 * i
/-- COURSE_PERIOD, register `i`, `j` of 16 by 2 (02_gates_and_courses.md). -/
abbrev R.coursePeriod (i j : Nat) : Nat := 0xF05101 + 16 * i + 1 * j
/-- COURSE_START, register `i`, `j` of 16 by 3 (02_gates_and_courses.md). -/
abbrev R.courseStart (i j : Nat) : Nat := 0xF05103 + 16 * i + 1 * j
/-- COURSE_ITER, register `i`, `j` of 16 by 2 (02_gates_and_courses.md). -/
abbrev R.courseIter (i j : Nat) : Nat := 0xF05106 + 16 * i + 1 * j
/-- COURSE_MARK, register `i`, `j` of 16 by 2 (02_gates_and_courses.md). -/
abbrev R.courseMark (i j : Nat) : Nat := 0xF05108 + 16 * i + 1 * j
/-- COURSE_MARK2, register `i` of 16 (02_gates_and_courses.md). -/
abbrev R.courseMark2 (i : Nat) : Nat := 0xF0510A + 16 * i
/-- COURSE_MARK3, register `i` of 16 (02_gates_and_courses.md). -/
abbrev R.courseMark3 (i : Nat) : Nat := 0xF0510B + 16 * i
/-- FE_CTRL, register `i` of 2 (03_radio_front_ends.md). -/
abbrev R.feCtrl (i : Nat) : Nat := 0xF06000 + 4096 * i
/-- FE_STATUS, register `i` of 2 (03_radio_front_ends.md). -/
abbrev R.feStatus (i : Nat) : Nat := 0xF06001 + 4096 * i
/-- FE_CALPOL, register `i` of 2 (03_radio_front_ends.md). -/
abbrev R.feCalpol (i : Nat) : Nat := 0xF06002 + 4096 * i
/-- FE_CALMASK, register `i` of 2 (03_radio_front_ends.md). -/
abbrev R.feCalmask (i : Nat) : Nat := 0xF06003 + 4096 * i
/-- FE_CALSTAT, register `i` of 2 (03_radio_front_ends.md). -/
abbrev R.feCalstat (i : Nat) : Nat := 0xF06004 + 4096 * i
/-- FE_SPAN, register `i` of 2 (03_radio_front_ends.md). -/
abbrev R.feSpan (i : Nat) : Nat := 0xF06005 + 4096 * i
/-- FE_ANTCFG, register `i` of 2 (03_radio_front_ends.md). -/
abbrev R.feAntcfg (i : Nat) : Nat := 0xF06006 + 4096 * i
/-- FE_FEMCFG, register `i` of 2 (03_radio_front_ends.md). -/
abbrev R.feFemcfg (i : Nat) : Nat := 0xF06007 + 4096 * i
/-- FE_FEMMAN, register `i` of 2 (03_radio_front_ends.md). -/
abbrev R.feFemman (i : Nat) : Nat := 0xF06008 + 4096 * i
/-- FE_SYN_CH, register `i`, `j` of 2 by 3 (03_radio_front_ends.md). -/
abbrev R.feSynCh (i j : Nat) : Nat := 0xF0600A + 4096 * i + 1 * j
/-- FE_SYN_TRIM, register `i`, `j` of 2 by 3 (03_radio_front_ends.md). -/
abbrev R.feSynTrim (i j : Nat) : Nat := 0xF0600D + 4096 * i + 1 * j
/-- FE_CALSTAGE, register `i`, `j` of 2 by 4 (03_radio_front_ends.md). -/
abbrev R.feCalstage (i j : Nat) : Nat := 0xF06010 + 4096 * i + 1 * j
/-- FE_CALCOMMIT, register `i` of 2 (03_radio_front_ends.md). -/
abbrev R.feCalcommit (i : Nat) : Nat := 0xF06014 + 4096 * i
/-- FE_COUNTERS, register `i`, `j` of 2 by 6 (03_radio_front_ends.md). -/
abbrev R.feCounters (i j : Nat) : Nat := 0xF06018 + 4096 * i + 1 * j
/-- FE_CALAGE, register `i`, `j` of 2 by 8 (03_radio_front_ends.md). -/
abbrev R.feCalage (i j : Nat) : Nat := 0xF06021 + 4096 * i + 1 * j
/-- TXC_CTRL (03_radio_front_ends.md). -/
abbrev R.txcCtrl : Nat := 0xF09006
/-- TXC_CFG, register `i` of 2 (03_radio_front_ends.md). -/
abbrev R.txcCfg (i : Nat) : Nat := 0xF09000 + 1 * i
/-- TXC_STATUS, register `i` of 2 (03_radio_front_ends.md). -/
abbrev R.txcStatus (i : Nat) : Nat := 0xF09002 + 1 * i
/-- TXC_CHCTRL, register `i` of 2 (03_radio_front_ends.md). -/
abbrev R.txcChctrl (i : Nat) : Nat := 0xF09004 + 1 * i
/-- TXC_DWELL_CFG, register `i` of 2 (03_radio_front_ends.md). -/
abbrev R.txcDwellCfg (i : Nat) : Nat := 0xF09008 + 1 * i
/-- TXC_DWELL_MAX, register `i` of 2 (03_radio_front_ends.md). -/
abbrev R.txcDwellMax (i : Nat) : Nat := 0xF0900A + 1 * i
/-- TXC_COUNTERS, register `i`, `j` of 2 by 7 (03_radio_front_ends.md). -/
abbrev R.txcCounters (i j : Nat) : Nat := 0xF09010 + 8 * i + 1 * j
/-- TXC_RULE0, register `i`, `j` of 2 by 4 (03_radio_front_ends.md). -/
abbrev R.txcRule0 (i j : Nat) : Nat := 0xF09040 + 32 * i + 8 * j
/-- TXC_RULE1, register `i`, `j` of 2 by 4 (03_radio_front_ends.md). -/
abbrev R.txcRule1 (i j : Nat) : Nat := 0xF09041 + 32 * i + 8 * j
/-- TXC_RULE2, register `i`, `j` of 2 by 4 (03_radio_front_ends.md). -/
abbrev R.txcRule2 (i j : Nat) : Nat := 0xF09042 + 32 * i + 8 * j
/-- TXC_RULE3, register `i`, `j` of 2 by 4 (03_radio_front_ends.md). -/
abbrev R.txcRule3 (i j : Nat) : Nat := 0xF09043 + 32 * i + 8 * j
/-- TXC_RULE4, register `i`, `j` of 2 by 4 (03_radio_front_ends.md). -/
abbrev R.txcRule4 (i j : Nat) : Nat := 0xF09044 + 32 * i + 8 * j
/-- TXC_RULE5, register `i`, `j` of 2 by 4 (03_radio_front_ends.md). -/
abbrev R.txcRule5 (i j : Nat) : Nat := 0xF09045 + 32 * i + 8 * j
/-- TXC_RULE6, register `i`, `j` of 2 by 4 (03_radio_front_ends.md). -/
abbrev R.txcRule6 (i j : Nat) : Nat := 0xF09046 + 32 * i + 8 * j
/-- TXC_RULE7, register `i`, `j` of 2 by 4 (03_radio_front_ends.md). -/
abbrev R.txcRule7 (i j : Nat) : Nat := 0xF09047 + 32 * i + 8 * j
/-- LANE_CTRL (04_channelized_receiver.md). -/
abbrev R.laneCtrl : Nat := 0xF08000
/-- LANE_OOS (04_channelized_receiver.md). -/
abbrev R.laneOos : Nat := 0xF08001
/-- LANE_OOSSTAT (04_channelized_receiver.md). -/
abbrev R.laneOosstat : Nat := 0xF08002
/-- LANE_PRESENT (04_channelized_receiver.md). -/
abbrev R.lanePresent : Nat := 0xF08003
/-- LDPC_CFG (04_channelized_receiver.md). -/
abbrev R.ldpcCfg : Nat := 0xF08004
/-- LDPC_STATUS (04_channelized_receiver.md). -/
abbrev R.ldpcStatus : Nat := 0xF08005
/-- LANE_GCOUNTERS, register `i` of 2 (04_channelized_receiver.md). -/
abbrev R.laneGcounters (i : Nat) : Nat := 0xF08010 + 1 * i
/-- PATH_AGC, register `i` of 4 (04_channelized_receiver.md). -/
abbrev R.pathAgc (i : Nat) : Nat := 0xF08100 + 16 * i
/-- PATH_GAIN, register `i` of 4 (04_channelized_receiver.md). -/
abbrev R.pathGain (i : Nat) : Nat := 0xF08101 + 16 * i
/-- PATH_PWR, register `i` of 4 (04_channelized_receiver.md). -/
abbrev R.pathPwr (i : Nat) : Nat := 0xF08102 + 16 * i
/-- PATH_COUNTERS, register `i`, `j` of 4 by 4 (04_channelized_receiver.md). -/
abbrev R.pathCounters (i j : Nat) : Nat := 0xF08108 + 16 * i + 1 * j
/-- LANE_CFG, register `i` of 16 (04_channelized_receiver.md). -/
abbrev R.laneCfg (i : Nat) : Nat := 0xF08200 + 16 * i
/-- LANE_BIND, register `i` of 16 (04_channelized_receiver.md). -/
abbrev R.laneBind (i : Nat) : Nat := 0xF08201 + 16 * i
/-- LANE_GATE, register `i` of 16 (04_channelized_receiver.md). -/
abbrev R.laneGate (i : Nat) : Nat := 0xF08202 + 16 * i
/-- LANE_STATUS, register `i` of 16 (04_channelized_receiver.md). -/
abbrev R.laneStatus (i : Nat) : Nat := 0xF08203 + 16 * i
/-- LANE_LAST, register `i` of 16 (04_channelized_receiver.md). -/
abbrev R.laneLast (i : Nat) : Nat := 0xF08204 + 16 * i
/-- LANE_COUNTERS, register `i`, `j` of 16 by 5 (04_channelized_receiver.md). -/
abbrev R.laneCounters (i j : Nat) : Nat := 0xF08208 + 16 * i + 1 * j
/-- LINK_CTRL (06_frames_and_neighbours.md). -/
abbrev R.linkCtrl : Nat := 0xF0F000
/-- LINK_SELF, register `i` of 2 (06_frames_and_neighbours.md). -/
abbrev R.linkSelf (i : Nat) : Nat := 0xF0F001 + 1 * i
/-- LINK_SELF2 (06_frames_and_neighbours.md). -/
abbrev R.linkSelf2 : Nat := 0xF0F003
/-- LINK_ACKCFG (06_frames_and_neighbours.md). -/
abbrev R.linkAckcfg : Nat := 0xF0F004
/-- LINK_LOADSEQ (06_frames_and_neighbours.md). -/
abbrev R.linkLoadseq : Nat := 0xF0F007
/-- LINK_KEYSTAGE, register `i` of 6 (06_frames_and_neighbours.md). -/
abbrev R.linkKeystage (i : Nat) : Nat := 0xF0F008 + 1 * i
/-- LINK_KEYCOMMIT (06_frames_and_neighbours.md). -/
abbrev R.linkKeycommit : Nat := 0xF0F00E
/-- NET_PAN, register `i` of 16 (06_frames_and_neighbours.md). -/
abbrev R.netPan (i : Nat) : Nat := 0xF0F010 + 2 * i
/-- NET_SHORT, register `i` of 16 (06_frames_and_neighbours.md). -/
abbrev R.netShort (i : Nat) : Nat := 0xF0F011 + 2 * i
/-- KEY_CFG, register `i` of 16 (06_frames_and_neighbours.md). -/
abbrev R.keyCfg (i : Nat) : Nat := 0xF0F040 + 8 * i
/-- KEY_SEQ, register `i` of 16 (06_frames_and_neighbours.md). -/
abbrev R.keySeq (i : Nat) : Nat := 0xF0F041 + 8 * i
/-- KEY_TXCTR, register `i`, `j` of 16 by 2 (06_frames_and_neighbours.md). -/
abbrev R.keyTxctr (i j : Nat) : Nat := 0xF0F042 + 8 * i + 1 * j
/-- KEY_TXLIM, register `i`, `j` of 16 by 2 (06_frames_and_neighbours.md). -/
abbrev R.keyTxlim (i j : Nat) : Nat := 0xF0F044 + 8 * i + 1 * j
/-- LINK_COUNTERS, register `i` of 17 (06_frames_and_neighbours.md). -/
abbrev R.linkCounters (i : Nat) : Nat := 0xF0F180 + 1 * i
/-- NBR_CTRL (06_frames_and_neighbours.md). -/
abbrev R.nbrCtrl : Nat := 0xF0F800
/-- NBR_CFG (06_frames_and_neighbours.md). -/
abbrev R.nbrCfg : Nat := 0xF0F801
/-- NBR_STATUS (06_frames_and_neighbours.md). -/
abbrev R.nbrStatus : Nat := 0xF0F802
/-- NBR_RINGPTR (06_frames_and_neighbours.md). -/
abbrev R.nbrRingptr : Nat := 0xF0F803
/-- NBR_STAGE, register `i` of 12 (06_frames_and_neighbours.md). -/
abbrev R.nbrStage (i : Nat) : Nat := 0xF0F810 + 1 * i
/-- NBR_COMMIT (06_frames_and_neighbours.md). -/
abbrev R.nbrCommit : Nat := 0xF0F81C
/-- NBR_WMASK (06_frames_and_neighbours.md). -/
abbrev R.nbrWmask : Nat := 0xF0F81D
/-- NBR_W0MASK (06_frames_and_neighbours.md). -/
abbrev R.nbrW0mask : Nat := 0xF0F81E
/-- NBR_COUNTERS, register `i` of 11 (06_frames_and_neighbours.md). -/
abbrev R.nbrCounters (i : Nat) : Nat := 0xF0F880 + 1 * i
/-- FWD_CTRL (07_forwarding_classes_queues.md). -/
abbrev R.fwdCtrl : Nat := 0xF0A000
/-- FWD_CFG (07_forwarding_classes_queues.md). -/
abbrev R.fwdCfg : Nat := 0xF0A001
/-- FWD_QSEL (07_forwarding_classes_queues.md). -/
abbrev R.fwdQsel : Nat := 0xF0A002
/-- FWD_RETRY (07_forwarding_classes_queues.md). -/
abbrev R.fwdRetry : Nat := 0xF0A003
/-- FWD_STATUS (07_forwarding_classes_queues.md). -/
abbrev R.fwdStatus : Nat := 0xF0A004
/-- FWD_STAGE, register `i` of 4 (07_forwarding_classes_queues.md). -/
abbrev R.fwdStage (i : Nat) : Nat := 0xF0A008 + 1 * i
/-- FWD_COMMIT (07_forwarding_classes_queues.md). -/
abbrev R.fwdCommit : Nat := 0xF0A00C
/-- FWD_COUNTERS, register `i` of 13 (07_forwarding_classes_queues.md). -/
abbrev R.fwdCounters (i : Nat) : Nat := 0xF0A010 + 1 * i
/-- QM_CTRL (07_forwarding_classes_queues.md). -/
abbrev R.qmCtrl : Nat := 0xF0B000
/-- QM_FREECELLS (07_forwarding_classes_queues.md). -/
abbrev R.qmFreecells : Nat := 0xF0B001
/-- QM_BUFFREE (07_forwarding_classes_queues.md). -/
abbrev R.qmBuffree : Nat := 0xF0B002
/-- QM_BUFRSV0 (07_forwarding_classes_queues.md). -/
abbrev R.qmBufrsv0 : Nat := 0xF0B003
/-- QM_RSV, register `i` of 4 (07_forwarding_classes_queues.md). -/
abbrev R.qmRsv (i : Nat) : Nat := 0xF0B004 + 1 * i
/-- QM_USE, register `i` of 4 (07_forwarding_classes_queues.md). -/
abbrev R.qmUse (i : Nat) : Nat := 0xF0B008 + 1 * i
/-- QM_FREEBUF (07_forwarding_classes_queues.md). -/
abbrev R.qmFreebuf : Nat := 0xF0B00C
/-- QM_ALLOC (07_forwarding_classes_queues.md). -/
abbrev R.qmAlloc : Nat := 0xF0B00D
/-- QM_TMOFLAG, register `i` of 6 (07_forwarding_classes_queues.md). -/
abbrev R.qmTmoflag (i : Nat) : Nat := 0xF0B010 + 1 * i
/-- QM_COUNTERS, register `i` of 4 (07_forwarding_classes_queues.md). -/
abbrev R.qmCounters (i : Nat) : Nat := 0xF0B020 + 1 * i
/-- Q_CFG, register `i` of 128 (07_forwarding_classes_queues.md). -/
abbrev R.qCfg (i : Nat) : Nat := 0xF0B800 + 16 * i
/-- Q_LIMIT, register `i` of 128 (07_forwarding_classes_queues.md). -/
abbrev R.qLimit (i : Nat) : Nat := 0xF0B801 + 16 * i
/-- Q_TMO, register `i` of 128 (07_forwarding_classes_queues.md). -/
abbrev R.qTmo (i : Nat) : Nat := 0xF0B802 + 16 * i
/-- Q_STATUS, register `i` of 128 (07_forwarding_classes_queues.md). -/
abbrev R.qStatus (i : Nat) : Nat := 0xF0B803 + 16 * i
/-- Q_HIWAT, register `i` of 128 (07_forwarding_classes_queues.md). -/
abbrev R.qHiwat (i : Nat) : Nat := 0xF0B804 + 16 * i
/-- Q_LOST, register `i` of 128 (07_forwarding_classes_queues.md). -/
abbrev R.qLost (i : Nat) : Nat := 0xF0B805 + 16 * i
/-- Q_PUSH, register `i` of 128 (07_forwarding_classes_queues.md). -/
abbrev R.qPush (i : Nat) : Nat := 0xF0B806 + 16 * i
/-- Q_PUSHHEAD, register `i` of 128 (07_forwarding_classes_queues.md). -/
abbrev R.qPushhead (i : Nat) : Nat := 0xF0B807 + 16 * i
/-- Q_POP, register `i` of 128 (07_forwarding_classes_queues.md). -/
abbrev R.qPop (i : Nat) : Nat := 0xF0B808 + 16 * i
/-- Q_PEEK, register `i` of 128 (07_forwarding_classes_queues.md). -/
abbrev R.qPeek (i : Nat) : Nat := 0xF0B809 + 16 * i
/-- RWIN_CTRL (08_remote_windows.md). -/
abbrev R.rwinCtrl : Nat := 0xF0C000
/-- RWIN_CFG (08_remote_windows.md). -/
abbrev R.rwinCfg : Nat := 0xF0C001
/-- RWIN_NEXTOPID (08_remote_windows.md). -/
abbrev R.rwinNextopid : Nat := 0xF0C002
/-- RWIN_STATUS (08_remote_windows.md). -/
abbrev R.rwinStatus : Nat := 0xF0C003
/-- RWIN_STAGE, register `i` of 8 (08_remote_windows.md). -/
abbrev R.rwinStage (i : Nat) : Nat := 0xF0C008 + 1 * i
/-- RWIN_COMMIT (08_remote_windows.md). -/
abbrev R.rwinCommit : Nat := 0xF0C010
/-- RWIN_DB, register `i` of 8 (08_remote_windows.md). -/
abbrev R.rwinDb (i : Nat) : Nat := 0xF0C018 + 1 * i
/-- RWIN_COUNTERS, register `i` of 10 (08_remote_windows.md). -/
abbrev R.rwinCounters (i : Nat) : Nat := 0xF0C020 + 1 * i
/-- CMDP_CTRL (09_command_port.md). -/
abbrev R.cmdpCtrl : Nat := 0xF0D000
/-- CMDP_SPICFG (09_command_port.md). -/
abbrev R.cmdpSpicfg : Nat := 0xF0D001
/-- CMDP_UARTCFG (09_command_port.md). -/
abbrev R.cmdpUartcfg : Nat := 0xF0D002
/-- CMDP_ABORTLAT (09_command_port.md). -/
abbrev R.cmdpAbortlat : Nat := 0xF0D003
/-- T_CFG, register `i` of 6 (09_command_port.md). -/
abbrev R.tCfg (i : Nat) : Nat := 0xF0D010 + 16 * i
/-- T_PERM, register `i` of 6 (09_command_port.md). -/
abbrev R.tPerm (i : Nat) : Nat := 0xF0D011 + 16 * i
/-- T_STATUS, register `i` of 6 (09_command_port.md). -/
abbrev R.tStatus (i : Nat) : Nat := 0xF0D012 + 16 * i
/-- T_NOTSEQ, register `i` of 6 (09_command_port.md). -/
abbrev R.tNotseq (i : Nat) : Nat := 0xF0D013 + 16 * i
/-- T_COUNTERS, register `i`, `j` of 6 by 8 (09_command_port.md). -/
abbrev R.tCounters (i j : Nat) : Nat := 0xF0D018 + 16 * i + 1 * j
/-- MB_POST, register `i` of 4 (09_command_port.md). -/
abbrev R.mbPost (i : Nat) : Nat := 0xF0D080 + 8 * i
/-- MB_RBASE, register `i` of 4 (09_command_port.md). -/
abbrev R.mbRbase (i : Nat) : Nat := 0xF0D081 + 8 * i
/-- MB_RSIZE, register `i` of 4 (09_command_port.md). -/
abbrev R.mbRsize (i : Nat) : Nat := 0xF0D082 + 8 * i
/-- MB_RHEAD, register `i` of 4 (09_command_port.md). -/
abbrev R.mbRhead (i : Nat) : Nat := 0xF0D083 + 8 * i
/-- MB_RTAIL, register `i` of 4 (09_command_port.md). -/
abbrev R.mbRtail (i : Nat) : Nat := 0xF0D084 + 8 * i
/-- MB_STATUS, register `i` of 4 (09_command_port.md). -/
abbrev R.mbStatus (i : Nat) : Nat := 0xF0D085 + 8 * i
/-- LSUP_CTRL (11_link_cores_and_live_change.md). -/
abbrev R.lsupCtrl : Nat := 0xF0E000
/-- LSUP_SUPCFG (11_link_cores_and_live_change.md). -/
abbrev R.lsupSupcfg : Nat := 0xF0E001
/-- LSUP_STATUS (11_link_cores_and_live_change.md). -/
abbrev R.lsupStatus : Nat := 0xF0E002
/-- LSUP_HB, register `i` of 2 (11_link_cores_and_live_change.md). -/
abbrev R.lsupHb (i : Nat) : Nat := 0xF0E003 + 1 * i
/-- LSUP_STBYCMD (11_link_cores_and_live_change.md). -/
abbrev R.lsupStbycmd : Nat := 0xF0E005
/-- LSUP_STBYRPT (11_link_cores_and_live_change.md). -/
abbrev R.lsupStbyrpt : Nat := 0xF0E006
/-- LSUP_STBYVER (11_link_cores_and_live_change.md). -/
abbrev R.lsupStbyver : Nat := 0xF0E007
/-- LSUP_BANKSWAP (11_link_cores_and_live_change.md). -/
abbrev R.lsupBankswap : Nat := 0xF0E008
/-- LSUP_LAST (11_link_cores_and_live_change.md). -/
abbrev R.lsupLast : Nat := 0xF0E009
/-- LSUP_MAXDUR (11_link_cores_and_live_change.md). -/
abbrev R.lsupMaxdur : Nat := 0xF0E00A
/-- LSUP_COUNTERS, register `i` of 4 (11_link_cores_and_live_change.md). -/
abbrev R.lsupCounters (i : Nat) : Nat := 0xF0E010 + 1 * i
/-- INTC_EN, register `i`, `j` of 4 by 6 (12_qoris24_cores.md). -/
abbrev R.intcEn (i j : Nat) : Nat := 0xF15000 + 64 * i + 1 * j
/-- INTC_PEND, register `i`, `j` of 4 by 6 (12_qoris24_cores.md). -/
abbrev R.intcPend (i j : Nat) : Nat := 0xF15008 + 64 * i + 1 * j
/-- INTC_PRIO, register `i`, `j` of 4 by 16 (12_qoris24_cores.md). -/
abbrev R.intcPrio (i j : Nat) : Nat := 0xF15010 + 64 * i + 1 * j
/-- INTC_TOP, register `i` of 4 (12_qoris24_cores.md). -/
abbrev R.intcTop (i : Nat) : Nat := 0xF15020 + 64 * i
/-- INTC_SETPEND, register `i` of 4 (12_qoris24_cores.md). -/
abbrev R.intcSetpend (i : Nat) : Nat := 0xF15021 + 64 * i
/-- INTC_CORECTL (12_qoris24_cores.md). -/
abbrev R.intcCorectl : Nat := 0xF15100
/-- INTC_FALLBACK (12_qoris24_cores.md). -/
abbrev R.intcFallback : Nat := 0xF15101
/-- WD_CFG, register `i` of 4 (12_qoris24_cores.md). -/
abbrev R.wdCfg (i : Nat) : Nat := 0xF15110 + 4 * i
/-- WD_KICK, register `i` of 4 (12_qoris24_cores.md). -/
abbrev R.wdKick (i : Nat) : Nat := 0xF15111 + 4 * i
/-- WD_COUNT, register `i` of 4 (12_qoris24_cores.md). -/
abbrev R.wdCount (i : Nat) : Nat := 0xF15112 + 4 * i
/-- WD_STAT, register `i` of 4 (12_qoris24_cores.md). -/
abbrev R.wdStat (i : Nat) : Nat := 0xF15113 + 4 * i
/-- ECC_CTRL (13_memory_and_ecc.md). -/
abbrev R.eccCtrl : Nat := 0xF10000
/-- ECC_GROOM_RATE (13_memory_and_ecc.md). -/
abbrev R.eccGroomRate : Nat := 0xF10001
/-- ECC_GROOM_PTR (13_memory_and_ecc.md). -/
abbrev R.eccGroomPtr : Nat := 0xF10002
/-- ECC_GROOM_PASS (13_memory_and_ecc.md). -/
abbrev R.eccGroomPass : Nat := 0xF10003
/-- ECC_CEADDR (13_memory_and_ecc.md). -/
abbrev R.eccCeaddr : Nat := 0xF10004
/-- ECC_UEADDR (13_memory_and_ecc.md). -/
abbrev R.eccUeaddr : Nat := 0xF10005
/-- ECC_UEINFO (13_memory_and_ecc.md). -/
abbrev R.eccUeinfo : Nat := 0xF10006
/-- ECC_COUNTERS, register `i` of 5 (13_memory_and_ecc.md). -/
abbrev R.eccCounters (i : Nat) : Nat := 0xF10008 + 1 * i
/-- ECC_FLIPD (13_memory_and_ecc.md). -/
abbrev R.eccFlipd : Nat := 0xF10010
/-- ECC_FLIPC (13_memory_and_ecc.md). -/
abbrev R.eccFlipc : Nat := 0xF10011
/-- ECC_FLIPSEL (13_memory_and_ecc.md). -/
abbrev R.eccFlipsel : Nat := 0xF10012
/-- ECC_OFFLINE (13_memory_and_ecc.md). -/
abbrev R.eccOffline : Nat := 0xF10020
/-- ECC_OFFSTAT (13_memory_and_ecc.md). -/
abbrev R.eccOffstat : Nat := 0xF10021
/-- ECC_INITSTAT (13_memory_and_ecc.md). -/
abbrev R.eccInitstat : Nat := 0xF10022
/-- ECC_RETAIN (13_memory_and_ecc.md). -/
abbrev R.eccRetain : Nat := 0xF10023
/-- ECC_B15MODE (13_memory_and_ecc.md). -/
abbrev R.eccB15mode : Nat := 0xF10024
/-- ECC_FUSEIDX (13_memory_and_ecc.md). -/
abbrev R.eccFuseidx : Nat := 0xF10030
/-- ECC_FUSEREC (13_memory_and_ecc.md). -/
abbrev R.eccFuserec : Nat := 0xF10031
/-- ECC_FUSEFREE (13_memory_and_ecc.md). -/
abbrev R.eccFusefree : Nat := 0xF10032
/-- FC_CMD (14_flash_and_start_house.md). -/
abbrev R.fcCmd : Nat := 0xF11000
/-- FC_ADDR (14_flash_and_start_house.md). -/
abbrev R.fcAddr : Nat := 0xF11001
/-- FC_DATA, register `i` of 8 (14_flash_and_start_house.md). -/
abbrev R.fcData (i : Nat) : Nat := 0xF11002 + 1 * i
/-- FC_STATUS (14_flash_and_start_house.md). -/
abbrev R.fcStatus : Nat := 0xF1100A
/-- FC_INTR (14_flash_and_start_house.md). -/
abbrev R.fcIntr : Nat := 0xF1100B
/-- FC_ERRADDR, register `i` of 2 (14_flash_and_start_house.md). -/
abbrev R.fcErraddr (i : Nat) : Nat := 0xF1100C + 1 * i
/-- FC_ERRCNT, register `i` of 2 (14_flash_and_start_house.md). -/
abbrev R.fcErrcnt (i : Nat) : Nat := 0xF1100E + 1 * i
/-- DMA_CTRL (15_dma.md). -/
abbrev R.dmaCtrl : Nat := 0xF12000
/-- DMA_STATUS (15_dma.md). -/
abbrev R.dmaStatus : Nat := 0xF12001
/-- DMA_IFLAG0 (15_dma.md). -/
abbrev R.dmaIflag0 : Nat := 0xF12004
/-- DMA_IFLAG1 (15_dma.md). -/
abbrev R.dmaIflag1 : Nat := 0xF12005
/-- DMA_CHCTRL, register `i` of 32 (15_dma.md). -/
abbrev R.dmaChctrl (i : Nat) : Nat := 0xF12100 + 16 * i
/-- DMA_PC, register `i` of 32 (15_dma.md). -/
abbrev R.dmaPc (i : Nat) : Nat := 0xF12101 + 16 * i
/-- DMA_CHSTATUS, register `i` of 32 (15_dma.md). -/
abbrev R.dmaChstatus (i : Nat) : Nat := 0xF12102 + 16 * i
/-- DMA_RATE, register `i` of 32 (15_dma.md). -/
abbrev R.dmaRate (i : Nat) : Nat := 0xF12103 + 16 * i
/-- DMA_PTRS, register `i`, `j` of 32 by 4 (15_dma.md). -/
abbrev R.dmaPtrs (i j : Nat) : Nat := 0xF12104 + 16 * i + 1 * j
/-- DMA_LC, register `i`, `j` of 32 by 2 (15_dma.md). -/
abbrev R.dmaLc (i j : Nat) : Nat := 0xF12108 + 16 * i + 1 * j
/-- DMA_ERRADDR, register `i` of 32 (15_dma.md). -/
abbrev R.dmaErraddr (i : Nat) : Nat := 0xF1210A + 16 * i
/-- EVF_CFG, register `i` of 64 (16_event_fabric_and_timers.md). -/
abbrev R.evfCfg (i : Nat) : Nat := 0xF13000 + 2 * i
/-- EVF_DST, register `i` of 64 (16_event_fabric_and_timers.md). -/
abbrev R.evfDst (i : Nat) : Nat := 0xF13001 + 2 * i
/-- LUT_IN, register `i` of 32 (16_event_fabric_and_timers.md). -/
abbrev R.lutIn (i : Nat) : Nat := 0xF13100 + 2 * i
/-- LUT_CTL, register `i` of 32 (16_event_fabric_and_timers.md). -/
abbrev R.lutCtl (i : Nat) : Nat := 0xF13101 + 2 * i
/-- PINLVL (16_event_fabric_and_timers.md). -/
abbrev R.pinlvl : Nat := 0xF13180
/-- PINEV, register `i` of 4 (16_event_fabric_and_timers.md). -/
abbrev R.pinev (i : Nat) : Nat := 0xF13184 + 1 * i
/-- PINOUT, register `i` of 8 (16_event_fabric_and_timers.md). -/
abbrev R.pinout (i : Nat) : Nat := 0xF13188 + 1 * i
/-- GT_CTRL, register `i` of 16 (16_event_fabric_and_timers.md). -/
abbrev R.gtCtrl (i : Nat) : Nat := 0xF14000 + 8 * i
/-- GT_CFG, register `i` of 16 (16_event_fabric_and_timers.md). -/
abbrev R.gtCfg (i : Nat) : Nat := 0xF14001 + 8 * i
/-- GT_TOP, register `i` of 16 (16_event_fabric_and_timers.md). -/
abbrev R.gtTop (i : Nat) : Nat := 0xF14002 + 8 * i
/-- GT_COUNT, register `i` of 16 (16_event_fabric_and_timers.md). -/
abbrev R.gtCount (i : Nat) : Nat := 0xF14003 + 8 * i
/-- GT_CAP, register `i` of 16 (16_event_fabric_and_timers.md). -/
abbrev R.gtCap (i : Nat) : Nat := 0xF14004 + 8 * i
/-- GT_STAT, register `i` of 16 (16_event_fabric_and_timers.md). -/
abbrev R.gtStat (i : Nat) : Nat := 0xF14005 + 8 * i
/-- SYS_ID0 (17_power_clocks_backup.md). -/
abbrev R.sysId0 : Nat := 0xF00000
/-- SYS_ID1 (17_power_clocks_backup.md). -/
abbrev R.sysId1 : Nat := 0xF00001
/-- SYS_RSTCAUSE (17_power_clocks_backup.md). -/
abbrev R.sysRstcause : Nat := 0xF00002
/-- SYS_RSTCTRL (17_power_clocks_backup.md). -/
abbrev R.sysRstctrl : Nat := 0xF00003
/-- SYS_FAULT (17_power_clocks_backup.md). -/
abbrev R.sysFault : Nat := 0xF00004
/-- PMU_MODE (17_power_clocks_backup.md). -/
abbrev R.pmuMode : Nat := 0xF01000
/-- PMU_REQ (17_power_clocks_backup.md). -/
abbrev R.pmuReq : Nat := 0xF01001
/-- PMU_CFG (17_power_clocks_backup.md). -/
abbrev R.pmuCfg : Nat := 0xF01002
/-- PMU_STATUS (17_power_clocks_backup.md). -/
abbrev R.pmuStatus : Nat := 0xF01003
/-- PMU_REFUSAL (17_power_clocks_backup.md). -/
abbrev R.pmuRefusal : Nat := 0xF01004
/-- PMU_LPLOAD (17_power_clocks_backup.md). -/
abbrev R.pmuLpload : Nat := 0xF01005
/-- PMU_WAKECFG (17_power_clocks_backup.md). -/
abbrev R.pmuWakecfg : Nat := 0xF01008
/-- PMU_WAKEFLAG (17_power_clocks_backup.md). -/
abbrev R.pmuWakeflag : Nat := 0xF01009
/-- PMU_WAKEREC0 (17_power_clocks_backup.md). -/
abbrev R.pmuWakerec0 : Nat := 0xF01010
/-- PMU_WAKETIME, register `i` of 3 (17_power_clocks_backup.md). -/
abbrev R.pmuWaketime (i : Nat) : Nat := 0xF01011 + 1 * i
/-- CLK_CFG (17_power_clocks_backup.md). -/
abbrev R.clkCfg : Nat := 0xF02000
/-- CLK_STATUS (17_power_clocks_backup.md). -/
abbrev R.clkStatus : Nat := 0xF02001
/-- CLK_TCLKTRIM (17_power_clocks_backup.md). -/
abbrev R.clkTclktrim : Nat := 0xF02002
/-- CLK_CLKOUT (17_power_clocks_backup.md). -/
abbrev R.clkClkout : Nat := 0xF02003
/-- BKP_STATUS (17_power_clocks_backup.md). -/
abbrev R.bkpStatus : Nat := 0xF03000
/-- BKP_CHG (17_power_clocks_backup.md). -/
abbrev R.bkpChg : Nat := 0xF03001
/-- RTC_COUNT0 (17_power_clocks_backup.md). -/
abbrev R.rtcCount0 : Nat := 0xF03002
/-- RTC_COUNT1 (17_power_clocks_backup.md). -/
abbrev R.rtcCount1 : Nat := 0xF03003
/-- RTC_ADJ, register `i` of 2 (17_power_clocks_backup.md). -/
abbrev R.rtcAdj (i : Nat) : Nat := 0xF03004 + 1 * i
/-- RTC_CTRL (17_power_clocks_backup.md). -/
abbrev R.rtcCtrl : Nat := 0xF03006
/-- RTC_TRIM (17_power_clocks_backup.md). -/
abbrev R.rtcTrim : Nat := 0xF03007
/-- RTC_TRIMMEAS (17_power_clocks_backup.md). -/
abbrev R.rtcTrimmeas : Nat := 0xF03008
/-- RTC_ALM_CMP, register `i`, `j` of 2 by 2 (17_power_clocks_backup.md). -/
abbrev R.rtcAlmCmp (i j : Nat) : Nat := 0xF03010 + 4 * i + 1 * j
/-- RTC_ALM_CFG, register `i` of 2 (17_power_clocks_backup.md). -/
abbrev R.rtcAlmCfg (i : Nat) : Nat := 0xF03012 + 4 * i
/-- RTC_ALMSTAT (17_power_clocks_backup.md). -/
abbrev R.rtcAlmstat : Nat := 0xF03018
/-- GPIO_CFG, register `i` of 48 (18_balls_electrical_test.md). -/
abbrev R.gpioCfg (i : Nat) : Nat := 0xF18000 + 1 * i
/-- DBG_CTRL (18_balls_electrical_test.md). -/
abbrev R.dbgCtrl : Nat := 0xF1F000
/-- DBG_STAT (18_balls_electrical_test.md). -/
abbrev R.dbgStat : Nat := 0xF1F001
/-- DBG_REGSEL (18_balls_electrical_test.md). -/
abbrev R.dbgRegsel : Nat := 0xF1F002
/-- DBG_REGDATA (18_balls_electrical_test.md). -/
abbrev R.dbgRegdata : Nat := 0xF1F003
/-- DBG_LEVEL (18_balls_electrical_test.md). -/
abbrev R.dbgLevel : Nat := 0xF1F004
/-- WP_ADDR, register `i`, `j` of 4 by 4 (18_balls_electrical_test.md). -/
abbrev R.wpAddr (i j : Nat) : Nat := 0xF1F100 + 16 * i + 4 * j
/-- WP_MASK, register `i`, `j` of 4 by 4 (18_balls_electrical_test.md). -/
abbrev R.wpMask (i j : Nat) : Nat := 0xF1F101 + 16 * i + 4 * j
/-- WP_CFG, register `i`, `j` of 4 by 4 (18_balls_electrical_test.md). -/
abbrev R.wpCfg (i j : Nat) : Nat := 0xF1F102 + 16 * i + 4 * j
/-- HIT, register `i`, `j` of 4 by 3 (18_balls_electrical_test.md). -/
abbrev R.hit (i j : Nat) : Nat := 0xF1F200 + 8 * i + 1 * j
/-- HIT_INFO, register `i` of 4 (18_balls_electrical_test.md). -/
abbrev R.hitInfo (i : Nat) : Nat := 0xF1F203 + 8 * i

/-- The power domain a register row stands under in its chapter's heading (R423; `radio` is RADIO_S or RADIO_G of R82). -/
inductive RegDomain where
  | alwaysOn | link | chip | application | radio | backup
  deriving DecidableEq, Repr

/-- One row of the map: the addresses base + s1·i + s2·j (i < c1, j < c2), the masks of its RW, W1C, SO, WO and RO bits,
and the reset value the table prints. -/
structure RegRow where
  base : Nat
  s1 : Nat
  c1 : Nat
  s2 : Nat
  c2 : Nat
  rw : Nat
  w1c : Nat
  so : Nat
  wo : Nat
  ro : Nat
  rst : Nat
  dom : RegDomain
  deriving DecidableEq, Repr

/-- The row's registers include word address `a`. -/
def RegRow.has (r : RegRow) (a : Nat) : Bool :=
  r.base ≤ a &&
    (let d := a - r.base
     d / r.s1 < r.c1 && (d % r.s1) % r.s2 == 0 && (d % r.s1) / r.s2 < r.c2) ||
  (r.s1 == 1 && r.base ≤ a && a - r.base < r.c1 && r.c2 == 1)

/-- Part 0 of the map, in the order of the chapters. -/
def regRows0 : List RegRow := [
  ⟨0xF04000, 1, 1, 1, 1, 0x000000, 0x000000, 0x000000, 0x000000, 0xFFFFFF, 0x000000, .alwaysOn⟩,
  ⟨0xF04001, 1, 1, 1, 1, 0x000000, 0x000000, 0x000000, 0x000000, 0xFFFFFF, 0x000000, .alwaysOn⟩,
  ⟨0xF04002, 1, 1, 1, 1, 0x000000, 0x000000, 0x000000, 0x000000, 0xFFFFFF, 0x000000, .alwaysOn⟩,
  ⟨0xF04004, 1, 1, 1, 1, 0x000004, 0x000000, 0x000000, 0x000003, 0x000000, 0x000004, .alwaysOn⟩,
  ⟨0xF04005, 1, 1, 1, 1, 0x000000, 0x000000, 0x000000, 0x000000, 0xFF000F, 0x000008, .alwaysOn⟩,
  ⟨0xF04006, 1, 1, 1, 1, 0xFFFFFF, 0x000000, 0x000000, 0x000000, 0x000000, 0x000000, .alwaysOn⟩,
  ⟨0xF04007, 1, 1, 1, 1, 0x0000FF, 0x000000, 0x000000, 0x000000, 0x000000, 0x000000, .alwaysOn⟩,
  ⟨0xF04008, 1, 3, 1, 1, 0xFFFFFF, 0x000000, 0x000000, 0x000000, 0x000000, 0x000000, .alwaysOn⟩,
  ⟨0xF0400B, 1, 1, 1, 1, 0xFFFFFF, 0x000000, 0x000000, 0x000000, 0x000000, 0x000000, .alwaysOn⟩,
  ⟨0xF0400C, 1, 1, 1, 1, 0xFFFFFF, 0x000000, 0x000000, 0x000000, 0x000000, 0x000000, .alwaysOn⟩,
  ⟨0xF0400D, 1, 1, 1, 1, 0x00007F, 0x000000, 0x000000, 0x000000, 0x000000, 0x00000A, .alwaysOn⟩,
  ⟨0xF0400E, 1, 1, 1, 1, 0x000000, 0x000000, 0x000000, 0x000000, 0xFFFFFF, 0xFFFFFF, .alwaysOn⟩,
  ⟨0xF0400F, 1, 1, 1, 1, 0x000000, 0x000000, 0x000000, 0xFFFFFF, 0x000000, 0x000000, .alwaysOn⟩,
  ⟨0xF04010, 1, 1, 1, 1, 0xFFFFFF, 0x000000, 0x000000, 0x000000, 0x000000, 0x3E8064, .alwaysOn⟩,
  ⟨0xF04011, 1, 1, 1, 1, 0xFFFFFF, 0x000000, 0x000000, 0x000000, 0x000000, 0xFFFFFF, .alwaysOn⟩,
  ⟨0xF04012, 1, 1, 1, 1, 0xFFFFFF, 0x000000, 0x000000, 0x000000, 0x000000, 0x000000, .alwaysOn⟩,
  ⟨0xF04013, 1, 1, 1, 1, 0xFFFFFF, 0x000000, 0x000000, 0x000000, 0x000000, 0x773594, .alwaysOn⟩,
  ⟨0xF04014, 1, 1, 1, 1, 0x000007, 0x000000, 0x000000, 0x000000, 0x000000, 0x000004, .alwaysOn⟩,
  ⟨0xF04015, 1, 1, 1, 1, 0xFFFFFF, 0x000000, 0x000000, 0x000000, 0x000000, 0x052000, .alwaysOn⟩,
  ⟨0xF04016, 1, 1, 1, 1, 0x0FFFFF, 0x000000, 0x000000, 0x000000, 0x000000, 0x0FC000, .alwaysOn⟩,
  ⟨0xF04017, 1, 2, 1, 1, 0xFFFFFF, 0x000000, 0x000000, 0x000000, 0x000000, 0x000000, .alwaysOn⟩,
  ⟨0xF04020, 1, 1, 1, 1, 0x000000, 0x00FF00, 0x000000, 0x000000, 0x0000FF, 0x000000, .alwaysOn⟩,
  ⟨0xF04021, 1, 1, 1, 1, 0xFF3FFF, 0x000000, 0x000000, 0x000000, 0x000000, 0x000064, .alwaysOn⟩,
  ⟨0xF04022, 1, 1, 1, 1, 0x000000, 0xFFFFFF, 0x000000, 0x000000, 0x000000, 0x000000, .alwaysOn⟩,
  ⟨0xF04023, 1, 1, 1, 1, 0x000000, 0x0000FF, 0x000000, 0x000000, 0x000000, 0x000000, .alwaysOn⟩,
  ⟨0xF04100, 8, 32, 1, 3, 0xFFFFFF, 0x000000, 0x000000, 0x000000, 0x000000, 0x000000, .alwaysOn⟩,
  ⟨0xF04103, 8, 32, 1, 2, 0xFFFFFF, 0x000000, 0x000000, 0x000000, 0x000000, 0x000000, .alwaysOn⟩,
  ⟨0xF04105, 8, 32, 1, 1, 0x000004, 0x000008, 0x000000, 0x000002, 0x000001, 0x000000, .alwaysOn⟩,
  ⟨0xF04106, 8, 32, 1, 1, 0x000000, 0x000000, 0x000000, 0x000000, 0x0000FF, 0x000000, .alwaysOn⟩,
  ⟨0xF04200, 4, 8, 1, 3, 0x000000, 0x000000, 0x000000, 0x000000, 0xFFFFFF, 0x000000, .alwaysOn⟩,
  ⟨0xF04203, 4, 8, 1, 1, 0x000003, 0x000000, 0x000000, 0x000000, 0x000000, 0x000000, .alwaysOn⟩,
  ⟨0xF05000, 1, 1, 1, 1, 0x000001, 0x000000, 0x000000, 0x000002, 0x000000, 0x000000, .link⟩]

/-- Part 1 of the map, in the order of the chapters. -/
def regRows1 : List RegRow := [
  ⟨0xF05001, 1, 1, 1, 1, 0x000000, 0x000000, 0x000000, 0x000000, 0x007F07, 0x000000, .link⟩,
  ⟨0xF05002, 1, 6, 1, 1, 0xFFFFFF, 0x000000, 0x000000, 0x000000, 0x000000, 0x000000, .link⟩,
  ⟨0xF05008, 1, 1, 1, 1, 0x000FFF, 0x000000, 0x000000, 0x001000, 0x000000, 0x000000, .link⟩,
  ⟨0xF05009, 1, 1, 1, 1, 0x00FFFF, 0x000000, 0x000000, 0x000000, 0x000000, 0x001388, .link⟩,
  ⟨0xF0500A, 1, 1, 1, 1, 0x00FFFF, 0x000000, 0x000000, 0x000000, 0x000000, 0x00FFFF, .link⟩,
  ⟨0xF0500B, 1, 1, 1, 1, 0x000000, 0x000000, 0x000000, 0x000000, 0x00FFFF, 0x000000, .link⟩,
  ⟨0xF05010, 1, 15, 1, 1, 0x000000, 0x000000, 0x000000, 0x000000, 0xFFFFFF, 0x000000, .link⟩,
  ⟨0xF05020, 1, 16, 1, 1, 0x0000FF, 0x000000, 0x000000, 0x000000, 0x000000, 0x000001, .link⟩,
  ⟨0xF05100, 16, 16, 1, 1, 0xFF0001, 0x000000, 0x000000, 0x000008, 0x000004, 0x000000, .link⟩,
  ⟨0xF05101, 16, 16, 1, 1, 0xFFFFFF, 0x000000, 0x000000, 0x000000, 0x000000, 0x000000, .link⟩,
  ⟨0xF05102, 16, 16, 1, 1, 0x00FFFF, 0x000000, 0x000000, 0x000000, 0x000000, 0x000000, .link⟩,
  ⟨0xF05103, 16, 16, 1, 3, 0xFFFFFF, 0x000000, 0x000000, 0x000000, 0x000000, 0x000000, .link⟩,
  ⟨0xF05106, 16, 16, 1, 2, 0x000000, 0x000000, 0x000000, 0x000000, 0xFFFFFF, 0x000000, .link⟩,
  ⟨0xF05108, 16, 16, 1, 2, 0x000000, 0x000000, 0x000000, 0x000000, 0xFFFFFF, 0x000000, .link⟩,
  ⟨0xF0510A, 16, 16, 1, 1, 0x000000, 0x000000, 0x000000, 0x000000, 0xFFFFFF, 0x000000, .link⟩,
  ⟨0xF0510B, 16, 16, 1, 1, 0x000000, 0x000000, 0x000000, 0x000000, 0x00FFFF, 0x000000, .link⟩,
  ⟨0xF06000, 4096, 2, 1, 1, 0x000001, 0x000000, 0x000000, 0x00000E, 0x000000, 0x000000, .radio⟩,
  ⟨0xF06001, 4096, 2, 1, 1, 0x000000, 0x000000, 0x000000, 0x000000, 0xFFFF1F, 0x000000, .radio⟩,
  ⟨0xF06002, 4096, 2, 1, 1, 0xFFFF03, 0x000000, 0x000000, 0x000000, 0x000000, 0x0F3C03, .radio⟩,
  ⟨0xF06003, 4096, 2, 1, 1, 0x00FFFF, 0x000000, 0x000000, 0x000000, 0x000000, 0x00007E, .radio⟩,
  ⟨0xF06004, 4096, 2, 1, 1, 0x000000, 0x000000, 0x000000, 0x000000, 0xFFF3FF, 0x000000, .radio⟩,
  ⟨0xF06005, 4096, 2, 1, 1, 0x0003FF, 0x000000, 0x000000, 0x000000, 0x000000, 0x000000, .radio⟩,
  ⟨0xF06006, 4096, 2, 1, 1, 0x000003, 0x000000, 0x000000, 0x000000, 0x000000, 0x000000, .radio⟩,
  ⟨0xF06007, 4096, 2, 1, 1, 0xFFFFFF, 0x000000, 0x000000, 0x000000, 0x000000, 0x000000, .radio⟩,
  ⟨0xF06008, 4096, 2, 1, 1, 0x00FFFF, 0x000000, 0x000000, 0x000000, 0x000000, 0x000000, .radio⟩,
  ⟨0xF0600A, 4096, 2, 1, 3, 0x000000, 0x000000, 0x000000, 0x000000, 0xC003FF, 0x000000, .radio⟩,
  ⟨0xF0600D, 4096, 2, 1, 3, 0x00FFFF, 0x000000, 0x000000, 0x000000, 0x000000, 0x000000, .radio⟩,
  ⟨0xF06010, 4096, 2, 1, 4, 0xFFFFFF, 0x000000, 0x000000, 0x000000, 0x000000, 0x000000, .radio⟩,
  ⟨0xF06014, 4096, 2, 1, 1, 0x0003FF, 0x000000, 0x000000, 0x000400, 0x000000, 0x000000, .radio⟩,
  ⟨0xF06018, 4096, 2, 1, 6, 0x000000, 0x000000, 0x000000, 0x000000, 0xFFFFFF, 0x000000, .radio⟩,
  ⟨0xF06021, 4096, 2, 1, 8, 0x000000, 0x000000, 0x000000, 0x000000, 0xFFFFFF, 0xFFFFFF, .radio⟩,
  ⟨0xF09006, 1, 1, 1, 1, 0x000001, 0x000000, 0x000000, 0x000002, 0x000000, 0x000000, .link⟩]

/-- Part 2 of the map, in the order of the chapters. -/
def regRows2 : List RegRow := [
  ⟨0xF09000, 1, 2, 1, 1, 0xFFF0FF, 0x000000, 0x000000, 0x000000, 0x000000, 0x5040AB, .link⟩,
  ⟨0xF09002, 1, 2, 1, 1, 0x000000, 0x000000, 0x000000, 0x000000, 0xFFFFC7, 0x000000, .link⟩,
  ⟨0xF09004, 1, 2, 1, 1, 0x000000, 0x000000, 0x000000, 0x000001, 0x000000, 0x000000, .link⟩,
  ⟨0xF09008, 1, 2, 1, 1, 0x80FFFF, 0x000000, 0x000000, 0x000000, 0x000000, 0x004E20, .link⟩,
  ⟨0xF0900A, 1, 2, 1, 1, 0xFFFFFF, 0x000000, 0x000000, 0x000000, 0x000000, 0x030D40, .link⟩,
  ⟨0xF09010, 8, 2, 1, 7, 0x000000, 0x000000, 0x000000, 0x000000, 0xFFFFFF, 0x000000, .link⟩,
  ⟨0xF09040, 32, 2, 8, 4, 0xFFFFFF, 0x000000, 0x000000, 0x000000, 0x000000, 0x000000, .link⟩,
  ⟨0xF09041, 32, 2, 8, 4, 0xFFFFFF, 0x000000, 0x000000, 0x000000, 0x000000, 0x000000, .link⟩,
  ⟨0xF09042, 32, 2, 8, 4, 0x00FFFF, 0x000000, 0x000000, 0x000000, 0x000000, 0x000E10, .link⟩,
  ⟨0xF09043, 32, 2, 8, 4, 0xFFFFFF, 0x000000, 0x000000, 0x000000, 0x000000, 0x000000, .link⟩,
  ⟨0xF09044, 32, 2, 8, 4, 0xFFFFFF, 0x000000, 0x000000, 0x000000, 0x000000, 0x000000, .link⟩,
  ⟨0xF09045, 32, 2, 8, 4, 0xFFFFFF, 0x000000, 0x000000, 0x000000, 0x000000, 0x000000, .link⟩,
  ⟨0xF09046, 32, 2, 8, 4, 0x000000, 0x000000, 0x000000, 0x000000, 0xFFFFFF, 0x000000, .link⟩,
  ⟨0xF09047, 32, 2, 8, 4, 0x000001, 0x000000, 0x000000, 0x000000, 0x000000, 0x000000, .link⟩,
  ⟨0xF08000, 1, 1, 1, 1, 0x000000, 0x000000, 0x000000, 0x000001, 0x000000, 0x000000, .link⟩,
  ⟨0xF08001, 1, 1, 1, 1, 0x00FFFF, 0x000000, 0x000000, 0x000000, 0x000000, 0x000000, .link⟩,
  ⟨0xF08002, 1, 1, 1, 1, 0x000000, 0x000000, 0x000000, 0x000000, 0x00FFFF, 0x000000, .link⟩,
  ⟨0xF08003, 1, 1, 1, 1, 0x000000, 0x000000, 0x000000, 0x000000, 0x00FFFF, 0x000000, .link⟩,
  ⟨0xF08004, 1, 1, 1, 1, 0x00001F, 0x000000, 0x000000, 0x000000, 0x000000, 0x000018, .link⟩,
  ⟨0xF08005, 1, 1, 1, 1, 0x000000, 0x000000, 0x000000, 0x000000, 0xFFFFFF, 0x000000, .link⟩,
  ⟨0xF08010, 1, 2, 1, 1, 0x000000, 0x000000, 0x000000, 0x000000, 0xFFFFFF, 0x000000, .link⟩,
  ⟨0xF08100, 16, 4, 1, 1, 0xFFFFFF, 0x000000, 0x000000, 0x000000, 0x000000, 0x14D8E8, .radio⟩,
  ⟨0xF08101, 16, 4, 1, 1, 0x003F00, 0x000000, 0x000000, 0x000000, 0x00001F, 0x001F1F, .radio⟩,
  ⟨0xF08102, 16, 4, 1, 1, 0x000000, 0x000000, 0x000000, 0x000000, 0x0000FF, 0x000080, .radio⟩,
  ⟨0xF08108, 16, 4, 1, 4, 0x000000, 0x000000, 0x000000, 0x000000, 0xFFFFFF, 0x000000, .radio⟩,
  ⟨0xF08200, 16, 16, 1, 1, 0x00003F, 0x000000, 0x000000, 0x000000, 0x000000, 0x000000, .link⟩,
  ⟨0xF08201, 16, 16, 1, 1, 0x000000, 0x000000, 0x000000, 0x000000, 0xFC07FF, 0x000000, .link⟩,
  ⟨0xF08202, 16, 16, 1, 1, 0x000000, 0x000000, 0x000000, 0x000000, 0x3FFFFF, 0x000000, .link⟩,
  ⟨0xF08203, 16, 16, 1, 1, 0x000000, 0x000000, 0x000000, 0x000000, 0xFF003F, 0x000000, .link⟩,
  ⟨0xF08204, 16, 16, 1, 1, 0x000000, 0x000000, 0x000000, 0x000000, 0xFFFFFF, 0x808000, .link⟩,
  ⟨0xF08208, 16, 16, 1, 5, 0x000000, 0x000000, 0x000000, 0x000000, 0xFFFFFF, 0x000000, .link⟩,
  ⟨0xF0F000, 1, 1, 1, 1, 0x000001, 0x000000, 0x000000, 0x000002, 0x000000, 0x000000, .link⟩]

/-- Part 3 of the map, in the order of the chapters. -/
def regRows3 : List RegRow := [
  ⟨0xF0F001, 1, 2, 1, 1, 0xFFFFFF, 0x000000, 0x000000, 0x000000, 0x000000, 0x000000, .link⟩,
  ⟨0xF0F003, 1, 1, 1, 1, 0x00FFFF, 0x000000, 0x000000, 0x000000, 0x000000, 0x000000, .link⟩,
  ⟨0xF0F004, 1, 1, 1, 1, 0xFFFFFF, 0x000000, 0x000000, 0x000000, 0x000000, 0x3203E8, .link⟩,
  ⟨0xF0F007, 1, 1, 1, 1, 0x000000, 0x000000, 0x000000, 0x000000, 0xFFFFFF, 0x000000, .link⟩,
  ⟨0xF0F008, 1, 6, 1, 1, 0x000000, 0x000000, 0x000000, 0xFFFFFF, 0x000000, 0x000000, .link⟩,
  ⟨0xF0F00E, 1, 1, 1, 1, 0x0001FF, 0x000000, 0x000000, 0x000600, 0x000000, 0x000000, .link⟩,
  ⟨0xF0F010, 2, 16, 1, 1, 0x01FFFF, 0x000000, 0x000000, 0x000000, 0x000000, 0x000000, .link⟩,
  ⟨0xF0F011, 2, 16, 1, 1, 0x00FFFF, 0x000000, 0x000000, 0x000000, 0x000000, 0x00FFFE, .link⟩,
  ⟨0xF0F040, 8, 16, 1, 1, 0x000000, 0x000000, 0x000000, 0x000000, 0xEF0000, 0x000000, .link⟩,
  ⟨0xF0F041, 8, 16, 1, 1, 0x000000, 0x000000, 0x000000, 0x000000, 0xFFFFFF, 0x000000, .link⟩,
  ⟨0xF0F042, 8, 16, 1, 1, 0xFFFFFF, 0x000000, 0x000000, 0x000000, 0x000000, 0x000000, .link⟩,
  ⟨0xF0F043, 8, 16, 1, 1, 0x0000FF, 0x000000, 0x000000, 0x000000, 0x000000, 0x000000, .link⟩,
  ⟨0xF0F044, 8, 16, 1, 1, 0xFFFFFF, 0x000000, 0x000000, 0x000000, 0x000000, 0x000000, .link⟩,
  ⟨0xF0F045, 8, 16, 1, 1, 0x0000FF, 0x000000, 0x000000, 0x000000, 0x000000, 0x000000, .link⟩,
  ⟨0xF0F180, 1, 17, 1, 1, 0x000000, 0x000000, 0x000000, 0x000000, 0xFFFFFF, 0x000000, .link⟩,
  ⟨0xF0F800, 1, 1, 1, 1, 0x000002, 0x000000, 0x000000, 0x000001, 0x000000, 0x000002, .link⟩,
  ⟨0xF0F801, 1, 1, 1, 1, 0xFF7FFF, 0x000000, 0x000000, 0x000000, 0x000000, 0x023308, .link⟩,
  ⟨0xF0F802, 1, 1, 1, 1, 0x000000, 0x800000, 0x000000, 0x000000, 0x003FFF, 0x000000, .link⟩,
  ⟨0xF0F803, 1, 1, 1, 1, 0x000FFF, 0x000000, 0x000000, 0x000000, 0x000000, 0x000000, .link⟩,
  ⟨0xF0F810, 1, 12, 1, 1, 0xFFFFFF, 0x000000, 0x000000, 0x000000, 0x000000, 0x000000, .link⟩,
  ⟨0xF0F81C, 1, 1, 1, 1, 0x005FFF, 0x000000, 0x000000, 0x002000, 0x000000, 0x000000, .link⟩,
  ⟨0xF0F81D, 1, 1, 1, 1, 0x000FFF, 0x000000, 0x000000, 0x000000, 0x000000, 0x000FFF, .link⟩,
  ⟨0xF0F81E, 1, 1, 1, 1, 0xFFFFFF, 0x000000, 0x000000, 0x000000, 0x000000, 0xFFFFFF, .link⟩,
  ⟨0xF0F880, 1, 11, 1, 1, 0x000000, 0x000000, 0x000000, 0x000000, 0xFFFFFF, 0x000000, .link⟩,
  ⟨0xF0A000, 1, 1, 1, 1, 0x000001, 0x000000, 0x000000, 0x000002, 0x000000, 0x000000, .link⟩,
  ⟨0xF0A001, 1, 1, 1, 1, 0xFFF00F, 0x000000, 0x000000, 0x000000, 0x000000, 0x800000, .link⟩,
  ⟨0xF0A002, 1, 1, 1, 1, 0x9FFFFF, 0x000000, 0x000000, 0x000000, 0x000000, 0x044860, .link⟩,
  ⟨0xF0A003, 1, 1, 1, 1, 0x000FFF, 0x000000, 0x000000, 0x000000, 0x000000, 0x0002DA, .link⟩,
  ⟨0xF0A004, 1, 1, 1, 1, 0x000000, 0x000000, 0x000000, 0x000000, 0x00FFFF, 0x000000, .link⟩,
  ⟨0xF0A008, 1, 4, 1, 1, 0xFFFFFF, 0x000000, 0x000000, 0x000000, 0x000000, 0x000000, .link⟩,
  ⟨0xF0A00C, 1, 1, 1, 1, 0x003FFF, 0x000000, 0x000000, 0x004000, 0x000000, 0x000000, .link⟩,
  ⟨0xF0A010, 1, 13, 1, 1, 0x000000, 0x000000, 0x000000, 0x000000, 0xFFFFFF, 0x000000, .link⟩]

/-- Part 4 of the map, in the order of the chapters. -/
def regRows4 : List RegRow := [
  ⟨0xF0B000, 1, 1, 1, 1, 0x000000, 0x000000, 0x000000, 0x000001, 0x000000, 0x000000, .link⟩,
  ⟨0xF0B001, 1, 1, 1, 1, 0x000000, 0x000000, 0x000000, 0x000000, 0x00FFFF, 0x008000, .link⟩,
  ⟨0xF0B002, 1, 1, 1, 1, 0x000000, 0x000000, 0x000000, 0x000000, 0x001FFF, 0x001000, .link⟩,
  ⟨0xF0B003, 1, 1, 1, 1, 0x000FFF, 0x000000, 0x000000, 0x000000, 0x000000, 0x000000, .link⟩,
  ⟨0xF0B004, 1, 4, 1, 1, 0x00FFFF, 0x000000, 0x000000, 0x000000, 0x000000, 0x000000, .link⟩,
  ⟨0xF0B008, 1, 4, 1, 1, 0x000000, 0x000000, 0x000000, 0x000000, 0x00FFFF, 0x000000, .link⟩,
  ⟨0xF0B00C, 1, 1, 1, 1, 0x000000, 0x000000, 0x000000, 0xFFFFFF, 0x000000, 0x000000, .link⟩,
  ⟨0xF0B00D, 1, 1, 1, 1, 0x000000, 0x000000, 0x000000, 0x000000, 0xFFFFFF, 0xFFFFFF, .link⟩,
  ⟨0xF0B010, 1, 6, 1, 1, 0x000000, 0xFFFFFF, 0x000000, 0x000000, 0x000000, 0x000000, .link⟩,
  ⟨0xF0B020, 1, 4, 1, 1, 0x000000, 0x000000, 0x000000, 0x000000, 0xFFFFFF, 0x000000, .link⟩,
  ⟨0xF0B800, 16, 128, 1, 1, 0xFFE000, 0x000000, 0x000000, 0x000000, 0x000000, 0x000000, .link⟩,
  ⟨0xF0B801, 16, 128, 1, 1, 0x00FFFF, 0x000000, 0x000000, 0x000000, 0x000000, 0x000100, .link⟩,
  ⟨0xF0B802, 16, 128, 1, 1, 0x00FFFF, 0x000000, 0x000000, 0x000000, 0x000000, 0x000000, .link⟩,
  ⟨0xF0B803, 16, 128, 1, 1, 0x000000, 0x000000, 0x000000, 0x000000, 0x01FFFF, 0x000000, .link⟩,
  ⟨0xF0B804, 16, 128, 1, 1, 0x000000, 0x000000, 0x000000, 0x000000, 0x00FFFF, 0x000000, .link⟩,
  ⟨0xF0B805, 16, 128, 1, 1, 0x00FFFF, 0x000000, 0x000000, 0x000000, 0x000000, 0x000000, .link⟩,
  ⟨0xF0B806, 16, 128, 1, 1, 0x000000, 0x000000, 0x000000, 0xFFFFFF, 0x000000, 0x000000, .link⟩,
  ⟨0xF0B807, 16, 128, 1, 1, 0x000000, 0x000000, 0x000000, 0xFFFFFF, 0x000000, 0x000000, .link⟩,
  ⟨0xF0B808, 16, 128, 1, 1, 0x000000, 0x000000, 0x000000, 0x000000, 0xFFFFFF, 0xFFFFFF, .link⟩,
  ⟨0xF0B809, 16, 128, 1, 1, 0x000000, 0x000000, 0x000000, 0x000000, 0xFFFFFF, 0xFFFFFF, .link⟩,
  ⟨0xF0C000, 1, 1, 1, 1, 0x000005, 0x000000, 0x000000, 0x000002, 0x000000, 0x000000, .link⟩,
  ⟨0xF0C001, 1, 1, 1, 1, 0x00007F, 0x000000, 0x000000, 0x000000, 0x000000, 0x000061, .link⟩,
  ⟨0xF0C002, 1, 1, 1, 1, 0x00FFFF, 0x000000, 0x000000, 0x000000, 0x000000, 0x000000, .link⟩,
  ⟨0xF0C003, 1, 1, 1, 1, 0x000000, 0x000000, 0x000000, 0x000000, 0x3F1F1F, 0x000000, .link⟩,
  ⟨0xF0C008, 1, 8, 1, 1, 0xFFFFFF, 0x000000, 0x000000, 0x000000, 0x000000, 0x000000, .link⟩,
  ⟨0xF0C010, 1, 1, 1, 1, 0x00003F, 0x000000, 0x000000, 0x000040, 0x000000, 0x000000, .link⟩,
  ⟨0xF0C018, 1, 8, 1, 1, 0xFFFFFF, 0x000000, 0x000000, 0x000000, 0x000000, 0x000000, .link⟩,
  ⟨0xF0C020, 1, 10, 1, 1, 0x000000, 0x000000, 0x000000, 0x000000, 0xFFFFFF, 0x000000, .link⟩,
  ⟨0xF0D000, 1, 1, 1, 1, 0x000001, 0x000000, 0x000000, 0x000002, 0x000000, 0x000000, .link⟩,
  ⟨0xF0D001, 1, 1, 1, 1, 0x000007, 0x000000, 0x000000, 0x000000, 0x000000, 0x000004, .link⟩,
  ⟨0xF0D002, 1, 1, 1, 1, 0x03FFFF, 0x000000, 0x000000, 0x000000, 0x000000, 0x030341, .link⟩,
  ⟨0xF0D003, 1, 1, 1, 1, 0x000000, 0x000000, 0x000000, 0x000000, 0x00FFFF, 0x000000, .link⟩]

/-- Part 5 of the map, in the order of the chapters. -/
def regRows5 : List RegRow := [
  ⟨0xF0D010, 16, 6, 1, 1, 0xFF0003, 0x000000, 0x000000, 0x000000, 0x000000, 0xFF0001, .link⟩,
  ⟨0xF0D011, 16, 6, 1, 1, 0x0000FF, 0x000000, 0x000000, 0x000000, 0x000000, 0x000000, .link⟩,
  ⟨0xF0D012, 16, 6, 1, 1, 0x000000, 0x000000, 0x000000, 0x000000, 0xFFFFF0, 0x000040, .link⟩,
  ⟨0xF0D013, 16, 6, 1, 1, 0x000000, 0x000000, 0x000000, 0x000000, 0x0000FF, 0x000000, .link⟩,
  ⟨0xF0D018, 16, 6, 1, 8, 0x000000, 0x000000, 0x000000, 0x000000, 0xFFFFFF, 0x000000, .link⟩,
  ⟨0xF0D080, 8, 4, 1, 1, 0x000000, 0x000000, 0x000000, 0xFFFFFF, 0x000000, 0x000000, .link⟩,
  ⟨0xF0D081, 8, 4, 1, 1, 0xFFFFFF, 0x000000, 0x000000, 0x000000, 0x000000, 0x000000, .link⟩,
  ⟨0xF0D082, 8, 4, 1, 1, 0x000FFF, 0x000000, 0x000000, 0x000000, 0x000000, 0x000157, .link⟩,
  ⟨0xF0D083, 8, 4, 1, 1, 0x000000, 0x000000, 0x000000, 0x000000, 0x000FFF, 0x000000, .link⟩,
  ⟨0xF0D084, 8, 4, 1, 1, 0x000FFF, 0x000000, 0x000000, 0x000000, 0x000000, 0x000000, .link⟩,
  ⟨0xF0D085, 8, 4, 1, 1, 0x000000, 0x000000, 0x000000, 0x000000, 0x000003, 0x000000, .link⟩,
  ⟨0xF0E000, 1, 1, 1, 1, 0x000001, 0x000000, 0x000000, 0x000006, 0x000000, 0x000001, .link⟩,
  ⟨0xF0E001, 1, 1, 1, 1, 0x00001F, 0x000000, 0x000000, 0x000000, 0x000000, 0x000008, .link⟩,
  ⟨0xF0E002, 1, 1, 1, 1, 0x000000, 0x008000, 0x000000, 0x000000, 0x000033, 0x000000, .link⟩,
  ⟨0xF0E003, 1, 2, 1, 1, 0xFFFFFF, 0x000000, 0x000000, 0x000000, 0x000000, 0x000000, .link⟩,
  ⟨0xF0E005, 1, 1, 1, 1, 0x000002, 0x000000, 0x000000, 0x000004, 0x000000, 0x000000, .link⟩,
  ⟨0xF0E006, 1, 1, 1, 1, 0xF00000, 0x000000, 0x000000, 0x000000, 0x000000, 0x000000, .link⟩,
  ⟨0xF0E007, 1, 1, 1, 1, 0x000000, 0x000000, 0x000000, 0x000000, 0xFFFFFF, 0x000000, .link⟩,
  ⟨0xF0E008, 1, 1, 1, 1, 0x00000F, 0x000000, 0x000000, 0x000030, 0x000000, 0x000000, .link⟩,
  ⟨0xF0E009, 1, 1, 1, 1, 0x000000, 0x000000, 0x000000, 0x000000, 0xC0FFFF, 0x000000, .link⟩,
  ⟨0xF0E00A, 1, 1, 1, 1, 0x000000, 0x000000, 0x000000, 0x000000, 0x00FFFF, 0x000000, .link⟩,
  ⟨0xF0E010, 1, 4, 1, 1, 0x000000, 0x000000, 0x000000, 0x000000, 0xFFFFFF, 0x000000, .link⟩,
  ⟨0xF15000, 64, 4, 1, 5, 0xFFFFFF, 0x000000, 0x000000, 0x000000, 0x000000, 0x000000, .application⟩,
  ⟨0xF15005, 64, 4, 1, 1, 0x0000FF, 0x000000, 0x000000, 0x000000, 0x000000, 0x000000, .application⟩,
  ⟨0xF15008, 64, 4, 1, 5, 0x000000, 0xFFFFFF, 0x000000, 0x000000, 0x000000, 0x000000, .application⟩,
  ⟨0xF1500D, 64, 4, 1, 1, 0x000000, 0x0000FF, 0x000000, 0x000000, 0x000000, 0x000000, .application⟩,
  ⟨0xF15010, 64, 4, 1, 16, 0xFFFFFF, 0x000000, 0x000000, 0x000000, 0x000000, 0x000000, .application⟩,
  ⟨0xF15020, 64, 4, 1, 1, 0x000000, 0x000000, 0x000000, 0x000000, 0x8003FF, 0x000000, .application⟩,
  ⟨0xF15021, 64, 4, 1, 1, 0x000000, 0x000000, 0x000000, 0x00007F, 0x000000, 0x000000, .application⟩,
  ⟨0xF15100, 1, 1, 1, 1, 0x00000F, 0x000000, 0x000000, 0x000000, 0x000F00, 0x000000, .application⟩,
  ⟨0xF15101, 1, 1, 1, 1, 0x000003, 0x000000, 0x000000, 0x000000, 0x000000, 0x000000, .application⟩,
  ⟨0xF15110, 4, 4, 1, 1, 0x70FFFF, 0x000000, 0x800000, 0x000000, 0x000000, 0x0003E8, .application⟩,
  ⟨0xF15111, 4, 4, 1, 1, 0x000000, 0x000000, 0x000000, 0xFFFFFF, 0x000000, 0x000000, .application⟩,
  ⟨0xF15112, 4, 4, 1, 1, 0x000000, 0x000000, 0x000000, 0x000000, 0x00FFFF, 0x0003E8, .application⟩]

/-- Part 6 of the map, in the order of the chapters. -/
def regRows6 : List RegRow := [
  ⟨0xF15113, 4, 4, 1, 1, 0x000000, 0x000003, 0x000000, 0x000000, 0x000000, 0x000000, .application⟩,
  ⟨0xF10000, 1, 1, 1, 1, 0x000000, 0x000000, 0x000000, 0x000001, 0x000000, 0x000000, .chip⟩,
  ⟨0xF10001, 1, 1, 1, 1, 0x00FFFF, 0x000000, 0x000000, 0x000000, 0x000000, 0x000400, .chip⟩,
  ⟨0xF10002, 1, 1, 1, 1, 0x000000, 0x000000, 0x000000, 0x000000, 0xFFFFFF, 0x600000, .chip⟩,
  ⟨0xF10003, 1, 1, 1, 1, 0x000000, 0x000000, 0x000000, 0x000000, 0xFFFFFF, 0x000000, .chip⟩,
  ⟨0xF10004, 1, 1, 1, 1, 0x000000, 0x000000, 0x000000, 0x000000, 0xFFFFFF, 0x000000, .chip⟩,
  ⟨0xF10005, 1, 1, 1, 1, 0x000000, 0x000000, 0x000000, 0x000000, 0xFFFFFF, 0x000000, .chip⟩,
  ⟨0xF10006, 1, 1, 1, 1, 0x000000, 0x000001, 0x000000, 0x000000, 0xFFE000, 0x000000, .chip⟩,
  ⟨0xF10008, 1, 5, 1, 1, 0x000000, 0x000000, 0x000000, 0x000000, 0xFFFFFF, 0x000000, .chip⟩,
  ⟨0xF10010, 1, 1, 1, 1, 0xFFFFFF, 0x000000, 0x000000, 0x000000, 0x000000, 0x000000, .chip⟩,
  ⟨0xF10011, 1, 1, 1, 1, 0x0000FF, 0x000000, 0x000000, 0x000000, 0x000000, 0x000000, .chip⟩,
  ⟨0xF10012, 1, 1, 1, 1, 0x00011F, 0x000000, 0x000000, 0x000000, 0x000000, 0x000000, .chip⟩,
  ⟨0xF10020, 1, 1, 1, 1, 0x00FFFF, 0x000000, 0x000000, 0x000000, 0x000000, 0x000000, .chip⟩,
  ⟨0xF10021, 1, 1, 1, 1, 0x000000, 0x000000, 0x000000, 0x000000, 0x00FFFF, 0x000000, .chip⟩,
  ⟨0xF10022, 1, 1, 1, 1, 0x000000, 0x000000, 0x000000, 0x000000, 0x00FFFF, 0x000000, .chip⟩,
  ⟨0xF10023, 1, 1, 1, 1, 0x03FFFF, 0x000000, 0x000000, 0x000000, 0x000000, 0x030000, .chip⟩,
  ⟨0xF10024, 1, 1, 1, 1, 0x000001, 0x000000, 0x000000, 0x000000, 0x000000, 0x000000, .chip⟩,
  ⟨0xF10030, 1, 1, 1, 1, 0x00007F, 0x000000, 0x000000, 0x000000, 0x000000, 0x000000, .chip⟩,
  ⟨0xF10031, 1, 1, 1, 1, 0x000000, 0x000000, 0x000000, 0x000000, 0xFFFFFF, 0x000000, .chip⟩,
  ⟨0xF10032, 1, 1, 1, 1, 0x000000, 0x000000, 0x000000, 0x000000, 0x0000FF, 0x000000, .chip⟩,
  ⟨0xF11000, 1, 1, 1, 1, 0x000000, 0x000000, 0x000000, 0x000000, 0xF80001, 0x000000, .chip⟩,
  ⟨0xF11001, 1, 1, 1, 1, 0x000000, 0x000000, 0x000000, 0x000000, 0xFFFFFF, 0x000000, .chip⟩,
  ⟨0xF11002, 1, 8, 1, 1, 0x000000, 0x000000, 0x000000, 0x000000, 0xFFFFFF, 0x000000, .chip⟩,
  ⟨0xF1100A, 1, 1, 1, 1, 0x000000, 0x000000, 0x000000, 0x000000, 0xFFF807, 0x000000, .chip⟩,
  ⟨0xF1100B, 1, 1, 1, 1, 0x000000, 0x000000, 0x000000, 0x000000, 0x9FFFFF, 0x000000, .chip⟩,
  ⟨0xF1100C, 1, 2, 1, 1, 0x000000, 0x000000, 0x000000, 0x000000, 0xFFFFFF, 0x000000, .chip⟩,
  ⟨0xF1100E, 1, 2, 1, 1, 0x000000, 0x000000, 0x000000, 0x000000, 0xFFFFFF, 0x000000, .chip⟩,
  ⟨0xF12000, 1, 1, 1, 1, 0x000001, 0x000000, 0x000000, 0x000000, 0x000000, 0x000001, .chip⟩,
  ⟨0xF12001, 1, 1, 1, 1, 0x000000, 0x000000, 0x000000, 0x000000, 0x00000F, 0x000000, .chip⟩,
  ⟨0xF12004, 1, 1, 1, 1, 0x000000, 0xFFFFFF, 0x000000, 0x000000, 0x000000, 0x000000, .chip⟩,
  ⟨0xF12005, 1, 1, 1, 1, 0x000000, 0x0000FF, 0x000000, 0x000000, 0x000000, 0x000000, .chip⟩,
  ⟨0xF12100, 16, 32, 1, 1, 0x000005, 0x000000, 0x000000, 0x00001A, 0x000000, 0x000000, .chip⟩]

/-- Part 7 of the map, in the order of the chapters. -/
def regRows7 : List RegRow := [
  ⟨0xF12101, 16, 32, 1, 1, 0xFFFFFF, 0x000000, 0x000000, 0x000000, 0x000000, 0x000000, .chip⟩,
  ⟨0xF12102, 16, 32, 1, 1, 0x000000, 0x000300, 0x000000, 0x000000, 0xF004F7, 0x000000, .chip⟩,
  ⟨0xF12103, 16, 32, 1, 1, 0x0000FF, 0x000000, 0x000000, 0x000000, 0x000000, 0x000000, .chip⟩,
  ⟨0xF12104, 16, 32, 1, 4, 0xFFFFFF, 0x000000, 0x000000, 0x000000, 0x000000, 0x000000, .chip⟩,
  ⟨0xF12108, 16, 32, 1, 2, 0x000000, 0x000000, 0x000000, 0x000000, 0xFFFFFF, 0x000000, .chip⟩,
  ⟨0xF1210A, 16, 32, 1, 1, 0x000000, 0x000000, 0x000000, 0x000000, 0xFFFFFF, 0x000000, .chip⟩,
  ⟨0xF13000, 2, 64, 1, 1, 0x7FFF00, 0x000000, 0x800000, 0x000000, 0x000000, 0x3FC000, .alwaysOn⟩,
  ⟨0xF13001, 2, 64, 1, 1, 0xFFFF00, 0x000000, 0x000000, 0x000000, 0x000000, 0x000000, .alwaysOn⟩,
  ⟨0xF13100, 2, 32, 1, 1, 0xFFFFFF, 0x000000, 0x000000, 0x000000, 0x000000, 0xB0B0B0, .alwaysOn⟩,
  ⟨0xF13101, 2, 32, 1, 1, 0xFFFC00, 0x000000, 0x000000, 0x000000, 0x000001, 0x000000, .alwaysOn⟩,
  ⟨0xF13180, 1, 1, 1, 1, 0xFFFFFF, 0x000000, 0x000000, 0x000000, 0x000000, 0xFFFFFF, .alwaysOn⟩,
  ⟨0xF13184, 1, 4, 1, 1, 0x0000FF, 0x000000, 0x000000, 0x000000, 0x000000, 0x000000, .alwaysOn⟩,
  ⟨0xF13188, 1, 8, 1, 1, 0x00033F, 0x000000, 0x000000, 0x000000, 0x000000, 0x000000, .alwaysOn⟩,
  ⟨0xF14000, 8, 16, 1, 1, 0x000000, 0x000000, 0x000000, 0x000001, 0x000000, 0x000000, .alwaysOn⟩,
  ⟨0xF14001, 8, 16, 1, 1, 0xE000FF, 0x000000, 0x000000, 0x000000, 0x000000, 0x000000, .alwaysOn⟩,
  ⟨0xF14002, 8, 16, 1, 1, 0xFFFFFF, 0x000000, 0x000000, 0x000000, 0x000000, 0xFFFFFF, .alwaysOn⟩,
  ⟨0xF14003, 8, 16, 1, 1, 0x000000, 0x000000, 0x000000, 0x000000, 0xFFFFFF, 0x000000, .alwaysOn⟩,
  ⟨0xF14004, 8, 16, 1, 1, 0x000000, 0x000000, 0x000000, 0x000000, 0xFFFFFF, 0x000000, .alwaysOn⟩,
  ⟨0xF14005, 8, 16, 1, 1, 0x000000, 0x00002D, 0x000000, 0x000000, 0x000012, 0x000000, .alwaysOn⟩,
  ⟨0xF00000, 1, 1, 1, 1, 0x000000, 0x000000, 0x000000, 0x000000, 0xFFFFFF, 0x8054C3, .alwaysOn⟩,
  ⟨0xF00001, 1, 1, 1, 1, 0x000000, 0x000000, 0x000000, 0x000000, 0x0000FF, 0x000029, .alwaysOn⟩,
  ⟨0xF00002, 1, 1, 1, 1, 0x000000, 0x000000, 0x000000, 0x000000, 0xFFF001, 0x111000, .alwaysOn⟩,
  ⟨0xF00003, 1, 1, 1, 1, 0x000003, 0x000000, 0x000000, 0x000004, 0x000000, 0x000000, .alwaysOn⟩,
  ⟨0xF00004, 1, 1, 1, 1, 0x000010, 0x000000, 0x000000, 0x000000, 0x00000F, 0x000000, .alwaysOn⟩,
  ⟨0xF01000, 1, 1, 1, 1, 0x000000, 0x000000, 0x000000, 0x000000, 0x0000F7, 0x0000F4, .alwaysOn⟩,
  ⟨0xF01001, 1, 1, 1, 1, 0x000007, 0x000000, 0x000000, 0x800000, 0x000000, 0x000004, .alwaysOn⟩,
  ⟨0xF01002, 1, 1, 1, 1, 0x000007, 0x000000, 0x000000, 0x000000, 0x000000, 0x000004, .alwaysOn⟩,
  ⟨0xF01003, 1, 1, 1, 1, 0x000000, 0x000000, 0x000000, 0x000000, 0xC3FFFF, 0x000000, .alwaysOn⟩,
  ⟨0xF01004, 1, 1, 1, 1, 0x000000, 0x800000, 0x000000, 0x000000, 0x001FFF, 0x000000, .alwaysOn⟩,
  ⟨0xF01005, 1, 1, 1, 1, 0x000000, 0x000000, 0x000000, 0x000000, 0x000FFF, 0x000000, .alwaysOn⟩,
  ⟨0xF01008, 1, 1, 1, 1, 0x000FFF, 0x000000, 0x000000, 0x000000, 0x000000, 0x000000, .alwaysOn⟩,
  ⟨0xF01009, 1, 1, 1, 1, 0x000000, 0x00000F, 0x000000, 0x000000, 0x000000, 0x000000, .alwaysOn⟩]

/-- Part 8 of the map, in the order of the chapters. -/
def regRows8 : List RegRow := [
  ⟨0xF01010, 1, 1, 1, 1, 0x000000, 0x000000, 0x000000, 0x000000, 0xFFE0F3, 0x000000, .alwaysOn⟩,
  ⟨0xF01011, 1, 3, 1, 1, 0x000000, 0x000000, 0x000000, 0x000000, 0xFFFFFF, 0x000000, .alwaysOn⟩,
  ⟨0xF02000, 1, 1, 1, 1, 0x000001, 0x000000, 0x000000, 0x000000, 0x000000, 0x000000, .alwaysOn⟩,
  ⟨0xF02001, 1, 1, 1, 1, 0x000000, 0x000000, 0x000000, 0x000000, 0x00001F, 0x000002, .alwaysOn⟩,
  ⟨0xF02002, 1, 1, 1, 1, 0x8003FF, 0x000000, 0x000000, 0x000000, 0x000000, 0x800000, .alwaysOn⟩,
  ⟨0xF02003, 1, 1, 1, 1, 0x00007F, 0x000000, 0x000000, 0x000000, 0x000000, 0x000000, .alwaysOn⟩,
  ⟨0xF03000, 1, 1, 1, 1, 0x000000, 0x000000, 0x000001, 0x000000, 0x000006, 0x000000, .backup⟩,
  ⟨0xF03001, 1, 1, 1, 1, 0x0000F7, 0x000000, 0x000000, 0x000000, 0x000000, 0x000000, .backup⟩,
  ⟨0xF03002, 1, 1, 1, 1, 0x000000, 0x000000, 0x000000, 0x000000, 0xFFFFFF, 0x000000, .backup⟩,
  ⟨0xF03003, 1, 1, 1, 1, 0x000000, 0x000000, 0x000000, 0x000000, 0xFFFFFF, 0x000000, .backup⟩,
  ⟨0xF03004, 1, 2, 1, 1, 0xFFFFFF, 0x000000, 0x000000, 0x000000, 0x000000, 0x000000, .backup⟩,
  ⟨0xF03006, 1, 1, 1, 1, 0x00003C, 0x000000, 0x000000, 0x000001, 0x000000, 0x000020, .backup⟩,
  ⟨0xF03007, 1, 1, 1, 1, 0x000FFF, 0x000000, 0x000000, 0x000000, 0x000000, 0x000000, .backup⟩,
  ⟨0xF03008, 1, 1, 1, 1, 0x000000, 0x000000, 0x000000, 0x000000, 0x800FFF, 0x000000, .backup⟩,
  ⟨0xF03010, 4, 2, 1, 2, 0xFFFFFF, 0x000000, 0x000000, 0x000000, 0x000000, 0x000000, .backup⟩,
  ⟨0xF03012, 4, 2, 1, 1, 0x0001BF, 0x000000, 0x000000, 0x000000, 0x000000, 0x000000, .backup⟩,
  ⟨0xF03018, 1, 1, 1, 1, 0x000000, 0x00000F, 0x000000, 0x000000, 0x000000, 0x000000, .backup⟩,
  ⟨0xF18000, 1, 48, 1, 1, 0x0003FE, 0x000000, 0x000000, 0x000000, 0x000001, 0x000210, .alwaysOn⟩,
  ⟨0xF1F000, 1, 1, 1, 1, 0x0000F0, 0x000000, 0x000000, 0x3FFF00, 0x000000, 0x000000, .alwaysOn⟩,
  ⟨0xF1F001, 1, 1, 1, 1, 0x000000, 0x000000, 0x000000, 0x000000, 0x0000FF, 0x000000, .alwaysOn⟩,
  ⟨0xF1F002, 1, 1, 1, 1, 0xC007FF, 0x000000, 0x000000, 0x000000, 0x000000, 0x000000, .alwaysOn⟩,
  ⟨0xF1F003, 1, 1, 1, 1, 0xFFFFFF, 0x000000, 0x000000, 0x000000, 0x000000, 0x000000, .alwaysOn⟩,
  ⟨0xF1F004, 1, 1, 1, 1, 0x000003, 0x000000, 0x000000, 0x000000, 0x000000, 0x000000, .alwaysOn⟩,
  ⟨0xF1F100, 16, 4, 4, 4, 0xFFFFFF, 0x000000, 0x000000, 0x000000, 0x000000, 0x000000, .alwaysOn⟩,
  ⟨0xF1F101, 16, 4, 4, 4, 0xFFFFFF, 0x000000, 0x000000, 0x000000, 0x000000, 0x000000, .alwaysOn⟩,
  ⟨0xF1F102, 16, 4, 4, 4, 0x00000F, 0x000000, 0x000000, 0x000000, 0x000000, 0x000000, .alwaysOn⟩,
  ⟨0xF1F200, 8, 4, 1, 3, 0x000000, 0x000000, 0x000000, 0x000000, 0xFFFFFF, 0x000000, .alwaysOn⟩,
  ⟨0xF1F203, 8, 4, 1, 1, 0x000000, 0xC00000, 0x000000, 0x000000, 0x00003F, 0x000000, .alwaysOn⟩]

/-- Qn_CFG's reset value: CLASS n mod 4 for n ≤ 15, else 3; FRAMES 1 for n ≤ 31. -/
def qCfgReset (n : Nat) : Nat := (if n ≤ 15 then n % 4 else 3) * 2 ^ 22 + (if n ≤ 31 then 2 ^ 21 else 0)

/-- Tt_CFG's reset value: NOTMASK 0xFF, EN 1, ABORTALL 1 for t ≤ 1. -/
def tCfgReset (t : Nat) : Nat := 0xFF0000 + (if t ≤ 1 then 2 else 0) + 1

/-- Tt_PERM's reset value: 0xFF for t ≤ 1, else 0xBF. -/
def tPermReset (t : Nat) : Nat := if t ≤ 1 then 0xFF else 0xBF

/-- The whole map. -/
def regRows : List RegRow :=
  regRows0 ++ regRows1 ++ regRows2 ++ regRows3 ++ regRows4 ++ regRows5 ++ regRows6 ++ regRows7 ++ regRows8

/-- The row that holds word address `a`; none: the address is reserved or unimplemented (R4). -/
def regRow (a : Nat) : Option RegRow := regRows.find? (·.has a)

/-- The reset value of the stored register at `a`: the table's, with the three tables whose reset depends on the index
(Qn_CFG, Tt_CFG, Tt_PERM). -/
def regReset (a : Nat) : Word :=
  if 0xF0B800 ≤ a && a < 0xF0C000 && (a - 0xF0B800) % 16 == 0 then
    let n := (a - 0xF0B800) / 16
    BitVec.ofNat 24 (qCfgReset n)
  else if 0xF0D010 ≤ a && a < 0xF0D070 && (a - 0xF0D010) % 16 == 0 then
    BitVec.ofNat 24 (tCfgReset ((a - 0xF0D010) / 16))
  else if 0xF0D010 ≤ a && a < 0xF0D070 && (a - 0xF0D010) % 16 == 1 then
    BitVec.ofNat 24 (tPermReset ((a - 0xF0D010) / 16))
  else
    match regRow a with
    | some r => BitVec.ofNat 24 r.rst
    | none => 0

end Sys2Proof.Machine
end

