-- ==== Sys2Proof/Machine/Shipped.lean ====
section
/-! DEFINITION. What the two table banks ship with (R470), by offset within a bank. ITV980_TABLES.TXT, which R470 names, is not among
the spec's files: Heroft's OUI and group delays, which only it gives, are open values (log 7). -/
namespace Sys2Proof.Machine

open Sys2Proof

/-- LEAD of a routine state of this action (R59): WAKE_APP's LEAD is that of LISTEN. -/
def shippedLead (action : Nat) : Nat :=
  if action = 1 ∨ action = 2 ∨ action = 6 ∨ action = 8 then 50
  else if action = 3 ∨ action = 4 ∨ action = 5 then 60
  else if action = 9 then 10
  else if action = 0x0A then 2000
  else 0

/-- Word `j` of a routine state of this action. -/
def shippedRoutine (action j : Nat) : Nat :=
  if action = 0 ∨ 0x0A < action then 0
  else match j with
  | 0 => shippedLead action
  | 1 => if action = 1 ∨ action = 2 ∨ action = 6 then 5 else 0
  | 3 => 0x00FF00
  | 4 => 0xFF0000
  | _ => 0

/-- The tone-map thresholds of R160 in 0.1 dB, rate by rate, constellation 1 to 6. -/
def shippedThresholds : List Int :=
  [-14, 16, 64, 102, 135, 167] ++ [1, 33, 90, 138, 180, 219] ++ [11, 41, 101, 154, 201, 245] ++ [21, 51, 113, 170, 222, 272]

/-- The word at offset `o` of a bank as shipped. -/
def shippedWord (o : Nat) : BitVec 24 :=
  if o < 0x800 then BitVec.ofNat 24 (shippedRoutine (o / 8 % 128 / 8) (o % 8))
  else if 0x1000 ≤ o ∧ o < 0x1400 then
    if o % 2 = 0 then 0x800000 else if o < 0x1200 then 0x800000 else 0x780000
  else if 0x1C00 ≤ o ∧ o < 0x2400 then Config.groupDelay o
  else if o = 0x2408 then Config.oui
  else if o = 0x2409 then 0x640011
  else if o = 0x240A then 0x096003
  else if 0x2410 ≤ o ∧ o < 0x2428 then BitVec.ofNat 24 ((shippedThresholds.getD (o - 0x2410) 0) % 4096).toNat
  else 0

end Sys2Proof.Machine
end

