-- ==== Sys2Proof/Machine/Ops.lean ====
section
/-! DEFINITION. The shared operations over the state: sparse tables, bit fields, registers, memory octets and words, draws of
open values, and the predicates that say whether a part of the machine runs. -/
namespace Sys2Proof.Machine

open Sys2Proof

/-! ## Sparse tables

A table is a list of (key, value) pairs, keys strictly rising, that lists no key holding its default. -/

/-- The value at key `a`; `d` where the key is not listed. -/
def tabLook {β : Type} (d : β) : List (Nat × β) → Nat → β
  | [], _ => d
  | (k, v) :: t, a => if k = a then v else tabLook d t a

/-- The table without key `a`. -/
def tabDel {β : Type} (t : List (Nat × β)) (a : Nat) : List (Nat × β) := t.filter (fun e => e.1 ≠ a)

/-- The table with (a, v) inserted before the first greater key. -/
def tabIns {β : Type} : List (Nat × β) → Nat → β → List (Nat × β)
  | [], a, v => [(a, v)]
  | (k, w) :: t, a, v => if a < k then (a, v) :: (k, w) :: t else (k, w) :: tabIns t a v

/-- The table with key `a` holding `v`; a value equal to the default `d` is not listed. -/
def tabPut {β : Type} [DecidableEq β] (d : β) (t : List (Nat × β)) (a : Nat) (v : β) : List (Nat × β) :=
  if v = d then tabDel t a else tabIns (tabDel t a) a v

/-- Keys strictly rise. -/
def tabSorted {β : Type} : List (Nat × β) → Bool
  | [] => true
  | [_] => true
  | (k, _) :: (l, w) :: t => decide (k < l) && tabSorted ((l, w) :: t)

/-- The canonical form: keys strictly rise and no value equals its key's default. -/
def tabWf {β : Type} [DecidableEq β] (dflt : Nat → β) (t : List (Nat × β)) : Bool :=
  tabSorted t && t.all (fun e => decide (e.2 ≠ dflt e.1))

/-! ## Bit fields and words -/

/-- The field of `len` bits from bit `lo` up, as a number. -/
def bits {n : Nat} (v : BitVec n) (lo len : Nat) : Nat := v.toNat / 2 ^ lo % 2 ^ len

/-- The word with the field of `len` bits from bit `lo` replaced by `x` modulo 2^len. -/
def setBits (v : Word) (lo len x : Nat) : Word :=
  BitVec.ofNat 24 (v.toNat - bits v lo len * 2 ^ lo + x % 2 ^ len * 2 ^ lo)

/-- Bit `i` of a word. -/
def bitOf {n : Nat} (v : BitVec n) (i : Nat) : Bool := bits v i 1 == 1

/-- Octet of a number. -/
abbrev O (n : Nat) : Octet := BitVec.ofNat 8 n

/-- A number as a word, modulo 2^24. -/
abbrev W (n : Nat) : Word := BitVec.ofNat 24 n

/-- The `len`-bit field value read as two's complement. -/
def signed (x len : Nat) : Int := if x < 2 ^ (len - 1) then (x : Int) else (x : Int) - (2 ^ len : Nat)

/-- Sign extension of a field to 24 bits ("sext" of R307). -/
def sext {n : Nat} (v : BitVec n) : Word := v.signExtend 24

/-- Low word first (R2): word `i` of a value that spans several words. -/
def wordOf {n : Nat} (v : BitVec n) (i : Nat) : Word := W (v.toNat / 2 ^ (24 * i))

/-- Octet `lane` of a word (R1): lane 0 is bits [7:0], lane 2 bits [23:16]. -/
def laneOf (v : Word) (lane : Nat) : Octet := BitVec.ofNat 8 (v.toNat / 2 ^ (8 * lane))

/-- The word with octet `lane` replaced. -/
def setLane (v : Word) (lane : Nat) (o : Octet) : Word := setBits v (8 * lane) 8 o.toNat

/-- Octets as words, three to a word in lane order, the last padded with zeros (R1, R2). -/
def octetsToWords : List Octet → List Word
  | [] => []
  | [a] => [W a.toNat]
  | [a, b] => [W (a.toNat + 256 * b.toNat)]
  | a :: b :: c :: t => W (a.toNat + 256 * b.toNat + 65536 * c.toNat) :: octetsToWords t

/-- Words as octets in lane order. -/
def wordsToOctets : List Word → List Octet
  | [] => []
  | v :: t => laneOf v 0 :: laneOf v 1 :: laneOf v 2 :: wordsToOctets t

/-- A little-endian octet string as a number (R2). -/
def leNat : List Octet → Nat
  | [] => 0
  | o :: t => o.toNat + 256 * leNat t

/-- A number as `n` octets, low octet first (R2). -/
def natLe : Nat → Nat → List Octet
  | 0, _ => []
  | n + 1, x => BitVec.ofNat 8 x :: natLe n (x / 256)

/-- A word as its three octets, low octet first (R2). -/
def word3 (v : Word) : List Octet := [laneOf v 0, laneOf v 1, laneOf v 2]

/-- Three octets as a word, low octet first (R2). -/
def ofWord3 (l : List Octet) (at_ : Nat) : Word := W (leNat ((l.drop at_).take 3))

/-- The list with element `i` replaced, if it has one. -/
def listSet {β : Type} : List β → Nat → β → List β
  | [], _, _ => []
  | _ :: t, 0, v => v :: t
  | h :: t, i + 1, v => h :: listSet t i v

/-! ## Registers: the one home of every register, with its fields -/

/-- The register at word address `a`, as stored. -/
def State.reg (s : State) (a : Nat) : Word := tabLook (regReset a) s.regs a

/-- The state with the register at `a` holding `v`. -/
def State.setReg (s : State) (a : Nat) (v : Word) : State := { s with regs := tabPut (regReset a) s.regs a v }

/-- A field of a register. -/
def State.fld (s : State) (a lo len : Nat) : Nat := bits (s.reg a) lo len

/-- The state with a field of a register replaced. -/
def State.setFld (s : State) (a lo len x : Nat) : State := s.setReg a (setBits (s.reg a) lo len x)

/-- A bit of a register. -/
def State.bit (s : State) (a i : Nat) : Bool := s.fld a i 1 == 1

/-- The state with a bit of a register set to `b`. -/
def State.setBit (s : State) (a i : Nat) (b : Bool) : State := s.setFld a i 1 (if b then 1 else 0)

/-- The state with a counter register raised by `n`, saturating at 0xFFF_FFF. -/
def State.countBy (s : State) (a n : Nat) : State := s.setReg a (W (min 0xFFFFFF ((s.reg a).toNat + n)))

/-- The state with a counter register raised by one, saturating at 0xFFF_FFF. -/
def State.count (s : State) (a : Nat) : State := s.countBy a 1

/-- The state with the registers of the addresses that satisfy `p` back at their reset values. -/
def State.resetRegs (s : State) (p : Nat → Bool) : State :=
  { s with regs := s.regs.filter (fun e => !p e.1) }

/-- The registers at `a`, `a + 1`, …, as one value, low word first (R2). -/
def State.multi (s : State) (a : Nat) : Nat → Nat
  | 0 => 0
  | n + 1 => (s.reg a).toNat + 2 ^ 24 * s.multi (a + 1) n

/-- The state with `x` written to the `n` registers from `a` up, low word first. -/
def State.setMulti (s : State) (a : Nat) : Nat → Nat → State
  | 0, _ => s
  | n + 1, x => (s.setReg a (W x)).setMulti (a + 1) n (x / 2 ^ 24)

/-! ## Open values -/

/-- The state after one draw of an open value. -/
def State.drawn (s : State) : State := { s with draws := s.draws + 1 }

/-! ## Memory, without its error code -/

/-- What octet `a` of the word space reads as while it is not listed: the shipped words of the table banks (R470), erased
flash (all ones, log 4), the boot ROM's words, and zero elsewhere (log 4). -/
def memDefault (shipped : Bool) (a : Nat) : Octet :=
  let w := a / 3
  if 0x850000 ≤ w && w < 0x860000 then
    if shipped then laneOf (shippedWord ((w - 0x850000) % 0x8000)) (a % 3) else 0
  else if 0x100000 ≤ w && w < 0x500000 then 0xFF
  else if w < 0x10000 then laneOf (Config.bootRom w) (a % 3)
  else 0

/-- The memory's canonical form: addresses strictly rise and no entry equals what its address reads as unlisted. -/
def Memory.wf (m : Memory) : Bool := tabWf (memDefault m.shipped) m.cells

/-- One octet of memory. -/
def Memory.octet (m : Memory) (a : Nat) : Octet := tabLook (memDefault m.shipped a) m.cells a

/-- The memory with one octet replaced. -/
def Memory.setOctet (m : Memory) (a : Nat) (v : Octet) : Memory :=
  { m with cells := tabPut (memDefault m.shipped a) m.cells a v }

/-- The word at word address `w` (R1: lane 0 is bits [7:0]). -/
def Memory.word (m : Memory) (w : Nat) : Word :=
  W ((m.octet (3 * w)).toNat + 256 * (m.octet (3 * w + 1)).toNat + 65536 * (m.octet (3 * w + 2)).toNat)

/-- The memory with a word replaced. -/
def Memory.setWord (m : Memory) (w : Nat) (v : Word) : Memory :=
  ((m.setOctet (3 * w) (laneOf v 0)).setOctet (3 * w + 1) (laneOf v 1)).setOctet (3 * w + 2) (laneOf v 2)

/-- The memory whose words from `lo` up to `hi` (not included) read as unlisted. -/
def Memory.clear (m : Memory) (lo hi : Nat) : Memory :=
  { m with cells := m.cells.filter (fun e => !(decide (3 * lo ≤ e.1) && decide (e.1 < 3 * hi))) }

/-- The memory whose link memory has lost its contents: every word of it zero and no bank as shipped. -/
def Memory.loseLink (m : Memory) : Memory := { (m.clear 0x800000 0x880000) with shipped := false }

/-- The errors in a stored word are more than its code corrects: more than one of bits [30:0], or bit 31 (R348). -/
def badFlips (f : BitVec 32) : Bool := f.toNat &&& (f.toNat - 1) != 0 || decide (2 ^ 31 ≤ f.toNat)

/-- Flash sector of a word address. -/
abbrev sectorOf (a : Nat) : Nat := (a - 0x100000) / 0x1000

/-- First word of a flash sector. -/
abbrev sectorBase (n : Nat) : Nat := 0x100000 + 0x1000 * n

/-- The address is a flash word (R360). -/
abbrev flashRange (a : Nat) : Bool := 0x100000 ≤ a && a < 0x500000

/-- The word's contents are undefined: its sector is marked interrupted (R371), or an operation on its sector or line did not
finish (R366, R367). -/
def State.flashUndef (s : State) (a : Nat) : Bool :=
  s.flash.marks.contains (sectorOf a) || s.flash.badSectors.contains (sectorOf a) || s.flash.badLines.contains (a / 8 * 8)

/-- Stored word `v` at `w` with error bits `f` of its code word: corrected, or an open value where that cannot be. -/
def codeWord (w : Nat) (f : BitVec 32) (v : Word) : Word :=
  if f = 0 then v else if badFlips f then Config.badWord w f v else v ^^^ W f.toNat

/-- The word at `w` as the hardware's own engines and services read it: a single error of its code word is corrected (R348, R361); for a
word that they cannot correct, and for a flash word of undefined contents, they take an open value (log 69). The counts, the write-back and
the signal of such a read are `engScan`'s and `flashSee`'s. -/
def State.mw (s : State) (w : Nat) : Word :=
  if flashRange w then
    if s.flashUndef w then Config.openFlash s.draws w else codeWord w (tabLook 0 s.flash.errs w) (s.mem.word w)
  else codeWord w (tabLook 0 s.ecc.flips w) (s.mem.word w)

/-- The state with a stored word replaced; a fresh word carries no error. -/
def State.setMw (s : State) (w : Nat) (v : Word) : State :=
  { s with mem := s.mem.setWord w v, ecc := { s.ecc with flips := tabDel s.ecc.flips w } }

/-- The words from `w` up. -/
def State.mws (s : State) (w : Nat) : Nat → List Word
  | 0 => []
  | n + 1 => s.mw w :: s.mws (w + 1) n

/-- The state with the words of a list stored from `w` up. -/
def State.setMws (s : State) (w : Nat) : List Word → State
  | [] => s
  | v :: t => (s.setMw w v).setMws (w + 1) t

/-! ## Who acts and what runs -/

/-- The number an initiator's snapshots are kept under (R13). -/
def whoId : Who → Nat
  | .app k => k.val
  | .lcA => 4
  | .lcB => 5
  | .dbg => 6
  | .dma n => 16 + n.val

/-- PMU.MODE.MODE, the mode in force (R424). -/
def State.mode (s : State) : Nat := s.fld R.pmuMode 0 3

/-- The chip domain is out of reset and VMAIN is present: RESET_N is high (R439), the supplies of R455 are there, and no TAP
instruction holds it (R465). -/
def State.alive (s : State) : Bool :=
  s.pwr.vmain && !s.pwr.resetPin && !s.pwr.porWait && !s.pwr.tapHold

/-- A mode change has isolated the domains that its target stops (R426 step 5). -/
def State.isolatedTo (s : State) : Option Nat :=
  match s.pwr.change with
  | some c => if c.isolated then some (s.fld R.pmuMode 4 4) else none
  | none => none

/-- The mode that says which domains are powered: the target's once its isolation is done. -/
def State.domainMode (s : State) : Nat :=
  match s.isolatedTo with
  | some t => min t s.mode
  | none => s.mode

/-- The link domain's engines run: LISTEN and above (R424). -/
def State.linkRuns (s : State) : Bool := s.alive && 3 ≤ s.domainMode

/-- Link firmware's service is interrupted: the token moves, or the debugger halts the owner (R292, R294). -/
def State.fwDown (s : State) : Bool := s.lsup.move.isSome || s.bit R.dbgStat (4 + s.fld R.lsupStatus 0 1)

/-- The owning link core runs link firmware's service. -/
def State.serves (s : State) : Bool := s.linkRuns && !s.fwDown

/-- The chip domain's blocks run: LISTEN and above (R424: not the DMA and the groomer in DOZE). -/
def State.chipRuns (s : State) : Bool := s.alive && 3 ≤ s.domainMode

/-- The application cores run: RUN and FULL (R424). -/
def State.appRuns (s : State) : Bool := s.alive && 4 ≤ s.domainMode

/-- A command's outcome: its effect where `p` holds; where the event cannot occur nothing changes (log 1). -/
def act (p : Bool) (f : State → State) (s : State) : Host.Outcome State Fault Refusal :=
  if p then .next (f s) else .next s

/-- A commanded read: the value and the read's effect where it is honoured, zero where it is not (R4); the value stands in
`rdata`. -/
def readCmd (p : Bool) (f : State → Word × State) (s : State) : Host.Outcome State Fault Refusal :=
  if p then .next { (f s).2 with rdata := (f s).1 } else .next { s with rdata := 0 }

/-- Apply an effect under a condition. -/
def when (p : Bool) (f : State → State) (s : State) : State := if p then f s else s

/-- Apply an effect to each element of a list in turn. -/
def forAll {β : Type} (l : List β) (f : β → State → State) (s : State) : State := l.foldl (fun t x => f x t) s

end Sys2Proof.Machine
end

