-- ==== Sys2Proof/Machine/Crypto.lean ====
section
/-! DEFINITION. The published functions that the part's engines and CP0 compute: AES-128 (FIPS 197) with CCM* as
IEEE 802.15.4-2020 uses it (R177), SHA-256 (FIPS 180-4), and the CRCs the spec names. -/
namespace Sys2Proof.Machine

open Sys2Proof

/-! ## CRCs -/

/-- One bit of a CRC of `n` bits, most significant bit first. -/
def crcBit (n poly : Nat) (c : Nat) (b : Bool) : Nat :=
  let top := (c / 2 ^ (n - 1) % 2 == 1) != b
  let sh := c * 2 % 2 ^ n
  if top then sh ^^^ poly else sh

/-- One octet, most significant bit first. -/
def crcOctet (n poly c : Nat) (o : Octet) : Nat :=
  [7, 6, 5, 4, 3, 2, 1, 0].foldl (fun a i => crcBit n poly a (o.toNat / 2 ^ i % 2 == 1)) c

/-- A CRC of `n` bits over octets, no reflection, no final XOR. -/
def crc (n poly init : Nat) (l : List Octet) : Nat := l.foldl (crcOctet n poly) init

/-- CRC-24 of R189 and R249: polynomial 0x864_CFB, initial value 0xFFF_FFF. -/
def crc24 (l : List Octet) : Nat := crc 24 0x864CFB 0xFFFFFF l

/-! ## AES-128 -/

/-- Doubling in AES's field. -/
def xtime (a : Nat) : Nat := if a < 128 then 2 * a else (2 * a - 256) ^^^ 0x1B

/-- Product in AES's field. -/
def gmul (a b : Nat) : Nat :=
  ((List.range 8).foldl (fun (p : Nat × Nat) i => (if b / 2 ^ i % 2 = 1 then p.1 ^^^ p.2 else p.1, xtime p.2)) (0, a)).1

/-- Inverse in AES's field, 0 for 0: the 254th power. -/
def ginv (a : Nat) : Nat :=
  let a2 := gmul a a
  let a4 := gmul a2 a2
  let a8 := gmul a4 a4
  let a16 := gmul a8 a8
  let a32 := gmul a16 a16
  let a64 := gmul a32 a32
  let a128 := gmul a64 a64
  gmul a2 (gmul a4 (gmul a8 (gmul a16 (gmul a32 (gmul a64 a128)))))

/-- An octet turned left by `n` bits. -/
def rol8 (a n : Nat) : Nat := a * 2 ^ n % 256 + a / 2 ^ (8 - n)

/-- SubBytes of one octet. -/
def sbox (o : Octet) : Octet :=
  let x := ginv o.toNat
  BitVec.ofNat 8 (x ^^^ rol8 x 1 ^^^ rol8 x 2 ^^^ rol8 x 3 ^^^ rol8 x 4 ^^^ 0x63)

/-- InvSubBytes of one octet. -/
def invSbox (o : Octet) : Octet :=
  let x := o.toNat
  BitVec.ofNat 8 (ginv (rol8 x 1 ^^^ rol8 x 3 ^^^ rol8 x 6 ^^^ 0x05))

/-- Octet `i` of a list, zero beyond its end. -/
abbrev octAt (l : List Octet) (i : Nat) : Octet := l.getD i 0

/-- Two octet strings added bit by bit. -/
def xorL (a b : List Octet) : List Octet := List.zipWith (· ^^^ ·) a b

/-- The next round key. -/
def nextKey (k : List Octet) (rcon : Nat) : List Octet :=
  let t := [sbox (octAt k 13) ^^^ BitVec.ofNat 8 rcon, sbox (octAt k 14), sbox (octAt k 15), sbox (octAt k 12)]
  let w0 := xorL (k.take 4) t
  let w1 := xorL ((k.drop 4).take 4) w0
  let w2 := xorL ((k.drop 8).take 4) w1
  let w3 := xorL ((k.drop 12).take 4) w2
  w0 ++ w1 ++ w2 ++ w3

/-- The eleven round keys. -/
def roundKeys (k : List Octet) : List (List Octet) :=
  ([1, 2, 4, 8, 16, 32, 64, 128, 0x1B, 0x36].foldl
    (fun (l : List (List Octet)) r => l ++ [nextKey (l.getLastD []) r]) [k])

/-- ShiftRows. -/
def shiftRows (s : List Octet) : List Octet := (List.range 16).map (fun i => octAt s ((i + 4 * (i % 4)) % 16))

/-- InvShiftRows. -/
def invShiftRows (s : List Octet) : List Octet := (List.range 16).map (fun i => octAt s ((i + 12 * (i % 4)) % 16))

/-- MixColumns with the first row (a, b, c, d). -/
def mixColumns (a b c d : Nat) (s : List Octet) : List Octet :=
  (List.range 16).map (fun i =>
    let x := fun j => (octAt s (i / 4 * 4 + (i + j) % 4)).toNat
    BitVec.ofNat 8 (gmul (x 0) a ^^^ gmul (x 1) b ^^^ gmul (x 2) c ^^^ gmul (x 3) d))

/-- AES-128 encryption of a block of 16 octets under a key of 16 octets. -/
def aesEnc (key block : List Octet) : List Octet :=
  let ks := roundKeys key
  let s0 := xorL block (ks.getD 0 [])
  let s9 := [1, 2, 3, 4, 5, 6, 7, 8, 9].foldl
    (fun s r => xorL (mixColumns 2 3 1 1 (shiftRows (s.map sbox))) (ks.getD r [])) s0
  xorL (shiftRows (s9.map sbox)) (ks.getD 10 [])

/-- AES-128 decryption. -/
def aesDec (key block : List Octet) : List Octet :=
  let ks := roundKeys key
  let s0 := xorL block (ks.getD 10 [])
  let s9 := [9, 8, 7, 6, 5, 4, 3, 2, 1].foldl
    (fun s r => mixColumns 14 11 13 9 (xorL ((invShiftRows s).map invSbox) (ks.getD r []))) s0
  xorL ((invShiftRows s9).map invSbox) (ks.getD 0 [])

/-! ## CCM* with a 13-octet nonce -/

/-- Octets padded with zeros to a whole number of blocks. -/
def padBlock (l : List Octet) : List Octet := l ++ List.replicate ((16 - l.length % 16) % 16) 0

/-- A list cut into blocks of 16; `fuel` bounds them. -/
def blocks16 : Nat → List Octet → List (List Octet)
  | 0, _ => []
  | fuel + 1, l => if l.isEmpty then [] else l.take 16 :: blocks16 fuel (l.drop 16)

/-- `n` octets of a number, most significant first. -/
def natBe (n x : Nat) : List Octet := (natLe n x).reverse

/-- The authentication value of CCM* (`m` octets) over `a` authenticated and `p` encrypted octets, before its encryption. -/
def ccmMac (key nonce : List Octet) (m : Nat) (a p : List Octet) : List Octet :=
  let flags := (if a.isEmpty then 0 else 64) + 8 * ((m - 2) / 2) + 1
  let b0 := BitVec.ofNat 8 flags :: nonce ++ natBe 2 p.length
  let body := b0 ++ (if a.isEmpty then [] else padBlock (natBe 2 a.length ++ a)) ++ padBlock p
  ((blocks16 (body.length) body).foldl (fun x b => aesEnc key (xorL x b)) (List.replicate 16 0)).take m

/-- The key stream block `i` of CCM*. -/
def ccmStream (key nonce : List Octet) (i : Nat) : List Octet := aesEnc key (0x01#8 :: nonce ++ natBe 2 i)

/-- Octets combined with the key stream from block 1 on. -/
def ccmCrypt (key nonce : List Octet) (l : List Octet) : List Octet :=
  ((blocks16 l.length l).zipIdx).flatMap (fun e => xorL e.1 (ccmStream key nonce (e.2 + 1)))

/-- The MIC that is sent. -/
def ccmMic (key nonce : List Octet) (m : Nat) (a p : List Octet) : List Octet :=
  xorL (ccmMac key nonce m a p) (ccmStream key nonce 0)

/-! ## SHA-256 -/

/-- The round constants. -/
def shaK : List Nat :=
  [0x428a2f98, 0x71374491, 0xb5c0fbcf, 0xe9b5dba5, 0x3956c25b, 0x59f111f1, 0x923f82a4, 0xab1c5ed5] ++
  [0xd807aa98, 0x12835b01, 0x243185be, 0x550c7dc3, 0x72be5d74, 0x80deb1fe, 0x9bdc06a7, 0xc19bf174] ++
  [0xe49b69c1, 0xefbe4786, 0x0fc19dc6, 0x240ca1cc, 0x2de92c6f, 0x4a7484aa, 0x5cb0a9dc, 0x76f988da] ++
  [0x983e5152, 0xa831c66d, 0xb00327c8, 0xbf597fc7, 0xc6e00bf3, 0xd5a79147, 0x06ca6351, 0x14292967] ++
  [0x27b70a85, 0x2e1b2138, 0x4d2c6dfc, 0x53380d13, 0x650a7354, 0x766a0abb, 0x81c2c92e, 0x92722c85] ++
  [0xa2bfe8a1, 0xa81a664b, 0xc24b8b70, 0xc76c51a3, 0xd192e819, 0xd6990624, 0xf40e3585, 0x106aa070] ++
  [0x19a4c116, 0x1e376c08, 0x2748774c, 0x34b0bcb5, 0x391c0cb3, 0x4ed8aa4a, 0x5b9cca4f, 0x682e6ff3] ++
  [0x748f82ee, 0x78a5636f, 0x84c87814, 0x8cc70208, 0x90befffa, 0xa4506ceb, 0xbef9a3f7, 0xc67178f2]

/-- The initial hash value. -/
def shaInit : List (BitVec 32) :=
  [0x6a09e667, 0xbb67ae85, 0x3c6ef372, 0xa54ff53a, 0x510e527f, 0x9b05688c, 0x1f83d9ab, 0x5be0cd19]

/-- Rotation to the right. -/
abbrev rotr (x : BitVec 32) (n : Nat) : BitVec 32 := x.rotateRight n

/-- The message schedule: 64 words from a block's 16. -/
def shaSchedule (m : List (BitVec 32)) : List (BitVec 32) :=
  (List.range 48).foldl (fun w i =>
    let g := fun j => w.getD (i + j) 0
    let s0 := rotr (g 1) 7 ^^^ rotr (g 1) 18 ^^^ (g 1 >>> 3)
    let s1 := rotr (g 14) 17 ^^^ rotr (g 14) 19 ^^^ (g 14 >>> 10)
    w ++ [g 0 + s0 + g 9 + s1]) m

/-- One round. -/
def shaRound (h : List (BitVec 32)) (kw : BitVec 32) : List (BitVec 32) :=
  let a := h.getD 0 0; let b := h.getD 1 0; let c := h.getD 2 0; let d := h.getD 3 0
  let e := h.getD 4 0; let f := h.getD 5 0; let g := h.getD 6 0; let hh := h.getD 7 0
  let t1 := hh + (rotr e 6 ^^^ rotr e 11 ^^^ rotr e 25) + ((e &&& f) ^^^ (~~~e &&& g)) + kw
  let t2 := (rotr a 2 ^^^ rotr a 13 ^^^ rotr a 22) + ((a &&& b) ^^^ (a &&& c) ^^^ (b &&& c))
  [t1 + t2, a, b, c, d + t1, e, f, g]

/-- The hash value after one block of 16 words. -/
def shaBlock (h m : List (BitVec 32)) : List (BitVec 32) :=
  List.zipWith (· + ·) h
    (((shaSchedule m).zip shaK).foldl (fun s e => shaRound s (e.1 + BitVec.ofNat 32 e.2)) h)

/-- A block of 64 octets as 16 words, most significant octet first. -/
def shaWords : Nat → List Octet → List (BitVec 32)
  | 0, _ => []
  | n + 1, l => BitVec.ofNat 32 (leNat (l.take 4).reverse) :: shaWords n (l.drop 4)

/-- SHA-256 of octets. -/
def sha256 (l : List Octet) : List Octet :=
  let p := l ++ 0x80#8 :: List.replicate ((119 - l.length % 64) % 64) 0 ++ natBe 8 (8 * l.length)
  let n := p.length / 64
  let h := (List.range n).foldl (fun h i => shaBlock h (shaWords 16 (p.drop (64 * i)))) shaInit
  h.flatMap (fun w => natBe 4 w.toNat)

end Sys2Proof.Machine
end

