-- ==== Sys2Proof/Machine/Access.lean ====
section
/-! DEFINITION. Which accesses the part honours (R4): ownership of the registers, power of the domains (R82, R423), the
ownership token (R290), and the MPU of an application core (R327). -/
namespace Sys2Proof.Machine

open Sys2Proof

/-! ## Cores and their system registers -/

/-- Reset value of system register `n` (the system registers' tables of 12_qoris24_cores.md). -/
def sysReset (n : Nat) : Word :=
  if n = 0x010 ∨ n = 0x011 then 0x000001
  else if n = 0x020 then 0x000002
  else if 0x030 ≤ n ∧ n < 0x050 ∧ n % 2 = 1 then 0x100000
  else if n = 0x054 then 0x000001
  else 0

/-- Core `k`. -/
def State.core (s : State) (k : Fin 4) : Core := s.cores[k]

/-- The state with core `k` replaced. -/
def State.setCore (s : State) (k : Fin 4) (c : Core) : State := { s with cores := s.cores.set k c }

/-- A system register as stored. -/
def Core.sysReg (c : Core) (n : Nat) : Word := tabLook (sysReset n) c.sys n

/-- The core with a system register replaced. -/
def Core.setSys (c : Core) (n : Nat) (v : Word) : Core := { c with sys := tabPut (sysReset n) c.sys n v }

/-- Supervisor mode: STATUS.MODE = 1 (R326). -/
def Core.sup (c : Core) : Bool := bitOf (c.sysReg 0x010) 0

/-- CORECTL.OFFSTAT bit k. -/
def State.offline (s : State) (k : Nat) : Bool := s.bit R.intcCorectl (8 + k)

/-- DBG.STAT.HALTED bit k. -/
def State.halted (s : State) (k : Nat) : Bool := s.bit R.dbgStat k

/-! ## The MPU -/

/-- What an access does, for the MPU's three permissions. -/
inductive AccKind where
  | rd
  | wr
  | ex
  deriving DecidableEq, Repr

/-- log2 of the size of region `n`: below 4 acts as 4, above 24 as 24. -/
def Core.mpuLog (c : Core) (n : Nat) : Nat := min 24 (max 4 (bits (c.sysReg (0x031 + 2 * n)) 18 5))

/-- Region `n` is enabled and its span holds address `a`; BASE bits below LOG2SIZE are ignored (R327). -/
def Core.mpuHit (c : Core) (a n : Nat) : Bool :=
  bitOf (c.sysReg (0x031 + 2 * n)) 23 &&
    ((c.sysReg (0x030 + 2 * n)).toNat / 2 ^ c.mpuLog n == a / 2 ^ c.mpuLog n)

/-- The deciding region: the highest-numbered enabled one that holds the address. -/
def Core.mpuRegion (c : Core) (a : Nat) : Option Nat := (List.range 16).reverse.find? (c.mpuHit a)

/-- The bit of MPUAn that permits an access of this kind in the core's present mode. -/
def Core.permBit (c : Core) : AccKind → Nat
  | .rd => if c.sup then 3 else 0
  | .wr => if c.sup then 4 else 1
  | .ex => if c.sup then 5 else 2

/-- The MPU permits the access (R327). -/
def Core.mpuOk (c : Core) (a : Nat) (kd : AccKind) : Bool :=
  if !bitOf (c.sysReg 0x020) 0 then true
  else
    match c.mpuRegion a with
    | some n => bitOf (c.sysReg (0x031 + 2 * n)) (c.permBit kd)
    | none => c.sup && bitOf (c.sysReg 0x020) 1

/-- The deciding region has NC = 1 (R333). -/
def Core.mpuNc (c : Core) (a : Nat) : Bool :=
  bitOf (c.sysReg 0x020) 0 &&
    (match c.mpuRegion a with
     | some n => bitOf (c.sysReg (0x031 + 2 * n)) 17
     | none => false)

/-! ## Power of the domains -/

/-- RADIO_S (band 0) or RADIO_G (band 1) is powered (R82, R435). -/
def State.radioOn (s : State) (band : Nat) : Bool :=
  s.alive && !s.pwr.xoFail &&
    (4 ≤ s.domainMode || (s.domainMode == 3 && s.fld R.txcCtrl 0 1 == band))

/-- The band whose radio domain holds register address `a`: FES at w:F06, FEG at w:F07, LANE paths 0–1 and 2–3. -/
def radioBand (a : Nat) : Nat :=
  if a < 0xF07000 then 0 else if a < 0xF08000 then 1 else if a < 0xF08120 then 0 else 1

/-- The domain of the register at `a` is powered (R423). -/
def State.regPowered (s : State) (a : Nat) : Bool :=
  match regRow a with
  | none => false
  | some r =>
    match r.dom with
    | .backup => true
    | .alwaysOn => s.alive
    | .radio => s.radioOn (radioBand a)
    | _ => s.alive && 2 ≤ s.domainMode

/-! ## Ownership -/

/-- LSUP.STATUS.OWNER: link core B holds the token (R290). -/
def State.ownerB (s : State) : Bool := s.bit R.lsupStatus 0

/-- The initiator writes with link firmware's rights: the owning link core (R290), a DMA channel of link firmware (R387),
or the debug port (R467). -/
def State.firm (s : State) : Who → Bool
  | .lcA => !s.ownerB
  | .lcB => s.ownerB
  | .dma n => 24 ≤ n.val
  | .dbg => true
  | .app _ => false

/-- An application core in supervisor mode. -/
def State.appSup (s : State) : Who → Bool
  | .app k => (s.core k).sup
  | _ => false

/-- The application's initiators: its cores and its DMA channels (R387). -/
def isApp : Who → Bool
  | .app _ => true
  | .dma n => n.val < 24
  | _ => false

/-- MT registers that belong to link firmware (R37, R45 and the head of the MT registers). -/
def mtFirmOnly (a : Nat) : Bool :=
  a == R.mtCtrl || (R.mtRate0 ≤ a && a ≤ R.mtSlewcfg) || a == R.mtUset || a == R.mtUcfg || a == R.mtUalarm ||
    (R.mtLfratio0 ≤ a && a ≤ 0xF04018) || a == R.mtMflag1 || (0xF041C0 ≤ a && a < 0xF04200) || a == R.mtCapCfg 0

/-- Push rights of R218. -/
def State.qPushOk (s : State) (w : Who) (n : Nat) : Bool :=
  s.firm w || (32 ≤ n && isApp w) || 96 ≤ n

/-- Pop (and peek) rights of R218. -/
def State.qPopOk (s : State) (w : Who) (n : Nat) : Bool :=
  s.firm w || 96 ≤ n ||
    (32 ≤ n && n < 96 &&
      (match w with
       | .app k => (n - 32) / 16 == k.val
       | .dma _ => true
       | _ => false))

/-- A link core: the standby may read everything (R290), a queue's head by PEEK among it; POP takes a word, which R218 keeps for the owner. -/
def isLink : Who → Bool
  | .lcA => true
  | .lcB => true
  | _ => false

/-- The 4 Kword page of a register address. -/
def page (a : Nat) : Nat := (a - 0xF00000) / 0x1000

/-- The initiator owns the register for writing, by each block's own rules. -/
def State.ownsWrite (s : State) (w : Who) (a : Nat) : Bool :=
  match page a with
  | 0x00 | 0x01 | 0x02 | 0x03 =>
    s.firm w ||
      (s.appSup w &&
        (a == R.pmuWakecfg || a == R.pmuWakeflag || a == R.clkClkout || (R.rtcCount0 ≤ a && a ≤ R.rtcAlmstat)))
  | 0x04 => s.firm w || (isApp w && !mtFirmOnly a)
  | 0x0B =>
    if a == R.qmFreebuf then true
    else if 0xF0B800 ≤ a && (a % 16 == 6 || a % 16 == 7) then s.qPushOk w ((a - 0xF0B800) / 16)
    else s.firm w
  | 0x0C => s.firm w || (isApp w && R.rwinDb 0 ≤ a && a ≤ R.rwinDb 7)
  | 0x0D =>
    s.firm w ||
      (match w with
       | .app k => R.mbPost k.val ≤ a && a ≤ R.mbStatus k.val
       | _ => false)
  | 0x0E =>
    match w with
    | .lcA => if a == R.lsupHb 0 then true else if a == R.lsupHb 1 then false else a == R.lsupStbyrpt || !s.ownerB
    | .lcB => if a == R.lsupHb 1 then true else if a == R.lsupHb 0 then false else a == R.lsupStbyrpt || s.ownerB
    | _ => s.firm w && a != R.lsupHb 0 && a != R.lsupHb 1
  | 0x10 => s.firm w || (s.appSup w && a != R.eccFuseidx)
  | 0x11 => false
  | 0x12 => s.firm w || (isApp w && !(R.dmaChctrl 24 ≤ a) && a != R.dmaIflag1 && a != R.dmaCtrl)
  | 0x13 =>
    s.firm w ||
      (isApp w && !(R.evfCfg 56 ≤ a && a ≤ R.evfDst 63) && !(R.lutIn 28 ≤ a && a ≤ R.lutCtl 31))
  | 0x14 => s.firm w || (isApp w && a < R.gtCtrl 12)
  | 0x15 => s.appSup w || (s.firm w && (a == R.intcCorectl || a == R.intcFallback)) || w == .dbg
  | 0x18 => s.firm w || s.appSup w
  | 0x1F => w == .dbg
  | _ => s.firm w

/-- What the debug level shuts out of DBGACC at level 1 (R467): LINK, NBR, LSUP and CMDP. -/
def dbgShut (a : Nat) : Bool := page a == 0x0F || page a == 0x0E || page a == 0x0D

/-- The MPU of an application core permits the access; no MPU applies to any other initiator (R387). -/
def State.mpuAllows (s : State) (w : Who) (a : Nat) (kd : AccKind) : Bool :=
  match w with
  | .app k => (s.core k).mpuOk a kd
  | _ => true

/-- The debug level lets the debug port reach the register. -/
def State.dbgAllows (s : State) (w : Who) (a : Nat) : Bool :=
  !(w == .dbg) || (s.otp.debugLevel.toNat == 0) || (s.otp.debugLevel.toNat == 1 && !dbgShut a)

/-- A write of the register at `a` by `w` reaches it (R4): it exists, its domain is powered, `w` owns it, and `w`'s MPU
permits it. -/
def State.mayWrite (s : State) (w : Who) (a : Nat) : Bool :=
  s.regPowered a && s.ownsWrite w a && s.mpuAllows w a .wr && s.dbgAllows w a

/-- A read of the register at `a` by `w` is honoured (R4). -/
def State.mayRead (s : State) (w : Who) (a : Nat) : Bool :=
  s.regPowered a && page a != 0x11 && (page a != 0x1F || w == .dbg) && s.mpuAllows w a .rd && s.dbgAllows w a &&
    (if 0xF0B800 ≤ a && a < 0xF0C000 && (a % 16 == 8 || a % 16 == 9) then
       s.qPopOk w ((a - 0xF0B800) / 16) || (a % 16 == 9 && isLink w)
     else true)

/-- The effect of a register write that is honoured, nothing otherwise (R4). -/
def guardW (w : Who) (a : Nat) (f : State → State) (s : State) : State := if s.mayWrite w a then f s else s

/-- Plain write of a register: RW bits take the value, W1C bits written 1 clear, SO bits written 1 set, others keep (R3). -/
def plainWrite (a : Nat) (v : Word) (s : State) : State :=
  match regRow a with
  | none => s
  | some r =>
    let old := s.reg a
    let rw : Word := W r.rw
    let w1c : Word := W r.w1c
    let so : Word := W r.so
    s.setReg a (((old &&& ~~~rw) ||| (v &&& rw)) &&& ~~~(v &&& w1c) ||| (v &&& so))

/-- What a plain read of a register returns: its RW, W1C, SO and RO bits; WO and reserved bits read zero (R3, R4). -/
def plainRead (s : State) (a : Nat) : Word :=
  match regRow a with
  | none => 0
  | some r => s.reg a &&& W (r.rw + r.w1c + r.so + r.ro)

end Sys2Proof.Machine
end

