-- ==== Sys2Proof/Machine/Events.lean ====
section
/-! DEFINITION. Signal sources (R405): an event pends in the interrupt units (R335, R338) and, while the fabric acts (R408),
starts on its way to the fabric (R409). Gate signals (R406). -/
namespace Sys2Proof.Machine

open Sys2Proof

/-- The fabric acts: the XO runs (R408). -/
def State.fabricRuns (s : State) : Bool :=
  s.alive && 2 ≤ s.mode && s.bit R.clkStatus 0 && !s.bit R.mtStatus 0

/-- Ck_EN's bit for input `n`. -/
def State.intcEnabled (s : State) (k n : Nat) : Bool := s.bit (R.intcEn k (n / 24)) (n % 24)

/-- Ck_PEND's bit for input `n`. -/
def State.intcPending (s : State) (k n : Nat) : Bool := s.bit (R.intcPend k (n / 24)) (n % 24)

/-- The state with input `n` pending in core `k`. -/
def pendIn (k n : Nat) (s : State) : State := s.setBit (R.intcPend k (n / 24)) (n % 24) true

/-- The core that receives the inputs of offline cores: FALLBACK.CORE, or the lowest-numbered online core if that is offline
too; none with all four offline (R338). -/
def State.fallback (s : State) : Option Nat :=
  let f := s.fld R.intcFallback 0 2
  if !s.offline f then some f else (List.range 4).find? (fun k => !s.offline k)

/-- An event of input `n` at core `k`'s interrupt unit (R335), routed on while the core is offline (R338). -/
def pendEvent (n k : Nat) (s : State) : State :=
  if !s.intcEnabled k n then s
  else if !s.offline k then pendIn k n s
  else
    match s.fallback with
    | some t => pendIn t n (pendIn k n s)
    | none => s

/-- Fabric clocks before the fabric sees source `n` (R409). -/
def syncDelay (n : Nat) : Nat := if n ≤ 0x0E ∨ (0x45 ≤ n ∧ n ≤ 0x64) then 0 else 2

/-- Signal source `n` fires. -/
def fire (n : Nat) (s : State) : State :=
  let s1 := forAll [0, 1, 2, 3] (pendEvent n) s
  if s.fabricRuns && !(s.fab.arr.contains (n, syncDelay n)) then
    { s1 with fab := { s1.fab with arr := s1.fab.arr ++ [(n, syncDelay n)] } }
  else s1

/-- The level of PIN_LVLi: the selected ball's input; a ball of FUNC 2 and a selection of 48–63 read 0 (R463). -/
def State.pinLvl (s : State) (i : Nat) : Bool :=
  let p := s.fld R.pinlvl (6 * i) 6
  p < 48 && s.fld (R.gpioCfg p) 8 2 < 2 && bitOf s.pins.gpio p

/-- A lane bound to a path of the band is in STATE FRAME. -/
def State.rxFrame (s : State) (band : Nat) : Bool :=
  (List.range 16).any (fun n =>
    s.fld (R.laneStatus n) 0 3 == 2 && s.fld (R.laneBind n) 18 4 / 4 == band)

/-- An EMIT_EVENT activation with WINEN that has fired holds window level `m` (R54, R406). -/
def Activ.holdsLevel (a : Activ) (m : Nat) : Bool :=
  bits (a.w.getD 0 0) 4 6 == 7 && a.phase == 2 && bits (a.w.getD 4 0) 4 2 == m

/-- The level of gate signal `g` at its block (R406). -/
def State.gateSignal (s : State) (g : Nat) : Bool :=
  match g with
  | 0 | 1 | 2 | 3 => s.gates.acts.any (fun a => a.holdsLevel g)
  | 4 => s.bit (R.txcStatus 0) 1
  | 5 => s.bit (R.txcStatus 1) 1
  | 6 => s.rxFrame 0
  | 7 => s.rxFrame 1
  | 8 => s.fld R.mtSrc 8 3 == 2
  | 9 => s.fld R.gateC0lanes 0 16 != 0
  | 10 => s.pinLvl 0
  | 11 => s.pinLvl 1
  | 12 => s.pinLvl 2
  | 13 => s.pinLvl 3
  | 15 => true
  | _ => false

/-- The level of gate signal `g` as the fabric sees it: 0 to 3 and the constant at once, the others 2 clocks late (R409). -/
def State.gateSeen (s : State) (g : Nat) : Bool :=
  if g < 4 || 14 ≤ g then s.gateSignal g else bitOf s.fab.gs2 g

/-- All gate signals as a 16-bit vector. -/
def State.gateVector (s : State) : BitVec 16 :=
  BitVec.ofNat 16 ((List.range 16).foldl (fun a g => a + if s.gateSignal g then 2 ^ g else 0) 0)

end Sys2Proof.Machine
end

