-- ==== Sys2Proof/Machine/Notify.lean ====
section
/-! DEFINITION. Notices of the command port (R250, R251) and the codes link firmware sends on its own (R289). -/
namespace Sys2Proof.Machine

open Sys2Proof

/-- A notice on transport `t`: the result octets (code, sequence number, payload) join the transport's backlog; a full
backlog of 32 loses its oldest and NOTLOST counts (R250, R251). -/
def pushNotice (code : Nat) (payload : List Octet) (t : Nat) (s : State) : State :=
  let q := tabLook [] s.cmdp.notices t
  let seq := s.fld (R.tNotseq t) 0 8
  let item := BitVec.ofNat 8 code :: BitVec.ofNat 8 seq :: payload
  let s1 := s.setFld (R.tNotseq t) 0 8 ((seq + 1) % 256)
  let s2 := if q.length < 32 then s1 else s1.count (R.tCounters t 6)
  let q2 := (if q.length < 32 then q else q.drop 1) ++ [item]
  { s2 with cmdp := { s2.cmdp with notices := tabPut [] s2.cmdp.notices t q2 } }

/-- Tt_CFG.NOTMASK of the transport enables notices of this class. -/
def State.noticeEnabled (s : State) (cls t : Nat) : Bool := s.bit (R.tCfg t) (16 + cls)

/-- The first notice of a transport after its port was discarded is RESET: the domain, its cause, and CONT (R264, R289). It joins
the backlog at the transport's next event or notice. -/
def sayReset (t : Nat) (s : State) : State :=
  if bitOf s.cmdp.resetSaid t || !s.linkRuns then s
  else
    let s1 := { s with cmdp := { s.cmdp with resetSaid := s.cmdp.resetSaid ||| (1#6 <<< t) } }
    if s.noticeEnabled 0 t then
      let app := bitOf s.cmdp.resetApp t
      pushNotice 0x01 [O (if app then 1 else s.cmdp.resetDom), O (s.fld R.sysRstcause (if app then 12 else 16) 4),
        O (s.fld R.bkpStatus 0 1)] t s1
    else s1

/-- A notice on transport `t`, after a RESET that is still to come. -/
def noticeOn (code : Nat) (payload : List Octet) (t : Nat) (s : State) : State := pushNotice code payload t (sayReset t s)

/-- A notice of class `cls` goes to transport `t`. -/
def State.noticeGoes (s : State) (to_ : NoticeTo) (cls t : Nat) : Bool :=
  match to_ with
  | .all => s.noticeEnabled cls t
  | .but u => t != u && s.noticeEnabled cls t
  | .only u => t == u

/-- A notice of class `cls` is queued. -/
def noticeNow (n : LateNotice) (s : State) : State :=
  forAll [0, 1, 2, 3, 4, 5] (fun t u => if u.noticeGoes n.to_ n.cls t then noticeOn n.code n.payload t u else u) s

/-- A notice, while link firmware runs; one due while its service is interrupted waits for the resumption (R294, R295). -/
def noticeFor (n : LateNotice) (s : State) : State :=
  if s.serves then noticeNow n s
  else if s.linkRuns then { s with cmdp := { s.cmdp with lateNotices := s.cmdp.lateNotices ++ [n] } }
  else s

/-- A notice of class `cls` to every transport that enables it. -/
def notice (cls code : Nat) (payload : List Octet) (s : State) : State :=
  noticeFor { to_ := .all, cls := cls, code := code, payload := payload } s

/-- MT_STATE (0x10): MT_SRC.STATE or ACTIVE has changed. -/
def noticeMtState (s : State) : State :=
  notice 1 0x10 (O (s.fld R.mtSrc 8 3) :: O (s.fld R.mtSrc 6 2) :: word3 (s.reg R.mtUncert)) s

/-- FAULT (0x71): signal source 18 has fired for an engine or DMA access (source 18 and the word address), or FAULT has
been asserted (source 0, address 0). -/
def noticeFault (src : Nat) (a : Word) (s : State) : State := notice 7 0x71 (O src :: word3 a) s

end Sys2Proof.Machine
end

