-- ==== Sys2Proof/Machine/MeshTime.lean ====
section
/-! DEFINITION. Mesh time (01_mesh_time.md): the counter and its advance, slews, uncertainty, compare and capture channels,
bridging and the learned ratio. What reaches into gates and duty buckets at a step is in MeshStep. -/
namespace Sys2Proof.Machine

open Sys2Proof

/-- The mesh-time unit replaced. -/
def State.setMt (s : State) (m : MtState) : State := { s with mt := m }

/-- MT_STATUS.BRIDGED. -/
def State.bridged (s : State) : Bool := s.bit R.mtStatus 0

/-- MT_STATUS.SLEWING. -/
def State.slewing (s : State) : Bool := s.bit R.mtStatus 1

/-- The remaining slew offset in 1/256 ns, signed 48 bits (R21). -/
def State.slewRem (s : State) : Int := signed (s.multi R.mtSlew0 2) 48

/-- MT_SLEWCFG.PPM: 1 to 100. -/
def State.slewPpm (s : State) : Nat := s.fld R.mtSlewcfg 0 7

/-! ## Advance (R9, R21, R29) -/

/-- The counter advanced by one reference cycle: 6,400 × (1 + RATE × 2^-40) units, the fraction kept in 40 bits (R9). -/
def MtState.advance (m : MtState) : MtState :=
  let x : Int := (m.frac.toNat : Int) + 6400 * signed m.rate.toNat 32
  { m with ctr := m.ctr + BitVec.ofInt 72 (6400 + x / 2 ^ 40), frac := BitVec.ofNat 40 (x % 2 ^ 40).toNat }

/-- The slew ends: SLEWING clears and MT_SLEW_DONE fires (R21). -/
def slewDone (s : State) : State :=
  fire 0x0D ((s.setBit R.mtStatus 1 false).setMt { s.mt with slewZero := false, slewAcc := 0 })

/-- The slew's part of one tick: PPM × 0.0064 units in the direction of the offset, never past it (R21). -/
def slewTick (s : State) : State :=
  if s.slewing then
    let r := s.slewRem
    let acc := s.mt.slewAcc + 64 * s.slewPpm
    let n := min (acc / 10000) r.natAbs
    let d : Int := if r < 0 then -(n : Int) else n
    let s1 := (s.setMulti R.mtSlew0 2 (BitVec.ofInt 48 (r - d)).toNat).setMt
      { s.mt with ctr := s.mt.ctr + BitVec.ofInt 72 d, slewAcc := acc % 10000 }
    if r - d = 0 then slewDone s1 else s1
  else if s.mt.slewZero then slewDone s
  else s

/-- One LF tick's advance by the learned ratio, its 24-bit fraction kept with the counter's (R29). -/
def MtState.lfAdvance (m : MtState) (ratio : Nat) : MtState :=
  let x := m.frac.toNat + ratio % 2 ^ 24 * 2 ^ 16
  { m with ctr := m.ctr + BitVec.ofNat 72 (ratio / 2 ^ 24 + x / 2 ^ 40), frac := BitVec.ofNat 40 x }

/-! ## Uncertainty (R25, R27) -/

/-- MT_UNCERT_HIGH fires when MT_UNCERT > MT_UALARM has become true (R27). -/
def alarmCheck (s : State) : State :=
  let c := decide ((s.reg R.mtUalarm).toNat < (s.reg R.mtUncert).toNat)
  let s1 := s.setMt { s.mt with alarm := c }
  if c && !s.mt.alarm then notice 1 0x12 (word3 (s.reg R.mtUncert)) (fire 0x0E s1) else s1

/-- MT_UNCERT raised by `n` ns, saturating with USAT (R25). -/
def addUncert (n : Nat) (s : State) : State :=
  let u := (s.reg R.mtUncert).toNat + n
  alarmCheck (when (0xFFFFFF ≤ u) (fun t => t.setBit R.mtStatus 3 true) (s.setReg R.mtUncert (W (min u 0xFFFFFF))))

/-- MT_UNCERT grows by `u` units of 1/(256 × 10^9) ns (R25). -/
def growUncert (u : Nat) (s : State) : State :=
  let t := s.mt.ufrac + u
  addUncert (t / 256000000000) (s.setMt { s.mt with ufrac := t % 256000000000 })

/-- The growth of one reference tick: 25 ns at XOSTAB ppb. -/
def growTick (s : State) : State := growUncert (6400 * s.fld R.mtUcfg 0 12) s

/-- The growth of one LF tick while bridged: 30,517.578125 ns at LFSTAB ppb, or at 50,000 ppb while LF_VALID = 0. -/
def growLf (s : State) : State :=
  growUncert (7812500 * (if s.bit R.mtStatus 2 then s.fld R.mtUcfg 12 12 else 50000)) s

/-! ## Compare channels (R38 to R43) -/

/-- The committed compare value of channel `n`. -/
def State.cmpVal (s : State) (n : Nat) : BitVec 72 := tabLook 0 s.mt.cmp n

/-- The compare value of channel `n` replaced, in the unit and in MTCn_CMP0 to CMP2: words of CMP0 and CMP1 that were
written and not committed yet are overwritten by a reload (log 87). -/
def State.setCmp (s : State) (n : Nat) (v : BitVec 72) : State :=
  (s.setMulti (R.mtcCmp n 0) 3 v.toNat).setMt { s.mt with cmp := tabPut 0 s.mt.cmp n v }

/-- MTCn_CTRL.ARMED. -/
def State.armed (s : State) (n : Nat) : Bool := s.bit (R.mtcCtrl n) 0

/-- How far the counter is past the channel's value, modulo 2^72. -/
def State.cmpBehind (s : State) (n : Nat) : Nat := (s.mt.ctr - s.cmpVal n).toNat

/-- The value of channel `n` is reached (R39). -/
def State.reached (s : State) (n : Nat) : Bool := s.cmpBehind n < 2 ^ 71

/-- The interval as a match uses it: 0, or at least 12,800 units (R41). -/
def State.effIvl (s : State) (n : Nat) : Nat :=
  let i := s.multi (R.mtcIvl n 0) 2
  if i = 0 then 0 else max i 12800

/-- Counter value `b` lies after `a`, modulo 2^72 (R8). -/
def ctrAfter (a b : BitVec 72) : Bool := a != b && decide ((b - a).toNat < 2 ^ 71)

/-- The length of a PPS_OUT pulse in counter units: WIDTH µs, 0 acting as 1 (R43). -/
def State.ppsWidth (s : State) : Nat := 256000 * max 1 (s.fld R.mtPpscfg 0 12)

/-- The pulses on PPS_OUT that have not ended. -/
def State.ppsLeft (s : State) : List (BitVec 72 × BitVec 72) := s.mt.pps.filter (fun p => ctrAfter s.mt.ctr p.2)

/-- A match of MTC23 with PPSCFG.EN starts a pulse on PPS_OUT, its edge DLY ns from the match's instant: its value, or where the match is
LATE the counter; not while bridged (R43). -/
def ppsStart (late : Bool) (n : Nat) (s : State) : State :=
  if n == 23 && s.bit R.mtPpscfg 13 && !s.bridged then
    let e := (if late then s.mt.ctr else s.cmpVal 23) + BitVec.ofInt 72 (256 * signed (s.fld R.mtPpscfg 16 8) 8)
    s.setMt { s.mt with pps := s.ppsLeft ++ [(e, e + BitVec.ofNat 72 s.ppsWidth)] }
  else s

/-- The level of the PPS_OUT ball: some pulse stands between its edge and its end (one whose edge falls before the end of another thus
extends it), high with POL 0 and low with POL 1; inactive while bridged (R43). -/
def State.ppsOut (s : State) : Bool :=
  (!s.bridged && s.ppsLeft.any (fun p => !ctrAfter s.mt.ctr p.1)) != s.bit R.mtPpscfg 12

/-- MT_MFLAG0 or MT_MFLAG1 with channel `n`'s flag set (R42). -/
def setMflag (n : Nat) (s : State) : State :=
  if n < 24 then s.setBit R.mtMflag0 n true else s.setBit R.mtMflag1 (n - 24) true

/-- After a match: a zero interval disarms; otherwise the value moves on by the interval until it is ahead of the counter,
each interval after the first counting in SKIP (R40). -/
def reload (n : Nat) (s : State) : State :=
  let i := s.effIvl n
  if i = 0 then s.setBit (R.mtcCtrl n) 0 false
  else
    let d := s.cmpBehind n
    let k := if d < 2 ^ 71 ∧ i ≤ d then d / i else 0
    (s.setCmp n (s.cmpVal n + BitVec.ofNat 72 (i + k * i))).setFld (R.mtcStat n) 0 8
      (min 255 (s.fld (R.mtcStat n) 0 8 + k))

/-- Channel `n` fires: its flag, LATE where it is late, its signal source, the PPS pulse, and the reload (R40, R42, R43). -/
def compareFire (late : Bool) (n : Nat) (s : State) : State :=
  reload n (ppsStart late n (fire (0x45 + n) (when late (fun t => t.setBit (R.mtcCtrl n) 3 true) (setMflag n s))))

/-- Every armed channel that is reached fires (R39). -/
def evalCompares (s : State) : State :=
  forAll (List.range 32) (fun n t => if t.armed n && t.reached n then compareFire false n t else t) s

/-- The channels at the boundary T of a step: one that the step itself carried the counter past fires with LATE (R23); one
that was reached anyway, or whose value the counter now equals, fires as usual. `before` is the counter without the step. -/
def evalComparesAtStep (before : BitVec 72) (s : State) : State :=
  forAll (List.range 32)
    (fun n t =>
      if t.armed n && t.reached n then
        compareFire (decide (t.cmpBehind n ≠ 0) && decide (2 ^ 71 ≤ (before - t.cmpVal n).toNat)) n t
      else t) s

/-- MTCn_CMP2 written: the three words are committed, SKIP clears, and the channel arms; a value in the past fires at once
with LATE (R38). -/
def armCompare (n : Nat) (v : Word) (s : State) : State :=
  let s1 := s.setReg (R.mtcCmp n 2) v
  let c := BitVec.ofNat 72 (s1.multi (R.mtcCmp n 0) 3)
  let s2 := ((s1.setMt { s1.mt with cmp := tabPut 0 s1.mt.cmp n c }).setFld (R.mtcStat n) 0 8 0).setBit (R.mtcCtrl n) 0 true
  let d := s2.cmpBehind n
  if 1 ≤ d ∧ d < 2 ^ 71 then compareFire true n s2 else s2

/-- MTCn_CTRL written: WAKE is stored, LATE clears on 1, DISARM disarms without firing (R38). -/
def mtcCtrlWrite (n : Nat) (v : Word) (s : State) : State :=
  let s1 := plainWrite (R.mtcCtrl n) v s
  if bitOf v 1 then s1.setBit (R.mtcCtrl n) 0 false else s1

/-! ## Captures (R44 to R46) -/

/-- MT_CAPn_CFG.MODE takes an edge of this polarity; on CAP3 to CAP7 modes 2 and 3 act as 1 and polarity has no meaning
(R45). -/
def State.capTakes (s : State) (n : Nat) (rising : Bool) : Bool :=
  match s.fld (R.mtCapCfg n) 0 2 with
  | 0 => false
  | 1 => if n < 3 then rising else true
  | 2 => if n < 3 then !rising else true
  | _ => true

/-- A capture on channel `n` (R46): on CAP0 to CAP2 `sub` ns after the last tick, their resolution being 1 ns; the synchroniser's 2
cycles are subtracted on CAP3 to CAP7 (R44). -/
def capture (n sub : Nat) (s : State) : State :=
  if s.bridged then s
  else
    let t := if n < 3 then s.mt.ctr + BitVec.ofNat 72 (256 * sub) else s.mt.ctr - 12800
    let s1 := s.setMulti (R.mtCap n 0) 3 t.toNat
    (when (s.bit R.mtCapstat n) (fun u => u.setBit R.mtCapstat (8 + n) true) s1).setBit R.mtCapstat n true

/-- A read of MT_CAPn_0 by `w`: the low word, a snapshot of the upper two for `w`, and VALIDn clears (R46). -/
def readCap (w : Who) (n : Nat) (s : State) : Word × State :=
  (s.reg (R.mtCap n 0),
    (s.setBit R.mtCapstat n false).setMt
      { s.mt with capSnaps := tabPut 0 s.mt.capSnaps (8 * whoId w + n) (BitVec.ofNat 48 (s.multi (R.mtCap n 1) 2)) })

/-- A read of MT_NOW0 by `w`: counter bits [23:0], and `w`'s snapshot of bits [71:24] (R12, R13). -/
def readNow0 (w : Who) (s : State) : Word × State :=
  (wordOf s.mt.ctr 0,
    s.setMt { s.mt with snaps := tabPut 0 s.mt.snaps (whoId w) (BitVec.ofNat 48 (s.mt.ctr.toNat / 2 ^ 24)) })

/-! ## Register writes of the unit -/

/-- MT_CTRL written: LFLEARN stored (a rise starts a window at the next LF edge), SLEWSTOP ends the slew, STEP requests a step (R20, R21). -/
def mtCtrlWrite (v : Word) (s : State) : State :=
  let s1 := plainWrite R.mtCtrl v s
  let s2 := if !s.bit R.mtCtrl 2 && bitOf v 2 then s1.setMt { s1.mt with lfWait := true } else s1
  let s3 := if bitOf v 1 then s2.setBit R.mtStatus 1 false else s2
  if bitOf v 0 then s3.setMt { s3.mt with stepPend := true } else s3

/-- RATE as the signed 32-bit value its two words hold. -/
def rateOf (lo hi : Word) : Int := signed ((lo.toNat + 2 ^ 24 * hi.toNat) % 2 ^ 32) 32

/-- MT_RATE1 written: RATE is clamped to ±219,902,325 and stored; it takes effect now, or at the end of
bridging (R10, R31). -/
def rateWrite (v : Word) (s : State) : State :=
  let r := max (-219902325) (min 219902325 (rateOf (s.reg R.mtRate0) v))
  let b := BitVec.ofInt 32 r
  let s1 := (s.setReg R.mtRate0 (wordOf b 0)).setReg R.mtRate1 (wordOf b 1)
  if s.bridged then s1.setMt { s1.mt with rateNext := some b } else s1.setMt { s1.mt with rate := b }

/-- MT_SLEW0 written: with no slew in progress it takes the low word; during one, whose remaining offset it shows, the word waits
for the write of MT_SLEW1 (log 85). -/
def slew0Write (v : Word) (s : State) : State :=
  if s.slewing then s.setMt { s.mt with slewLo := some v } else (s.setReg R.mtSlew0 v).setMt { s.mt with slewLo := none }

/-- The low word that a write of MT_SLEW1 starts with: one written during the slew in progress, else what MT_SLEW0 holds. -/
def State.slewLow (s : State) : Word := s.mt.slewLo.getD (s.reg R.mtSlew0)

/-- MT_SLEW1 written: the slew of the pair's offset starts and replaces any in progress; a zero offset is used up at the
next tick with SLEWING 0 (R21). -/
def slewStart (v : Word) (s : State) : State :=
  let s1 := (s.setReg R.mtSlew0 s.slewLow).setReg R.mtSlew1 v
  let z := s.slewLow == 0 && v == 0
  (s1.setBit R.mtStatus 1 (!z)).setMt { s1.mt with slewLo := none, slewAcc := 0, slewZero := z }

/-- MT_SLEWCFG written: 0 is stored as 1, above 100 as 100. -/
def slewcfgWrite (v : Word) (s : State) : State := s.setFld R.mtSlewcfg 0 7 (max 1 (min 100 (bits v 0 7)))

/-- MT_USET written: MT_UNCERT takes the value and USAT clears (R25). -/
def usetWrite (v : Word) (s : State) : State :=
  alarmCheck (((s.setReg R.mtUncert v).setBit R.mtStatus 3 false).setMt { s.mt with ufrac := 0 })

/-- MT_UALARM written (R27). -/
def ualarmWrite (v : Word) (s : State) : State := alarmCheck (s.setReg R.mtUalarm v)

/-! ## Bridging and the learned ratio (R28 to R31, R473) -/

/-- The ratio in 1/256 ns per LF tick with a 24-bit fraction. -/
def State.lfRatio (s : State) : Nat := s.multi R.mtLfratio0 2

/-- A learning window begins at an LF edge. -/
def lfWindowStart (s : State) : State := s.setMt { s.mt with lfStart := s.mt.ctr, lfWait := false, lfSpoilt := false }

/-- An LF edge while the reference runs: a learning window that waits for one begins (R28, log 122). -/
def lfEdge (s : State) : State := if s.bit R.mtCtrl 2 && s.mt.lfWait then lfWindowStart s else s

/-- log2 of the window in seconds: 7 acts as 6 (R28). -/
def State.lfWin (s : State) : Nat := min 6 (s.fld R.mtLfcfg 0 3)

/-- A learning window ends: unless a step fell in it, the ratio is the window's mesh time over its 32,768 × 2^WIN LF ticks,
and LF_VALID sets; a new window starts (R28). A window spoilt by a step runs to its end, and the new one starts at the LF edge
there (log 86). Where none has begun yet, one begins at this edge. -/
def lfWindowEnd (s : State) : State :=
  if s.bridged || !s.bit R.mtCtrl 2 then s
  else if s.mt.lfWait || s.mt.lfSpoilt then lfWindowStart s
  else
    let r := (s.mt.ctr - s.mt.lfStart).toNat * 2 ^ (9 - s.lfWin)
    lfWindowStart ((s.setMulti R.mtLfratio0 2 (r % 2 ^ 48)).setBit R.mtStatus 2 true)

/-- A learning window pauses or goes on: while bridged its start holds the mesh time that it has measured (R30). -/
def lfPause (s : State) : State := s.setMt { s.mt with lfStart := s.mt.ctr - s.mt.lfStart }

/-- One LF tick of the bridged counter: the ratio and the growth of the uncertainty (R25, R29). -/
def lfTickCore (s : State) : State := growLf (s.setMt (s.mt.lfAdvance s.lfRatio))

/-- The first LF edge after the reference stopped: the counter runs on the ratio from now on (R30 step 2). PPS_OUT is
inactive while bridged (R43), and learning pauses. -/
def bridgeEnter (s : State) : State :=
  if s.bridged || !s.mt.bridgeReq then s
  else
    addUncert 25 (lfPause ((s.setBit R.mtStatus 0 true).setMt { s.mt with bridgeReq := false, pps := [] }))

/-- The Ethernet MAC's stamp of a PTP event message: seconds and nanoseconds of the counter, and ETH_TS (R36). How many nanoseconds after
the last tick the start-of-frame delimiter passes is open (log 120). The MAC is powered in FULL (R423) and not while the XO has failed
(R435). -/
def ptpStamp (s : State) : State :=
  let ns := (s.mt.ctr.toNat / 256 + Config.freeNat s.draws % 25) % 2 ^ 64
  fire 0x69 (s.drawn.setMt { s.mt with ptpSec := ns / 1000000000, ptpNs := ns % 1000000000 })

/-! ## The commands -/

/-- READ_MT_NOW0 (R12). -/
def execReadMtNow0 (w : Who) (s : State) : Host.Outcome State Fault Refusal :=
  readCmd (s.mayRead w R.mtNow0) (readNow0 w) s

/-- MT_CTRL_STEP (R20). -/
def execMtCtrlStep (w : Who) (v : Word) (s : State) : Host.Outcome State Fault Refusal :=
  act (s.mayWrite w R.mtCtrl) (mtCtrlWrite (setBits v 0 1 1)) s

/-- MT_RATE_COMMIT (R10). -/
def execMtRateCommit (w : Who) (v : Word) (s : State) : Host.Outcome State Fault Refusal :=
  act (s.mayWrite w R.mtRate1) (rateWrite v) s

/-- MT_USET_WRITE (R25). -/
def execMtUsetWrite (w : Who) (v : Word) (s : State) : Host.Outcome State Fault Refusal :=
  act (s.mayWrite w R.mtUset) (usetWrite v) s

/-- MT_UALARM_WRITE (R27). -/
def execMtUalarmWrite (w : Who) (v : Word) (s : State) : Host.Outcome State Fault Refusal :=
  act (s.mayWrite w R.mtUalarm) (ualarmWrite v) s

/-- LF_WINDOW_END (R28). -/
def execLfWindowEnd (s : State) : Host.Outcome State Fault Refusal := act s.alive lfWindowEnd s

/-- ARM_COMPARE (R38). -/
def execArmCompare (w : Who) (n : Fin 32) (v : Word) (s : State) : Host.Outcome State Fault Refusal :=
  act (s.mayWrite w (R.mtcCmp n.val 2)) (armCompare n.val v) s

/-- COMPARE_DISARM (R38). -/
def execCompareDisarm (w : Who) (n : Fin 32) (v : Word) (s : State) : Host.Outcome State Fault Refusal :=
  act (s.mayWrite w (R.mtcCtrl n.val)) (mtcCtrlWrite n.val (setBits v 1 1 1)) s

/-- COMPARE_MATCH (R40): an armed channel whose value is reached. -/
def execCompareMatch (n : Fin 32) (s : State) : Host.Outcome State Fault Refusal :=
  act (s.alive && s.armed n.val && s.reached n.val) (compareFire false n.val) s

/-- PPS_PULSE_END (R43): the pulse has had its WIDTH. -/
def execPpsPulseEnd (s : State) : Host.Outcome State Fault Refusal :=
  act (s.alive && s.ppsLeft != s.mt.pps) (fun s => s.setMt { s.mt with pps := s.ppsLeft }) s

/-- CAPTURE_EVENT (R46): CAP0 to CAP2 see balls of bank VIO2 (R453, R455). -/
def execCaptureEvent (n : Fin 8) (e : CapEdge) (s : State) : Host.Outcome State Fault Refusal :=
  act (s.alive && (3 ≤ n.val || s.pwr.vio2) && s.capTakes n.val e.rising) (capture n.val e.sub.val) s

/-- READ_CAPTURE (R46). -/
def execReadCapture (w : Who) (n : Fin 8) (s : State) : Host.Outcome State Fault Refusal :=
  readCmd (s.mayRead w (R.mtCap n.val 0)) (readCap w n.val) s

/-- PTP_EVENT_STAMP (R36). -/
def execPtpEventStamp (s : State) : Host.Outcome State Fault Refusal :=
  act (s.alive && s.mode == 5 && !s.pwr.xoFail) ptpStamp s

end Sys2Proof.Machine
end

