-- ==== Sys2Proof/Machine/Timers.lean ====
section
/-! DEFINITION. The general timers GT0 to GT15 (R417 to R422). -/
namespace Sys2Proof.Machine

open Sys2Proof

/-- GTn_CFG.CLK. -/
def State.gtClk (s : State) (n : Nat) : Nat := s.fld (R.gtCfg n) 22 2

/-- GTn_STAT.RUN. -/
def State.gtRun (s : State) (n : Nat) : Bool := s.bit (R.gtStat n) 4

/-- Timer `n` is the lower half of a cascade: timer n + 1 has CLK = PREV (R421). -/
def State.gtLower (s : State) (n : Nat) : Bool := n < 15 && s.gtClk (n + 1) == 1

/-- The advance to `count` takes the timer to TOP, or finds it standing there: TOP = COUNT ends within one advance, and so does
arming with TOP = 0 (R419, R420). -/
def State.gtReached (s : State) (n : Nat) (count : Word) : Bool := (count - s.reg (R.gtTop n)).toNat < 2

/-- Arming: while RUN = 0, COUNT := 0 and RUN := 1, and the divider restarts (R418, R419). -/
def gtArm (n : Nat) (s : State) : State :=
  if s.gtRun n then s
  else
    let s1 := (s.setReg (R.gtCount n) 0).setBit (R.gtStat n) 4 true
    { s1 with tmr := { s1.tmr with presc := tabPut 0 s1.tmr.presc n 0 } }

/-- END sets and GTn_END fires (R419). -/
def gtSignalEnd (n : Nat) (s : State) : State := fire (0x35 + n) (s.setBit (R.gtStat n) 0 true)

/-- One advance of timer `n` (R419, R421); `fuel` bounds the cascade above it. -/
def gtCount : Nat → Nat → State → State
  | 0, _, s => s
  | fuel + 1, n, s =>
    if !s.gtRun n then s
    else
      let c := s.reg (R.gtCount n) + 1
      if s.gtReached n c then
        if s.gtLower n then gtCount fuel (n + 1) (gtSignalEnd n (s.setReg (R.gtCount n) 0))
        else gtSignalEnd n ((s.setReg (R.gtCount n) (s.reg (R.gtTop n))).setBit (R.gtStat n) 4 false)
      else s.setReg (R.gtCount n) c

/-- One cycle of the timer's own clock (R418): TCLK through the divider, or a fabric clock while its event count is not
zero. A timer on PREV has no clock of its own. -/
def gtClock (n : Nat) (s : State) : State :=
  match s.gtClk n with
  | 0 =>
    if !s.gtRun n then s
    else
      let p := tabLook 0 s.tmr.presc n
      if s.fld (R.gtCfg n) 0 8 ≤ p then
        gtCount 16 n { s with tmr := { s.tmr with presc := tabPut 0 s.tmr.presc n 0 } }
      else { s with tmr := { s.tmr with presc := tabPut 0 s.tmr.presc n (p + 1) } }
  | 2 =>
    let e := tabLook 0 s.tmr.evs n
    if s.gtRun n && e != 0 && s.fabricRuns then
      gtCount 16 n { s with tmr := { s.tmr with evs := tabPut 0 s.tmr.evs n (e - 1) } }
    else s
  | _ => s

/-- GTn_COUNT: one more event, saturating at 15; an event that finds 15 is lost and sets COVF (R418). -/
def gtEvent (n : Nat) (s : State) : State :=
  let e := tabLook 0 s.tmr.evs n
  if 15 ≤ e then s.setBit (R.gtStat n) 5 true
  else { s with tmr := { s.tmr with evs := tabPut 0 s.tmr.evs n (e + 1) } }

/-- A running timer stands at TOP: it stops with COUNT = TOP and END (R419). -/
def gtStopAtTop (n : Nat) (s : State) : State :=
  gtSignalEnd n ((s.setReg (R.gtCount n) (s.reg (R.gtTop n))).setBit (R.gtStat n) 4 false)

/-- TOP written: a running timer whose count is past it ends at once with LATE; a cascade's lower half wraps instead of
stopping (R420, R421). -/
def gtTopWrite (n : Nat) (v : Word) (s : State) : State :=
  let d := (s.reg (R.gtCount n) - v).toNat
  let s1 := s.setReg (R.gtTop n) v
  if s.gtRun n && decide (1 ≤ d) && decide (d < 2 ^ 23) then
    let s2 := s1.setBit (R.gtStat n) 3 true
    if s.gtLower n then gtCount 16 (n + 1) (gtSignalEnd n (s2.setReg (R.gtCount n) 0)) else gtStopAtTop n s2
  else s1

/-- COUNT is copied to CAP and VALID sets, or OVR if VALID stood (R422). -/
def gtCapture (n : Nat) (s : State) : State :=
  ((when (s.bit (R.gtStat n) 1) (fun t => t.setBit (R.gtStat n) 2 true) s).setReg (R.gtCap n)
    (s.reg (R.gtCount n))).setBit (R.gtStat n) 1 true

/-- A read of CAP clears VALID (R422). -/
def gtCapRead (n : Nat) (s : State) : Word × State := (s.reg (R.gtCap n), s.setBit (R.gtStat n) 1 false)

/-- GTn_CFG written: ignored while RUN = 1 (R419). -/
def gtCfgWrite (n : Nat) (v : Word) (s : State) : State := if s.gtRun n then s else plainWrite (R.gtCfg n) v s

/-- GT_ARM (R419): a write of CTRL.ARM = 1. -/
def execGtArm (w : Who) (n : Fin 16) (s : State) : Host.Outcome State Fault Refusal :=
  act (s.mayWrite w (R.gtCtrl n.val)) (gtArm n.val) s

/-- GT_ADVANCE (R418). -/
def execGtAdvance (n : Fin 16) (s : State) : Host.Outcome State Fault Refusal := act s.alive (gtClock n.val) s

/-- GT_END (R419): a running timer, not a cascade's lower half, that stands at TOP. -/
def execGtEnd (n : Fin 16) (s : State) : Host.Outcome State Fault Refusal :=
  act (s.alive && s.gtRun n.val && !s.gtLower n.val && s.reg (R.gtCount n.val) == s.reg (R.gtTop n.val))
    (gtStopAtTop n.val) s

/-- GT_CASCADE_WRAP (R421): the advance that would take a lower timer's COUNT to TOP. -/
def execGtCascadeWrap (n : Fin 16) (s : State) : Host.Outcome State Fault Refusal :=
  act (s.alive && s.gtRun n.val && s.gtLower n.val && s.gtReached n.val (s.reg (R.gtCount n.val) + 1))
    (gtCount 16 n.val) s

/-- GT_TOP_WRITE (R420). -/
def execGtTopWrite (w : Who) (n : Fin 16) (v : Word) (s : State) : Host.Outcome State Fault Refusal :=
  act (s.mayWrite w (R.gtTop n.val)) (gtTopWrite n.val v) s

/-- GT_CAPTURE (R422): an event on GTn_CAPT. -/
def execGtCapture (n : Fin 16) (s : State) : Host.Outcome State Fault Refusal :=
  act (s.alive && s.fabricRuns) (gtCapture n.val) s

/-- GT_CAP_READ (R422). -/
def execGtCapRead (w : Who) (n : Fin 16) (s : State) : Host.Outcome State Fault Refusal :=
  readCmd (s.mayRead w (R.gtCap n.val)) (gtCapRead n.val) s

end Sys2Proof.Machine
end

