-- ==== Sys2Proof/Machine/Fabric.lean ====
section
/-! DEFINITION. The event fabric (R405 to R416): channels, LUT cells, task inputs, locks, and the pins it sees. -/
namespace Sys2Proof.Machine

open Sys2Proof

/-- The fabric's hidden part replaced. -/
def State.setFab (s : State) (f : FabricState) : State := { s with fab := f }

/-- A channel that has emitted nothing for 4 clocks and holds nothing. -/
def ChanSt.idle : ChanSt := { since := 4, held := false, stage := 0 }

/-- Channel `c`'s hidden part. -/
def State.chan (s : State) (c : Nat) : ChanSt := tabLook ChanSt.idle s.fab.chans c

/-- The state with channel `c`'s hidden part replaced. -/
def State.setChan (s : State) (c : Nat) (x : ChanSt) : State :=
  s.setFab { s.fab with chans := tabPut ChanSt.idle s.fab.chans c x }

/-! ## Task inputs (R407) -/

/-- DMA_TRIGn: one more trigger, saturating at 15; an event that finds 15 is lost and sets TOVF (R395). -/
def dmaTrig (n : Nat) (s : State) : State :=
  if s.fld (R.dmaChstatus n) 4 4 = 15 then s.setBit (R.dmaChstatus n) 8 true
  else s.setFld (R.dmaChstatus n) 4 4 (s.fld (R.dmaChstatus n) 4 4 + 1)

/-- PIN_OUTk: the action on the named pin, while the GPIO block gives it to the fabric (FUNC 1, R463). -/
def pinOut (k : Nat) (s : State) : State :=
  let p := s.fld (R.pinout k) 0 6
  if p < 48 ∧ s.fld (R.gpioCfg p) 8 2 = 1 then
    match s.fld (R.pinout k) 8 2 with
    | 0 => s.setBit (R.gpioCfg p) 1 true
    | 1 => s.setBit (R.gpioCfg p) 1 false
    | 2 => s.setBit (R.gpioCfg p) 1 (!s.bit (R.gpioCfg p) 1)
    | _ => s
  else s

/-- The effect of an event on task input `t` (R407). -/
def task (t : Nat) (s : State) : State :=
  if t < 0x20 then dmaTrig t s
  else if t < 0x25 then (if s.capTakes (t - 0x20 + 3) true then capture (t - 0x20 + 3) 0 s else s)
  else if t < 0x35 then gtArm (t - 0x25) s
  else if t < 0x45 then gtEvent (t - 0x35) s
  else if t < 0x55 then gtCapture (t - 0x45) s
  else if t = 0x55 then { s with pins := { s.pins with madcBusy := true } }
  else if t < 0x5E then pinOut (t - 0x56) s
  else s

/-- The tasks channel `c` delivers to: its enabled destinations, but not DMA_TRIG24 to 31 from a channel of the application
(R412). -/
def State.chanTasks (s : State) (c : Nat) : List Nat :=
  let ok := fun t => !(c < 56 && 24 ≤ t && t < 32)
  let t0 := s.fld (R.evfDst c) 16 7
  let t1 := s.fld (R.evfDst c) 8 7
  (if s.bit (R.evfDst c) 23 && ok t0 then [t0] else []) ++ (if s.bit (R.evfDst c) 15 && ok t1 then [t1] else [])

/-- DMA_TRIGn and GTn_COUNT count every event; on any other input two events of one clock merge (R412). -/
def taskCounts (t : Nat) : Bool := t < 0x20 || (0x35 ≤ t && t < 0x45)

/-- The events of one clock at the task inputs, merged. -/
def mergeTasks : List Nat → List Nat
  | [] => []
  | t :: l => if taskCounts t || !l.contains t then t :: mergeTasks l else mergeTasks l

/-- The events in the register stages of the channels of `cs` reach their tasks. -/
def deliver (cs : List Nat) (s : State) : State :=
  let due := cs.filter (fun c => (s.chan c).stage == 2)
  forAll (mergeTasks (due.flatMap s.chanTasks)) task
    (forAll due (fun c t => t.setChan c { (t.chan c) with stage := 0 }) s)

/-! ## Channels (R410, R411) -/

/-- The channel emits: its event enters the register stage. -/
def chanEmit (c : Nat) (s : State) : State := s.setChan c { since := 0, held := false, stage := 1 }

/-- A passing event at channel `c`: emitted, or held while the last emission lies less than 4 clocks back (R411). -/
def chanArrive (c : Nat) (s : State) : State :=
  if 4 ≤ (s.chan c).since then chanEmit c s else s.setChan c { (s.chan c) with held := true }

/-- The gate of channel `c` passes an event now (R410). -/
def State.chanGate (s : State) (c : Nat) : Bool :=
  !s.bit (R.evfCfg c) 13 || (s.gateSeen (s.fld (R.evfCfg c) 8 4) != s.bit (R.evfCfg c) 12)

/-- Channel `c` is enabled and its source has an event now: a signal source seen in this clock, or a rising LUT output. -/
def State.chanEvent (s : State) (rise : BitVec 32) (c : Nat) : Bool :=
  s.bit (R.evfCfg c) 22 &&
    (let src := s.fld (R.evfCfg c) 14 8
     if src < 0x80 then s.fab.arr.contains (src, 0) else if src < 0xA0 then bitOf rise (src - 0x80) else false)

/-- The held event of channel `c`, 4 clocks after its last emission (R411). -/
def heldEmit (c : Nat) (s : State) : State :=
  if (s.chan c).held && 4 ≤ (s.chan c).since then chanEmit c s else s

/-- Channel `c` in one fabric clock. -/
def chanClock (rise : BitVec 32) (c : Nat) (s : State) : State :=
  let s1 := heldEmit c s
  if s1.chanEvent rise c && s1.chanGate c && !s1.fab.done.contains c then chanArrive c s1 else s1

/-! ## LUT cells (R413, R414) -/

/-- The value of a LUT input code (R413). -/
def State.lutInput (s : State) (code : Nat) : Bool :=
  if code < 0x80 then s.fab.arr.contains (code, 0)
  else if code < 0xA0 then bitOf s.fab.lutOut (code - 0x80)
  else if code < 0xB0 then s.gateSeen (code - 0xA0)
  else false

/-- The truth table's entry for the cell's present inputs. -/
def State.lutT (s : State) (j : Nat) : Bool :=
  let i := fun (f : Nat) => if s.lutInput (s.fld (R.lutIn j) f 8) then 1 else 0
  bitOf (s.reg (R.lutCtl j)) (16 + 4 * i 16 + 2 * i 8 + i 0)

/-- The cell's state as seen in this clock, and as kept for the next (R414): D shows what it took one clock ago. -/
def State.lutStep (s : State) (j : Nat) : Bool × Bool :=
  let t := s.lutT j
  let q := bitOf s.fab.lutQ j
  match s.fld (R.lutCtl j) 14 2 with
  | 0 => (t, t)
  | 1 => (q, t)
  | 2 => (q != t, q != t)
  | _ =>
    let n := if s.lutInput (s.fld (R.lutIn j) 16 8) then false else if t then true else q
    (n, n)

/-- The cell's output and filter count after this clock: the output follows once the state has held a new value for FILT
clocks (R414). -/
def State.lutFilter (s : State) (j : Nat) (q : Bool) : Bool × Nat :=
  let f := s.fld (R.lutCtl j) 10 4
  let o := bitOf s.fab.lutOut j
  let n := tabLook 0 s.fab.filt j + 1
  if f = 0 then (q, 0) else if q == o then (o, 0) else if f ≤ n then (q, 0) else (o, n)

/-- A vector of 32 bits from its bits. -/
def vec32 (f : Nat → Bool) : BitVec 32 :=
  BitVec.ofNat 32 ((List.range 32).foldl (fun a j => a + if f j then 2 ^ j else 0) 0)

/-- All cells in one fabric clock, from the outputs of the previous one. -/
def lutClock (s : State) : State :=
  s.setFab { s.fab with
    lutQ := vec32 (fun j => (s.lutStep j).2)
    lutOut := vec32 (fun j => (s.lutFilter j (s.lutStep j).1).1)
    filt := forAll' (List.range 32) s.fab.filt (fun j t => tabPut 0 t j (s.lutFilter j (s.lutStep j).1).2) }
where
  forAll' (l : List Nat) (t : List (Nat × Nat)) (f : Nat → List (Nat × Nat) → List (Nat × Nat)) : List (Nat × Nat) :=
    l.foldl (fun u j => f j u) t

/-- One fabric clock (R408 to R414): what the register stages hold is delivered; the LUT cells step; each channel takes its
event; then time moves on by one clock. -/
def fabricClock (s : State) : State :=
  let s1 := deliver (List.range 64) s
  let s2 := lutClock s1
  let rise := s2.fab.lutOut &&& ~~~s1.fab.lutOut
  let s3 := forAll (List.range 64) (chanClock rise) s2
  s3.setFab { s3.fab with
    arr := (s3.fab.arr.filter (fun e => e.2 != 0)).map (fun e => (e.1, e.2 - 1))
    chans := s3.fab.chans.filterMap (fun e =>
      let x : ChanSt := { e.2 with since := min 4 (e.2.since + 1), stage := if e.2.stage = 1 then 2 else e.2.stage }
      if x = ChanSt.idle then none else some (e.1, x))
    gs1 := s3.gateVector
    gs2 := s3.fab.gs1
    done := [] }

/-! ## Locks (R415) -/

/-- The cells named as inputs of the cells of `l`, joined to it. -/
def State.lutInputs (s : State) (l : List Nat) : List Nat :=
  (l ++ l.flatMap (fun j =>
    ([0, 8, 16].map (fun f => s.fld (R.lutIn j) f 8)).filterMap
      (fun c => if 0x80 ≤ c ∧ c < 0xA0 then some (c - 0x80) else none))).eraseDups

/-- The cells a channel uses: the cell its SRC names, and every cell named as an input of one, until none is added. -/
def State.chanCells (s : State) (c : Nat) : List Nat :=
  let src := s.fld (R.evfCfg c) 14 8
  (List.range 32).foldl (fun l _ => s.lutInputs l) (if 0x80 ≤ src ∧ src < 0xA0 then [src - 0x80] else [])

/-- CHn_CFG written: ignored once locked; LOCK = 1 freezes the channel and its cells (R415). -/
def evfCfgWrite (c : Nat) (v : Word) (s : State) : State :=
  if s.bit (R.evfCfg c) 23 then s
  else
    let s1 := plainWrite (R.evfCfg c) v s
    if bitOf v 23 then forAll (s1.chanCells c) (fun j t => t.setBit (R.lutCtl j) 0 true) s1 else s1

/-- CHn_DST written: ignored once the channel is locked. -/
def evfDstWrite (c : Nat) (v : Word) (s : State) : State :=
  if s.bit (R.evfCfg c) 23 then s else plainWrite (R.evfDst c) v s

/-- LUTj_IN written: ignored while the cell is frozen. -/
def lutInWrite (j : Nat) (v : Word) (s : State) : State :=
  if s.bit (R.lutCtl j) 0 then s else plainWrite (R.lutIn j) v s

/-- LUTj_CTL written: state and filter go back to 0 (R414); ignored while the cell is frozen. -/
def lutCtlWrite (j : Nat) (v : Word) (s : State) : State :=
  if s.bit (R.lutCtl j) 0 then s
  else
    let s1 := plainWrite (R.lutCtl j) v s
    s1.setFab { s1.fab with
      lutQ := vec32 (fun i => i != j && bitOf s1.fab.lutQ i)
      lutOut := vec32 (fun i => i != j && bitOf s1.fab.lutOut i)
      filt := tabPut 0 s1.fab.filt j 0 }

/-! ## Pins -/

/-- PIN_EVk takes an edge of this polarity at this ball (R405, R463). -/
def State.pinEvTakes (s : State) (pin : Nat) (rising : Bool) (k : Nat) : Bool :=
  s.fld (R.pinev k) 0 6 == pin && s.fld (R.gpioCfg pin) 8 2 < 2 &&
    (match s.fld (R.pinev k) 6 2 with
     | 0 => false
     | 1 => rising
     | 2 => !rising
     | _ => true)

/-- An edge at a GPIO ball: its level changes and, unless a reset holds the part, the selected PIN_EV fire. -/
def pinEdge (pin : Nat) (rising : Bool) (s : State) : State :=
  let g := if rising then s.pins.gpio ||| (1#48 <<< pin) else s.pins.gpio &&& ~~~(1#48 <<< pin)
  forAll ([0, 1, 2, 3].filter (fun k => s.alive && s.pinEvTakes pin rising k)) (fun k t => fire (0x7A + k) t)
    { s with pins := { s.pins with gpio := g } }

/-- The level that the part drives on a GPIO ball; none while the ball is off, an input, a released open-drain output, or without its bank's
supply (R455, R463). -/
def State.gpioPin (s : State) (p : Nat) : Option Bool :=
  let v := s.reg (R.gpioCfg p)
  if s.alive && s.pwr.vio2 && bits v 8 2 < 2 && bitOf v 2 && !(bitOf v 3 && bitOf v 1) then some (bitOf v 1) else none

/-! ## The commands -/

/-- FABRIC_CHANNEL_EVENT (R410). -/
def execFabricChannelEvent (c : Fin 64) (s : State) : Host.Outcome State Fault Refusal :=
  act (s.fabricRuns && s.chanEvent 0 c.val && s.chanGate c.val && !s.fab.done.contains c.val)
    (fun s => (chanArrive c.val s).setFab { (chanArrive c.val s).fab with done := c.val :: s.fab.done }) s

/-- FABRIC_HELD_EMIT (R411). -/
def execFabricHeldEmit (c : Fin 64) (s : State) : Host.Outcome State Fault Refusal :=
  act s.fabricRuns (heldEmit c.val) s

/-- TASK_DELIVER (R412). -/
def execTaskDeliver (c : Fin 64) (s : State) : Host.Outcome State Fault Refusal :=
  act s.fabricRuns (deliver [c.val]) s

/-- LUT_UPDATE (R414): one fabric clock. -/
def execLutUpdate (s : State) : Host.Outcome State Fault Refusal := act s.fabricRuns fabricClock s

/-- LUT_CTL_WRITE (R414). -/
def execLutCtlWrite (w : Who) (j : Fin 32) (v : Word) (s : State) : Host.Outcome State Fault Refusal :=
  act (s.mayWrite w (R.lutCtl j.val)) (lutCtlWrite j.val v) s

/-- FABRIC_LOCK (R415). -/
def execFabricLock (w : Who) (c : Fin 64) (v : Word) (s : State) : Host.Outcome State Fault Refusal :=
  act (s.mayWrite w (R.evfCfg c.val)) (evfCfgWrite c.val (setBits v 23 1 1)) s

/-- PIN_EVENT (R405); a ball reads 0 while VIO2 is absent (R455). -/
def execPinEvent (pin : Fin 48) (rising : Bool) (s : State) : Host.Outcome State Fault Refusal :=
  act s.pwr.vio2 (pinEdge pin.val rising) s

/-- MADC_SEQUENCE_END (R405). -/
def execMadcSequenceEnd (limit : Bool) (s : State) : Host.Outcome State Fault Refusal :=
  act s.chipRuns
    (fun s => when limit (fire 0x78) (fire 0x77 { s with pins := { s.pins with madcBusy := false } })) s

/-- A block that has a service source and runs (R405, R424): ETH in FULL, the serial blocks in RUN and FULL, octal SPI and CRYPTO. -/
def State.serviceOk (s : State) (n : Nat) : Bool :=
  (n == 0x68 && s.mode == 5 && !s.pwr.xoFail) || (0x6A ≤ n && n ≤ 0x75 && 4 ≤ s.mode) || n == 0x76 || n == 0x79

/-- PERIPHERAL_SERVICE_REQUEST (R405). -/
def execPeripheralServiceRequest (src : BitVec 7) (s : State) : Host.Outcome State Fault Refusal :=
  act (s.chipRuns && s.serviceOk src.toNat) (fire src.toNat) s

end Sys2Proof.Machine
end

