-- ==== Sys2Proof/Machine/Ecc.lean ====
section
/-! DEFINITION. SRAM ports (R342 to R359): the code and its errors, merge buffers, error injection, the groomer, the power of
the banks and the fuse records; and the bus's view of the memories. -/
namespace Sys2Proof.Machine

open Sys2Proof

/-- The ECC part replaced. -/
def State.setEcc (s : State) (e : EccState) : State := { s with ecc := e }

/-- The SRAM bank that holds word address `w` (R343). -/
def bankOf (w : Nat) : Option Nat :=
  if 0x600000 ≤ w ∧ w < 0x800000 then some ((w - 0x600000) / 0x20000)
  else if 0x800000 ≤ w ∧ w < 0x880000 then some (16 + (w - 0x800000) / 0x20000)
  else if 0x900000 ≤ w ∧ w < 0x980000 then some (20 + (w - 0x900000) / 0x20000)
  else if 0xA00000 ≤ w ∧ w < 0xA02000 then some 24
  else none

/-- First word of a bank. -/
def bankBase (b : Nat) : Nat :=
  if b < 16 then 0x600000 + 0x20000 * b
  else if b < 20 then 0x800000 + 0x20000 * (b - 16)
  else if b < 24 then 0x900000 + 0x20000 * (b - 20)
  else 0xA00000

/-- Words of a bank in its present mode: 64 Kwords for bank 15 in octet-check mode (R352). -/
def State.bankWords (s : State) (b : Nat) : Nat :=
  if b = 24 then 0x2000 else if b = 15 ∧ s.ecc.b15oct then 0x10000 else 0x20000

/-- The bank is in service: OFFSTAT bit 0 for an application bank (R356), link memory and the packet buffer once they are initialised
(R357), and its domain is powered. -/
def State.bankUp (s : State) (b : Nat) : Bool :=
  if b = 24 then true
  else s.alive && 2 ≤ s.domainMode && (if b < 16 then !s.bit R.eccOffstat b else !bitOf s.ecc.down (b - 16))

/-- The word exists and its bank is in service. -/
def State.sramUp (s : State) (w : Nat) : Bool :=
  match bankOf w with
  | some b => s.bankUp b && decide (w - bankBase b < s.bankWords b)
  | none => false

/-- Bank 15 in octet-check mode holds the word (R352). -/
def State.octMode (s : State) (w : Nat) : Bool := s.ecc.b15oct && bankOf w == some 15

/-- Bits set in a vector. -/
def popcount {n : Nat} (v : BitVec n) : Nat := (List.range n).foldl (fun a i => a + v.toNat / 2 ^ i % 2) 0

/-! ## Codes -/

/-- What a read of a code word finds: no error, one that is corrected, one that is not and its kind. -/
inductive CodeRes where
  | clean
  | corrected (v : Word)
  | failed (kind : Nat)
  deriving DecidableEq, Repr

/-- The SECDED code of a word (R348): a single error of bits [30:0] is corrected, a double one detected, a wrong address
parity is uncorrectable; what three or more errors of one word give is open. -/
def State.decodeWord (s : State) (w : Nat) : CodeRes :=
  let f := tabLook 0 s.ecc.flips w
  if bitOf f 31 then .failed 1
  else
    match popcount (f &&& 0x7FFFFFFF#32) with
    | 0 => .clean
    | 1 => .corrected (s.mem.word w ^^^ W f.toNat)
    | 2 => .failed 0
    | _ => if Config.freeBool s.draws then .failed 0 else .corrected (Config.freeWord s.draws)

/-- The code of one octet in octet-check mode (R352): 8 data and 5 check bits. -/
def State.decodeOctet (s : State) (w lane : Nat) : CodeRes :=
  let f := tabLook 0 s.ecc.octFlips (4 * w + lane)
  match popcount f with
  | 0 => .clean
  | 1 => .corrected (W ((laneOf (s.mem.word w) lane).toNat ^^^ (f.toNat % 256)))
  | 2 => .failed 2
  | _ => if Config.freeBool s.draws then .failed 2 else .corrected (W (Config.freeOctet s.draws).toNat)

/-- An uncorrectable error is recorded: UE counts, UEADDR and UEINFO (R350). -/
def recordUe (init kind w : Nat) (s : State) : State :=
  let b := (bankOf w).getD 0
  ((s.count (R.eccCounters 1)).setReg R.eccUeaddr (W w)).setReg R.eccUeinfo
    (W (b * 2 ^ 19 + init * 2 ^ 15 + kind * 2 ^ 13 + 1))

/-- A correctable error is recorded: CE counts and CEADDR (R349). -/
def recordCe (w : Nat) (s : State) : State := (s.count (R.eccCounters 0)).setReg R.eccCeaddr (W w)

/-! ## Writes through a port -/

/-- The merge buffers without the entry of a word. -/
def dropMerge (w : Nat) (l : List MergeEntry) : List MergeEntry := l.filter (fun e => e.word ≠ w)

/-- FLIPSEL is armed for the word's bank (R355). -/
def State.flipArmed (s : State) (w : Nat) : Bool :=
  s.bit R.eccFlipsel 8 && bankOf w == some (s.fld R.eccFlipsel 0 5)

/-- A lane's flip mask in octet-check mode: its data bits of FLIPD and FLIPC [4:0] (R355). -/
def State.octFlipMask (s : State) (lane : Nat) : BitVec 13 :=
  BitVec.ofNat 13 ((laneOf (s.reg R.eccFlipd) lane).toNat + 256 * (bits (s.reg R.eccFlipc) 0 5))

/-- The octet code words of the lanes of `ls` stored fresh, or with the armed flips. FLIPC [7] flips the first physical word's address
parity, whichever lanes the armed write stores; a store of one octet otherwise leaves that parity as it is (R355). -/
def setOctFlips (w : Nat) (armed : Bool) (ls : List Nat) (s : State) : State :=
  let o := ls.foldl (fun t l => tabPut 0 t (4 * w + l) (if armed then s.octFlipMask l else 0)) s.ecc.octFlips
  let p : BitVec 13 := if armed && bitOf (s.reg R.eccFlipc) 7 then 3 else 0
  let fresh := ls == [0, 1, 2]
  s.setEcc { s.ecc with octFlips := if fresh || armed then tabPut 0 o (4 * w + 3) p else o }

/-- A write of a whole word that the port performs: fresh check bits, an armed flip applied (R355). -/
def portStore (w : Nat) (v : Word) (s : State) : State :=
  let armed := s.flipArmed w
  let d := if armed then v ^^^ s.reg R.eccFlipd else v
  let m : BitVec 32 := if armed then BitVec.ofNat 32 ((s.reg R.eccFlipd).toNat + 2 ^ 24 * bits (s.reg R.eccFlipc) 0 8) else 0
  let s1 := { s with mem := s.mem.setWord w d }
  let s2 := if s.octMode w then setOctFlips w armed [0, 1, 2] s1
    else s1.setEcc { s1.ecc with flips := tabPut 0 s1.ecc.flips w m }
  when armed (fun t => t.setBit R.eccFlipsel 8 false) s2

/-- A whole-word write by an initiator: it replaces the word and whatever octets waited for it. -/
def portWrite (w : Nat) (v : Word) (s : State) : State :=
  portStore w v (s.setEcc { s.ecc with merge := dropMerge w s.ecc.merge })

/-- A read of the array itself, without a drain: the word, 0 sound, 1 corrected (R349) or 2 failed (R350), and the state
after the correction or the record. -/
def portProbe (init w : Nat) (s : State) : Word × Nat × State :=
  if s.octMode w then
    if (tabLook 0 s.ecc.octFlips (4 * w + 3)) != 0 then (s.mem.word w, 2, recordUe init 1 w s)
    else
      let rs := [0, 1, 2].map (s.decodeOctet w)
      let s0 := if (s.decodeOctet w 0 != .clean) || (s.decodeOctet w 1 != .clean) || (s.decodeOctet w 2 != .clean)
        then s.drawn else s
      if rs.any (fun r => match r with | .failed _ => true | _ => false) then (s.mem.word w, 2, recordUe init 2 w s0)
      else if rs.all (· == .clean) then (s.mem.word w, 0, s)
      else
        let fix := fun l (v : Word) => match s.decodeOctet w l with | .corrected x => setLane v l (O x.toNat) | _ => v
        let v := fix 2 (fix 1 (fix 0 (s.mem.word w)))
        (v, 1, recordCe w (portStore w v s0))
  else
    match s.decodeWord w with
    | .clean => (s.mem.word w, 0, s)
    | .corrected v => (v, 1, recordCe w (portStore w v s.drawn))
    | .failed k => (s.mem.word w, 2, recordUe init k w s.drawn)

/-- A read of the array itself: the word, whether it failed, and the state after. -/
def portFetch (init w : Nat) (s : State) : Word × Bool × State :=
  let (v, n, t) := portProbe init w s
  (v, n == 2, t)

/-- Signal source 18 for an error that no core's exception reports, with link firmware's FAULT notice (R289, R350). -/
def eccSignal (w : Nat) (s : State) : State := noticeFault 0x12 (W w) (fire 0x12 s)

/-- A merge entry drains (R351): a whole-word write if all lanes are held; else a read-modify-write, which on an
uncorrectable read discards the octets and fires source 18 (R332). -/
def drainEntry (e : MergeEntry) (s : State) : State :=
  let s1 := s.setEcc { s.ecc with merge := dropMerge e.word s.ecc.merge }
  match e.o0, e.o1, e.o2 with
  | some a, some b, some c => portStore e.word (W (leNat [a, b, c])) s1
  | a, b, c =>
    let (v, err, s2) := portFetch 14 e.word (s1.count (R.eccCounters 4))
    if err then eccSignal e.word s2
    else
      let m := fun (o : Option Octet) l (x : Word) => match o with | some y => setLane x l y | none => x
      portStore e.word (m c 2 (m b 1 (m a 0 v))) s2

/-- The entry of a word drains, if the word has one. -/
def drainWord (w : Nat) (s : State) : State :=
  match s.ecc.merge.find? (fun e => e.word == w) with
  | some e => drainEntry e s
  | none => s

/-- Every entry of a bank's port drains, oldest first. -/
def drainBank (b : Nat) (s : State) : State :=
  forAll (s.ecc.merge.filter (fun e => bankOf e.word == some b)) drainEntry s

/-- Every entry of every port drains (FENCE). -/
def drainAll (s : State) : State := forAll s.ecc.merge drainEntry s

/-- A read of a word through its port: its merge entry drains first (R351). -/
def portRead (init w : Nat) (s : State) : Word × Bool × State := portFetch init w (drainWord w s)

/-- A write of one octet of bank 15 in octet-check mode that the port performs, an armed flip applied (R352, R355). -/
def portStoreOctet (w lane : Nat) (o : Octet) (s : State) : State :=
  let armed := s.flipArmed w
  let d := if armed then o ^^^ laneOf (s.reg R.eccFlipd) lane else o
  when armed (fun t => t.setBit R.eccFlipsel 8 false)
    (setOctFlips w armed [lane] { s with mem := s.mem.setOctet (3 * w + lane) d })

/-- A read of one octet: in octet-check mode a sound lane reads although another lane of the word has failed (R352). -/
def portReadOctet (init w lane : Nat) (s : State) : Octet × Bool × State :=
  if s.octMode w && (tabLook 0 s.ecc.octFlips (4 * w + 3) == 0) then
    match s.decodeOctet w lane with
    | .clean => (laneOf (s.mem.word w) lane, false, s)
    | .corrected x => (O x.toNat, false, recordCe w (portStoreOctet w lane (O x.toNat) s.drawn))
    | .failed k => (laneOf (s.mem.word w) lane, true, recordUe init k w s.drawn)
  else
    let (v, err, t) := portRead init w s
    (laneOf v lane, err, t)

/-- An entry with a lane filled. -/
def MergeEntry.put (e : MergeEntry) (lane : Nat) (o : Octet) : MergeEntry :=
  match lane with
  | 0 => { e with o0 := some o }
  | 1 => { e with o1 := some o }
  | _ => { e with o2 := some o }

/-- All three lanes are held. -/
def MergeEntry.full (e : MergeEntry) : Bool := e.o0.isSome && e.o1.isSome && e.o2.isSome

/-- An octet write at a port (R351, R352). -/
def portWriteOctet (w lane : Nat) (o : Octet) (s : State) : State :=
  if s.octMode w then portStoreOctet w lane o s
  else
    match s.ecc.merge.find? (fun e => e.word == w) with
    | some e =>
      let e2 := e.put lane o
      if e2.full then drainEntry e2 s
      else s.setEcc { s.ecc with merge := s.ecc.merge.map (fun x => if x.word = w then e2 else x) }
    | none =>
      let mine := s.ecc.merge.filter (fun e => bankOf e.word == bankOf w)
      let s1 := match mine with
        | e :: _ => if 8 ≤ mine.length then drainEntry e s else s
        | [] => s
      s1.setEcc { s1.ecc with merge := s1.ecc.merge ++
        [({ word := w, o0 := none, o1 := none, o2 := none } : MergeEntry).put lane o] }

/-! ## Posted writes (R398) -/

/-- A posted write lands. -/
def landOne (p : Posted) (s : State) : State :=
  match p.lane with
  | none => portWrite p.word p.v s
  | some l => portWriteOctet p.word l (laneOf p.v 0) s

/-- Every write that waits at the port of a bank lands, in order. -/
def landBank (b : Option Nat) (s : State) : State :=
  forAll (s.dmaPost.filter (fun p => bankOf p.word == b)) landOne
    { s with dmaPost := s.dmaPost.filter (fun p => bankOf p.word != b) }

/-- Every posted write lands. -/
def landAll (s : State) : State := forAll s.dmaPost landOne { s with dmaPost := [] }

/-- A write waits at the port of the bank that holds `a`. -/
def State.postedAt (s : State) (a : Nat) : Bool := s.dmaPost.any (fun p => bankOf p.word == bankOf a)

/-- A write to `a` comes after those that its port has accepted. -/
def landFor (a : Nat) (s : State) : State := if s.postedAt a then landBank (bankOf a) s else s

/-- A read of `a` may find old contents where posted writes wait at its port (R398): whether they land first is open. -/
def landMaybe (a : Nat) (s : State) : State :=
  if s.postedAt a then (if Config.freeBool s.draws then landBank (bankOf a) s.drawn else s.drawn) else s

/-- A port accepts a channel's write of a word, or of the octet of a lane, which lands later: one that R4 refuses is dropped. -/
def portAccept (ok : Bool) (a : Nat) (lane : Option Nat) (v : Word) (s : State) : State :=
  if ok && s.sramUp a then { s with dmaPost := s.dmaPost ++ [{ word := a, lane := lane, v := v }] } else s

/-! ## The bus's view of the memories (R342) -/

/-- The initiator's number in UEINFO.INIT. -/
def initOf : Who → Nat
  | .app k => k.val
  | .lcA => 4
  | .lcB => 5
  | .dma _ => 6
  | .dbg => 15

/-- A memory word address that is not in SRAM and can be read: boot ROM or flash. -/
def romRange (a : Nat) : Bool := a < 0x10000 || (0x100000 ≤ a && a < 0x500000)

/-- The octal-SPI window. -/
def ospiRange (a : Nat) : Bool := 0xB00000 ≤ a && a < 0xC00000

/-- A read of the word waits for the flash controller: its bank is being programmed or erased, and the erase is not suspended
(R368). -/
def State.flashWaits (s : State) (a : Nat) : Bool :=
  match s.flash.op with
  | some o => o.result.isNone && s.flash.susp == 0 && flashRange a && ((a < 0x300000) == (o.addr < 0x300000))
  | none => false

/-- A correctable error in the flash word at `a` counts, and one at a new address fires FLASH_ECC (R361). -/
def flashCe (a : Nat) (s : State) : State :=
  let u := s.count (R.fcErrcnt 0)
  if u.reg (R.fcErraddr 0) == W a then u else fire 0x13 (u.setReg (R.fcErraddr 0) (W a))

/-- An uncorrectable error in the flash word at `a` counts. -/
def flashUe (a : Nat) (s : State) : State := (s.count (R.fcErrcnt 1)).setReg (R.fcErraddr 1) (W a)

/-- A flash read (R361): the word, corrected if it has a single error, whether it met an uncorrectable one, and the state after. Words of
undefined contents read as open values, and may meet either kind of error; what three or more errors of one word give is open; the flash
journal's words have no stated format (log 14). -/
def flashRead (a : Nat) (s : State) : Word × Bool × State :=
  let f := tabLook 0 s.flash.errs a
  if s.flashUndef a then
    let v := Config.freeWord s.draws
    let t := s.drawn.drawn
    match Config.freeNat (s.draws + 1) % 3 with
    | 0 => (v, false, t)
    | 1 => (v, false, flashCe a t)
    | _ => (v, true, flashUe a t)
  else if sectorOf a = 2 ∨ sectorOf a = 3 then (Config.freeWord s.draws, false, s.drawn)
  else
    match popcount f with
    | 0 => (s.mem.word a, false, s)
    | 1 => (s.mem.word a ^^^ W f.toNat, false, flashCe a s)
    | 2 => (s.mem.word a, true, flashUe a s)
    | _ => if Config.freeBool s.draws then (s.mem.word a, true, flashUe a s.drawn)
      else (Config.freeWord s.draws, false, flashCe a s.drawn)

/-- Flash words from `a` up, each with whether it met an uncorrectable error. -/
def flashReads : Nat → Nat → State → List (Word × Bool) × State
  | _, 0, s => ([], s)
  | a, n + 1, s =>
    let (v, e, t) := flashRead a s
    let (l, u) := flashReads (a + 1) n t
    ((v, e) :: l, u)

/-- The line of `a` stands in the shared flash cache. -/
def State.fcHit (s : State) (a : Nat) : Bool := s.flash.cache.any (fun e => e.1 == a / 8)

/-- A flash read by an application core, which the shared flash cache of 4,096 lines serves (R333, log 143): a hit gives the word as the
line was read; a miss reads the line and keeps it, but not one with an uncorrectable word. Which line leaves a full cache is open. -/
def fcRead (a : Nat) (s : State) : Word × Bool × State :=
  match s.flash.cache.find? (fun e => e.1 == a / 8) with
  | some e => (e.2.getD (a % 8) 0, false, s)
  | none =>
    let (l, t) := flashReads (a / 8 * 8) 8 s
    let full := 4096 ≤ t.flash.cache.length
    let old := if full then t.flash.cache.eraseIdx (Config.freeNat t.draws % 4096) else t.flash.cache
    let u := if full then t.drawn else t
    ((l.getD (a % 8) (0, false)).1, (l.getD (a % 8) (0, false)).2,
      if l.any (·.2) then t else { u with flash := { u.flash with cache := (a / 8, l.map (·.1)) :: old } })

/-- An uncorrectable error that a link core meets in SRAM fires source 18 (R350). -/
def firmSignal (init : Nat) (err : Bool) (s : State) : State := when (err && (init == 4 || init == 5)) (fire 0x12) s

/-- A memory read honoured by the address decoder: the word, whether it met an uncorrectable error, and the state after. A
read of the octal-SPI window returns what the device outside supplies: an open value. Any other address reads 0 (R4). -/
def memRead (init a : Nat) (s : State) : Word × Bool × State :=
  if s.sramUp a then
    let (v, err, t) := portRead init a (landMaybe a s)
    (v, err, firmSignal init err t)
  else if !(s.alive && 2 ≤ s.domainMode) then (0, false, s)
  else if flashRange a then (if init < 4 then fcRead a s else flashRead a s)
  else if romRange a then (s.mem.word a, false, s)
  else if ospiRange a then (Config.freeWord s.draws, false, s.drawn)
  else (0, false, s)

/-- A read of one octet, likewise. -/
def memReadOctet (init a lane : Nat) (s : State) : Octet × Bool × State :=
  if s.sramUp a then
    let (o, err, t) := portReadOctet init a lane (landMaybe a s)
    (o, err, firmSignal init err t)
  else
    let (v, err, t) := memRead init a s
    (laneOf v lane, err, t)

/-- `w` may write link memory: link firmware's initiators, and the debug port at level 0 (R4, R290, R387, R467); the duty buckets only the
accountant writes (R112). -/
def State.mayWriteMem (s : State) (w : Who) (a : Nat) : Bool :=
  if 0x862800 ≤ a && a < 0x862900 then false
  else if 0x800000 ≤ a && a < 0x880000 then s.firm w && (w != .dbg || s.otp.debugLevel.toNat == 0) else true

/-- A memory write by `w`: to SRAM in service and within `w`'s rights; elsewhere ignored (R4). Writes to the octal-SPI
window leave the part. -/
def memWrite (w : Who) (a : Nat) (v : Word) (s : State) : State :=
  if s.sramUp a && s.mayWriteMem w a then portWrite a v (landFor a s) else s

/-- An octet write, likewise. -/
def memWriteOctet (w : Who) (a lane : Nat) (o : Octet) (s : State) : State :=
  if s.sramUp a && s.mayWriteMem w a then portWriteOctet a lane o (landFor a s) else s

/-- A read by one of the link engines: an uncorrectable error fires source 18 (R350). -/
def engRead (init a : Nat) (s : State) : Word × Bool × State :=
  let (v, err, t) := memRead init a s
  if err then (v, true, eccSignal a t) else (v, false, t)

/-- Words that a read changes or fails at: octets wait for them in a merge buffer, or errors stand in them. -/
def State.unsound (s : State) : List Nat :=
  (s.ecc.merge.map MergeEntry.word ++ s.ecc.flips.map Prod.fst ++ s.ecc.octFlips.map (fun (e : Nat × BitVec 13) => e.1 / 4)).eraseDups

/-- Engine `init` reads the words that satisfy `p`, each once through its port (R349 to R351): pending octets land, a single error is
corrected and counted, an uncorrectable one fires source 18. Reads of other words change nothing. Whether one was uncorrectable. -/
def engScan (init : Nat) (p : Nat → Bool) (s : State) : Bool × State :=
  (s.unsound.filter p).foldl (fun r a =>
    let (_, err, t) := engRead init a r.2
    (r.1 || err, t)) (false, s)

/-- The state after such reads. -/
def engSee (init : Nat) (p : Nat → Bool) (s : State) : State := (engScan init p s).2

/-- Address `a` is one of the `n` from `lo` up. -/
def inRange (lo n a : Nat) : Bool := decide (lo ≤ a) && decide (a < lo + n)

/-- Some of the `n` flash words from `lo` up have undefined contents. -/
def State.undefIn (s : State) (lo n : Nat) : Bool :=
  (s.flash.marks ++ s.flash.badSectors).any (fun k => decide (sectorBase k < lo + n) && decide (lo < sectorBase k + 0x1000)) ||
    s.flash.badLines.any (fun b => decide (b < lo + n) && decide (lo < b + 8))

/-- Flash words are read: whether one was uncorrectable. -/
def flashScan (l : List Nat) (s : State) : Bool × State :=
  l.foldl (fun r a => (r.1 || (flashRead a r.2).2.1, (flashRead a r.2).2.2)) (false, s)

/-- Flash words of undefined contents are read: how many errors of either kind they count, which words they are at, and whether one was
uncorrectable, is open. -/
def flashScanOpen (s : State) : Bool × State :=
  let d := s.draws
  let s1 := (((s.countBy (R.fcErrcnt 0) (Config.freeNat d)).countBy (R.fcErrcnt 1) (Config.freeNat (d + 1))).setReg
    (R.fcErraddr 0) (Config.freeWord (d + 2))).setReg (R.fcErraddr 1) (Config.freeWord (d + 3))
  (Config.freeBool (d + 4), when (Config.freeBool (d + 5)) (fire 0x13) { s1 with draws := d + 6 })

/-- Link firmware, the flash service or the boot ROM reads the `n` flash words from `lo` up: their errors count (R361). Whether a word was
uncorrectable. -/
def flashSee (lo n : Nat) (s : State) : Bool × State :=
  let (b, s1) := flashScan ((s.flash.errs.map Prod.fst).filter (inRange lo n)) s
  if s.undefIn lo n then (b || (flashScanOpen s1).1, (flashScanOpen s1).2) else (b, s1)

/-- UEINFO's number of the link core that owns service. -/
def State.firmInit (s : State) : Nat := 4 + s.fld R.lsupStatus 0 1

/-! ## The groomer (R353, R354) -/

/-- The bank after `b` in a pass: 0 to 24, then 0 again. -/
def nextBank (b : Nat) : Nat := if b = 24 then 0 else b + 1

/-- From bank `b` on, the first bank in service, and whether the walk passed the end of the pass. -/
def State.nextUp (s : State) : Nat → Nat → Bool → Nat × Bool
  | 0, b, p => (b, p)
  | fuel + 1, b, p => if s.bankUp b then (b, p) else s.nextUp fuel (nextBank b) (p || b == 24)

/-- GROOM_PTR put on word `a`, or on the first word of the next bank in service once `a` is past its bank's end. -/
def groomTo (b a : Nat) (s : State) : State :=
  if a < bankBase b + s.bankWords b then s.setReg R.eccGroomPtr (W a)
  else
    let (b2, p) := s.nextUp 25 (nextBank b) (b == 24)
    when p (fun t => t.setReg R.eccGroomPass (t.reg R.eccGroomPass + 1)) (s.setReg R.eccGroomPtr (W (bankBase b2)))

/-- One word groomed: banks out of service are passed over; a single error is corrected and written back. -/
def groomRead (s : State) : State :=
  let a := (s.reg R.eccGroomPtr).toNat
  match bankOf a with
  | none => s
  | some b =>
    if !s.sramUp a then groomTo b (bankBase b + s.bankWords b) s
    else
      let (_, n, s1) := portProbe 13 a s
      let s2 := if n = 2 then eccSignal a (s1.count (R.eccCounters 3))
        else if n = 1 then s1.count (R.eccCounters 2) else s1
      groomTo b (a + 1) s2

/-! ## Fuse records (R358, R359) -/

/-- A bank ID and a row that exist. -/
def fuseTargetOk (bank row : Nat) : Bool := bank ≤ 24 && row < (if bank = 24 then 64 else 1024)

/-- A record applied to a bank's rows: one that is not VALID, or names no row, is ignored; a later one overrides an earlier one that names
the same spare or the same row of its bank (R358). -/
def fuseApply (l : List (Nat × Nat × Nat)) (r : Word) : List (Nat × Nat × Nat) :=
  let b := bits r 18 5
  let row := bits r 0 10
  let sp := bits r 16 2
  if bitOf r 23 && fuseTargetOk b row then
    l.filter (fun e => !(e.1 == b && (e.2.1 == row || e.2.2 == sp))) ++ [(b, row, sp)]
  else l

/-- The fuse records applied to the banks that `p` picks, in ascending index, as those power up (R358). -/
def applyFuses (p : Nat → Bool) (s : State) : State :=
  s.setEcc { s.ecc with
    spares := s.ecc.spares.filter (fun e => !p e.1) ++ (s.otp.fuses.foldl fuseApply []).filter (fun e => p e.1) }

/-- The spare that stands for a row of a bank. -/
def State.spareOf (s : State) (bank row : Nat) : Option Nat :=
  (s.ecc.spares.find? (fun e => e.1 == bank && e.2.1 == row)).map (fun e => e.2.2)

/-- The spares of a bank named by a VALID record. -/
def State.sparesUsed (s : State) (bank : Nat) : List Nat :=
  (s.otp.fuses.filter (fun r => bitOf r 23 && bits r 18 5 == bank)).map (fun r => bits r 16 2)

/-- REPAIR_ROW: the status and the state after (R359). A record that does not verify still uses its index. -/
def repairBankRow (bank row : Nat) (verified : Bool) (s : State) : Nat × State :=
  if !fuseTargetOk bank row then (0x13, s)
  else
    match (List.range 4).find? (fun i => !(s.sparesUsed bank).contains i) with
    | none => (0x15, s)
    | some sp =>
      if 128 ≤ s.otp.fuses.length then (0x15, s)
      else
        let r : Word := if verified then W (2 ^ 23 + bank * 2 ^ 18 + sp * 2 ^ 16 + row) else 0
        (if verified then 0 else 0x31, { s with otp := { s.otp with fuses := s.otp.fuses ++ [r] } })

/-! ## Power of the banks (R356, R357) -/

/-- The contents of a bank are gone: every word zero, no error, nothing waiting in its merge buffer. -/
def clearBank (b : Nat) (s : State) : State :=
  let lo := bankBase b
  let hi := lo + (if b = 24 then 0x2000 else 0x20000)
  { s with
    mem := s.mem.clear lo hi
    ecc := { s.ecc with
      flips := s.ecc.flips.filter (fun e => !(decide (lo ≤ e.1) && decide (e.1 < hi)))
      octFlips := s.ecc.octFlips.filter (fun e => !(decide (4 * lo ≤ e.1) && decide (e.1 < 4 * hi)))
      merge := s.ecc.merge.filter (fun e => bankOf e.word != some b) } }

/-- What OFFLINE asks of bank `k` while it is between no steps: go out of service, or power up and initialise. -/
def bankKick (k : Nat) (s : State) : State :=
  let off := s.bit R.eccOffline k
  let out := s.bit R.eccOffstat k
  if bitOf s.ecc.isolating k || s.bit R.eccInitstat k then s
  else if off && !out then s.setEcc { s.ecc with isolating := s.ecc.isolating ||| (1#16 <<< k) }
  else if !off && out then s.setBit R.eccInitstat k true
  else s

/-- ECC.OFFLINE written (R356): each bank acts now, or when its present step ends. -/
def offlineWrite (v : Word) (s : State) : State := forAll (List.range 16) bankKick (plainWrite R.eccOffline v s)

/-- Step 3 of R356: the merge buffer drains, the bank powers off, its contents are lost. -/
def bankIsolated (k : Nat) (s : State) : State :=
  let s1 := (clearBank k (drainBank k (landBank (some k) s))).setBit R.eccOffstat k true
  bankKick k (s1.setEcc { s1.ecc with isolating := s1.ecc.isolating &&& ~~~(1#16 <<< k) })

/-- Steps 6 and 7 of R356: the fuse records applied, every word zero, in service; bank 15 takes the mode B15MODE asks for (R352). -/
def bankInitDone (k : Nat) (s : State) : State :=
  let s1 := if k = 15 then s.setEcc { s.ecc with b15oct := s.bit R.eccB15mode 0 } else s
  bankKick k (((applyFuses (· == k) (clearBank k s1)).setBit R.eccOffstat k false).setBit R.eccInitstat k false)

/-- ECC.B15MODE written: honoured only while bank 15 is offline (R352). -/
def b15Write (v : Word) (s : State) : State := if s.bit R.eccOffstat 15 then plainWrite R.eccB15mode v s else s

/-- ECC.RETAIN written: RETAIN [17:16] by link firmware only. -/
def retainWrite (w : Who) (v : Word) (s : State) : State :=
  if s.firm w then plainWrite R.eccRetain v s else s.setFld R.eccRetain 0 16 v.toNat

/-- ECC.CTRL written: CLRCNT clears every ECC counter. -/
def eccCtrlWrite (v : Word) (s : State) : State :=
  if bitOf v 0 then forAll (List.range 5) (fun m t => t.setReg (R.eccCounters m) 0) s else s

/-- A general register of an application core: g0 reads zero (R305). -/
def Core.reg (c : Core) (i : Nat) : Word := if i = 0 then 0 else tabLook 0 c.g i

/-- The core with a general register written; writes to g0 are discarded (R305). -/
def Core.setG (c : Core) (i : Nat) (v : Word) : Core := if i = 0 then c else { c with g := tabPut 0 c.g i v }

/-! ## The commands -/

/-- MERGE_DRAIN (R351): the entry's time or space has run out. -/
def execMergeDrain (word : Word) (s : State) : Host.Outcome State Fault Refusal :=
  act s.alive (drainWord word.toNat) s

/-- GROOM_READ (R353): not while RATE is 0, and in LISTEN and above. -/
def execGroomRead (s : State) : Host.Outcome State Fault Refusal :=
  act (s.chipRuns && s.fld R.eccGroomRate 0 16 != 0) groomRead s

/-- BANK_OFFLINE (R356). -/
def execBankOffline (w : Who) (k : Fin 16) (s : State) : Host.Outcome State Fault Refusal :=
  act (s.mayWrite w R.eccOffline) (fun s => offlineWrite (setBits (s.reg R.eccOffline) k.val 1 1) s) s

/-- BANK_ISOLATED (R356). -/
def execBankIsolated (k : Fin 16) (s : State) : Host.Outcome State Fault Refusal :=
  act (s.alive && bitOf s.ecc.isolating k.val) (bankIsolated k.val) s

/-- BANK_ONLINE (R356). -/
def execBankOnline (w : Who) (k : Fin 16) (s : State) : Host.Outcome State Fault Refusal :=
  act (s.mayWrite w R.eccOffline) (fun s => offlineWrite (setBits (s.reg R.eccOffline) k.val 1 0) s) s

/-- BANK_INIT_DONE (R356). -/
def execBankInitDone (k : Fin 16) (s : State) : Host.Outcome State Fault Refusal :=
  act (s.alive && s.bit R.eccInitstat k.val) (bankInitDone k.val) s

end Sys2Proof.Machine
end

