-- ==== Sys2Proof/Machine/Qm.lean ====
section
/-! DEFINITION. The queue manager (R217 to R225) and the packet buffers (R345, R346). -/
namespace Sys2Proof.Machine

open Sys2Proof

/-! ## Engine accesses to memory -/

/-- A word as an engine reads it (init: UEINFO's number of the engine): a correctable error is corrected, an uncorrectable
one fires source 18 (R349, R350). -/
def engWord (init a : Nat) (s : State) : Word × State :=
  let (v, _, t) := engRead init a s
  (v, t)

/-- Words from `a` up as an engine reads them. -/
def engWords (init : Nat) : Nat → Nat → State → List Word × State
  | _, 0, s => ([], s)
  | a, n + 1, s =>
    let (v, s1) := engWord init a s
    let (l, s2) := engWords init (a + 1) n s1
    (v :: l, s2)

/-- An engine's write of a word. -/
def engWrite (a : Nat) (v : Word) (s : State) : State := portWrite a v (landFor a s)

/-- An engine's write of the words of a list from `a` up. -/
def engWrites : Nat → List Word → State → State
  | _, [], s => s
  | a, v :: t, s => engWrites (a + 1) t (engWrite a v s)

/-! ## Packet buffers -/

/-- First word of buffer `b` (R345). -/
def bufBase (b : Nat) : Nat := 0x900000 + 128 * b

/-- QM.BUFFREE. -/
def State.bufFree (s : State) : Nat := 4096 - s.qm.used.length

/-- A buffer for class `c` (R224): the lowest-numbered free one, its link word set; none where R224 fails it. -/
def bufAlloc (c : Nat) (s : State) : Option Nat × State :=
  if c != 0 && decide (s.bufFree ≤ s.fld R.qmBufrsv0 0 12) then (none, s)
  else
    match (List.range 4096).find? (fun b => !s.qm.used.contains b) with
    | some b => (some b, engWrite (bufBase b + 127) 0x001000 { s with qm := { s.qm with used := b :: s.qm.used } })
    | none => (none, s)

/-- A reception of class `c` that finds no buffer: BUFOUT, and C0BUFOUT (R224). -/
def bufOut (c : Nat) (s : State) : State := when (c == 0) (fun t => t.count (R.qmCounters 3)) (s.count (R.qmCounters 2))

/-- One buffer freed. -/
def bufRelease (b : Nat) (s : State) : State := { s with qm := { s.qm with used := s.qm.used.filter (· != b) } }

/-- The walk of R346 from buffer `b`, at most `fuel` buffers; an uncorrectable link word stops it at its buffer. -/
def freeWalk : Nat → Nat → State → State
  | 0, _, s => s
  | fuel + 1, b, s =>
    let (v, err, s1) := engRead 9 (bufBase b + 127) s
    let s2 := bufRelease b s1
    if err || bitOf v 12 then s2 else freeWalk fuel (bits v 0 12) s2

/-- The chain of a descriptor is freed (R223). -/
def freeChain (desc : Word) (s : State) : State := freeWalk 16 (bits desc 0 12) s

/-- The buffers of a chain, as its link words give them, at most 16; one that cannot be corrected ends it. -/
def State.chain (s : State) : Nat → Nat → List Nat
  | 0, _ => []
  | fuel + 1, b =>
    let a := bufBase b + 127
    let v := s.mw a
    if badFlips (tabLook 0 s.ecc.flips a) || bitOf v 12 then [b] else b :: s.chain fuel (bits v 0 12)

/-- The length field of a descriptor, in octets after the record. -/
def descLen (desc : Word) : Nat := bits desc 12 12

/-- The first words of the chain's data area, in order: `n` of them. -/
def State.chainWords (s : State) (desc : Word) (n : Nat) : List Word :=
  ((s.chain 16 (bits desc 0 12)).flatMap (fun b => s.mws (bufBase b) 127)).take n

/-- The record of 8 words at the start of a frame's first buffer (R345), as engine `init` reads it. -/
def readRecord (init : Nat) (desc : Word) (s : State) : List Word × State := engWords init (bufBase (bits desc 0 12)) 8 s

/-- The octets that a descriptor's length counts (R345). -/
def State.frameOctets (s : State) (desc : Word) : List Octet :=
  (wordsToOctets ((s.chainWords desc (8 + (descLen desc + 2) / 3)).drop 8)).take (descLen desc)

/-- Word addresses of a chain's data area, in order. -/
def State.chainAddrs (s : State) (desc : Word) : List Nat :=
  (s.chain 16 (bits desc 0 12)).flatMap (fun b => (List.range 127).map (fun i => bufBase b + i))

/-- Engine `init` reads the link words and the data of a descriptor's chain through the port (R349 to R351): whether one was
uncorrectable. -/
def frameScan (init : Nat) (desc : Word) (s : State) : Bool × State :=
  engScan init (fun a =>
    ((s.chain 16 (bits desc 0 12)).map (fun b => bufBase b + 127)).contains a ||
      ((s.chainAddrs desc).take (8 + (descLen desc + 2) / 3)).contains a) s

/-- Words written to addresses, pairwise. -/
def putAt : List Nat → List Word → State → State
  | a :: as, v :: vs, s => putAt as vs (engWrite a v s)
  | _, _, s => s

/-- The words of a frame stored in fresh buffers of class `c`, 127 to a buffer: the first buffer, or none with everything
allocated given back (R224). `fuel` bounds the buffers. -/
def storeChunks (c : Nat) : Nat → List Word → State → Option Nat × State
  | 0, _, s => (none, s)
  | fuel + 1, ws, s =>
    match bufAlloc c s with
    | (none, s1) => (none, s1)
    | (some b, s1) =>
      let s2 := engWrites (bufBase b) (ws.take 127) s1
      if ws.length ≤ 127 then (some b, s2)
      else
        match storeChunks c fuel (ws.drop 127) s2 with
        | (some nx, s3) => (some b, engWrite (bufBase b + 127) (W nx) s3)
        | (none, s3) => (none, bufRelease b s3)

/-- A number of buffers of class `c`, or none with everything allocated given back (R224). -/
def bufTake (c : Nat) : Nat → State → Option (List Nat) × State
  | 0, s => (some [], s)
  | k + 1, s =>
    match bufAlloc c s with
    | (none, s1) => (none, s1)
    | (some b, s1) =>
      match bufTake c k s1 with
      | (some l, s2) => (some (b :: l), s2)
      | (none, s2) => (none, bufRelease b s2)

/-- Buffers freed. -/
def bufGive (l : List Nat) (s : State) : State := forAll l bufRelease s

/-- Words stored in buffers already allocated, 127 to a buffer, and chained; buffers beyond their end are freed. -/
def storeBufs : List Nat → List Word → State → State
  | [], _, s => s
  | b :: l, ws, s =>
    let s1 := engWrites (bufBase b) (ws.take 127) s
    match l with
    | [] => s1
    | nx :: _ =>
      if ws.length ≤ 127 then bufGive l s1
      else storeBufs l (ws.drop 127) (engWrite (bufBase b + 127) (W nx) s1)

/-- A frame with its record stored in fresh buffers: its descriptor. -/
def storeFrame (c : Nat) (rec : List Word) (data : List Octet) (s : State) : Option Word × State :=
  match storeChunks c 16 (rec ++ octetsToWords data) s with
  | (some b, t) => (some (W (b + data.length * 4096)), t)
  | (none, t) => (none, t)

/-! ## Queues -/

/-- An empty queue. -/
def QueueSt.empty : QueueSt := { cells := [], tmo := 0, fired := false }

/-- Queue `n`. -/
def State.queue (s : State) (n : Nat) : QueueSt := tabLook QueueSt.empty s.qm.q n

/-- The state with queue `n` replaced. -/
def State.setQueue (s : State) (n : Nat) (x : QueueSt) : State :=
  { s with qm := { s.qm with q := tabPut QueueSt.empty s.qm.q n x } }

/-- Qn_STATUS.COUNT. -/
def State.qCount (s : State) (n : Nat) : Nat := (s.queue n).cells.length

/-- Qn_CFG.CLASS. -/
def State.qClass (s : State) (n : Nat) : Nat := s.fld (R.qCfg n) 22 2

/-- QM.USEc. -/
def State.qUse (s : State) (c : Nat) : Nat :=
  (s.qm.q.map (fun e => if s.qClass e.1 = c then e.2.cells.length else 0)).sum

/-- QM.FREECELLS. -/
def State.qFree (s : State) : Nat := 0x8000 - (s.qm.q.map (fun e => e.2.cells.length)).sum

/-- R221 gives class `c` a cell. -/
def State.cellOk (s : State) (c : Nat) : Bool :=
  decide ((([0, 1, 2, 3].filter (· != c)).map (fun d => s.fld (R.qmRsv d) 0 16 - s.qUse d)).sum + 1 ≤ s.qFree)

/-- Qn_LIMIT: 0 and values above 32,768 act as 32,768. -/
def State.qLimit (s : State) (n : Nat) : Nat :=
  let l := s.fld (R.qLimit n) 0 16
  if l = 0 ∨ 0x8000 < l then 0x8000 else l

/-- The queue holds LIMIT words (R222). -/
def State.qFull (s : State) (n : Nat) : Bool := decide (s.qLimit n ≤ s.qCount n)

/-- First word of cell `c` of the 32,768 (R217). -/
def cellAt (c : Nat) : Nat := 0x840000 + 2 * (c % 0x8000)

/-- The free cell that the next word takes: the order of QM's internal list is open (log 104). -/
def State.newCell (s : State) : Nat :=
  let l := (List.range 0x8000).filter (fun c => !s.qm.q.any (fun e => e.2.cells.any (fun x => x.1 == c)))
  l.getD (Config.freeNat s.draws % l.length) 0

/-- Cell `c` stands behind the cells of a list: the last of them names it as next. -/
def linkAfter (l : List (Nat × Word)) (c : Nat) (s : State) : State :=
  match l.getLast? with
  | some e => engWrite (cellAt e.1 + 1) (W (c % 0x8000)) s
  | none => s

/-- The queue's cells replaced, with HIWAT following, and an episode starting as the queue stops being empty (R225). -/
def setCells (n : Nat) (l : List (Nat × Word)) (s : State) : State :=
  let q := s.queue n
  let q2 : QueueSt := if q.cells.isEmpty && !l.isEmpty then { cells := l, tmo := s.fld (R.qTmo n) 0 16, fired := false }
    else if l.isEmpty then QueueSt.empty
    else { q with cells := l }
  (s.setFld (R.qHiwat n) 0 16 (max (s.fld (R.qHiwat n) 0 16) (min l.length 0xFFFF))).setQueue n q2

/-- Queue `n` becomes the cells `l` with cell `c`, holding `v`, behind them. -/
def putTail (n : Nat) (l : List (Nat × Word)) (c : Nat) (v : Word) (s : State) : State :=
  setCells n (l ++ [(c, v)]) (linkAfter l c (engWrite (cellAt c) v s))

/-- Queue `n` takes a fresh cell, holding `v`, before its head. -/
def putHead (n : Nat) (v : Word) (s : State) : State :=
  let c := s.newCell
  let l := (s.queue n).cells
  let s1 := engWrite (cellAt c) v s.drawn
  setCells n ((c, v) :: l) (match l with
    | e :: _ => engWrite (cellAt c + 1) (W (e.1 % 0x8000)) s1
    | [] => s1)

/-- Qn_LOST counts, saturating at 0xFFFF. -/
def countLost (n : Nat) (s : State) : State := s.setFld (R.qLost n) 0 16 (min 0xFFFF (s.fld (R.qLost n) 0 16 + 1))

/-- A word is lost from queue `n` by an overwrite: its chain is freed where Qn_CFG.FRAMES = 1 (R223). -/
def dropWord (n : Nat) (v : Word) (s : State) : State := when (s.bit (R.qCfg n) 21) (freeChain v) s

/-- The spill queue takes a cell with its word; full, it loses its own oldest (R222). -/
def spillInto (m c : Nat) (v : Word) (s : State) : State :=
  if s.qFull m then
    match (s.queue m).cells with
    | h :: t => dropWord m h.2 (putTail m t c v (countLost m s))
    | [] => s
  else putTail m (s.queue m).cells c v s

/-- A refused push or head return (R221). -/
def refuseCell (n : Nat) (s : State) : State :=
  when (s.qClass n == 0) (fun t => t.count (R.qmCounters 1)) (s.count (R.qmCounters 0))

/-- Qn_CFG.SPILL, where a word overwritten on queue `n` goes there. -/
def State.spillOf (s : State) (n : Nat) : Option Nat :=
  let m := s.fld (R.qCfg n) 13 7
  if s.bit (R.qCfg n) 20 && m != n then some m else none

/-- A push onto queue `n` (R219, R221, R222): whether it is taken, and the state after. On a full queue the queue never stands
empty between, so that its episode goes on. -/
def qPush (n : Nat) (v : Word) (s : State) : Bool × State :=
  if v == 0xFFFFFF then (false, s.count (R.qmCounters 0))
  else
    match s.qFull n, (s.queue n).cells with
    | true, h :: t =>
      match s.spillOf n with
      | some m =>
        let s1 := spillInto m h.1 h.2 (setCells n t (countLost n s))
        if s1.cellOk (s1.qClass n) then
          let c := s1.newCell
          (true, (putTail n t c v s1.drawn).setQueue n { s.queue n with cells := t ++ [(c, v)] })
        else (false, refuseCell n s)
      | none => (true, dropWord n h.2 (putTail n t h.1 v (countLost n s)))
    | _, l => if s.cellOk (s.qClass n) then (true, putTail n l s.newCell v s.drawn) else (false, refuseCell n s)

/-- A word put back at the head of queue `n` (R219, R222): on a full queue the returned word is the one overwritten. -/
def qPushHead (n : Nat) (v : Word) (s : State) : Bool × State :=
  if v == 0xFFFFFF then (false, s.count (R.qmCounters 0))
  else if s.qFull n then
    match s.spillOf n with
    | some m =>
      if s.cellOk (s.qClass n) then (true, spillInto m s.newCell v (countLost n s).drawn) else (false, refuseCell n s)
    | none => (true, dropWord n v (countLost n s))
  else if s.cellOk (s.qClass n) then (true, putHead n v s)
  else (false, refuseCell n s)

/-- A push of a frame by a hardware pusher: refused, the frame is dropped and its chain freed (R221). -/
def hwPush (n : Nat) (v : Word) (s : State) : Bool × State :=
  let (ok, t) := qPush n v s
  if ok then (true, t) else (false, freeChain v t)

/-- LINK's right to push onto a queue (R218). -/
def linkPushes (n : Nat) : Bool := decide (16 ≤ n)

/-- FWD's right to push onto a queue, and to pop it (R218). -/
def fwdPushes (n : Nat) : Bool := decide (n < 32) || decide (96 ≤ n)
def fwdPops (n : Nat) : Bool := decide (96 ≤ n)

/-- A push by a hardware pusher with or without the right to it: without it, the word does not enter the queue, and the frame is dropped
and freed as one refused (log 105). -/
def hwPushIf (ok : Bool) (n : Nat) (v : Word) (s : State) : Bool × State := if ok then hwPush n v s else (false, freeChain v s)

/-- A head return by the gate engine, likewise. -/
def hwPushHead (n : Nat) (v : Word) (s : State) : State :=
  let (ok, t) := qPushHead n v s
  if ok then t else freeChain v t

/-- A pop (R219): the head word, or 0xFFF_FFF; another episode starts, or the episode ends (R225). -/
def qPop (n : Nat) (s : State) : Word × State :=
  match (s.queue n).cells with
  | [] => (0xFFFFFF, s)
  | h :: t =>
    (h.2, s.setQueue n (if t.isEmpty then QueueSt.empty else { cells := t, tmo := s.fld (R.qTmo n) 0 16, fired := false }))

/-- The first cell holding `v` leaves queue `n`, wherever it stands. -/
def qTake (n : Nat) (v : Word) (s : State) : State :=
  let l := (s.queue n).cells
  let before := l.takeWhile (fun e => e.2 != v)
  let after_ := (l.drop before.length).tail
  setCells n (before ++ after_) (match after_ with
    | e :: _ => linkAfter before e.1 s
    | [] => s)

/-- The head word, or 0xFFF_FFF. -/
def State.qPeek (s : State) (n : Nat) : Word := (s.queue n).words.headD 0xFFFFFF

/-- A timeout of queue `n` (R225). -/
def qmTimeout (n : Nat) (s : State) : State :=
  let s1 := (s.setQueue n { s.queue n with fired := true }).setBit (R.qmTmoflag (n / 24)) (n % 24) true
  when (n < 32) (notice 4 0x41 [O n]) (fire 0x16 s1)

/-- The words of QM's registers that show its state. -/
def State.qmRead (s : State) (a : Nat) : Option Word :=
  if a == R.qmFreecells then some (W s.qFree)
  else if a == R.qmBuffree then some (W s.bufFree)
  else if R.qmUse 0 ≤ a && a ≤ R.qmUse 3 then some (W (s.qUse (a - R.qmUse 0)))
  else if 0xF0B800 ≤ a && a < 0xF0C000 then
    let n := (a - 0xF0B800) / 16
    match a % 16 with
    | 3 => some (W (s.qCount n % 2 ^ 16 + (if (s.queue n).tmo = 0 then 0 else 2 ^ 16)))
    | 9 => some (s.qPeek n)
    | _ => none
  else none

/-! ## The commands -/

/-- QUEUE_PUSH (R219). -/
def execQueuePush (w : Who) (n : Fin 128) (v : Word) (s : State) : Host.Outcome State Fault Refusal :=
  act (s.mayWrite w (R.qPush n.val)) (fun s => (qPush n.val v s).2) s

/-- QUEUE_PUSHHEAD (R219). -/
def execQueuePushhead (w : Who) (n : Fin 128) (v : Word) (s : State) : Host.Outcome State Fault Refusal :=
  act (s.mayWrite w (R.qPushhead n.val)) (fun s => (qPushHead n.val v s).2) s

/-- QUEUE_POP (R219). -/
def execQueuePop (w : Who) (n : Fin 128) (s : State) : Host.Outcome State Fault Refusal :=
  readCmd (s.mayRead w (R.qPop n.val)) (qPop n.val) s

/-- QUEUE_PEEK (R219). -/
def execQueuePeek (w : Who) (n : Fin 128) (s : State) : Host.Outcome State Fault Refusal :=
  readCmd (s.mayRead w (R.qPeek n.val)) (fun s => (s.qPeek n.val, s)) s

/-- QUEUE_CLASS_WRITE (R221): the cells go with the queue, since USEc counts them by Qn_CFG.CLASS. -/
def execQueueClassWrite (w : Who) (n : Fin 128) (v : Word) (s : State) : Host.Outcome State Fault Refusal :=
  act (s.mayWrite w (R.qCfg n.val)) (plainWrite (R.qCfg n.val) v) s

/-- FREEBUF (R223). -/
def execFreebuf (w : Who) (v : Word) (s : State) : Host.Outcome State Fault Refusal :=
  act (s.mayWrite w R.qmFreebuf) (freeChain v) s

/-- A read of QM.ALLOC (R224). -/
def allocRead (s : State) : Word × State :=
  match bufAlloc 3 s with
  | (some b, t) => (W b, t)
  | (none, t) => (0xFFFFFF, t)

/-- ALLOC (R224). -/
def execAlloc (w : Who) (s : State) : Host.Outcome State Fault Refusal := readCmd (s.mayRead w R.qmAlloc) allocRead s

/-- QM_TIMEOUT (R225): an episode runs and has not timed out. -/
def execQmTimeout (n : Fin 128) (s : State) : Host.Outcome State Fault Refusal :=
  act (s.linkRuns && (s.queue n.val).tmo != 0 && !(s.queue n.val).fired) (qmTimeout n.val) s

end Sys2Proof.Machine
end

