-- ==== Sys2Proof/Machine/Frames.lean ====
section
/-! DEFINITION. Frames: the table banks, PHY modes and profiles, airtimes, the MAC header of IEEE 802.15.4-2020 frame version 2 as
LINK parses and builds it (R170, R171), and its security (R177). -/
namespace Sys2Proof.Machine

open Sys2Proof

/-! ## Table banks (R89) -/

/-- First word of table bank B (true) or A. -/
def bankAt (b : Bool) : Nat := if b then 0x858000 else 0x850000

/-- GATE.STATUS.BANK: the bank in force. -/
def State.bank (s : State) : Bool := s.bit R.gateStatus 1

/-- The word at offset `o` of a bank. -/
def State.bw (s : State) (b : Bool) (o : Nat) : Word := s.mw (bankAt b + o)

/-- Mesh time in whole nanoseconds (R48). -/
def State.now (s : State) : Nat := s.mt.ctr.toNat / 256

/-! ## Instants in whole nanoseconds: values of the counter's upper 64 bits, compared modulo 2^64 (R8) -/

/-- Nanoseconds from `a` on to `b`. -/
def nsSince (a b : Nat) : Nat := (b % 2 ^ 64 + 2 ^ 64 - a % 2 ^ 64) % 2 ^ 64

/-- `b` is `a` or comes after it: less than half the counter's range lies between them, as in R39's compare (log 90). -/
def nsLe (a b : Nat) : Bool := decide (nsSince a b < 2 ^ 63)

/-- `b` comes after `a`. -/
def nsLt (a b : Nat) : Bool := !nsLe b a

/-- The later of two instants. -/
def nsMax (a b : Nat) : Nat := if nsLe a b then b else a

/-- The instant `d` ns before `a`. -/
def nsBack (a d : Nat) : Nat := (a + 2 ^ 64 - d % 2 ^ 64) % 2 ^ 64

/-- A counter value in whole nanoseconds. -/
abbrev nsOf (t : BitVec 72) : Nat := t.toNat / 256

/-- A table with key `a` holding `v`, whatever `v` is. -/
abbrev tabSet {β : Type} (t : List (Nat × β)) (a : Nat) (v : β) : List (Nat × β) := tabIns (tabDel t a) a v

/-- What a table holds for a key, if it lists it. -/
abbrev tabGet {β : Type} (t : List (Nat × β)) (a : Nat) : Option β := (t.find? (fun e => e.1 == a)).map (·.2)

/-- A list of instants lists `a`, and `t` comes before it. -/
def beforeMark (l : List (Nat × Nat)) (a t : Nat) : Bool :=
  match tabGet l a with
  | some m => nsLt t m
  | none => false

/-- The calibration entry of channel `c`: word `j` (R86). -/
def State.calWord (s : State) (b : Bool) (c j : Nat) : Word := s.bw b (0x4000 + 4 * c + j)

/-- FREQ lies in the ranges of the entry's band (R79), in 250 Hz units. -/
def freqOk (band f : Nat) : Bool :=
  if band == 0 then (1640000 ≤ f && f ≤ 2040000) || (3116000 ≤ f && f ≤ 3840000)
  else 9600000 ≤ f && f ≤ 9934000

/-- Channel `c` may be tuned on `band` (R55, R79). -/
def State.chanOk (s : State) (b : Bool) (band c : Nat) : Bool :=
  bits (s.calWord b c 1) 22 1 == band && freqOk band (s.calWord b c 0).toNat

/-! ## Profiles and modes (R139 to R143) -/

/-- Word `j` of profile `p` (R141). -/
def State.profWord (s : State) (b : Bool) (p j : Nat) : Word := s.bw b (0x1400 + 8 * p + j)

/-- Mode ID in slot `i` of a profile. -/
def State.profMode (s : State) (b : Bool) (p i : Nat) : Nat := bits (s.profWord b p 0) (8 * i) 8

/-- The mode is defined for the band (R139). -/
def modeOk (band m : Nat) : Bool :=
  (0x10 ≤ m && m ≤ 0x15 && band == 0) || (0x21 ≤ m && m ≤ 0x24) || (m == 0x30 && band == 1) || (0x40 ≤ m && m ≤ 0x42)

/-- TL-OFDM. -/
def isTl (m : Nat) : Bool := 0x40 ≤ m && m ≤ 0x42

/-- Lane bandwidth of a profile in kHz. -/
def State.profBw (s : State) (b : Bool) (p : Nat) : Nat := max 100 (min 3200 (bits (s.profWord b p 2) 0 12))

/-- A lane of the band under the profile searches slot `i` (R142). -/
def State.slotSearched (s : State) (b : Bool) (band p i : Nat) : Bool :=
  let m := s.profMode b p i
  modeOk band m && (!isTl m || decide (800 * 2 ^ (m - 0x40) ≤ s.profBw b p))

/-- Data tones of a TL-OFDM width (R146). -/
def tlTones (width : Nat) : Nat := 52 * 2 ^ width

/-- K of R152 at N = 2,304, by RATE. -/
def ldpcK (rate : Nat) : Nat := [1152, 1536, 1728, 1920].getD rate 1152

/-- Codewords of a PSDU of `len` octets (R151). -/
def tlCodewords (len rate : Nat) (blk : Bool) : Nat :=
  let k := if blk then ldpcK rate else ldpcK rate / 2
  (8 * len + k - 1) / k

/-- Bits of a constellation code (R148). -/
def conBits (c : Nat) : Nat := [0, 1, 2, 4, 6, 8, 10].getD c 0

/-- Airtime of a TL-OFDM frame in microseconds (R147, R151): its width, PSDU octets with FCS, rate, block, prefix, coded
bits per symbol, and whether it is a sounding frame. -/
def tlAirtime (width len rate : Nat) (blk cp20 : Bool) (bps : Nat) (sound : Bool) : Nat :=
  let k := if blk then ldpcK rate else ldpcK rate / 2
  let n := if blk then 2304 else 1152
  let c := tlCodewords len rate blk
  let b := c * n - (c * k - 8 * len)
  340 + 100 * (4 / 2 ^ width) + (if cp20 then 100 else 90) * ((b + bps - 1) / max 1 bps) + (if sound then 800 else 0)

/-- kb/s of an MR-FSK mode. -/
def fskRate (m : Nat) : Nat := [50, 100, 150, 200, 300, 400].getD (m - 0x10) 50

/-- MR-OFDM: data bits of a symbol of 120 µs, by option and MCS (R144's rates). -/
def ofdmBits (opt mcs : Nat) : Nat :=
  let r := [100, 200, 400, 800, 1200, 1600, 2400].getD mcs 100
  (r / 2 ^ opt) * 120 / 1000

/-- The MCS that an option defines, nearest to the one asked for (R141, R144). -/
def ofdmMcs (opt mcs : Nat) : Nat :=
  match opt with
  | 0 => min 3 mcs
  | 1 => min 5 mcs
  | 2 => max 1 (min 6 mcs)
  | _ => max 2 (min 6 mcs)

/-- Bits on air of an MR-FSK frame's PHR and PSDU (R144): with NRNSC, K = 4, three tail bits and the pad bits that IEEE
802.15.4-2020 gives, 5 for an odd and 13 for an even PSDU, are added before the rate-1/2 code (log 8). -/
def fskBits (nrnsc : Bool) (len : Nat) : Nat :=
  if nrnsc then 2 * (8 * (2 + len) + 3 + (if len % 2 = 1 then 5 else 13)) else 8 * (2 + len)

/-- Airtime in microseconds of a frame of `len` octets with FCS in mode `m`, under the map's parameters in TL-OFDM and the MCS in
MR-OFDM. The parts of the standard modes' frames are those of IEEE 802.15.4-2020 (log 8). -/
def State.airtimeM (s : State) (b : Bool) (p m mcs len : Nat) (tl : Nat × Bool × Bool × Nat) (sound : Bool) : Nat :=
  let w3 := s.profWord b p 3
  if isTl m then tlAirtime (m - 0x40) len tl.1 tl.2.1 tl.2.2.1 tl.2.2.2 sound
  else if m == 0x30 then (6 + len) * 32
  else if 0x21 ≤ m then
    let opt := m - 0x21
    let bps := max 1 (ofdmBits opt (ofdmMcs opt mcs))
    480 + 240 + 120 * [3, 6, 6, 6].getD opt 3 + 120 * ((8 * len + 6 + bps - 1) / bps)
  else
    let pre := max 4 (min 1000 (bits w3 0 10))
    let body := fskBits (bitOf w3 23) len
    if m == 0x15 then (pre * 8 + 16) * 5 + body / 2 * 5
    else ((pre + 2) * 8 + body) * 1000 / fskRate m

/-- Airtime in the profile's transmit mode, under a map's parameters or the profile's uniform ones. -/
def State.airtime (s : State) (b : Bool) (p len : Nat) (tl : Option (Nat × Bool × Bool × Nat)) (sound : Bool) : Nat :=
  let m := s.profMode b p 0
  let w4 := s.profWord b p 4
  let u := bits w4 11 3
  let uni := (bits w4 16 2, bitOf w4 15, bitOf w4 14, tlTones (m - 0x40) * conBits (if u = 0 ∨ u = 7 then 2 else u))
  s.airtimeM b p m (bits w4 21 3) len (tl.getD uni) sound

/-- FCS octets of a mode under FCS2: 4 in TL-OFDM (R149), 2 in O-QPSK. -/
def fcsOf (m : Nat) (fcs2 : Bool) : Nat := if isTl m then 4 else if m == 0x30 then 2 else if fcs2 then 2 else 4

/-- FCS octets of a profile's transmissions. -/
def State.fcsLen (s : State) (b : Bool) (p : Nat) : Nat := fcsOf (s.profMode b p 0) (bitOf (s.profWord b p 3) 19)

/-! ## Group delays (R32, R33, R140) -/

/-- Receive group delay and port delay of a frame, in counter units of 1/256 ns. -/
def State.rxDelay (s : State) (b : Bool) (band p slot port : Nat) : Nat :=
  16 * ((s.bw b (0x1C00 + 6 * p + 2 * slot + band)).toNat + (s.bw b (0x2400 + 2 * (2 * band + port - 1))).toNat)

/-- Transmit group delay of a mode and port delay of a port, in counter units of 1/256 ns (R140): a first sample leaves the
modulator this much before its instant at the ball. -/
def State.txDelay (s : State) (b : Bool) (band m port : Nat) : Nat :=
  16 * ((s.bw b (0x2200 + 2 * m + band)).toNat + (s.bw b (0x2401 + 2 * (2 * band + port - 1))).toNat)

/-! ## Parsing -/

/-- What LINK reads from a frame's MAC header: the frame control, the header's length, the addresses and PANs, the
auxiliary security header, its header IEs as (element, content), and whether payload IEs follow them. -/
structure Mhr where
  fc : Nat
  seq : Option Octet
  dstPan : Option Nat
  dst : Option (Nat × Nat)
  srcPan : Option Nat
  src : Option (Nat × Nat)
  level : Nat
  keyMode : Nat
  ctr : Option Nat
  keyIdx : Nat
  ies : List (Nat × List Octet)
  iesOk : Bool
  pies : Bool
  len : Nat
  deriving DecidableEq, Repr

/-- Little-endian field of `n` octets at `at_`, if the frame is that long. -/
def leAt (l : List Octet) (at_ n : Nat) : Option Nat :=
  if at_ + n ≤ l.length then some (leNat ((l.drop at_).take n)) else none

/-- Octets of an address by its mode. -/
def addrLen (mode : Nat) : Nat := if mode = 2 then 2 else if mode = 3 then 8 else 0

/-- The destination PAN ID is present, by addressing modes and PAN ID compression (frame version 2). -/
def dstPanHere (dm sm : Nat) (comp : Bool) : Bool :=
  if dm = 0 ∧ sm = 0 then comp
  else if sm = 0 then !comp
  else if dm = 0 then false
  else if dm = 3 ∧ sm = 3 then !comp
  else true

/-- The source PAN ID is present. -/
def srcPanHere (dm sm : Nat) (comp : Bool) : Bool :=
  if sm = 0 then false
  else if dm = 0 then !comp
  else if dm = 3 ∧ sm = 3 then false
  else !comp

/-- What the header IEs of a frame come to: the elements, whether they are well formed, whether payload IEs follow (the first
termination IE), and the position after them. -/
structure IeWalk where
  ies : List (Nat × List Octet)
  ok : Bool
  pies : Bool
  len : Nat
  deriving DecidableEq, Repr

/-- Header IEs from position `at_` on, up to a termination IE or the end. -/
def parseIes : Nat → List Octet → Nat → IeWalk
  | 0, _, at_ => { ies := [], ok := false, pies := false, len := at_ }
  | fuel + 1, l, at_ =>
    if l.length ≤ at_ then { ies := [], ok := true, pies := false, len := at_ }
    else
      match leAt l at_ 2 with
      | none => { ies := [], ok := false, pies := false, len := at_ }
      | some d =>
        let n := d % 128
        let e := d / 128 % 256
        if 0x8000 ≤ d then { ies := [], ok := false, pies := false, len := at_ }
        else if e = 0x7E ∨ e = 0x7F then { ies := [], ok := true, pies := e == 0x7E, len := at_ + 2 }
        else if l.length < at_ + 2 + n then { ies := [], ok := false, pies := false, len := at_ }
        else
          let r := parseIes fuel l (at_ + 2 + n)
          { r with ies := (e, (l.drop (at_ + 2)).take n) :: r.ies }

/-- The payload IEs at the start of a frame's payload as (group, content), up to the termination IE or the end. -/
def parsePies : Nat → List Octet → List (Nat × List Octet)
  | 0, _ => []
  | fuel + 1, l =>
    match leAt l 0 2 with
    | none => []
    | some d =>
      let n := d % 2 ^ 11
      let g := d / 2 ^ 11 % 16
      if d < 2 ^ 15 ∨ g = 15 ∨ l.length < 2 + n then []
      else (g, (l.drop 2).take n) :: parsePies fuel (l.drop (2 + n))

/-- MIC octets of a security level (R177). -/
def micLen (level : Nat) : Nat := [0, 4, 8, 16].getD (level % 4) 0

/-- The MAC header of a frame; none if the frame is too short for what its frame control announces. The IEs of a secured frame end before
its MIC, where it still has one (`mic`). -/
def parseMhrAt (mic : Bool) (l : List Octet) : Option Mhr := do
  let fc ← leAt l 0 2
  let dm := fc / 2 ^ 10 % 4
  let sm := fc / 2 ^ 14 % 4
  let comp := fc / 2 ^ 6 % 2 == 1
  let supp := fc / 2 ^ 8 % 2 == 1
  let p0 := if supp then 2 else 3
  let q ← if supp then some 0 else leAt l 2 1
  let dp ← if dstPanHere dm sm comp then leAt l p0 2 else some 0
  let p1 := p0 + if dstPanHere dm sm comp then 2 else 0
  let da ← leAt l p1 (addrLen dm)
  let p2 := p1 + addrLen dm
  let sp ← if srcPanHere dm sm comp then leAt l p2 2 else some 0
  let p3 := p2 + if srcPanHere dm sm comp then 2 else 0
  let sa ← leAt l p3 (addrLen sm)
  let p4 := p3 + addrLen sm
  let sec := fc / 8 % 2 == 1
  let sc ← if sec then leAt l p4 1 else some 0
  let km := sc / 8 % 4
  let noCtr := sc / 32 % 2 == 1
  let p5 := if sec then p4 + 1 else p4
  let ct ← if sec && !noCtr then leAt l p5 4 else some 0
  let p6 := if sec && !noCtr then p5 + 4 else p5
  let kl := [0, 1, 5, 9].getD km 0
  let ki ← if sec && km != 0 then leAt l (p6 + kl - 1) 1 else some 0
  let p7 := if sec then p6 + kl else p6
  let body := if mic && sec then l.take (l.length - micLen (sc % 8)) else l
  let w := if fc / 2 ^ 9 % 2 == 1 then parseIes body.length body p7 else { ies := [], ok := true, pies := false, len := p7 }
  let _ ← if p7 ≤ l.length then some () else none
  pure
    { fc := fc, seq := if supp then none else some (O q),
      dstPan := if dstPanHere dm sm comp then some dp else none,
      dst := if dm = 0 then none else some (dm, da),
      srcPan := if srcPanHere dm sm comp then some sp else none,
      src := if sm = 0 then none else some (sm, sa),
      level := sc % 8, keyMode := km, ctr := if sec && !noCtr then some ct else none, keyIdx := ki,
      ies := w.ies, iesOk := w.ok, pies := w.pies, len := w.len }

/-- The header of a frame as received, and of a frame as stored, whose MIC has been taken off (R173). -/
def parseMhr (l : List Octet) : Option Mhr := parseMhrAt true l
def parseStored (l : List Octet) : Option Mhr := parseMhrAt false l

/-- Security Enabled. -/
def Mhr.sec (h : Mhr) : Bool := h.fc / 8 % 2 == 1

/-- Acknowledgement request. -/
def Mhr.ar (h : Mhr) : Bool := h.fc / 32 % 2 == 1

/-- The content after the subtype of a Heroft IE of this subtype, with the bank's OUI (R171). -/
def Mhr.heroft (h : Mhr) (oui : Word) (sub n : Nat) : Option (List Octet) :=
  (h.ies.find? (fun e => e.1 == 0 && e.2.take 4 == word3 oui ++ [O sub] && e.2.length == 4 + n)).map (fun e => e.2.drop 4)

/-- The OUI of a bank. -/
def State.oui (s : State) (b : Bool) : Word := s.bw b 0x2408

/-! ## Building (R171, R172) -/

/-- A header IE. -/
def headerIe (elem : Nat) (content : List Octet) : List Octet :=
  natLe 2 (content.length % 128 + 128 * (elem % 256)) ++ content

/-- A Heroft header IE. -/
def heroftIe (oui : Word) (sub : Nat) (content : List Octet) : List Octet := headerIe 0 (word3 oui ++ O sub :: content)

/-- A payload IE of a group. -/
def payloadIe (group : Nat) (content : List Octet) : List Octet :=
  natLe 2 (content.length % 2 ^ 11 + 2 ^ 11 * (group % 16) + 2 ^ 15) ++ content

/-- The octets of an address of a mode. -/
def addrOctets (mode a : Nat) : List Octet := natLe (addrLen mode) a

/-- The level encrypts the payload. -/
def levelEnc (level : Nat) : Bool := 5 ≤ level

/-- The nonce of R177: the sender's extended address, the counter, the level (most significant octet first). -/
def nonceOf (ext ctr level : Nat) : List Octet := natBe 8 ext ++ natBe 4 ctr ++ [O level]

/-- The header and payload secured: payload as sent, then the MIC. -/
def secure (key : List Octet) (ext ctr level : Nat) (hdr pay : List Octet) : List Octet :=
  let nc := nonceOf ext ctr level
  if levelEnc level then hdr ++ ccmCrypt key nc pay ++ ccmMic key nc (micLen level) hdr pay
  else hdr ++ pay ++ ccmMic key nc (micLen level) (hdr ++ pay) []

/-- A received secured frame opened: its plaintext payload, and whether its MIC verifies. -/
def openFrame (key : List Octet) (ext ctr level hdrLen : Nat) (l : List Octet) : List Octet × Bool :=
  let m := micLen level
  let nc := nonceOf ext ctr level
  let body := (l.take (l.length - m)).drop hdrLen
  let mic := l.drop (l.length - m)
  let hdr := l.take hdrLen
  if l.length < hdrLen + m then ([], false)
  else if levelEnc level then
    let p := ccmCrypt key nc body
    (p, ccmMic key nc m hdr p == mic)
  else (body, ccmMic key nc m (hdr ++ body) [] == mic)

/-- Octets as the fixed header IEs of a descriptor give them: HIELEN of them, at most 33 (R169). -/
def State.hieOctets (s : State) (b : Bool) (d : Nat) : List Octet :=
  let base := 0x800 + 32 * d
  (wordsToOctets ((List.range 11).map (fun i => s.bw b (base + 5 + i)))).take (min 33 (bits (s.bw b (base + 4)) 0 6))

/-- Word `j` of frame-format descriptor `d`. -/
def State.descWord (s : State) (b : Bool) (d j : Nat) : Word := s.bw b (0x800 + 32 * d + j)

/-- The descriptor may be built from (R170). -/
def State.descTx (s : State) (b : Bool) (d : Nat) : Bool :=
  bitOf (s.descWord b d 0) 23 && bitOf (s.descWord b d 0) 21

/-- The lowest descriptor that matches a received frame control (R170). -/
def State.descRx (s : State) (b : Bool) (fc : Nat) : Option Nat :=
  if fc / 2 ^ 12 % 4 != 2 then none
  else (List.range 64).find? (fun d =>
    bitOf (s.descWord b d 0) 23 && bitOf (s.descWord b d 0) 22 &&
      ((fc &&& bits (s.descWord b d 1) 0 16) == (bits (s.descWord b d 0) 0 16 &&& bits (s.descWord b d 1) 0 16)))

end Sys2Proof.Machine
end

