-- ==== Sys2Proof/Machine/Reply.lean ====
section
/-! DEFINITION. Command records in the journal (R296, R297) and the store of replies (R251, R261). -/
namespace Sys2Proof.Machine

open Sys2Proof

/-! ## Status codes (R263) -/

abbrev St.done : Nat := 0x00
abbrev St.started : Nat := 0x01
abbrev St.aborted : Nat := 0x02
abbrev St.badCrc : Nat := 0x10
abbrev St.badLength : Nat := 0x11
abbrev St.unknownOpcode : Nat := 0x12
abbrev St.badParam : Nat := 0x13
abbrev St.wrongMode : Nat := 0x14
abbrev St.busy : Nat := 0x15
abbrev St.locked : Nat := 0x16
abbrev St.txLate : Nat := 0x20
abbrev St.ccaBusy : Nat := 0x21
abbrev St.noAck : Nat := 0x22
abbrev St.duty : Nat := 0x23
abbrev St.denied : Nat := 0x24
abbrev St.notBlank : Nat := 0x30
abbrev St.verifyFail : Nat := 0x31
abbrev St.headerReject : Nat := 0x32
abbrev St.rollback : Nat := 0x33
abbrev St.signature : Nat := 0x34
abbrev St.hwFault : Nat := 0x40

/-! ## Records (R296) -/

/-- First word of record `r`. -/
def recAddr (r : Nat) : Nat := 0x870100 + 352 * r

/-- STATE of record `r`; 5 to 7 are treated as FREE. -/
def State.recState (s : State) (r : Nat) : Nat :=
  let x := bits (s.mw (recAddr r)) 0 3
  if 5 ≤ x then 0 else x

/-- OPC of a record. -/
def State.recOpc (s : State) (r : Nat) : Nat := bits (s.mw (recAddr r)) 14 8

/-- TAG of a record. -/
def State.recTag (s : State) (r : Nat) : Nat := bits (s.mw (recAddr r)) 6 8

/-- The records of transport `t`. -/
def recsOf (t : Nat) : List Nat := (List.range 17).map (fun k => 17 * t + k)

/-- All records. -/
def allRecs : List Nat := List.range 102

/-- STATE of a record replaced. -/
def setRecState (r x : Nat) (s : State) : State := engWrite (recAddr r) (setBits (s.mw (recAddr r)) 0 3 x) s

/-- Commands outstanding on transport `t` (Tt_STATUS.OUTST). -/
def State.outstanding (s : State) (t : Nat) : List Nat := (recsOf t).filter (fun r => s.recState r != 0)

/-- The outstanding record of a transport with this tag. -/
def State.recOf (s : State) (t : Nat) (tag : Octet) : Option Nat :=
  (s.outstanding t).find? (fun r => s.recTag r == tag.toNat)

/-- The command packet of a record, from LEN on (R258's packing). -/
def State.recPacket (s : State) (r : Nat) : List Octet := wordsToOctets (s.mws (recAddr r + 8) 342)

/-- The parameter octets of a record's command (R248). -/
def State.recParams (s : State) (r : Nat) : List Octet :=
  let p := s.recPacket r
  (p.drop 4).take (leNat (p.take 2) - 4)

/-! ## The reply store -/

/-- Replies waiting on transport `t`. -/
def State.replies (s : State) (t : Nat) : List Reply := tabLook [] s.cmdp.replies t

/-- The command port replaced. -/
def State.setCmdp (s : State) (c : CmdpState) : State := { s with cmdp := c }

/-- The completion queue of WINDOW_OP: WOPCQ of the BOOTCFG image that the link domain last started with (R285, R376). -/
def State.windowCq (s : State) : Nat := s.cmdp.winCq

/-- A reply joins the store of its record's transport (R297 has judged it). -/
def queueReply (r status : Nat) (result : List Octet) (s : State) : State :=
  let t := r / 17
  let item : Reply := { rcd := r, opc := O (s.recOpc r), tag := O (s.recTag r), status := O status, result := result }
  s.setCmdp { s.cmdp with replies := tabPut [] s.cmdp.replies t (s.replies t ++ [item]) }

/-- The final reply of a record (R261, R297): EFFECT, then the reply, which makes the record FINAL; refused where the record is FINAL or free already; while link firmware's service is
interrupted it waits for the resumption (R294). -/
def finalReply (r status : Nat) (result : List Octet) (s : State) : State :=
  if s.recState r = 4 ∨ s.recState r = 0 then s
  else if s.fwDown then s.setCmdp { s.cmdp with lateReplies := s.cmdp.lateReplies ++ [(r, status, result)] }
  else
    let s1 := setRecState r 4 (queueReply r status result (setRecState r 3 s))
    if s1.cmdp.exec == some r then s1.setCmdp { s1.cmdp with exec := none } else s1

/-- The interim reply STARTED of a record (R297): only from ACCEPTED. -/
def startedReply (r : Nat) (s : State) : State :=
  if s.recState r = 1 then setRecState r 2 (queueReply r St.started [] s) else s

/-- The final reply of the command with this tag, if it is outstanding. -/
def finishTag (t : Nat) (tag : Octet) (status : Nat) (result : List Octet) (s : State) : State :=
  match s.recOf t tag with
  | some r => finalReply r status result s
  | none => s

/-- The record of a command that executes, with this opcode and parameters that satisfy `p`: one that has STARTED, or the one
that executes and is not long-running. -/
def State.running (s : State) (opc : Nat) (p : List Octet → Bool) : Option Nat :=
  allRecs.find? (fun r => (s.recState r == 2 || (s.recState r == 1 && s.cmdp.exec == some r)) && s.recOpc r == opc &&
    p (s.recParams r))

/-- The final reply of a running command, if there is one. -/
def finishRun (opc : Nat) (p : List Octet → Bool) (code : Nat) (res : List Octet) (s : State) : State :=
  match s.running opc p with
  | some r => finalReply r code res s
  | none => s

/-- A reply as sent (R248): LEN, OPC, TAG, STATUS, result, CRC-16. -/
def replyPacket (opc tag status : Octet) (result : List Octet) : List Octet :=
  let body := natLe 2 (result.length + 5) ++ [opc, tag, status] ++ result
  body ++ natLe 2 (crc 16 0x1021 0xFFFF body)

/-- A notice as sent (R250). -/
def noticePacket (item : List Octet) : List Octet := replyPacket 0xFF 0 0 item

/-- Notices waiting on transport `t`. -/
def State.notices (s : State) (t : Nat) : List (List Octet) := tabLook [] s.cmdp.notices t

/-- The next packet to leave transport `t`: replies in order, notices only when no reply waits (R253). -/
def State.nextOut (s : State) (t : Nat) : List Octet :=
  match s.replies t, s.notices t with
  | r :: _, _ => replyPacket r.opc r.tag r.status r.result
  | [], n :: _ => noticePacket n
  | [], [] => []

/-- The next packet has left transport `t`: it goes from the store, and a final reply releases its tag (R261, R297). -/
def sentOut (t : Nat) (s : State) : State :=
  match s.replies t, s.notices t with
  | r :: l, _ =>
    let s1 := s.setCmdp { s.cmdp with replies := tabPut [] s.cmdp.replies t l }
    if r.status == 0x01 then s1 else if r.rcd < 102 then setRecState r.rcd 0 s1 else s1
  | [], _ :: l => s.setCmdp { s.cmdp with notices := tabPut [] s.cmdp.notices t l }
  | [], [] => s

/-- A reply to a packet that fails a check of R260: it holds no tag and no record (102 stands for none). -/
def plainReply (t : Nat) (opc tag : Octet) (status : Nat) (s : State) : State :=
  let item : Reply := { rcd := 102, opc := opc, tag := tag, status := O status, result := [] }
  s.setCmdp { s.cmdp with replies := tabPut [] s.cmdp.replies t (s.replies t ++ [item]) }

/-- HOST_IRQ is active (R254). -/
def State.hostIrq (s : State) : Bool :=
  !(s.replies 0).isEmpty || (s.bit R.cmdpSpicfg 2 && !(s.notices 0).isEmpty)

/-- The level that the part drives on HOST_IRQ, with the polarity and drive of SPICFG (R254); none while an open-drain output is released, and
without VIO1 (R455). -/
def State.irqPin (s : State) : Option Bool :=
  let level := s.hostIrq == s.bit R.cmdpSpicfg 0
  if !s.pwr.vio1 || (s.bit R.cmdpSpicfg 1 && level) then none else some level

end Sys2Proof.Machine
end

