-- ==== Sys2Proof/Machine/Waveform.lean ====
section
/-! DEFINITION. TL-OFDM as it leaves a transmit chain and as a lane reads it (R149 to R152): the header with its check and code, the
scrambler, the LDPC code, and the mapping of the payload's bits to symbols and tones. -/
namespace Sys2Proof.Machine

open Sys2Proof

/-! ## The header (R149) -/

/-- Fields of the TL-OFDM header; an MR-OFDM frame's MCS stands in the place of UCON. -/
abbrev hType (h : BitVec 52) : Nat := bits h 2 2
abbrev hTmid (h : BitVec 52) : Nat := bits h 4 11
abbrev hLen (h : BitVec 52) : Nat := bits h 15 12
abbrev hBlk (h : BitVec 52) : Bool := bitOf h 27
abbrev hRate (h : BitVec 52) : Nat := bits h 28 2
abbrev hCp20 (h : BitVec 52) : Bool := bitOf h 30
abbrev hUcon (h : BitVec 52) : Nat := bits h 31 3
abbrev hScr (h : BitVec 52) : Nat := bits h 34 4
abbrev hHcrc (h : BitVec 52) : Nat := bits h 38 8

/-- HCRC of a header: CRC-8 of polynomial 0x07 over h0 to h37 in sending order, from 0xFF; its bit 0 stands at h38 (log 103). -/
def headerCrc (h : BitVec 52) : Nat := (List.range 38).foldl (fun c i => crcBit 8 7 c (bitOf h i)) 0xFF

/-- HCRC matches. -/
def hcrcOk (h : BitVec 52) : Bool := hHcrc h == headerCrc h

/-- The header of a frame: TYPE, TMID, LEN, then BLK, RATE, CP20, UCON and the scrambler seed; HVER and TAIL are zero. -/
def headerOf (type tmid len : Nat) (blk : Bool) (rate : Nat) (cp20 : Bool) (ucon scr : Nat) : BitVec 52 :=
  let h := BitVec.ofNat 52 (type % 4 * 2 ^ 2 + tmid % 2 ^ 11 * 2 ^ 4 + len % 2 ^ 12 * 2 ^ 15 + (if blk then 2 ^ 27 else 0) +
    rate % 4 * 2 ^ 28 + (if cp20 then 2 ^ 30 else 0) + ucon % 8 * 2 ^ 31 + scr % 16 * 2 ^ 34)
  h + BitVec.ofNat 52 (headerCrc h * 2 ^ 38)

/-- Parity of the set bits of a register under a generator. -/
def parity (x : Nat) : Bool := (List.range 7).foldl (fun p i => p != x.testBit i) false

/-- The rate-1/2 code of K = 7 with generators 133 and 171 octal, 133 first, the newest bit in the register's highest place (log 103). -/
def conv7 : Nat → List Bool → List Bool
  | _, [] => []
  | st, b :: t =>
    let r := (if b then 64 else 0) + st
    parity (r &&& 0o133) :: parity (r &&& 0o171) :: conv7 (r / 2) t

/-- The coded header bits c0 to c103. -/
def headerCoded (h : BitVec 52) : List Bool := conv7 0 ((List.range 52).map (bitOf h))

/-- What slot `j` of the 208 data-tone slots of the header symbols carries. -/
def headerSlot (h : BitVec 52) (j : Nat) : Bool := (headerCoded h).getD (j % 104) false

/-! ## The scrambler (R151) -/

/-- The scrambler's register at a frame's start: SCR in bits [10:7], ones below. -/
def scrStart (scr : Nat) : Nat := scr % 16 * 2 ^ 7 + 127

/-- One step of x^11 + x^9 + 1: the output bit, which it feeds back (log 103), and the next register. -/
def scrStep (r : Nat) : Bool × Nat :=
  let b := r.testBit 10 != r.testBit 8
  (b, r % 2 ^ 10 * 2 + if b then 1 else 0)

/-- `n` bits of the scrambler's output from a register, and the register after them. -/
def scrBits : Nat → Nat → List Bool × Nat
  | 0, r => ([], r)
  | n + 1, r => let (b, r2) := scrStep r; let (l, r3) := scrBits n r2; (b :: l, r3)

/-- Octets as bits, the least significant first (log 103). -/
def octetBits (l : List Octet) : List Bool := l.flatMap (fun o => (List.range 8).map (bitOf o))

/-! ## The LDPC code (R152) -/

/-- Rows of the base matrix of a rate. -/
def ldpcRows (rate : Nat) : Nat := [12, 8, 6, 4].getD rate 12

/-- A base entry at block length 1,152 (Z = 48) or 2,304 (Z = 96). -/
def ldpcEntry (blk : Bool) (rate row col : Nat) : Option Nat :=
  (Config.ldpcBase rate row col).map (fun s => if blk then s else s / 2)

/-- Bits added modulo 2. -/
def xorBits (a b : List Bool) : List Bool := List.zipWith (· != ·) a b

/-- The product of the Z × Z identity shifted right by `s` with a column of Z bits. -/
def circ (s : Nat) (v : List Bool) : List Bool := (List.range v.length).map (fun i => v.getD ((i + s) % v.length) false)

/-- The product of a base entry with Z bits; a zero block gives zeros. -/
def blockMul (e : Option Nat) (v : List Bool) : List Bool :=
  match e with
  | some s => circ s v
  | none => List.replicate v.length false

/-- Block `j` of a list of bits in blocks of `z`. -/
def blockOf (z : Nat) (l : List Bool) (j : Nat) : List Bool := ((l.drop (z * j)).take z ++ List.replicate z false).take z

/-- What the information part contributes to a base row. -/
def rowSum (blk : Bool) (rate z : Nat) (info : List Bool) (row : Nat) : List Bool :=
  (List.range (24 - ldpcRows rate)).foldl
    (fun a j => xorBits a (blockMul (ldpcEntry blk rate row j) (blockOf z info j))) (List.replicate z false)

/-- The parity bits of K information bits: the first parity column has weight 3, the others a dual diagonal, so that the sum of all
rows gives the first block and each row then gives the next (log 91). -/
def ldpcParity (blk : Bool) (rate : Nat) (info : List Bool) : List Bool :=
  let z := if blk then 96 else 48
  let m := ldpcRows rate
  let c := 24 - m
  let sum := (List.range m).foldl (fun a i => xorBits a (rowSum blk rate z info i)) (List.replicate z false)
  let mid := (((List.range (m - 1)).drop 1).find? (fun i => (ldpcEntry blk rate i c).isSome)).getD 1
  let s := (ldpcEntry blk rate mid c).getD 0
  let p0 := circ (z - s % z) sum
  let step := fun (a : List (List Bool)) (i : Nat) =>
    let prev := if i = 0 then List.replicate z false else a.getLastD []
    a ++ [xorBits (xorBits (rowSum blk rate z info i) (blockMul (ldpcEntry blk rate i c) p0)) prev]
  p0 ++ ((List.range (m - 1)).foldl step []).flatten

/-! ## The frame check sequence -/

/-- One bit into a reflected CRC register of a polynomial. -/
def fcsBit (poly c : Nat) (b : Bool) : Nat := if (c % 2 == 1) != b then c / 2 ^^^ poly else c / 2

/-- The FCS of a PSDU as sent: the four-octet or the two-octet form of IEEE 802.15.4-2020 (log 8). -/
def fcsOctets (two : Bool) (l : List Octet) : List Octet :=
  if two then natLe 2 ((octetBits l).foldl (fcsBit 0x8408) 0)
  else natLe 4 ((octetBits l).foldl (fcsBit 0xEDB88320) 0xFFFFFFFF ^^^ 0xFFFFFFFF)

/-! ## The payload (R151) -/

/-- Information bits of a codeword. -/
def ldpcInfo (rate : Nat) (blk : Bool) : Nat := if blk then ldpcK rate else ldpcK rate / 2

/-- Shortened bits of codeword `i` of a PSDU: the first (s mod n) of the n codewords carry one zero more. -/
def shortOf (len rate : Nat) (blk : Bool) (i : Nat) : Nat :=
  let n := tlCodewords len rate blk
  let s := n * ldpcInfo rate blk - 8 * len
  s / n + if i < s % n then 1 else 0

/-- The bits sent of codeword `i`, from the scrambled bits that are left: information bits, then parity; and the bits after it. -/
def codewordBits (len rate : Nat) (blk : Bool) (i : Nat) (l : List Bool) : List Bool × List Bool :=
  let z := shortOf len rate blk i
  let k := ldpcInfo rate blk - z
  let info := l.take k
  (info ++ ldpcParity blk rate (info ++ List.replicate z false), l.drop k)

/-- Every codeword of a PSDU, one after another without gaps. -/
def codedBits (len rate : Nat) (blk : Bool) (l : List Bool) : List Bool :=
  ((List.range (tlCodewords len rate blk)).foldl
    (fun (a : List Bool × List Bool) i => let (c, r) := codewordBits len rate blk i a.2; (a.1 ++ c, r)) ([], l)).1

/-- The bits of one symbol given to the data tones in ascending order, each as many as its code takes. -/
def toneBits : List Nat → List Bool → List (List Bool)
  | [], _ => []
  | c :: t, l => l.take (conBits c) :: toneBits t (l.drop (conBits c))

/-- The first symbols of a payload: by symbol and tone the bits sent. -/
def symbolsOf (codes : List Nat) : Nat → List Bool → List (List (List Bool))
  | 0, _ => []
  | n + 1, l => toneBits codes l :: symbolsOf codes n (l.drop (codes.map conBits).sum)

/-- The payload of a TL-OFDM frame as it is sent (R151): the PSDU with its FCS scrambled, coded, given to the tones of the codes, and
the last symbol filled with continued scrambler output. -/
def tlSymbols (h : BitVec 52) (codes : List Nat) (psdu : List Octet) : List (List (List Bool)) :=
  let data := octetBits psdu
  let (key, r) := scrBits data.length (scrStart (hScr h))
  let coded := codedBits (hLen h) (hRate h) (hBlk h) (xorBits data key)
  let b := max 1 (codes.map conBits).sum
  let n := (coded.length + b - 1) / b
  symbolsOf codes n (coded ++ (scrBits (n * b - coded.length) r).1)

/-- The codes of every data tone under a header: the uniform constellation, or those of the learned map. -/
def headerCodes (width : Nat) (h : BitVec 52) (map : List Nat) : List Nat :=
  if hTmid h = 0 then List.replicate (tlTones width) (hUcon h) else map

end Sys2Proof.Machine
end

