-- ==== Sys2Proof/Machine/Radio.lean ====
section
/-! DEFINITION. Front ends and transmit chains (03_radio_front_ends.md): tuning, transmit power, the duty-cycle and dwell
accountant, and the front-end module lines. -/
namespace Sys2Proof.Machine

open Sys2Proof

/-- A band's hidden part: 0 FES, 1 FEG. -/
def State.band (s : State) (b : Nat) : BandSt := if b = 0 then s.bandS else s.bandG

/-- The state with a band's hidden part replaced. -/
def State.setBand (s : State) (b : Nat) (x : BandSt) : State := if b = 0 then { s with bandS := x } else { s with bandG := x }

/-- STATUS.FULLBUSY. -/
def State.fullBusy (s : State) (b : Nat) : Bool := s.bit (R.feStatus b) 4

/-- A full calibration holds the band's front end: its own, or FES's while it is at XO, its first item, which takes 4,000 µs and holds
both front ends (R94, R99). -/
def State.fullHolds (s : State) (b : Nat) : Bool :=
  s.fullBusy b || (b != 0 && s.fullBusy 0 && nsLt s.now (s.bandS.fullAt + 4000000))

/-- The front end is in service: powered, CTRL.EN, no full calibration holds it (R82, R99). -/
def State.feUp (s : State) (b : Nat) : Bool := s.radioOn b && s.bit (R.feCtrl b) 0 && !s.fullHolds b

/-- The port on which a transmission for port `p` leaves (R81), or none without an antenna. -/
def State.txPort (s : State) (b p : Nat) : Option Nat :=
  let d1 := s.bit (R.feAntcfg b) 0
  let d2 := s.bit (R.feAntcfg b) 1
  if d1 && d2 then none else if p == 1 && d1 then some 2 else if p == 2 && d2 then some 1 else some p

/-- The port a transmission leaves: the routine state's ANTSW, else the one asked for, on a port that is fitted (R80, R81). -/
def State.portOf (s : State) (bk : Bool) (b rs p : Nat) : Option Nat :=
  match bits (s.bw bk (8 * rs + 3)) 0 2 with
  | 1 => s.txPort b 1
  | 2 => s.txPort b 2
  | _ => s.txPort b p

/-! ## Synthesizers (R83 to R85) -/

/-- A calibration code with a synthesizer's signed offset added (R84); a sum outside the code's eight bits is an open value
(log 92). -/
def trimmed (code ofs draw : Nat) : Octet :=
  let x : Int := (code : Int) + signed ofs 8
  if 0 ≤ x ∧ x < 256 then O x.toNat else Config.freeOctet draw

/-- What a tune of synthesizer `k` from a channel's entry loads (R84): its VCO band, capacitor code and loop gain with SYNn_TRIM added
to them; from an entry that is not valid the search finds them. -/
def State.synLoad (s : State) (bk : Bool) (b k chan : Nat) : SynLoad :=
  let w := s.calWord bk chan 1
  let t := s.reg (R.feSynTrim b k)
  { freq := s.calWord bk chan 0
    code := if bitOf w 23 then
        some (bits w 16 6, trimmed (bits w 8 8) (bits t 8 8) s.draws, trimmed (bits w 0 8) (bits t 0 8) (s.draws + 1))
      else none }

/-- Synthesizer `k` (0 SYN1, 1 SYN2, 2 SYNT) starts to tune to a channel of bank `bk` (R78): warm from a valid entry, cold
otherwise. A channel outside the band's ranges is never tuned (R79). COLD counts every tune from an entry that is not valid, a
count that no rule defines (log 93). -/
def tuneSynIn (bk : Bool) (b k chan : Nat) (s : State) : State :=
  if !freqOk b (s.calWord bk chan 0).toNat then s
  else
    let valid := bitOf (s.calWord bk chan 1) 23
    let s1 := (s.setReg (R.feSynCh b k) (W (chan + if valid then 0 else 2 ^ 22))).setBit (R.feStatus b) k false
    let s2 := if valid then s1 else s1.count (R.feCounters b 0)
    (s2.setBand b { s2.band b with
      tune := tabPut 0 (s2.band b).tune k (if valid then 1 else 2)
      loaded := tabSet (s2.band b).loaded k (s.synLoad bk b k chan) }).drawn.drawn

/-- A tune from the active bank. -/
def tuneSyn (b k chan : Nat) (s : State) : State := tuneSynIn s.bank b k chan s

/-- Synthesizer `k` locks. -/
def lockSyn (b k : Nat) (s : State) : State :=
  let s1 := ((s.setBit (R.feSynCh b k) 23 true).setBit (R.feSynCh b k) 22 false).setBit (R.feStatus b) k true
  s1.setBand b { s1.band b with tune := tabPut 0 (s1.band b).tune k 0 }

/-- Synthesizer `k` is tuning. -/
def State.tuning (s : State) (b k : Nat) : Nat := tabLook 0 (s.band b).tune k

/-- Synthesizer `k` is locked. -/
def State.synLocked (s : State) (b k : Nat) : Bool := s.bit (R.feSynCh b k) 23

/-- Channel of synthesizer `k`. -/
def State.synChan (s : State) (b k : Nat) : Nat := s.fld (R.feSynCh b k) 0 10

/-- Synthesizer `k` is left unlocked, with no tune under way. -/
def dropSyn (b k : Nat) (s : State) : State :=
  let s1 := (s.setBit (R.feSynCh b k) 23 false).setBit (R.feStatus b) k false
  s1.setBand b { s1.band b with tune := tabPut 0 (s1.band b).tune k 0 }

/-- Synthesizer `k` is left unlocked by what used it; in FULL the receive synthesizers go back to the span centre (R83). -/
def leaveSyn (b k : Nat) (s : State) : State :=
  let t := dropSyn b k s
  if t.mode = 5 ∧ k < 2 then tuneSyn b k (t.fld (R.feSpan b) 0 10) t else t

/-! ## Calibration entries (R87, R88) -/

/-- The four words of an entry of one bank replaced. -/
def putCal (bk : Bool) (c : Nat) (l : List Word) (s : State) : State := engWrites (bankAt bk + 0x4000 + 4 * c) l s

/-- A result of the calibration engine: the active bank, and the other with CALPOL.MIRROR. -/
def engCal (b c : Nat) (l : List Word) (s : State) : State :=
  let s1 := putCal s.bank c l s
  if s.bit (R.feCalpol b) 1 then putCal (!s.bank) c l s1 else s1

/-- The four words of an entry. -/
def State.calEntry (s : State) (bk : Bool) (c : Nat) : List Word := [0, 1, 2, 3].map (s.calWord bk c)

/-- CALCOMMIT written: with GO the staged words go into entry INDEX of the active bank in one cycle. -/
def calCommitWrite (b : Nat) (v : Word) (s : State) : State :=
  let s1 := plainWrite (R.feCalcommit b) v s
  if bitOf v 10 then putCal s1.bank (bits v 0 10) ([0, 1, 2, 3].map (fun j => s1.reg (R.feCalstage b j))) s1 else s1

/-! ## Transmit power (R101 to R103) -/

/-- The greatest power code of a band. -/
def pwrMax (b : Nat) : Nat := if b = 0 then 128 else 120

/-- Rounding to the nearest integer, halves away from zero (R198's round). -/
def roundDiv (n : Int) (d : Nat) : Int := if n < 0 then -((2 * (-n) + d) / (2 * d)) else (2 * n + d) / (2 * d)

/-- VMAIN grid in mV. -/
def vGrid : List Nat := [3000, 3250, 3500, 3750, 4000, 4500, 5000, 5500]

/-- The settings of a transmission (R103): the code after the cap, whether it was capped, the drive, and the bias in
units of 1/5500. Of the points around a temperature or supply on a grid line, the upper neighbour is taken (log 94). -/
def State.txPower (s : State) (bk : Bool) (b port code : Nat) : Nat × Bool × Nat × Nat :=
  let t : Int := max (-40) (min 125 (signed (s.fld (R.feStatus b) 16 8) 8))
  let x := (t + 40).toNat
  let j := min 14 (x / 11)
  let wt := x - 11 * j
  let v := max 3000 (min 5500 (2000 + 20 * s.fld (R.feStatus b) 8 8))
  let k := if v < 3250 then 0 else if v < 3500 then 1 else if v < 3750 then 2 else if v < 4000 then 3
    else if v < 4500 then 4 else if v < 5000 then 5 else 6
  let lo := vGrid.getD k 0
  let wv := (v - lo) * 500 / (vGrid.getD (k + 1) 1 - lo)
  let pt := fun dj dk w => s.bw bk (0x1000 + 256 * (2 * b + port - 1) + 16 * (j + dj) + 2 * (k + dk) + w)
  let mix := fun (f : Nat → Nat → Int) =>
    ((11 - wt : Nat) : Int) * ((500 - wv : Nat) * f 0 0 + wv * f 0 1) + (wt : Int) * ((500 - wv : Nat) * f 1 0 + wv * f 1 1)
  let top := mix (fun a c => signed (bits (pt a c 0) 0 12) 12)
  let low := mix (fun a c => signed (bits (pt a c 1) 0 12) 12)
  let bias := mix (fun a c => (bits (pt a c 0) 16 8 : Int))
  let cap := [pt 0 0 1, pt 0 1 1, pt 1 0 1, pt 1 1 1].foldl (fun m w => min m (bits w 16 8)) 255
  let c := min cap code
  let a := min 96 (c - (pwrMax b - 96))
  let d := roundDiv (96 * low + (a : Int) * (top - low)) 528000
  (c, decide (cap < code), (max 0 (min 1023 (200 + 6 * (c : Int) + d))).toNat, bias.toNat)

/-- RAMP in µs (R105): the state's if it is not zero, else the chain's; 1 acts as 2, above 8 as 8, and 0 in both as 2. -/
def State.rampOf (s : State) (bk : Bool) (b rs : Nat) : Nat :=
  let r := bits (s.bw bk (8 * rs + 3)) 4 4
  max 2 (min 8 (if r = 0 then s.fld (R.txcCfg b) 12 4 else r))

/-- CHn_CFG written: a DEFPWR above the band's maximum is stored as the maximum (R101). -/
def txcCfgWrite (b : Nat) (v : Word) (s : State) : State :=
  plainWrite (R.txcCfg b) (setBits v 16 8 (min (pwrMax b) (bits v 16 8))) s

/-- The power code a routine state asks for (R101). -/
def State.pwrOf (s : State) (bk : Bool) (b rs : Nat) : Nat :=
  let c := bits (s.bw bk (8 * rs + 3)) 8 8
  min (pwrMax b) (if c = 0xFF then s.fld (R.txcCfg b) 16 8 else c)

/-! ## The accountant (R110 to R113) -/

/-- WIN of rule `k`: 0 acts as 1. -/
def State.ruleWin (s : State) (b k : Nat) : Nat := max 1 (s.fld (R.txcRule2 b k) 0 16)

/-- The present bucket of rule `k` (R112). -/
def State.bucketNow (s : State) (b k : Nat) : Nat := 16 * s.now / (s.ruleWin b k * 1000000000)

/-- A slot: its usage in µs and recorded bucket. -/
def State.slot (s : State) (b k j : Nat) : Nat × Nat := tabLook (0, 0) s.link.duty (64 * b + 16 * k + j)

/-- The state with LINK's hidden part replaced. -/
def State.setLink (s : State) (l : LinkState) : State := { s with link := l }

/-- A slot replaced, in the accountant and in link memory. -/
def setSlot (b k j use num : Nat) (s : State) : State :=
  let a := 0x862800 + 128 * b + 32 * k + 2 * j
  engWrite (a + 1) (W (num % 2 ^ 16 * 256 + use / 2 ^ 24 % 256)) (engWrite a (W use)
    (s.setLink { s.link with duty := tabPut (0, 0) s.link.duty (64 * b + 16 * k + j) (use, num) }))

/-- How many buckets lie from bucket `e` to bucket `n` of a rule, over the counter's range of 2^64 ns, which wraps (R8): negative where
`e` is the later one. -/
def State.bucketsSince (s : State) (b k n e : Nat) : Int :=
  let span : Int := 16 * 2 ^ 64 / (s.ruleWin b k * 1000000000) + 1
  let d : Int := (n : Int) - e
  if span / 2 < d then d - span else if d < -(span / 2) then d + span else d

/-- Bucket `e` lies in the 16 that end with bucket `n`. -/
def State.bucketIn (s : State) (b k n e : Nat) : Bool :=
  let d := s.bucketsSince b k n e
  decide (0 ≤ d) && decide (d ≤ 15)

/-- U of a rule (R112). -/
def State.ruleUse (s : State) (b k : Nat) : Nat :=
  let n := s.bucketNow b k
  ((List.range 16).map (fun j => let e := s.slot b k j; if s.bucketIn b k n e.2 then e.1 else 0)).sum

/-- USED: ms, rounded up. -/
def showUsed (b k : Nat) (s : State) : State := s.setReg (R.txcRule6 b k) (W (min 0xFFFFFF ((s.ruleUse b k + 999) / 1000)))

/-- Mesh time enters a bucket of rule `k` by advance, step or return (R112): slots outside [b − 15, b] are zeroed, after a backward
step those of later buckets are folded into slot b mod 16 first, and that slot alone is relabelled. After a chip-domain reset or a loss
of link memory every slot starts at zero with the present bucket. A write of WIN, which renumbers the buckets, acts as a step (log 127). -/
def bucketEnter (b k : Nat) (s : State) : State :=
  let n := s.bucketNow b k
  let s2 :=
    if (tabGet s.link.bucket (4 * b + k)).isNone then forAll (List.range 16) (fun j t => setSlot b k j 0 n t) s
    else
      let later := (List.range 16).filter (fun j => decide (s.bucketsSince b k n (s.slot b k j).2 < 0))
      let sum := (later.map (fun j => (s.slot b k j).1)).sum
      let here := s.slot b k (n % 16)
      let keep := if s.bucketIn b k n here.2 then here.1 else 0
      let s1 := forAll (List.range 16)
        (fun j t =>
          let e := t.slot b k j
          if s.bucketIn b k n e.2 then t else setSlot b k j 0 e.2 t) s
      setSlot b k (n % 16) (keep + sum) n s1
  showUsed b k (s2.setLink { s2.link with bucket := tabSet s2.link.bucket (4 * b + k) n })

/-- Rule `k` has not yet followed mesh time into its present bucket. -/
def State.bucketDue (s : State) (b k : Nat) : Bool := tabGet s.link.bucket (4 * b + k) != some (s.bucketNow b k)

/-- Every rule of a band follows mesh time. -/
def bucketSync (b : Nat) (s : State) : State :=
  forAll [0, 1, 2, 3] (fun k t => if t.bucketDue b k then bucketEnter b k t else t) s

/-- Rule `k` covers a frequency. -/
def State.ruleCovers (s : State) (b k f : Nat) : Bool :=
  s.bit (R.txcRule7 b k) 0 && decide ((s.reg (R.txcRule0 b k)).toNat ≤ f) && decide (f ≤ (s.reg (R.txcRule1 b k)).toNat)

/-- A gap of OFFMIN runs on rule `k`: the band's last transmission within the rule ended less than OFFMIN ago in mesh time (R111,
log 95). -/
def State.gapRuns (s : State) (b k : Nat) : Bool :=
  let off := 1000000 * s.fld (R.txcRule5 b k) 0 12
  off != 0 && s.bit (R.txcRule7 b k) 0 &&
    (s.band b).sentAt.any (fun e => s.ruleCovers b k e.1 && nsLt s.now (e.2 + off))

/-- A transmission of `t` µs in class `c` passes rule `k` (R111). -/
def State.rulePass (s : State) (b k c t : Nat) : Bool :=
  let allow := 1000 * (s.reg (R.txcRule3 b k)).toNat
  let rsv := min allow (1000 * (s.reg (R.txcRule4 b k)).toNat)
  let txmax := 1000 * s.fld (R.txcRule5 b k) 12 12
  (txmax == 0 || decide (t ≤ txmax)) && !s.gapRuns b k &&
    decide (s.ruleUse b k + t ≤ if c = 0 then allow else allow - rsv)

/-- The present dwell window and the channel's usage in it (R113). -/
def State.dwellUse (s : State) (b ch : Nat) : Nat × Nat :=
  let w := s.now / (1000000 * max 1 (s.fld (R.txcDwellCfg b) 0 16)) % 2 ^ 24
  (w, if (s.mw (0x862000 + 2 * ch + 1)).toNat = w then (s.mw (0x862000 + 2 * ch)).toNat else 0)

/-- The dwell check passes. -/
def State.dwellPass (s : State) (b ch t : Nat) : Bool :=
  !s.bit (R.txcDwellCfg b) 23 || decide ((s.dwellUse b ch).2 + t ≤ (s.reg (R.txcDwellMax b)).toNat)

/-- The airtime charged to a rule's present slot. -/
def chargeRule (b t k : Nat) (s : State) : State :=
  let n := s.bucketNow b k
  showUsed b k (setSlot b k (n % 16) ((s.slot b k (n % 16)).1 + t) n s)

/-- The accountant admits and charges a transmission (R111), or refuses it with the counts of R111: DUTY or DWELL. -/
def dutyAdmit (b c ch f t : Nat) (s : State) : Bool × State :=
  let s0 := bucketSync b s
  let ks := [0, 1, 2, 3].filter (fun k => s0.ruleCovers b k f)
  if !ks.all (fun k => s0.rulePass b k c t) then (false, s0.count (R.txcCounters b 2))
  else if !s0.dwellPass b ch t then (false, s0.count (R.txcCounters b 3))
  else
    let s1 := forAll ks (chargeRule b t) s0
    let d := s1.dwellUse b ch
    (true, if s1.bit (R.txcDwellCfg b) 23 then
        engWrite (0x862000 + 2 * ch + 1) (W d.1) (engWrite (0x862000 + 2 * ch) (W (d.2 + t)) s1)
      else s1)

/-- OFFWAIT shows whether a gap runs on some rule. -/
def offShow (b : Nat) (s : State) : State := s.setBit (R.txcStatus b) 0 ([0, 1, 2, 3].any (s.gapRuns b))

/-- A transmission's ramp-down ends at `t`: the gaps of the rules that cover its frequency start (R111), and blanking ends 20 µs
later (R106). -/
def sentUntil (b f t : Nat) (s : State) : State :=
  offShow b (s.setBand b { s.band b with down := t, sentAt := tabSet (s.band b).sentAt f t })

/-- A word of a duty rule written; OFFWAIT follows. -/
def ruleWrite (a : Nat) (v : Word) (s : State) : State := offShow ((a - R.txcRule0 0 0) / 32) (plainWrite a v s)

/-! ## Front-end module lines (R92, R93) -/

/-- The pattern that holds a band's lines: a transmission's, else that of the receive activation claimed first among those that drive
them (R93). -/
def State.femPattern (s : State) (b : Nat) : Nat :=
  match (s.band b).femTx with
  | some e => e.1
  | none =>
    match (s.band b).femRx.find? (·.on) with
    | some e => e.pat
    | none => s.fld (R.feFemcfg b) 0 8

/-- Line `k` of a band: none while high-impedance, else its level (R92). -/
def State.femLine (s : State) (b k : Nat) : Option Bool :=
  if !s.bit (R.feFemcfg b) (8 + k) then none
  else
    let l := if s.bit (R.feFemman b) (8 + k) then s.bit (R.feFemman b) k else s.femPattern b / 2 ^ k % 2 == 1
    some (l != s.bit (R.feFemcfg b) (16 + k))

/-- A receive activation claims its pattern (R93): FEM_RX and FEM_LAG of its routine state. -/
def femClaim (b g i : Nat) (bk : Bool) (rs : Nat) (s : State) : State :=
  s.setBand b { s.band b with femRx := (s.band b).femRx ++
    [{ gate := g, iter := i, pat := bits (s.bw bk (8 * rs + 2)) 16 8, lag := bits (s.bw bk (8 * rs + 3)) 16 8, on := false,
       conf := false, off := none }] }

/-- Patterns that hold beside a different one claimed earlier are marked. -/
def femMark : List FemHold → List FemHold → List FemHold
  | _, [] => []
  | l, e :: t =>
    let x := { e with conf := e.conf || (e.on && l.any (fun d => d.on && d.pat != e.pat)) }
    x :: femMark (l ++ [x]) t

/-- The patterns that satisfy `p` start to drive; one that differs from a pattern claimed before it counts in FEMCONF (R93). -/
def femOn (b : Nat) (p : FemHold → Bool) (s : State) : State :=
  let l := femMark [] ((s.band b).femRx.map (fun e => if p e then { e with on := true } else e))
  let n := (l.filter (·.conf)).length - ((s.band b).femRx.filter (·.conf)).length
  (s.setBand b { s.band b with femRx := l }).countBy (R.feCounters b 4) n

/-- A receive activation's window closes: its pattern returns FEM_LAG µs later; one that never drove is gone. -/
def femClose (b g i : Nat) (s : State) : State :=
  s.setBand b { s.band b with femRx := (s.band b).femRx.filterMap (fun e =>
    if e.gate == g && e.iter == i && e.off.isNone then
      (if e.on then some { e with off := some (s.now + 1000 * e.lag) } else none)
    else some e) }

/-- A transmission's pattern returns FEM_LAG µs after `t`, the end of its ramp-down. -/
def femTxEnd (b : Nat) (bk : Bool) (rs t : Nat) (s : State) : State :=
  s.setBand b { s.band b with
    femTx := (s.band b).femTx.map (fun e => (e.1, some (t + 1000 * bits (s.bw bk (8 * rs + 3)) 16 8))) }

/-- A transmission that held the lines without radiating leaves them at once; one that is over keeps its FEM_LAG. -/
def femTxUnsent (b : Nat) (s : State) : State := s.setBand b { s.band b with femTx := (s.band b).femTx.filter (·.2.isSome) }

/-! ## What a chain sends (R149, R151) -/

/-- The 208 data-tone slots of the header symbols that a band's TL-OFDM transmission is sent with (R149); none while nothing is on the
air. -/
def State.airHeader (s : State) (b : Nat) : List Bool :=
  match (s.band b).chain with
  | some r => if r.up && isTl r.mode then (List.range 208).map (headerSlot r.hdr) else []
  | none => []

/-- The payload symbols that it is sent with, by symbol and data tone (R151, R152): its PSDU with the four-octet FCS of R149, scrambled and
coded. -/
def State.airPayload (s : State) (b : Nat) : List (List (List Bool)) :=
  match (s.band b).chain with
  | some r => if r.up && isTl r.mode then tlSymbols r.hdr r.codes (r.psdu ++ fcsOctets false r.psdu) else []
  | none => []

/-! ## Sensors and ages -/

/-- The sensors' values refreshed (R103). -/
def sensorRefresh (b : Nat) (temp vmain : Octet) (s : State) : State :=
  (s.setFld (R.feStatus b) 16 8 temp.toNat).setFld (R.feStatus b) 8 8 vmain.toNat

/-- CALAGEk of one item advances; an item of CALMASK that reaches STARVE fires once (R100). An age at its reset value 0xFFF_FFF has
reached every STARVE (log 96). -/
def ageItem (b k : Nat) (s : State) : State :=
  let s1 := s.count (R.feCalage b (k - 1))
  let starve := s.fld (R.feCalpol b) 8 8
  if 1 ≤ k && k ≤ 6 && s.bit (R.feCalmask b) k && starve != 0 && decide (starve ≤ (s1.reg (R.feCalage b (k - 1))).toNat) &&
      !bitOf (s1.band b).starved k then
    notice 2 0x20 [O b, O k] (fire 0x10 ((s1.setBand b { s1.band b with
      starved := (s1.band b).starved ||| (1#16 <<< k) }).count (R.feCounters b 5)))
  else s1

/-- Item `k` has completed: its age restarts and it may starve again. -/
def itemDone (b k : Nat) (s : State) : State :=
  let s1 := s.setReg (R.feCalage b (k - 1)) 0
  s1.setBand b { s1.band b with starved := (s1.band b).starved &&& ~~~(1#16 <<< k) }

/-! ## The commands -/

/-- SYNTH_COLD_FALLBACK (R85): a tune from a valid entry that has not locked. -/
def execSynthColdFallback (band : Fin 2) (syn : Fin 3) (s : State) : Host.Outcome State Fault Refusal :=
  act (s.radioOn band.val && s.tuning band.val syn.val == 1)
    (fun s => ((s.setBit (R.feSynCh band.val syn.val) 22 true).setBand band.val { s.band band.val with
      tune := tabPut 0 (s.band band.val).tune syn.val 2
      loaded := ((s.band band.val).loaded.map (fun e => if e.1 = syn.val then (e.1, { e.2 with code := none }) else e)) }).count
        (R.feCounters band.val 1)) s

/-- CAL_COMMIT (R87). -/
def execCalCommit (w : Who) (band : Fin 2) (v : Word) (s : State) : Host.Outcome State Fault Refusal :=
  act (s.mayWrite w (R.feCalcommit band.val)) (calCommitWrite band.val (setBits v 10 1 1)) s

/-- CALAGE_TICK (R100); nothing counts while the front end is not powered (log 97). -/
def execCalageTick (band : Fin 2) (s : State) : Host.Outcome State Fault Refusal :=
  act (s.radioOn band.val) (forAll [1, 2, 3, 4, 5, 6, 7, 8] (ageItem band.val)) s

/-- SENSOR_REFRESH (R103). -/
def execSensorRefresh (band : Fin 2) (temp vmain : Octet) (s : State) : Host.Outcome State Fault Refusal :=
  act (s.radioOn band.val) (sensorRefresh band.val temp vmain) s

/-- OFFMIN_END (R111): the gap of a rule has passed. -/
def execOffminEnd (band : Fin 2) (rule : Fin 4) (s : State) : Host.Outcome State Fault Refusal :=
  act (s.linkRuns && !s.gapRuns band.val rule.val) (offShow band.val) s

/-- BUCKET_ENTRY (R112). -/
def execBucketEntry (band : Fin 2) (rule : Fin 4) (s : State) : Host.Outcome State Fault Refusal :=
  act (s.linkRuns && s.bucketDue band.val rule.val) (bucketEnter band.val rule.val) s

end Sys2Proof.Machine
end

