-- ==== Sys2Proof/Machine/Build.lean ====
section
/-! DEFINITION. LINK's key slots and counters (R176 to R180), neighbour entries as words (R183), and the building of frames
(R171, R172, R175, R202). -/
namespace Sys2Proof.Machine

open Sys2Proof

/-! ## Neighbour entries -/

/-- Address of word `j` of neighbour entry `n` (R183). -/
def nbrAddr (n j : Nat) : Nat := 0x800000 + 12 * n + j

/-- Word `j` of neighbour entry `n`. -/
def State.nbr (s : State) (n j : Nat) : Word := s.mw (nbrAddr n j)

/-- Word `j` of neighbour entry `n` replaced. -/
def setNbr (n j : Nat) (v : Word) (s : State) : State := engWrite (nbrAddr n j) v s

/-- A field of an entry replaced. -/
def setNbrFld (n j lo len x : Nat) (s : State) : State := setNbr n j (setBits (s.nbr n j) lo len x) s

/-- STATE of an entry; 5 to 7 are treated as LOST (R184). -/
def State.nbrState (s : State) (n : Nat) : Nat :=
  let x := bits (s.nbr n 0) 0 3
  if 4 < x then 4 else x

/-- Extended address of an entry. -/
def State.nbrExt (s : State) (n : Nat) : Nat :=
  ((s.nbr n 1).toNat + 2 ^ 24 * (s.nbr n 2).toNat + 2 ^ 48 * (s.nbr n 3).toNat) % 2 ^ 64

/-- Short address of an entry. -/
def State.nbrShort (s : State) (n : Nat) : Nat := bits (s.nbr n 4) 0 16

/-- PINNED. -/
def State.pinned (s : State) (n : Nat) : Bool := n ≤ 8191 && bitOf (s.nbr n 0) 3

/-- The neighbour may be named as a next hop (R208): FRESH or STALE. -/
def State.nbrUsable (s : State) (n : Nat) : Bool := n ≤ 8191 && (s.nbrState n == 2 || s.nbrState n == 3)

/-- SELF: this node's extended address. -/
def State.self (s : State) : Nat := s.multi (R.linkSelf 0) 2 + 2 ^ 48 * s.fld R.linkSelf2 0 16

/-- This node's short address in network `n`. -/
def State.short (s : State) (n : Nat) : Nat := s.fld (R.netShort n) 0 16

/-! ## Key slots -/

/-- KEYn_CFG.VALID. -/
def State.keyValid (s : State) (k : Nat) : Bool := s.bit (R.keyCfg k) 23

/-- KEYn_CFG.NET. -/
def State.keyNet (s : State) (k : Nat) : Nat := s.fld (R.keyCfg k) 16 4

/-- The key of a slot. -/
def State.key (s : State) (k : Nat) : List Octet := tabLook (List.replicate 16 0) s.link.keys k

/-- The outgoing counter in force. -/
def State.txctr (s : State) (k : Nat) : Nat := s.multi (R.keyTxctr k 0) 2 % 2 ^ 32

/-- The counter limit in force. -/
def State.txlim (s : State) (k : Nat) : Nat := s.multi (R.keyTxlim k 0) 2 % 2 ^ 32

/-- The counter has reached the limit less 65,536 (R180). -/
def State.ctrLow (s : State) (k : Nat) : Bool := decide (s.txlim k ≤ s.txctr k + 65536)

/-- LINK_CTRLOW fires where the condition of R180 has become true. -/
def ctrLowEdge (before : Bool) (k : Nat) (s : State) : State := if !before && s.ctrLow k then fire 0x11 s else s

/-- The slot's next counter is taken. -/
def takeCtr (k : Nat) (s : State) : Nat × State :=
  (s.txctr k, ctrLowEdge (s.ctrLow k) k (s.setMulti (R.keyTxctr k 0) 2 (s.txctr k + 1)))

/-- KEYn_TXCTR0 or TXLIM0 written: the low word waits for the commit (R180). -/
def ctrLowWrite (a : Nat) (v : Word) (s : State) : State :=
  s.setLink { s.link with ctrStage := tabSet s.link.ctrStage a v }

/-- KEYn_TXCTR1 or TXLIM1 written at `a` + 1: both words are committed. -/
def ctrCommit (k a : Nat) (v : Word) (s : State) : State :=
  ctrLowEdge (s.ctrLow k) k
    ((s.setReg a ((tabGet s.link.ctrStage a).getD (s.reg a))).setReg (a + 1) (W (bits v 0 8)))

/-- The walk clears the replay state of an entry whose key index names the slot (R179). -/
def walkEntry (k n : Nat) (s : State) : State :=
  if s.nbrState n != 0 && bits (s.nbr n 4) 20 4 == k then
    setNbr n 8 0 (setNbr n 7 0 (setNbrFld n 6 0 8 0 (setNbr n 5 0 s)))
  else s

/-- A walk has reached the entries below `m`. -/
def walkTo (k t m : Nat) (s : State) : State :=
  match tabGet s.link.walk k with
  | some (_, d) =>
    let s1 := forAll ((List.range m).drop d) (walkEntry k) s
    s1.setLink { s1.link with walk := tabSet s1.link.walk k (t, max d m) }
  | none => s

/-- A walk has run on for `dt` ns: entry n is reached between n × 0.244 µs and (n + 1) × 0.244 µs after its start, so that one entry more
may or may not have been (R179). -/
def walkBy (dt k : Nat) (s : State) : State :=
  match tabGet s.link.walk k with
  | some (t, _) => walkTo k (t + dt) (min 8192 ((t + dt) / 244 + if Config.freeBool s.draws then 1 else 0)) s.drawn
  | none => s

/-- LINK's reload walks run on for `dt` ns (R179): while LINK runs. -/
def walkTick (dt : Nat) (s : State) : State :=
  if s.linkRuns && s.bit R.linkCtrl 0 then forAll (s.link.walk.map (·.1)) (walkBy dt) s else s

/-- A walk is cut short: what it has reached stays cleared. -/
def walkStop (k : Nat) (s : State) : State :=
  let t := walkBy 0 k s
  t.setLink { t.link with walk := tabDel t.link.walk k }

/-- KEYCOMMIT written (R179): GO loads the slot with the next LOADSEQ, counter and limit 0; entries that name the slot make
it wait for the walk. CLEAR makes it not VALID and erases its key. -/
def keyCommitWrite (v : Word) (s : State) : State :=
  let k := bits v 0 4
  let s0 := plainWrite R.linkKeycommit v s
  let s1 := if bitOf v 9 then
      let seq := s0.reg R.linkLoadseq + 1
      let key := ((wordsToOctets s0.link.stage) ++ List.replicate 18 0).take 16
      let named := (List.range 8192).any (fun n => s0.nbrState n != 0 && bits (s0.nbr n 4) 20 4 == k)
      let cfg := (if named then 2 ^ 21 else 2 ^ 23) + (if bitOf v 8 then 2 ^ 22 else 0) + bits v 4 4 * 2 ^ 16
      let u := walkStop k s0
      let t := (((u.setReg R.linkLoadseq seq).setReg (R.keySeq k) seq).setReg (R.keyCfg k) (W cfg)).setMulti (R.keyTxctr k 0) 4 0
      t.setLink { t.link with
        keys := tabPut (List.replicate 16 0) t.link.keys k key
        walk := if named then tabSet t.link.walk k (0, 0) else tabDel t.link.walk k }
    else s0
  if bitOf v 10 then
    let t := (walkStop k s1).setReg (R.keyCfg k) 0
    t.setLink { t.link with keys := tabDel t.link.keys k, walk := tabDel t.link.walk k }
  else s1

/-- KEYSTAGEi written. -/
def keyStageWrite (i : Nat) (v : Word) (s : State) : State :=
  let l := (s.link.stage ++ List.replicate 6 0).take 6
  s.setLink { s.link with stage := listSet l i v }

/-- The reload walk of a slot ends: it has reached every entry, and the slot becomes VALID. -/
def walkDone (k : Nat) (s : State) : State :=
  let t := walkTo k 0 8192 s
  ((t.setLink { t.link with walk := tabDel t.link.walk k }).setBit (R.keyCfg k) 23 true).setBit (R.keyCfg k) 21 false

/-! ## Building a frame (R171) -/

/-- What keeps a frame from being built. -/
inductive BuildFail where
  /-- The descriptor has VALID = 0 or TX = 0 (R170), or a level that R177 does not support, or the payload of a MESH
  descriptor is shorter than 6 (R202). -/
  | badDesc
  /-- R180: the slot is not VALID or has TX = 0. -/
  | noKey
  /-- R180 or R175: the counter is held back. -/
  | held
  deriving DecidableEq, Repr

/-- What a frame is built from: the descriptor, the destination (none: broadcast), the record's AR, its payload IEs, the payload, a
beacon's or a timed frame's instant in ns, whether it is a beacon, the counter and key a retry re-sends under, and its TYPE in a
TL-OFDM header (R149). -/
structure BuildReq where
  d : Nat
  dst : Option Nat
  ar : Bool
  pies : List Octet
  pay : List Octet
  inst : Nat
  beacon : Bool
  again : Option (Nat × Nat)
  type : Nat
  deriving DecidableEq, Repr

/-- A frame as built: its PSDU without FCS, the counter and key it carries, what TXTIME is filled into as it leaves, and its TYPE. -/
structure Built where
  psdu : List Octet
  ck : Option (Nat × Nat)
  seal_ : Option Seal
  type : Nat
  deriving DecidableEq, Repr

/-- TXTIME's content (R172). -/
def State.txtime (s : State) (inst : Nat) : List Octet :=
  natLe 9 (256 * inst) ++ [O (s.fld R.mtParent 14 6)] ++ word3 (s.reg R.mtUncert) ++ [O (s.fld R.mtStatus 16 8)]

/-- The frame's acknowledgement request: a unicast frame whose record or descriptor asks (R169, R175). -/
def State.buildAr (s : State) (bk : Bool) (q : BuildReq) : Bool :=
  q.dst.isSome && !q.beacon && (q.ar || bitOf (s.descWord bk q.d 2) 7)

/-- The destination address as sent (R171): mode and value; a neighbour without a short address gets its extended one, whatever FC
selects. -/
def State.buildDst (s : State) (q : BuildReq) (fc : Nat) : Nat × Nat :=
  let m := fc / 2 ^ 10 % 4
  match q.dst with
  | none => if m = 0 then (0, 0) else (2, 0xFFFF)
  | some n =>
    if s.nbrShort n = 0xFFFE then (3, s.nbrExt n)
    else if m = 0 then (0, 0) else if m = 2 then (2, s.nbrShort n) else (3, s.nbrExt n)

/-- The source address as sent (R171). -/
def State.buildSrc (s : State) (net fc : Nat) : Nat × Nat :=
  let m := fc / 2 ^ 14 % 4
  if m = 0 then (0, 0) else if m = 2 ∧ s.short net ≠ 0xFFFE then (2, s.short net) else (3, s.self)

/-- A frame carries TXTIME (R171, R172): its descriptor's TIMEIE or a beacon, and no request for an acknowledgement. -/
def State.buildTimed (s : State) (bk : Bool) (q : BuildReq) : Bool :=
  (bitOf (s.descWord bk q.d 2) 6 || q.beacon) && !s.buildAr bk q

/-- The payload as sent: the payload IEs, which a termination IE closes where MAC payload follows, then the payload. -/
def buildPay (pies pay : List Octet) : List Octet :=
  pies ++ (if pies.isEmpty || pay.isEmpty then [] else payloadIe 15 []) ++ pay

/-- The MAC header and payload of a frame (R171), before its security: the header octets before and after the place of TXTIME's
content, and the payload octets. -/
def State.buildPlain (s : State) (bk : Bool) (q : BuildReq) (ctr key : Nat) (seq : Octet) : List Octet × List Octet × List Octet :=
  let w0 := s.descWord bk q.d 0
  let w2 := s.descWord bk q.d 2
  let net := bits w2 16 4
  let fc0 := bits w0 0 16
  let sec := !bitOf w0 20
  let ar := s.buildAr bk q
  let (dm, da) := s.buildDst q fc0
  let (sm, sa) := s.buildSrc net fc0
  let tt := if s.buildTimed bk q then (heroftIe (s.oui bk) 2 (List.replicate 14 0)).take 6 else []
  let mesh := if bitOf w0 19 then heroftIe (s.oui bk) 3 (q.pay.take 6) else []
  let pay := if bitOf w0 19 then q.pay.drop 6 else q.pay
  let rest := s.hieOctets bk q.d ++ mesh
  let none_ := tt.isEmpty && rest.isEmpty
  let term := if !q.pies.isEmpty then headerIe 0x7E [] else if none_ || pay.isEmpty then [] else headerIe 0x7F []
  let base := W (fc0 % 2 ^ 16)
  let fc := (setBits (setBits (setBits (setBits (setBits base 3 1 (if sec then 1 else 0)) 5 1 (if ar then 1 else 0))
    9 1 (if none_ && term.isEmpty then 0 else 1)) 10 2 dm) 14 2 sm).toNat
  let comp := fc / 2 ^ 6 % 2 == 1
  let pan := natLe 2 (s.fld (R.netPan net) 0 16)
  let front := natLe 2 fc ++ (if fc / 2 ^ 8 % 2 = 1 then [] else [seq]) ++
    (if dstPanHere dm sm comp then pan else []) ++ addrOctets dm da ++
    (if srcPanHere dm sm comp then pan else []) ++ addrOctets sm sa ++
    (if sec then O (bits w2 0 3 + 8) :: natLe 4 ctr ++ [O (key + 1)] else []) ++ tt
  (front, rest ++ term, buildPay q.pies pay)

/-- The octets of a frame whose TXTIME says `inst`, where it carries one: header and payload, secured where it is. -/
def State.sealed (s : State) (e : Seal) (timed : Bool) (inst : Nat) : List Octet :=
  let hdr := e.front ++ (if timed then s.txtime inst else []) ++ e.back
  match e.sec with
  | some (k, c, lvl) => secure (s.key k) s.self c lvl hdr e.pay
  | none => hdr ++ e.pay

/-- A frame built under a counter and key, or unsecured. -/
def State.buildSeal (s : State) (bk : Bool) (q : BuildReq) (sec : Option (Nat × Nat × Nat)) : Built :=
  let (k, c) := match sec with | some (k, c, _) => (k, c) | none => (0, 0)
  let (front, back, pay) := s.buildPlain bk q c k (if sec.isSome then O c else s.link.unsec)
  let e : Seal := { front := front, back := back, pay := pay, sec := sec }
  let timed := s.buildTimed bk q
  { psdu := s.sealed e timed q.inst, ck := sec.map (fun x => (x.2.1, x.1)), seal_ := if timed then some e else none, type := q.type }

/-- A frame built and secured, with the counter and key it carries; or why it is not built. -/
def buildFrame (bk : Bool) (q : BuildReq) (s : State) : Except BuildFail Built × State :=
  let w0 := s.descWord bk q.d 0
  let w2 := s.descWord bk q.d 2
  if !s.descTx bk q.d || (bitOf w0 19 && q.pay.length < 6) then (.error .badDesc, s)
  else if bitOf w0 20 then
    (.ok (s.buildSeal bk q none), s.setLink { s.link with unsec := s.link.unsec + 1 })
  else
    let lvl := bits w2 0 3
    let k := match q.again with | some (_, k) => k | none => bits w2 8 4
    if lvl % 4 = 0 then (.error .badDesc, s)
    else if !s.keyValid k || !s.bit (R.keyCfg k) 22 then (.error .noKey, s.count (R.linkCounters 6))
    else
      match q.again with
      | some (c, _) => (.ok (s.buildSeal bk q (some (k, c, lvl))), s)
      | none =>
        if s.txlim k ≤ s.txctr k then (.error .held, s.count (R.linkCounters 16))
        else
          let (c, t) := takeCtr k s
          (.ok (t.buildSeal bk q (some (k, c, lvl))), t)

/-- The octets of a record's frame are kept for its retries (R171, R175). -/
def keepOctets (desc : Word) (p : List Octet) (s : State) : State :=
  s.setLink { s.link with recOct := tabSet s.link.recOct (bits desc 0 12) p }

/-- TRIES of a record. -/
def State.tries (s : State) (desc : Word) : Nat := bits (s.mw (bufBase (bits desc 0 12) + 2)) 8 4

/-- The octets that a retry of a record's frame re-sends: kept since its first attempt, while its counter is set or attempts have been
made. -/
def State.keptOctets (s : State) (desc : Word) (set : Bool) : Option (List Octet) :=
  if set || s.tries desc != 0 then tabGet s.link.recOct (bits desc 0 12) else none

/-- LINK reads the tables that a transmit record names: its frame-format descriptor and its neighbour's entry (R349, R350). -/
def recordSee (bk : Bool) (w0 : Word) (s : State) : State :=
  engSee 7 (fun a => inRange (bankAt bk + 0x800 + 32 * bits w0 18 6) 32 a ||
    (!bitOf w0 15 && inRange (nbrAddr (bits w0 0 13) 0) 12 a)) s

/-- The frame of a descriptor's transmit record (R175): the record's fields read, the frame built, the counter recorded at
the first attempt and its octets kept, those of a frame with TXTIME once it is radiated. A record whose counter's slot has since been
reloaded or cleared is not sent. -/
def buildRecord (bk : Bool) (desc : Word) (inst : Nat) (s : State) : Except BuildFail Built × State :=
  let a := bufBase (bits desc 0 12)
  let (r, s0) := engWords 7 a 4 s
  let s1 := recordSee bk (r.getD 0 0) (frameScan 7 desc s0).2
  let w0 := r.getD 0 0
  let w2 := r.getD 2 0
  let ctr := (r.getD 1 0).toNat + 2 ^ 24 * bits w2 0 8
  let k := bits w2 16 4
  let set := bitOf w2 23
  let q : BuildReq := { d := bits w0 18 6, dst := if bitOf w0 15 then none else some (bits w0 0 13), ar := bitOf w0 17, pies := [],
                        pay := s1.frameOctets desc, inst := inst, beacon := false,
                        again := if set then some (ctr, k) else none, type := if bitOf w0 16 then 2 else 0 }
  let deny := fun t => engWrite (a + 3) (W St.denied) t
  if set && (!s1.keyValid k || tabLook (s1.reg (R.keySeq k)) s1.link.recSeq (bits desc 0 12) != s1.reg (R.keySeq k)) then
    (.error .held, deny (s1.count (R.linkCounters 16)))
  else
    match s1.keptOctets desc set with
    | some p => (.ok { psdu := p, ck := if set then some (ctr, k) else none, seal_ := none, type := q.type }, s1)
    | none =>
      match buildFrame bk q s1 with
      | (.ok x, t) =>
        let t1 := match x.ck with
          | some (c, kk) => if set then t else engWrite (a + 2)
            (W (2 ^ 23 + kk * 2 ^ 16 + bits w2 8 4 * 2 ^ 8 + c / 2 ^ 24)) (engWrite (a + 1) (W c)
              (t.setLink { t.link with recSeq := tabSet t.link.recSeq (bits desc 0 12) (t.reg (R.keySeq kk)) }))
          | none => t
        (.ok x, if x.seal_.isSome then t1.setLink { t1.link with recOct := tabDel t1.link.recOct (bits desc 0 12) }
          else keepOctets desc x.psdu t1)
      | (.error .noKey, t) => (.error .noKey, deny t)
      | (.error e, t) => (.error e, t)

/-- TRIES of a record, one more, saturating at 15 (R175, R213). -/
def countTry (desc : Word) (s : State) : State :=
  let a := bufBase (bits desc 0 12) + 2
  engWrite a (setBits (s.mw a) 8 4 (min 15 (bits (s.mw a) 8 4 + 1))) s

/-- RESULT of a record. -/
def setResult (desc : Word) (code : Nat) (s : State) : State := engWrite (bufBase (bits desc 0 12) + 3) (W code) s

/-! ## The tone map a frame is sent with (R156, R157) -/

/-- Address of tone-map entry `i` (R155). -/
def tmAddr (i : Nat) : Nat := 0x82E000 + 36 * i

/-- Code of data tone `k` of entry `i`. -/
def State.tmCode (s : State) (i k : Nat) : Nat := bits (s.mw (tmAddr i + 1 + k / 6)) (4 * (k % 6)) 4

/-- The codes of an entry of a width. -/
def State.tmCodes (s : State) (i width : Nat) : List Nat := (List.range (tlTones width)).map (s.tmCode i)

/-- Codes are legal (R161). -/
def codesOk (l : List Nat) : Bool := l.all (· ≤ 6) && l.any (· != 0)

/-- The learned map for a unicast frame to neighbour `n` under a TL mode, if R156 gives one. -/
def State.txMap (s : State) (n mode : Nat) : Option Nat :=
  let i := bits (s.nbr n 0) 5 11
  let w := s.mw (tmAddr i)
  if i != 0 && bitOf w 23 && bitOf w 22 && bits w 20 2 == mode - 0x40 && codesOk (s.tmCodes i (mode - 0x40)) then some i
  else none

/-- RATE, BLK, CP20 and bits per symbol of a map. -/
def State.mapParams (s : State) (i mode : Nat) : Nat × Bool × Bool × Nat :=
  let w := s.mw (tmAddr i)
  (bits w 17 2, bitOf w 19, bitOf w 16, ((s.tmCodes i (mode - 0x40)).map conBits).sum)

/-- The learned map that a frame is sent with (R156): none for a broadcast, a beacon or a sounding frame. -/
def State.frameMap (s : State) (m : Nat) (dst : Option Nat) (sound : Bool) : Option Nat :=
  match dst with
  | some n => if isTl m && !sound then s.txMap n m else none
  | none => none

/-- The PHY header that a frame of `len` octets with FCS is sent with, and its data tones' codes (R149, R156, R157); a standard mode has
no such header. The spec does not say how the scrambler's seed is chosen: an open value. -/
def State.frameHdr (s : State) (bk : Bool) (p : Nat) (dst : Option Nat) (len type : Nat) : BitVec 52 × List Nat :=
  let m := s.profMode bk p 0
  let scr := Config.freeNat s.draws % 16
  if !isTl m then (0, [])
  else
    match s.frameMap m dst (type == 1) with
    | some i =>
      let w := s.mw (tmAddr i)
      (headerOf type (bits w 0 11) len (bitOf w 19) (bits w 17 2) (bitOf w 16) 0 scr, s.tmCodes i (m - 0x40))
    | none =>
      let w4 := s.profWord bk p 4
      let u := bits w4 11 3
      let u := if u = 0 ∨ u = 7 then 2 else u
      (headerOf type 0 len (bitOf w4 15) (bits w4 16 2) (bitOf w4 14) u scr, List.replicate (tlTones (m - 0x40)) u)

/-- Airtime of a frame built for a destination under a profile. -/
def State.frameAir (s : State) (bk : Bool) (p : Nat) (dst : Option Nat) (len : Nat) (sound : Bool) : Nat :=
  let m := s.profMode bk p 0
  s.airtime bk p (len + s.fcsLen bk p) ((s.frameMap m dst sound).map (fun i => s.mapParams i m)) sound

/-! ## The commands -/

/-- KEY_LOAD_COMMIT (R179). -/
def execKeyLoadCommit (w : Who) (v : Word) (s : State) : Host.Outcome State Fault Refusal :=
  act (s.mayWrite w R.linkKeycommit) (keyCommitWrite (setBits v 9 1 1)) s

/-- KEY_CLEAR (R179). -/
def execKeyClear (w : Who) (v : Word) (s : State) : Host.Outcome State Fault Refusal :=
  act (s.mayWrite w R.linkKeycommit) (keyCommitWrite (setBits v 10 1 1)) s

/-- TXCTR_COMMIT (R180). -/
def execTxctrCommit (w : Who) (slot : Fin 16) (v : Word) (s : State) : Host.Outcome State Fault Refusal :=
  act (s.mayWrite w (R.keyTxctr slot.val 1)) (ctrCommit slot.val (R.keyTxctr slot.val 0) v) s

/-- TXLIM_COMMIT (R180). -/
def execTxlimCommit (w : Who) (slot : Fin 16) (v : Word) (s : State) : Host.Outcome State Fault Refusal :=
  act (s.mayWrite w (R.keyTxlim slot.val 1)) (ctrCommit slot.val (R.keyTxlim slot.val 0) v) s

end Sys2Proof.Machine
end

