-- ==== Sys2Proof/Machine/Flags.lean ====
section
/-! DEFINITION. The arithmetic of the application cores (R306, R309, R317 to R319): saturation, shifts, division, rounding,
packed complex words. The cores have no condition flags (R305); the accumulator's sticky SAT is the only one. -/
namespace Sys2Proof.Machine

open Sys2Proof

/-- An integer clamped to a signed word (R306). -/
def satWord (x : Int) : Word := BitVec.ofInt 24 (max (-8388608) (min 8388607 x))

/-- An integer clamped to a half of a packed complex word (R306). -/
def satHalf (x : Int) : Int := max (-2048) (min 2047 x)

/-- 1 or 0 as a word. -/
def ofBool (b : Bool) : Word := if b then 1 else 0

/-- Shift left by an amount of 0 to 31: 24 and more give 0. -/
def shl24 (a : Word) (n : Nat) : Word := if 24 ≤ n then 0 else a <<< n

/-- Logical shift right. -/
def shr24 (a : Word) (n : Nat) : Word := if 24 ≤ n then 0 else a >>> n

/-- Arithmetic shift right: 24 and more give 24 copies of the sign. -/
def sar24 (a : Word) (n : Nat) : Word := a.sshiftRight (min n 23)

/-- Rotate right by an amount modulo 24. -/
def ror24 (a : Word) (n : Nat) : Word := a.rotateRight (n % 24)

/-- Leading zeros, 0 to 24. -/
def clz24 (a : Word) : Nat := ((List.range 24).find? (fun i => bitOf a (23 - i))).getD 24

/-- The I half of a packed complex word. -/
def cI (v : Word) : Int := signed (bits v 12 12) 12

/-- The Q half. -/
def cQ (v : Word) : Int := signed (bits v 0 12) 12

/-- A packed complex word from its halves, each modulo 2^12. -/
def cPack (i q : Int) : Word := W ((BitVec.ofInt 12 i).toNat * 4096 + (BitVec.ofInt 12 q).toNat)

/-- A packed complex word with each half saturated. -/
def cPackSat (i q : Int) : Word := cPack (satHalf i) (satHalf q)

/-- Division by 2^n rounded to nearest, ties upward (R319). -/
def roundShift (x : Int) (n : Nat) : Int := (x + 2 ^ (n - 1)) / 2 ^ n

/-- The complex product of Q0.11 halves, rounded and saturated (R319). -/
def cMul (a b : Word) : Word :=
  cPackSat (roundShift (cI a * cI b - cQ a * cQ b) 11) (roundShift (cI a * cQ b + cQ a * cI b) 11)

/-- The product with the conjugate of `b`, rounded and saturated. -/
def cMulConj (a b : Word) : Word :=
  cPackSat (roundShift (cI a * cI b + cQ a * cQ b) 11) (roundShift (cQ a * cI b - cI a * cQ b) 11)

/-- Signed quotient and remainder, towards zero; a zero divisor gives 0xFFF_FFF and the dividend (R318). -/
def divS (a b : Word) : Word × Word := if b = 0 then (0xFFFFFF, a) else (a.sdiv b, a.srem b)

/-- Unsigned quotient and remainder, likewise. -/
def divU (a b : Word) : Word × Word := if b = 0 then (0xFFFFFF, a) else (a / b, a % b)

/-- DIVL and DIVLU: a 48-bit dividend; a zero divisor or a quotient beyond 24 bits gives 0xFFF_FFF and the low word (R318). -/
def divPair (sg : Bool) (p : BitVec 48) (b : Word) : Word × Word :=
  if b = 0 then (0xFFFFFF, wordOf p 0)
  else if sg then
    let q := p.toInt.tdiv b.toInt
    if -8388608 ≤ q ∧ q ≤ 8388607 then (BitVec.ofInt 24 q, BitVec.ofInt 24 (p.toInt.tmod b.toInt))
    else (0xFFFFFF, wordOf p 0)
  else
    let q := p.toNat / b.toNat
    if q < 2 ^ 24 then (W q, W (p.toNat % b.toNat)) else (0xFFFFFF, wordOf p 0)

/-- ACC from an integer: saturated at its 56-bit limits, and whether it was (R319). -/
def satAcc (x : Int) : BitVec 56 × Bool :=
  (BitVec.ofInt 56 (max (-(2 ^ 55)) (min (2 ^ 55 - 1) x)), decide (x < -(2 ^ 55) ∨ 2 ^ 55 - 1 < x))

end Sys2Proof.Machine
end

