-- ==== Sys2Proof/Machine/Operands.lean ====
section
/-! DEFINITION. The instruction formats of the application cores (R307), the fields they reserve (R325), and the words the
core reports in XVAL. -/
namespace Sys2Proof.Machine

open Sys2Proof

/-- Format A: major, d, a, b, func. -/
def fmtA (major : Nat) (d a b : BitVec 4) (func : Nat) : Word :=
  W (major * 2 ^ 18 + d.toNat * 2 ^ 14 + a.toNat * 2 ^ 10 + b.toNat * 2 ^ 6 + func)

/-- Format I: major, d, a, imm10. -/
def fmtI (major : Nat) (d a : BitVec 4) (imm : BitVec 10) : Word :=
  W (major * 2 ^ 18 + d.toNat * 2 ^ 14 + a.toNat * 2 ^ 10 + imm.toNat)

/-- Format J: major, off18. -/
def fmtJ (major : Nat) (off : BitVec 18) : Word := W (major * 2 ^ 18 + off.toNat)

/-- Format U: major, d, imm14. -/
def fmtU (major : Nat) (d : BitVec 4) (imm : BitVec 14) : Word := W (major * 2 ^ 18 + d.toNat * 2 ^ 14 + imm.toNat)

/-- A system function of major 0x24 with bits [17:6]. -/
def fmtSys (rest : BitVec 12) (func : Nat) : Word := W (0x24 * 2 ^ 18 + rest.toNat * 2 ^ 6 + func)

/-- A pair register: even, 2 to 12 (R305, R325). -/
def pairOk (d : BitVec 4) : Bool := d.toNat % 2 == 0 && 2 ≤ d.toNat && d.toNat ≤ 12

/-- The lane field of an octet form names a lane (R311). -/
def laneOk (imm : BitVec 10) : Bool := bits imm 8 2 != 3

/-- The immediate shifts reserve imm[9:5] (R310). -/
def shiftImmOk (imm : BitVec 10) : Bool := bits imm 5 5 == 0

/-- EXT.K with lsb < 24 (R310). -/
def extOk (imm : BitVec 10) : Bool := bits imm 0 5 < 24

/-- The system registers that exist (the table of 12_qoris24_cores.md). -/
def sysExists (n : Nat) : Bool :=
  n ≤ 2 || (0x010 ≤ n && n ≤ 0x018) || n == 0x020 || (0x030 ≤ n && n ≤ 0x055)

end Sys2Proof.Machine
end

