-- ==== Sys2Proof/Machine/CoreBase.lean ====
section
/-! DEFINITION. What every instruction of an application core shares: when the core runs, its fetch (R328), exceptions
(R329 to R331), interrupts (R335, R338), and watchpoints (R341, R468). -/
namespace Sys2Proof.Machine

open Sys2Proof

/-- SYS.FAULT.IMAGE: the application domain is held in reset (R385, R386). -/
def State.imageHeld (s : State) : Bool := s.bit R.sysFault 3

/-- The core is powered and out of reset, and neither the boot ROM's check that is still to come nor a start-house copy keeps it there
(R382). -/
def State.coreOnline (s : State) (k : Fin 4) : Bool :=
  s.appRuns && !s.imageHeld && !s.offline k.val && !s.stage.boot && !(match s.stage.copy with | some c => c.active | none => false)

/-! ## Interrupts -/

/-- The offline cores whose inputs pend in core `t` (R338). -/
def State.routedFrom (s : State) (t : Nat) : List Nat :=
  if s.fallback == some t then (List.range 4).filter (fun k => s.offline k) else []

/-- Ck_PRIO's field for input `n`. -/
def State.intcPrio (s : State) (k n : Nat) : Nat := s.fld (R.intcPrio k (n / 8)) (3 * (n % 8)) 3

/-- The priority at which core `t` may take input `n`: its own where its EN bit is 1, else that of the offline core whose
input is routed to it, the lowest-numbered if there are more (R338); 0 where neither enables it. -/
def State.inputPrio (s : State) (t n : Nat) : Nat :=
  if s.intcEnabled t n then s.intcPrio t n
  else
    match (s.routedFrom t).find? (fun k => s.intcEnabled k n) with
    | some k => s.intcPrio k n
    | none => 0

/-- The better of two candidates: the higher priority, the lower input on a tie (R335). -/
def better (s : State) (t : Nat) (best : Option Nat) (n : Nat) : Option Nat :=
  if s.intcPending t n && s.inputPrio t n != 0 then
    match best with
    | some b => if s.inputPrio t b < s.inputPrio t n then some n else best
    | none => some n
  else best

/-- The pending enabled input of highest priority of core `t` (R335). PRIO 0 is never taken. -/
def State.topInput (s : State) (t : Nat) : Option Nat := (List.range 128).foldl (better s t) none

/-- STATUS.IPL. -/
def Core.ipl (c : Core) : Nat := bits (c.sysReg 0x010) 4 3

/-- An input that could be taken, ignoring IE (R314, R335). -/
def State.takeable (s : State) (k : Fin 4) : Option Nat :=
  match s.topInput k.val with
  | some n => if (s.core k).ipl < s.inputPrio k.val n then some n else none
  | none => none

/-- The core is in a boot-ROM service that has not returned (R370): its program counter stands at the service's entry word, and no handler
runs meanwhile. -/
def Core.inService (c : Core) : Bool := !c.svc.isEmpty && !c.away

/-- The service's status in g2, and the program counter at g14 (R362). -/
def svcAnswer (k : Fin 4) (status : Nat) (s : State) : State :=
  let c := s.core k
  s.setCore k { (c.setG 2 (W status)) with pc := c.reg 14 }

/-- The service that a core was blocked in returns. A core that had called it from a handler is back in that handler, with the call that the
handler interrupted still open. -/
def svcReturn (k : Fin 4) (status : Nat) (s : State) : State :=
  let t := svcAnswer k status s
  let rest := (s.core k).svc.tail
  t.setCore k { t.core k with svc := rest, away := !rest.isEmpty }

/-- A core back at the service's entry from a handler finds a status that waits for it (R370): that of its last call, once there is one for
each call that has not returned. -/
def svcPoll (k : Fin 4) (s : State) : State :=
  match s.flash.rets.find? (fun e => e.1 == k) with
  | some e =>
    if (s.core k).inService && (s.flash.rets.filter (fun x => x.1 == k)).length == (s.core k).svc.length then
      svcReturn k e.2 { s with flash := { s.flash with rets := s.flash.rets.erase e } }
    else s
  | none => s

/-- Core `k` executes instructions: online, not in a boot-ROM service, not waiting unless an input could be taken, not
halted unless the debugger has asked for a step (R340). -/
def State.coreRuns (s : State) (k : Fin 4) : Bool :=
  s.coreOnline k && !(s.core k).inService && (!(s.core k).waiting || (s.takeable k).isSome) &&
    (!s.halted k.val || bitOf s.dbg.stepReq k.val)

/-! ## Exceptions (R329, R330) -/

/-- g15 and XSP exchange their contents. -/
def Core.swapSp (c : Core) : Core := (c.setG 15 (c.sysReg 0x018)).setSys 0x018 (c.reg 15)

/-- STATUS on entry: MODE := 1, IE := 0, INX := 1, and IPL where an interrupt gives one. -/
def entryStatus (st : Word) (ipl : Option Nat) : Word :=
  let s1 := setBits (setBits (setBits st 0 1 1) 1 1 0) 2 1 1
  match ipl with
  | some p => setBits s1 4 3 p
  | none => s1

/-- Exception entry as one step (R330). -/
def Core.enter (c : Core) (code arg : Nat) (fetch : Bool) (xpc xval : Word) (entry : Nat) (ipl : Option Nat) : Core :=
  let st := c.sysReg 0x010
  let cause := W (arg * 2 ^ 12 + (if fetch then 2 ^ 5 else 0) + bits st 2 1 * 2 ^ 4 + code)
  let c1 := (((c.setSys 0x011 st).setSys 0x012 xpc).setSys 0x014 xval).setSys 0x013 cause
  let c2 := if bits st 0 1 = 0 then c1.swapSp else c1
  { (c2.setSys 0x010 (entryStatus st ipl)) with
    pc := W ((c.sysReg 0x015).toNat / 512 * 512 + entry), waiting := false, away := !c.svc.isEmpty }

/-- Core `k` takes the synchronous exception `code` (1 to 5) at its present instruction. -/
def raise (k : Fin 4) (code arg : Nat) (fetch : Bool) (xval : Word) (s : State) : State :=
  let c := s.core k
  s.setCore k (c.enter code arg fetch c.pc xval (8 * code) none)

/-- Return from an exception (R330). -/
def Core.leave (c : Core) : Core :=
  let c1 := { (c.setSys 0x010 (c.sysReg 0x011)) with
    pc := c.sysReg 0x012, away := c.away && c.svc.head? != some (c.sysReg 0x012) }
  if bits (c.sysReg 0x011) 0 1 = 0 then c1.swapSp else c1

/-- The core with the program counter at the next instruction. -/
def nextPc (k : Fin 4) (s : State) : State := s.setCore k { s.core k with pc := (s.core k).pc + 1 }

/-! ## Writing the D-cache back (R332, R333) -/

/-- A line taken out of the D-cache without write-back. -/
def dropLine (k : Fin 4) (line : Nat) (s : State) : State :=
  s.setCore k { s.core k with dcache := (s.core k).dcache.filter (fun x => x.line != line) }

/-- A line written back if it is dirty: its words go to memory, and stores that are not honoured there are ignored. A dirty line with a word
that fails its parity is lost: the word's address (R332). -/
def writeBack (k : Fin 4) (l : CLine) (s : State) : Option Nat × State :=
  if !l.dirty then (none, s)
  else
    match (List.range 8).find? (bitOf l.bad) with
    | some i => (some (8 * l.line + i), dropLine k l.line s)
    | none =>
      let s1 := forAll (List.range 8) (fun i t => memWrite (.app k) (8 * l.line + i) (l.words.getD i 0) t) s
      (none, s1.setCore k { s1.core k with
        dcache := (s1.core k).dcache.map (fun x => if x.line = l.line then { x with dirty := false } else x) })

/-- Lines written back one after another, to the first that is lost. -/
def cleanLines (k : Fin 4) : List CLine → State → Option Nat × State
  | [], s => (none, s)
  | l :: t, s =>
    match writeBack k l s with
    | (some e, u) => (some e, u)
    | (none, u) => cleanLines k t u

/-- Every dirty D-cache line of a core is written back. -/
def cleanCore (k : Fin 4) (s : State) : Option Nat × State := cleanLines k (s.core k).dcache s

/-! ## Fetch (R328, R333) -/

/-- The ranges the core fetches from, and the ranges R333 caches. -/
def codeRange (a : Nat) : Bool := romRange a || (0x600000 ≤ a && a < 0x800000) || ospiRange a

/-- A way of the set for a new line: a free one, or an open choice. -/
def victim (used : List Bool) (draws : Nat) : Bool :=
  if !used.contains false then false else if !used.contains true then true else Config.freeBool draws

/-- The I-cache with a line allocated (512 sets of 2 ways). -/
def icAlloc (line : Nat) (k : Fin 4) (s : State) : State :=
  let c := s.core k
  let mine := c.icache.filter (fun e => e.1 % 512 == line % 512)
  let v := victim (mine.map (·.2)) s.draws
  let s1 := if mine.length < 2 then s else s.drawn
  s1.setCore k { c with icache := (line, v) :: c.icache.filter (fun e => !(e.1 % 512 == line % 512 && e.2 == v)) }

/-- The I-cache serves the address: ICEN, and the deciding region is not NC. -/
def Core.icOn (c : Core) (a : Nat) : Bool := bitOf (c.sysReg 0x050) 0 && !c.mpuNc a

/-- The fetch at core `k`'s program counter: 0 honoured, 1 not honoured (R328), 2 an uncorrectable error. -/
def fetch (k : Fin 4) (s : State) : Nat × State :=
  let c := s.core k
  let a := c.pc.toNat
  if !(codeRange a && c.mpuOk a .ex && (romRange a || ospiRange a || s.sramUp a)) then (1, s)
  else if c.icOn a && c.icache.any (fun e => e.1 == a / 8) then (0, s)
  else
    let (_, err, s1) := if ospiRange a then (0, false, s) else memRead k.val a s
    if err then (2, s1) else (0, if c.icOn a then icAlloc (a / 8) k s1 else s1)

/-- The core leaves WAIT, and a debugger's step is used up. -/
def resume (k : Fin 4) (s : State) : State :=
  let s1 := { s with dbg := { s.dbg with stepReq := s.dbg.stepReq &&& ~~~(1#4 <<< k.val) } }
  s1.setCore k { s1.core k with waiting := false }

/-- One instruction of core `k` with word `word`: its fetch, then ILLEGAL, PRIV, or its own effect (R325, R326, R331). -/
def coreStep (k : Fin 4) (word : Word) (legal priv : Bool) (body : State → State) (s : State) : State :=
  let (f, s1) := fetch k (resume k s)
  if f = 2 then raise k 5 0 true (s.core k).pc s1
  else if f = 1 then raise k 1 0 false 0 s1
  else if !legal then raise k 1 0 false word s1
  else if priv && !(s1.core k).sup then raise k 2 0 false word s1
  else body s1

/-- The fetch waits for flash (R368): it reads the busy bank, which one that the MPU denies does not, nor one that hits the core's I-cache or the
shared flash cache. -/
def State.fetchWaits (s : State) (k : Fin 4) : Bool :=
  let c := s.core k
  let a := c.pc.toNat
  s.flashWaits a && c.mpuOk a .ex && !(c.icOn a && c.icache.any (fun e => e.1 == a / 8)) && !s.fcHit a

/-- The outcome of an instruction's command: nothing where the core does not run, or its fetch waits for flash (R368). -/
def coreInstr (k : Fin 4) (word : Word) (legal priv : Bool) (body : State → State) (s : State) :
    Host.Outcome State Fault Refusal :=
  act (s.coreRuns k && !s.fetchWaits k) (coreStep k word legal priv body) s

/-- gd := v, and on to the next instruction. -/
def putReg (k : Fin 4) (d : BitVec 4) (v : Word) (s : State) : State :=
  nextPc k (s.setCore k ((s.core k).setG d.toNat v))

/-- The core with a pair written: the low word in gd (R305). -/
def Core.setPair (c : Core) (d : Nat) (lo hi : Word) : Core := (c.setG d lo).setG (d + 1) hi

/-- The 48-bit value of a pair. -/
def Core.pair (c : Core) (d : Nat) : BitVec 48 := BitVec.ofNat 48 ((c.reg d).toNat + 2 ^ 24 * (c.reg (d + 1)).toNat)

/-- Branch target: the instruction's own address plus an offset (R307). -/
def target (c : Core) (off : Word) : Word := c.pc + off

/-- PC := t. -/
def jumpTo (k : Fin 4) (t : Word) (s : State) : State := s.setCore k { s.core k with pc := t }

/-! ## Watchpoints (R341, R468) -/

/-- Watchpoint `j` of core `k` matches an access of word `a`. -/
def State.wpHit (s : State) (k a : Nat) (write : Bool) (j : Nat) : Bool :=
  s.bit (R.wpCfg k j) 3 &&
    bitOf (s.reg (R.wpCfg k j)) (if write then 2 else 1) &&
    ((W a ^^^ s.reg (R.wpAddr k j)) &&& ~~~(s.reg (R.wpMask k j))) == 0

/-- A data access of core `k` at `a` passes the watchpoints: the lowest that matches records it, unless a record stands;
any that matches with HALT = 1 halts the core after the instruction. -/
def watch (k : Fin 4) (a : Nat) (data : Word) (write : Bool) (reason : Nat) (s : State) : State :=
  let hits := [0, 1, 2, 3].filter (s.wpHit k.val a write)
  match hits with
  | [] => s
  | j :: _ =>
    let s1 :=
      if s.bit (R.hitInfo k.val) 23 then s.setBit (R.hitInfo k.val) 22 true
      else
        (((s.setReg (R.hit k.val 0) (s.core k).pc).setReg (R.hit k.val 1) (W a)).setReg (R.hit k.val 2) data).setReg
          (R.hitInfo k.val) (W (2 ^ 23 + j * 2 ^ 4 + (if write then 2 ^ 3 else 0) + reason))
    if hits.any (fun j => s.bit (R.wpCfg k.val j) 0) then s1.setBit R.dbgStat k.val true else s1

/-! ## Interrupt entry and the pending bits -/

/-- Core `k` takes input `n`: PEND clears, entry at XBASE + 0x040 + 2n with IPL the input's priority (R329, R330, R335). -/
def takeInput (k : Fin 4) (n : Nat) (s : State) : State :=
  let p := s.inputPrio k.val n
  let s1 := s.setBit (R.intcPend k.val (n / 24)) (n % 24) false
  let c := s1.core k
  s1.setCore k (c.enter 6 n false c.pc 0 (0x40 + 2 * n) (some p))

/-- STATUS.IE. -/
def Core.ie (c : Core) : Bool := bitOf (c.sysReg 0x010) 1

/-- Ck_SETPEND written: the pending bit of the input (R335); an enabled input of an offline core pends in the core that takes its inputs too
(R338). -/
def setpendWrite (k : Nat) (v : Word) (s : State) : State :=
  let n := bits v 0 7
  let t := pendIn k n s
  if s.offline k && s.intcEnabled k n then
    match s.fallback with
    | some j => pendIn j n t
    | none => t
  else t

/-- Input `n` is enabled in core `t`, or in an offline core whose inputs pend in `t` (R338). -/
def State.inputOn (s : State) (t n : Nat) : Bool :=
  s.intcEnabled t n || (s.routedFrom t).any (fun k => s.intcEnabled k n)

/-- Ck_TOP as read: the highest-priority pending enabled input, one of PRIO 0 where no other pends. -/
def State.intcTopWord (s : State) (k : Nat) : Word :=
  match s.topInput k with
  | some n => W (2 ^ 23 + n * 2 ^ 3 + s.inputPrio k n)
  | none =>
    match (List.range 128).find? (fun n => s.intcPending k n && s.inputOn k n) with
    | some n => W (2 ^ 23 + n * 2 ^ 3)
    | none => 0

/-- SETPEND (R335). -/
def execSetpend (w : Who) (k : Fin 4) (v : Word) (s : State) : Host.Outcome State Fault Refusal :=
  act (s.mayWrite w (R.intcSetpend k.val)) (setpendWrite k.val v) s

/-! ## Watchdogs (R339) -/

/-- Ck_WDCFG.TIMEOUT: 0 acts as 1. -/
def State.wdTimeout (s : State) (k : Nat) : Nat := max 1 (s.fld (R.wdCfg k) 0 16)

/-- The watchdog of core `k` counts: EN, the core online, RUN or FULL, not halted unless DBGRUN. -/
def State.wdRuns (s : State) (k : Fin 4) : Bool :=
  s.bit (R.wdCfg k.val) 20 && s.coreOnline k && (!s.halted k.val || s.bit (R.wdCfg k.val) 22)

/-- Ck_WDCOUNT read: the count falls once per millisecond of TCLK, which no row of the table is; what a read finds is an open value between the
last count known and the one whose effect has not come yet, half of TIMEOUT before WARN and 1 after (log 146). -/
def wdCountRead (k : Fin 4) (s : State) : Word × State :=
  let c := s.fld (R.wdCount k.val) 0 16
  let lo := if s.wdTimeout k.val / 2 < c then s.wdTimeout k.val / 2 + 1 else 1
  if s.wdRuns k && lo < c then
    let n := c - Config.freeNat s.draws % (c - lo + 1)
    (W n, (s.drawn).setFld (R.wdCount k.val) 0 16 n)
  else (s.reg (R.wdCount k.val), s)

/-- The count stands at half of TIMEOUT: WARN sets and WDT_WARNk fires. -/
def wdWarn (k : Nat) (s : State) : State :=
  fire (0x24 + k) ((s.setFld (R.wdCount k) 0 16 (s.wdTimeout k / 2)).setBit (R.wdStat k) 0 true)

/-- Ck_WDCFG written: ignored once LOCK is set; EN's rise starts the count from TIMEOUT. -/
def wdCfgWrite (k : Nat) (v : Word) (s : State) : State :=
  if s.bit (R.wdCfg k) 23 then s
  else
    let s1 := plainWrite (R.wdCfg k) v s
    if s1.bit (R.wdCfg k) 20 && !s.bit (R.wdCfg k) 20 then s1.setFld (R.wdCount k) 0 16 (s1.wdTimeout k) else s1

/-- WATCHDOG_WARN (R339). -/
def execWatchdogWarn (k : Fin 4) (s : State) : Host.Outcome State Fault Refusal :=
  act (s.wdRuns k && s.wdTimeout k.val / 2 < s.fld (R.wdCount k.val) 0 16) (wdWarn k.val) s

/-! ## Debug halt (R340) -/

/-- Debug halt of the cores in `v`'s HALT field. -/
def dbgHalt (v : Word) (s : State) : State :=
  forAll [0, 1, 2, 3] (fun k t => if bitOf v (8 + k) then t.setBit R.dbgStat k true else t) s

/-- The cores in the STEP field that are halted execute one instruction. -/
def dbgStep (v : Word) (s : State) : State :=
  forAll [0, 1, 2, 3]
    (fun k t => if bitOf v (16 + k) && t.halted k then
      { t with dbg := { t.dbg with stepReq := t.dbg.stepReq ||| (1#4 <<< k) } } else t) s

/-- The cores in the RESUME field run. -/
def dbgResume (v : Word) (s : State) : State :=
  forAll [0, 1, 2, 3] (fun k t => if bitOf v (12 + k) then t.setBit R.dbgStat k false else t) s

end Sys2Proof.Machine
end

