-- ==== Sys2Proof/Machine/Curve.lean ====
section
/-! DEFINITION. The P-256 group and the verification of an ECDSA signature (R374, R375, R380): FIPS 186-4's curve, whose field prime
and group order CP0 also holds (R322). -/
namespace Sys2Proof.Machine

open Sys2Proof

/-- The field prime p of P-256. -/
def p256P : Nat := 0xFFFFFFFF00000001000000000000000000000000FFFFFFFFFFFFFFFFFFFFFFFF

/-- The group order n of P-256. -/
def p256N : Nat := 0xFFFFFFFF00000000FFFFFFFFFFFFFFFFBCE6FAADA7179E84F3B9CAC2FC632551

/-- The coefficient b of P-256. -/
def p256B : Nat := 0x5AC635D8AA3A93E7B3EBBD55769886BC651D06B0CC53B0F63BCE3C3E27D2604B

/-- The base point. -/
def p256G : Nat × Nat :=
  (0x6B17D1F2E12C4247F8BCE6E563A440F277037D812DEB33A0F4A13945D898C296,
   0x4FE342E2FE1A7F9B8EE7EB4A7C0F9E162BCE33576B315ECECBB6406837BF51F5)

/-- b^e mod m, `fuel` bits of the exponent. -/
def powMod (m : Nat) : Nat → Nat → Nat → Nat
  | 0, _, _ => 1 % m
  | fuel + 1, b, e =>
    let r := powMod m fuel (b * b % m) (e / 2)
    if e % 2 = 1 then b * r % m else r

/-- The inverse modulo a prime, by exponentiation (R322). -/
def invMod (m a : Nat) : Nat := powMod m 256 (a % m) (m - 2)

/-- a − b modulo m. -/
def subMod (m a b : Nat) : Nat := (a % m + m - b % m) % m

/-- The sum of two points; none is the point at infinity. -/
def ecAdd : Option (Nat × Nat) → Option (Nat × Nat) → Option (Nat × Nat)
  | none, q => q
  | q, none => q
  | some (x1, y1), some (x2, y2) =>
    let go := fun l : Nat =>
      let x3 := subMod p256P (l * l) (x1 + x2)
      some (x3, subMod p256P (l * subMod p256P x1 x3) y1)
    if x1 = x2 then
      if (y1 + y2) % p256P = 0 then none
      else go ((3 * x1 * x1 + (p256P - 3)) * invMod p256P (2 * y1) % p256P)
    else go (subMod p256P y2 y1 * invMod p256P (subMod p256P x2 x1) % p256P)

/-- A multiple of a point, `fuel` bits of the factor. -/
def ecMul : Nat → Nat → Option (Nat × Nat) → Option (Nat × Nat)
  | 0, _, _ => none
  | fuel + 1, k, q =>
    let r := ecMul fuel (k / 2) (ecAdd q q)
    if k % 2 = 1 then ecAdd q r else r

/-- Octets, most significant first, as a number. -/
def beNat (l : List Octet) : Nat := leNat l.reverse

/-- The point lies on the curve. -/
def onCurve (x y : Nat) : Bool :=
  x < p256P && y < p256P && (y * y) % p256P == (x * x * x + (p256P - 3) * x + p256B) % p256P

/-- The signature r ∥ s verifies over a SHA-256 digest with a public key X ∥ Y (64 octets each, big-endian). -/
def ecdsaVerify (key sig digest : List Octet) : Bool :=
  let x := beNat (key.take 32)
  let y := beNat ((key.drop 32).take 32)
  let r := beNat (sig.take 32)
  let t := beNat ((sig.drop 32).take 32)
  if key.length ≠ 64 ∨ !onCurve x y ∨ r = 0 ∨ p256N ≤ r ∨ t = 0 ∨ p256N ≤ t then false
  else
    let w := invMod p256N t
    match ecAdd (ecMul 256 (beNat digest * w % p256N) (some p256G)) (ecMul 256 (r * w % p256N) (some (x, y))) with
    | none => false
    | some (vx, _) => vx % p256N == r

end Sys2Proof.Machine
end

