-- ==== Sys2Proof/Machine/GateBase.lean ====
section
/-! DEFINITION. What gates, lanes and chains share: the gate table and the instants of activations (R47 to R61), lanes and
their holders (R123, R130 to R133), and the release of activations and chains. -/
namespace Sys2Proof.Machine

open Sys2Proof

/-! ## The gate table (R53) -/

/-- Word `j` of gate entry `g`. -/
def State.gateWord (s : State) (g j : Nat) : Word := s.mw (0x828000 + 6 * g + j)

/-- The six words of gate entry `g`. -/
def State.gateEntry (s : State) (g : Nat) : List Word := (List.range 6).map (s.gateWord g)

/-- Word `j` of an entry's words. -/
abbrev gw (w : List Word) (j : Nat) : Word := w.getD j 0

/-- The fields of an entry's words. -/
abbrev gPhase (w : List Word) : Nat := bits (gw w 0) 18 6
abbrev gEnable (w : List Word) : Bool := bitOf (gw w 0) 17
abbrev gLane (w : List Word) : Nat := bits (gw w 0) 13 4
abbrev gBand (w : List Word) : Nat := bits (gw w 0) 12 1
abbrev gClass (w : List Word) : Nat := bits (gw w 0) 10 2
abbrev gAction (w : List Word) : Nat := bits (gw w 0) 4 6
abbrev gCourse (w : List Word) : Nat := bits (gw w 0) 0 4
abbrev gOffset (w : List Word) : Nat := (gw w 1).toNat + 2 ^ 24 * bits (gw w 2) 0 16
abbrev gInput (w : List Word) : Nat := bits (gw w 3) 22 2
abbrev gPort (w : List Word) : Nat := bits (gw w 3) 21 1 + 1
abbrev gAny (w : List Word) : Bool := bitOf (gw w 3) 20
abbrev gChofs (w : List Word) : Nat := bits (gw w 3) 12 8
abbrev gHop (w : List Word) : Nat := bits (gw w 3) 8 4
abbrev gMod (w : List Word) : Nat := bits (gw w 3) 0 8
abbrev gArg (w : List Word) : Word := gw w 4
abbrev gGuard (w : List Word) : Nat := bits (gw w 5) 16 8
abbrev gDur (w : List Word) : Nat := bits (gw w 5) 0 16
abbrev gNbr (w : List Word) : Nat := bits (gw w 4) 0 13

/-- Receive actions. -/
def isRx (w : List Word) : Bool := gAction w == 1 || gAction w == 2 || gAction w == 6

/-- Transmit actions. -/
def isTx (w : List Word) : Bool := gAction w == 3 || gAction w == 4 || gAction w == 5

/-- A window whose guard follows the neighbour's drift (R61). -/
def driftGuard (w : List Word) : Bool := gAction w == 2 || gAction w == 6

/-- Actions that use a channel. -/
def usesChan (w : List Word) : Bool := isRx w || isTx w || gAction w == 8

/-- The action names a neighbour. -/
def namesNbr (w : List Word) : Bool := gAction w == 2 || gAction w == 5 || gAction w == 6

/-! ## Courses (R47 to R52) -/

/-- Period in ns; 0 means 2^40, and one below 100,000 counts as 100,000 (R51, log 37). -/
def State.period (s : State) (n : Nat) : Nat :=
  let p := s.multi (R.coursePeriod n 0) 2 % 2 ^ 40
  if p = 0 then 2 ^ 40 else max p 100000

/-- Start instant in ns. -/
def State.cstart (s : State) (n : Nat) : Nat := s.multi (R.courseStart n 0) 3 / 256

/-- Cn_CFG.RUN. -/
def State.courseRun (s : State) (n : Nat) : Bool := s.bit (R.courseCfg n) 0

/-- Cn_CFG.STOPPEND. -/
def State.stopPend (s : State) (n : Nat) : Bool := s.bit (R.courseCfg n) 2

/-- The iteration in progress (R48); 0 before S. -/
def State.iterNow (s : State) (n : Nat) : Nat :=
  if nsLe (s.cstart n) s.now then nsSince (s.cstart n) s.now / s.period n else 0

/-- The instant of the first course boundary after `t`. -/
def State.boundaryAfter (s : State) (n t : Nat) : Nat :=
  if nsLt t (s.cstart n) then s.cstart n else (s.cstart n + (nsSince (s.cstart n) t / s.period n + 1) * s.period n) % 2 ^ 64

/-- The instant of the next course boundary. -/
def State.nextBoundary (s : State) (n : Nat) : Nat := s.boundaryAfter n s.now

/-- The gate engine runs (R52). -/
def State.gatesRun (s : State) : Bool := s.linkRuns && s.bit R.gateCtrl 0 && !s.bridged

/-- The instant of an activation in ns (R56). -/
def State.instant (s : State) (w : List Word) (i : Nat) : Nat :=
  (s.cstart (gCourse w) + i * s.period (gCourse w) + gOffset w) % 2 ^ 64

/-- The bank an activation of this instant uses (R78). -/
def State.bankFor (s : State) (inst : Nat) : Bool :=
  match s.gates.swap with
  | some b => if nsLe b inst then !s.bank else s.bank
  | none => s.bank

/-- The hop-sequence word that names an activation's channel (R57). -/
def State.hopAddr (s : State) (w : List Word) (i : Nat) : Nat :=
  let l := s.fld (R.gateHoplen (gHop w)) 0 8
  let l := if l = 0 then 256 else l
  0x861000 + 256 * gHop w + (i + gChofs w) % l

/-- The channel of an activation (R57). -/
def State.chanFor (s : State) (w : List Word) (i : Nat) : Nat := bits (s.mw (s.hopAddr w i)) 0 10

/-- The PHY profile of an activation (R54, R143). -/
def State.profFor (s : State) (w : List Word) : Nat :=
  let p := bits (gArg w) 0 8
  if gAction w = 1 ∧ p ≠ 0 then p else s.fld (R.courseCfg (gCourse w)) 16 8

/-- The routine state (R90). -/
def routineOf (w : List Word) : Nat :=
  128 * gBand w + 8 * (gAction w % 16) + (if isRx w then gInput w else if isTx w then gPort w - 1 else 0)

/-- The channel lies in the captured span in FULL (R115). -/
def State.inSpan (s : State) (bk : Bool) (band chan prof : Nat) : Bool :=
  let f := (s.calWord bk chan 0).toNat
  let c := (s.calWord bk (s.fld (R.feSpan band) 0 10) 0).toNat
  decide ((f - c) + (c - f) + 2 * s.profBw bk prof ≤ if band = 0 then 52000 else 160000)

/-- Lead in µs (R59). -/
def State.leadFor (s : State) (bk : Bool) (w : List Word) (i : Nat) : Nat :=
  let alt := if isRx w then s.mode == 5 && s.inSpan bk (gBand w) (s.chanFor w i) (s.profFor w)
    else gAction w == 0x0A && s.mode != 3
  bits (s.bw bk (8 * routineOf w + if alt then 1 else 0)) 0 16

/-- The guard of R61 in ns, and whether it was capped by GUARDMAX counting in GUARDCAP. A neighbour not heard for 2^23 units uses
GUARDMAX without that count (log 98). -/
def State.guardFor (s : State) (w : List Word) (inst : Nat) : Nat × Bool :=
  if gAction w = 1 then (1000 * gGuard w, false)
  else if gAction w = 2 ∨ gAction w = 6 then
    let cap := 1000 * s.fld R.gateGuardmax 0 16
    let n := gNbr w
    let d := ((256 * inst / 2 ^ 24 % 2 ^ 24) + 2 ^ 24 - (s.nbr n 9).toNat) % 2 ^ 24
    let u := bits (s.nbr n 10) 16 8
    let g := 1000 * gGuard w + (u * 10 * (d * 65536) + 999999999) / 1000000000 + (s.reg R.mtUncert).toNat
    if 2 ^ 23 ≤ d then (cap, false) else if cap < g then (cap, true) else (g, false)
  else (0, false)

/-- The instant before an activation's own at which its part begins: the window's opening for a receive action. -/
def State.pretuneAt (s : State) (w : List Word) (i guard : Nat) : Nat :=
  nsBack (s.instant w i) (guard + 1000 * s.leadFor (s.bankFor (s.instant w i)) w i)

/-- The gate takes part in iteration `i` (R56); a phase at or above the modulus is judged in every iteration (R55). -/
def takesPart (w : List Word) (i : Nat) : Bool :=
  gEnable w && (gMod w < 2 || gMod w ≤ gPhase w || i % gMod w == gPhase w)

/-- The gate breaks R55 or R79 on a channel. ARG's neighbour and core fields are as wide as their ranges, and the bits above them are ignored as
bits that the action does not use (log 99). -/
def State.gateBad (s : State) (w : List Word) (i chan : Nat) : Bool :=
  let bk := s.bankFor (s.instant w i)
  gAction w == 0 || decide (0x0A < gAction w) || bits (gw w 2) 16 8 != 0 || (isRx w && gInput w == 3) ||
    decide (s.period (gCourse w) ≤ gOffset w) || (2 ≤ gMod w && gMod w ≤ gPhase w) ||
    (usesChan w && !s.chanOk bk (gBand w) chan) ||
    (gAction w == 9 && (9 ≤ bits (gArg w) 0 4 || (bits (gArg w) 0 4 == 7 && gBand w == 1)))

/-! ## Activations -/

/-- The gate engine's hidden part replaced. -/
def State.setGates (s : State) (g : GateState) : State := { s with gates := g }

/-- The activation of gate `g` in iteration `i`. One made under an entry's old contents goes by its gate plus 4,096 for every commit since
(R77), so that the new contents' activation in the same iteration stands beside it. -/
def State.activ (s : State) (g i : Nat) : Option Activ := s.gates.acts.find? (fun a => a.gate == g && a.iter == i)

/-- The activation of gate `g` in iteration `i`, under whichever contents, that satisfies `p`. -/
def State.actFor (s : State) (g i : Nat) (p : Activ → Bool) : Option Activ :=
  s.gates.acts.find? (fun a => a.gate % 4096 == g && a.iter == i && p a)

/-- STATUS.INFLIGHT and C0LANES follow the activations (R68, R71); one whose window has ended and which only waits for verdicts is no
longer counted (log 125). -/
def gateShow (s : State) : State :=
  let l := s.gates.acts.filter (fun a => 1 ≤ a.phase && a.phase ≤ 3)
  let held := (List.range 16).foldl
    (fun x n => x + if l.any (fun a => gClass a.w == 0 && a.lane == some n) then 2 ^ n else 0) 0
  (s.setFld R.gateStatus 8 7 l.length).setFld R.gateC0lanes 0 16 held

/-- An activation replaced or added. -/
def putAct (a : Activ) (s : State) : State :=
  let rest := s.gates.acts.filter (fun b => !(b.gate == a.gate && b.iter == a.iter))
  gateShow (s.setGates { s.gates with acts := rest ++ [a] })

/-- An activation removed. -/
def dropAct (g i : Nat) (s : State) : State :=
  gateShow (s.setGates { s.gates with acts := s.gates.acts.filter (fun b => !(b.gate == g && b.iter == i)) })

/-- The activation of gate `g` in iteration `i` has been judged: it is not made again. -/
def markMade (g i : Nat) (s : State) : State :=
  s.setGates { s.gates with made := tabSet s.gates.made g (i + 1) }

/-- GATE's counters by their place (w:F05_010 + m). -/
abbrev gateCount (m : Nat) (s : State) : State := s.count (R.gateCounters m)

/-- An activation that is not fired: its counter, and C0MISS for class 0 (R71). -/
def missed (m c : Nat) (s : State) : State := when (c == 0) (gateCount 14) (gateCount m s)

/-! ## Lanes -/

/-- A lane with nothing under way. -/
def LaneSt.idle : LaneSt := { frame := none, susp := none, drain := false, measure := none, gain := 0 }

/-- A lane's hidden part. -/
def State.lane (s : State) (n : Nat) : LaneSt := tabLook LaneSt.idle s.link.lanes n

/-- The lane exists in the present mode (R114). -/
def State.lanePresent (s : State) (n : Nat) : Bool := s.alive && (4 ≤ s.domainMode || (s.domainMode == 3 && n < 2))

/-- Lane `n` is there and the front end of its input is powered (R114). -/
def State.laneLive (s : State) (n : Nat) : Bool := s.lanePresent n && s.radioOn (s.fld (R.laneBind n) 18 4 / 4)

/-- LANEn_BIND.HOLDER. -/
def State.holder (s : State) (n : Nat) : Nat := s.fld (R.laneBind n) 22 2

/-- LANEn_BIND.INPUT. -/
def State.laneInput (s : State) (n : Nat) : Nat := s.fld (R.laneBind n) 18 4

/-- LANEn_BIND.CHAN. -/
def State.laneChan (s : State) (n : Nat) : Nat := s.fld (R.laneBind n) 0 10

/-- LANEn_GATE.CLASS. -/
def State.laneClass (s : State) (n : Nat) : Nat := s.fld (R.laneGate n) 12 2

/-- LANEn_GATE.PROFILE. -/
def State.laneProf (s : State) (n : Nat) : Nat := s.fld (R.laneGate n) 14 8

/-- STATE and OOSSTAT of a lane follow what it does. -/
def laneShow (n : Nat) (s : State) : State :=
  let l := s.lane n
  let oos := s.bit R.laneOos n
  let out := oos && s.holder n == 0 && l.frame.isNone
  let st := if !s.lanePresent n then 5 else if out then 4
    else if l.frame.isSome then (if l.drain || oos then 3 else 2)
    else if s.holder n != 0 then 1 else 0
  ((s.setBit R.laneOosstat n out).setFld (R.laneStatus n) 0 3 st).setBit (R.laneStatus n) 5 l.frame.isSome

/-- Every lane's STATE follows, as the mode or what a lane may do has changed (R114). -/
def lanesShow (s : State) : State := forAll (List.range 16) laneShow s

/-- A lane's hidden part replaced. -/
def State.setLane (s : State) (n : Nat) (l : LaneSt) : State :=
  laneShow n (s.setLink { s.link with lanes := tabPut LaneSt.idle s.link.lanes n l })

/-- The lane may be claimed: present, in service, without holder or frame. -/
def State.laneFree (s : State) (n : Nat) : Bool :=
  s.lanePresent n && !s.bit R.laneOos n && s.holder n == 0 && (s.lane n).frame.isNone

/-- A holder takes a lane. -/
def bindLane (n holder input chan prof cls gate : Nat) (s : State) : State :=
  laneShow n ((s.setReg (R.laneBind n) (W (holder * 2 ^ 22 + input * 2 ^ 18 + chan +
    (if (s.lane n).susp.isSome then 2 ^ 10 else 0)))).setReg (R.laneGate n) (W (prof * 2 ^ 14 + cls * 2 ^ 12 + gate)))

/-- An input uses path 1 or 2 of its band. -/
def inputPath (input path : Nat) : Bool := input % 4 == 0 || input % 4 == path

/-- The paths an input receives from (0, 1): a combined input on a band with one disabled port uses the remaining one alone (R81). -/
def State.inPaths (s : State) (input : Nat) : List Nat :=
  let d1 := s.bit (R.feAntcfg (input / 4)) 0
  let d2 := s.bit (R.feAntcfg (input / 4)) 1
  if input % 4 = 0 && d1 != d2 then (if d1 then [1] else [0])
  else [0, 1].filter (fun k => inputPath input (k + 1))

/-- The paths of an input, outside FULL, that a tune to a channel takes: every one for an activation (R60); for a standing assignment or
a command those whose synthesizer neither stands there nor goes there. -/
def State.pathsToTune (s : State) (every : Bool) (input chan : Nat) : List Nat :=
  if s.mode = 5 then []
  else (s.inPaths input).filter (fun k =>
    every || !(s.synChan (input / 4) k == chan && (s.synLocked (input / 4) k || s.tuning (input / 4) k != 0)))

/-- The analog gain of path `p` switches to index `g`; the digital gain follows at a GAIN_APPLY of its own (R119). -/
def setGain (p g : Nat) (s : State) : State :=
  if s.fld (R.pathGain p) 0 5 = g then s
  else
    let s1 := s.setFld (R.pathGain p) 0 5 g
    s1.setLink { s1.link with gainPend := s1.link.gainPend ++ [(p, g)] }

/-- Path `k` of a band starts at a gain index, unless its gain is set by hand (R117). -/
def startGain (b gain k : Nat) (s : State) : State :=
  if s.bit (R.pathGain (2 * b + k)) 13 then s else setGain (2 * b + k) (min 31 gain) s

/-- An input's paths go to a channel, and a retuned path starts at RXGAIN of the routine state, where there is one, unless that is
0xFF (R60, R91, R117). -/
def tunePathsAt (every bk : Bool) (input chan : Nat) (rs : Option Nat) (s : State) : State :=
  let gain := match rs with
    | some r => bits (s.bw bk (8 * r + 4)) 16 8
    | none => 0xFF
  let ps := s.pathsToTune every input chan
  let s1 := forAll ps (fun k t => tuneSynIn bk (input / 4) k chan t) s
  if gain = 0xFF then s1 else forAll ps (startGain (input / 4) gain) s1

/-- The paths of a standing assignment, from the active bank: its routine state is that of action 0x01 (R90). -/
def tunePaths (input chan : Nat) (s : State) : State :=
  tunePathsAt false s.bank input chan (some (128 * (input / 4) + 8 + input % 4)) s

/-- Two inputs share a path. -/
def State.sharePath (s : State) (a b : Nat) : Bool :=
  a / 4 == b / 4 && (s.inPaths a).any (fun k => (s.inPaths b).contains k)

/-- The lanes that receive on a path that an input shares, on another channel, outside FULL (R115): held, or finishing a frame. -/
def State.clashLanes (s : State) (n input chan : Nat) : List Nat :=
  if s.mode = 5 then []
  else (List.range 16).filter (fun m =>
    m != n && (s.holder m != 0 || (s.lane m).frame.isSome) && s.sharePath (s.laneInput m) input && s.laneChan m != chan)

/-- Suspended assignments resume on lanes without a holder, where no other holder keeps their path on another channel. -/
def resumeLanes (s : State) : State :=
  forAll (List.range 16)
    (fun n t =>
      match (t.lane n).susp with
      | some (ch, inp, p) =>
        if t.holder n == 0 && (t.lane n).frame.isNone && !t.bit R.laneOos n && (t.clashLanes n inp ch).isEmpty then
          tunePaths inp ch (bindLane n 2 inp ch p 3 0 (t.setLane n { t.lane n with susp := none, measure := none }))
        else t
      | none => t) s

/-- The holder leaves a lane (R132): a suspended assignment resumes, a frame is finished, or the lane is free. -/
def freeLane (n : Nat) (s : State) : State :=
  let l := s.lane n
  resumeLanes ((s.setFld (R.laneBind n) 22 2 0).setLane n { l with drain := l.frame.isSome, measure := none })

/-- A lane that was to finish its frame has come free: its LANE_RELEASE ends (R132, R275). -/
def releaseEnds (n : Nat) (s : State) : State := finishRun 0x17 (fun p => octAt p 0 == O n) St.done [] s

/-- A lane's frame is over: the buffers it still holds go back, and the lane goes back to search, or is free where its holder has left
it. -/
def clearFrame (n : Nat) (s : State) : State :=
  let s0 := match (s.lane n).frame with | some f => bufGive f.bufs s | none => s
  let s1 := s0.setLink { s0.link with cwq := s0.link.cwq.filter (fun e => e.1 != n) }
  when (s1.lane n).drain (releaseEnds n) (s1.setLane n { s1.lane n with frame := none, drain := false })

/-- A frame joins LINK's waiting frames: among those that ended in the same cycle class 0 goes first, then lane order (R472). -/
def inboxPut (x : RxDone) : List RxDone → List RxDone
  | [] => [x]
  | y :: l =>
    let first := fun (a b : RxDone) => if a.cls = 0 ∧ b.cls ≠ 0 then true else if b.cls = 0 ∧ a.cls ≠ 0 then false else a.lane < b.lane
    if y.ended = x.ended ∧ first x y then x :: y :: l else y :: inboxPut x l

/-- A frame with a decoded header is reported ABANDONED (R153). -/
def reportAbandoned (n : Nat) (s : State) : State :=
  match (s.lane n).frame with
  | some f =>
    if f.hdr.isSome && s.bit R.linkCtrl 0 then
      let x : RxDone := { lane := n, band := f.input / 4, status := 3, fr := { f with bufs := [] }, psdu := [], ended := s.mt.ctr, cls := 3,
                          spread := 0, tones := [] }
      s.setLink { s.link with inbox := inboxPut x s.link.inbox }
    else s
  | none => s

/-- The frame a lane is receiving is lost (R67, R69): ABANDON, its codewords go. -/
def abandonFrame (n : Nat) (s : State) : State :=
  if (s.lane n).frame.isSome then clearFrame n (reportAbandoned n (s.count (R.laneCounters n 2))) else s

/-! ## Release of chains -/

/-- The transmission that holds a chain replaced. -/
def setChain (b : Nat) (r : Option TxReq) (s : State) : State :=
  let s1 := s.setBand b { s.band b with chain := r }
  s1.setBit (R.txcStatus b) 1 (match r with | some q => q.up | none => false)

/-- The transmission `r` leaves its chain: where its ramp-up has started, the ramp-down takes the ramp's time (R105), and an
acknowledgement keeps the chain until that has ended (R196). -/
def dropChain (b : Nat) (r : TxReq) (s : State) : State :=
  let t := s.now + 1000 * r.ramp
  let s1 := setChain b none (if r.up then sentUntil b r.freq t (femTxEnd b r.bank r.routine t s) else femTxUnsent b s)
  if r.up && r.src == .ack then s1.setBand b { s1.band b with ackDown := some (r.cls, t) } else s1

/-- A descriptor goes back to the head of the queue its gate drains (R65, R213, R219). -/
def returnHead (a : Activ) (s : State) : State :=
  match a.desc with
  | some d => hwPushHead (bits (gArg a.w) 0 7) d s
  | none => s

/-- CALSTAT after an item: LAST, RESULT, no item in progress. -/
def calStat (b item result : Nat) (s : State) : State :=
  ((s.setFld (R.feCalstat b) 20 4 0).setFld (R.feCalstat b) 16 4 item).setFld (R.feCalstat b) 12 4 result

/-- Synthesizers that a slice has used are left unlocked (R94, R98). -/
def leaveSlice (b : Nat) (c : CalSlice) (s : State) : State :=
  if c.item = 1 ∨ c.item = 3 then leaveSyn b (c.x / 1024) s
  else if c.item = 5 then leaveSyn b c.x s
  else if c.item = 8 then leaveSyn b 2 (leaveSyn b 1 (leaveSyn b 0 s))
  else s

/-- An activation is released: its lane, its chain, its pattern, and the slice that it has started. -/
def releaseAct (a : Activ) (s : State) : State :=
  let s1 := match a.lane with
    | some n => if s.holder n == 1 then freeLane n s else s
    | none => s
  let b := gBand a.w
  let s2 := match (s1.band b).chain with
    | some r => if r.src = .gate a.gate a.iter then dropChain b r s1 else s1
    | none => s1
  let s3 := if gAction a.w = 9 ∧ a.phase = 2 then
      match (s2.band b).slice with
      | some c => if c.asked then leaveSlice b c ((s2.setBand b { s2.band b with slice := none }).setFld (R.feCalstat b) 20 4 0) else s2
      | none => s2
    else s2
  dropAct a.gate a.iter (femClose b a.gate a.iter s3)

/-- The final reply of a stand-alone transmission (R275, R276): the instant of its first symbol and the attempts with the
statuses that carry a result, which gives the last attempt's instant. -/
def txReply (t : Nat) (tag : Octet) (code : Nat) (r : TxReq) (s : State) : State :=
  match s.recOf t tag with
  | some rc =>
    let n := match r.desc with | some d => s.tries d | none => 0
    let res := if s.recOpc rc = 0x1A then (if code = St.done then natLe 9 (256 * r.sent.getD r.inst) else [])
      else if code = St.done ∨ code = St.noAck ∨ 0 < n then natLe 9 (256 * r.sent.getD r.inst) ++ [O (max n (if code = St.done then 1 else 0))]
      else []
    finalReply rc code res s
  | none => s

/-- A stand-alone request asks for a clear-channel assessment before each attempt (R109, R276). -/
def State.askedCca (s : State) (r : TxReq) : Bool :=
  match r.src with
  | .command t tag => (match s.recOf t tag with
    | some rc => s.recOpc rc == 0x18 && bitOf (octAt (s.recParams rc) 5) 0
    | none => false)
  | _ => false

/-- A stand-alone transmission ends: its lane and buffers are freed and the reply queued. -/
def cmdTxEnd (t : Nat) (tag : Octet) (code : Nat) (r : TxReq) (s : State) : State :=
  let s1 := txReply t tag code r s
  let s2 := match r.ackLane with | some n => freeLane n s1 | none => s1
  match r.desc with
  | some d => freeChain d s2
  | none => s2

/-- A request that has radiated nothing ends with a status: a gate's descriptor goes back to the head of its queue with the
counts given, a command gets its reply, an acknowledgement counts in ACKLOST, and one never sent leaves the cache. -/
def endUnsent (b code m : Nat) (countMiss : Bool) (r : TxReq) (s : State) : State :=
  let s1 := dropChain b r s
  match r.src with
  | .gate g i =>
    match s1.activ g i with
    | some a =>
      let s2 := match a.desc with | some d => setResult d code s1 | none => s1
      let s3 := releaseAct a (returnHead a s2)
      if countMiss then missed m r.cls s3 else s3
    | none => s1
  | .ack =>
    (s1.count (R.linkCounters 13)).setLink { s1.link with acks := s1.link.acks.filter (fun c => c.sent || c.psdu != r.psdu) }
  | .command t tag => cmdTxEnd t tag code r s1

/-! ## Contention for chains and synthesizers (R69, R94, R98) -/

/-- ACKCFG.DLY in µs: below 200 acts as 200. -/
def State.ackDly (s : State) : Nat := max 200 (s.fld R.linkAckcfg 0 16)

/-- A claim on a resource: its class, its pre-tune instant, and its gate index; an acknowledgement and a command have none. -/
structure Claim where
  cls : Nat
  pre : Nat
  gate : Option Nat
  deriving DecidableEq, Repr

/-- Claim `c` takes the resource from a holder (R69): class 0 from a lower class, and no activation of class 1 to 3 from any; else within
a rank the earlier pre-tune instant keeps it, and on a tie in class 0 an acknowledgement, then the lower gate index. -/
def Claim.beats (c h : Claim) : Bool :=
  if c.cls = 0 ∧ h.cls ≠ 0 then true
  else if c.cls ≠ 0 ∧ (h.cls = 0 ∨ c.gate.isSome) then false
  else nsLt c.pre h.pre || (c.cls == 0 && c.pre % 2 ^ 64 == h.pre % 2 ^ 64 && (match c.gate, h.gate with
    | none, some _ => true
    | some a, some b => decide (a < b)
    | _, none => false))

/-- The claim of an activation. -/
def Activ.claim (a : Activ) : Claim := { cls := gClass a.w, pre := a.pre, gate := some (a.gate % 4096) }

/-- The claim of a transmission that holds a chain, or has sent and waits: a stand-alone transmission ranks as class 3 against
activations, whatever class it carries (R69, R70), and its claim is as old as can be. -/
def State.txClaim (s : State) (r : TxReq) : Claim :=
  match r.src with
  | .gate g i => match s.activ g i with | some a => a.claim | none => { cls := r.cls, pre := s.now, gate := some (g % 4096) }
  | .ack => { cls := r.cls, pre := nsBack r.inst (1000 * s.ackDly), gate := none }
  | .command _ _ => { cls := 3, pre := nsBack s.now (2 ^ 62), gate := none }

/-- An acknowledgement that ramps down still holds the band's chain (R196): its class. -/
def State.ackHolds (s : State) (b : Nat) : Option Nat :=
  match (s.band b).ackDown with
  | some (c, t) => if nsLt s.now t then some c else none
  | none => none

/-- A claim of class `c` on a chain that no transmission holds: it waits for the ramp-down of an acknowledgement of its own rank or a
higher one, and takes it from one of lower class (R69, R196). -/
def claimIdle (b c : Nat) (s : State) : Option State :=
  match s.ackHolds b with
  | none => some s
  | some h => if c = 0 ∧ h ≠ 0 then some (gateCount 7 (s.setBand b { s.band b with ackDown := none })) else none

/-- A transmission loses its chain to claim `c` (R69): one of lower class is halted as by HALT, PREEMPT and HALTED count where it has
started; one of the same rank counts in BUSY. -/
def loseChain (b : Nat) (c : Claim) (r : TxReq) (s : State) : State :=
  if c.cls = 0 ∧ (s.txClaim r).cls ≠ 0 then
    endUnsent b St.busy 3 false r (gateCount 7 (when r.up (fun t => t.count (R.txcCounters b 5)) s))
  else endUnsent b St.busy 3 true r s

/-- The transmission of a chain gives way to claim `c`: never one on the air to a claim of its own rank. -/
def State.chainYields (s : State) (c : Claim) (r : TxReq) : Bool :=
  c.beats (s.txClaim r) && (!r.up || (c.cls == 0 && (s.txClaim r).cls != 0))

/-- A calibration item with its place uses a resource: 0 and 1 the paths with their synthesizers, 2 SYNT and the chain (R94). -/
def calUses (item x r : Nat) : Bool :=
  match item with
  | 1 | 3 => x / 1024 == r
  | 2 | 5 | 6 => x == r
  | 7 | 8 => true
  | _ => false

/-- A background slice is preempted (R98). -/
def preemptSlice (b : Nat) (s : State) : State :=
  match (s.band b).slice with
  | none => s
  | some c =>
    let s1 := (s.setBand b { s.band b with slice := none }).count (R.feCounters b 2)
    leaveSlice b c (calStat b c.item 1 (s1.setBit (R.feStatus b) 3 false))

/-- The background slice that uses a resource of `rs` is preempted (R98). -/
def preemptUses (b : Nat) (rs : List Nat) (s : State) : State :=
  match (s.band b).slice with
  | some c => if !c.asked && rs.any (calUses c.item c.x) then preemptSlice b s else s
  | none => s

/-- An activation loses its resource to claim `c` (R69): PREEMPT for one of lower class, BUSY for one of the same rank. -/
def loseAct (c : Claim) (a : Activ) (s : State) : State :=
  let t := releaseAct a (returnHead a s)
  if c.cls = 0 ∧ gClass a.w ≠ 0 then gateCount 7 t else missed 3 (gClass a.w) t

/-- TUNE and CALIBRATE activations that hold a resource of `rs` against a claim on `chan`. -/
def State.synHolders (s : State) (b : Nat) (rs : List Nat) (chan : Nat) : List Activ :=
  s.gates.acts.filter (fun a => 1 ≤ a.phase && a.phase ≤ 3 && (gBand a.w == b || (gAction a.w == 9 && a.chan / 4096 == 7)) &&
    ((gAction a.w == 8 && rs.any (· < 2) && a.chan != chan) ||
      (gAction a.w == 9 && rs.any (calUses (a.chan / 4096) (a.chan % 4096)))))

/-- A loopback test of SELFTEST holds the front end of a band (R287). -/
def State.testHolds (s : State) (b : Nat) : Bool := s.cmdp.tests.any (fun e => e.mask / 2 ^ (4 + b) % 2 == 1)

/-- A slice that a command has asked for, or a loopback test, uses a resource of `rs`; XO uses both front ends (R94). -/
def State.cmdSlice (s : State) (b : Nat) (rs : List Nat) : Bool :=
  [0, 1].any (fun k => match (s.band k).slice with
    | some c => c.asked && (k == b || c.item == 7) && rs.any (calUses c.item c.x) &&
        !s.gates.acts.any (fun a => gAction a.w == 9 && gBand a.w == k && a.phase == 2)
    | none => false) || (!rs.isEmpty && s.testHolds b)

/-- Synthesizers, paths and the chain's synthesizer are claimed against calibration and TUNE activations (R69, R98); none where
the claim fails. A background slice gives way to class 0 alone, whose claim the look-ahead could not foresee. -/
def claimSyn (b : Nat) (rs : List Nat) (chan : Nat) (c : Claim) (s : State) : Option State :=
  let l := s.synHolders b rs chan
  let bg := match (s.band b).slice with
    | some x => !x.asked && rs.any (calUses x.item x.x)
    | none => false
  if l.any (fun a => !c.beats a.claim || (a.phase != 1 && gClass a.w == c.cls)) || s.cmdSlice b rs || (bg && c.cls != 0) then none
  else some (forAll l (loseAct c) (preemptUses b rs s))

end Sys2Proof.Machine
end

