-- ==== Sys2Proof/Machine/Lanes.lean ====
section
/-! DEFINITION. The lanes and paths of the wideband receiver (04_channelized_receiver.md, and R145, R150, R153). -/
namespace Sys2Proof.Machine

open Sys2Proof

/-! ## Path gain (R117 to R121) -/

/-- Band of path `p`. -/
abbrev pathBand (p : Nat) : Nat := p / 2

/-- A lane bound to path `p` is inside a frame. -/
def State.pathInFrame (s : State) (p : Nat) : Bool :=
  (List.range 16).any (fun n => (s.lane n).frame.isSome && s.laneInput n / 4 == p / 2 && (s.inPaths (s.laneInput n)).contains (p % 2))

/-- Windows that path `p` has stood at or below LO. -/
def setLow (p n : Nat) (s : State) : State := s.setLink { s.link with agcLow := tabPut 0 s.link.agcLow p n }

/-- A decision of `k` steps to index `g` (R117): UPDWELL starts anew after it (log 131); it counts once as a decision, and each step in CSTEP while a lane of the path is
inside a frame (R121). -/
def stepGain (p g k m : Nat) (s : State) : State :=
  let s1 := (setGain p g s).count (R.pathCounters p m)
  setLow p 0 (when (s.pathInFrame p) (fun t => t.countBy (R.pathCounters p 2) k) s1)

/-- The steps down that a window asks for (R117, R119): the fewest that bring the power to HI or below; where the ADC alone flags
overload, an open number of at least one (log 100). -/
def State.stepsDown (s : State) (x hi : Int) (g : Nat) (ovl : Bool) : Nat :=
  if hi < x then min g ((x - hi + 3) / 4).toNat
  else if ovl then min g (1 + Config.freeNat s.draws % 31) else 0

/-- A power window of 0.25 µs ends (R117, R118, R121). UPDWELL counts 10 µs, 40 windows; 0 acts as 1. While the path is blanked the
controller holds and does not measure, and the dwell keeps its count (log 131). Each window flagged counts one overload (log 132). -/
def agcWindow (p : Nat) (power : Octet) (ovl : Bool) (s0 : State) : State :=
  if (s0.band (pathBand p)).blank then s0
  else
    let s := s0.drawn
    let x := signed power.toNat 8
    let hi := signed (s.fld (R.pathAgc p) 0 8) 8
    let lo := signed (s.fld (R.pathAgc p) 8 8) 8
    let g := s.fld (R.pathGain p) 0 5
    let low := if x ≤ lo then tabLook 0 s.link.agcLow p + 1 else 0
    let s1 := setLow p low (when ovl (fun t => t.count (R.pathCounters p 3)) (s.setFld (R.pathPwr p) 0 8 power.toNat))
    let k := s0.stepsDown x hi g ovl
    let u := min (31 - g) ((lo - x) / 4).toNat
    if s.bit (R.pathGain p) 13 then s1
    else if k ≠ 0 then stepGain p (g - k) k 0 s1
    else if 40 * max 1 (s.fld (R.pathAgc p) 16 8) ≤ low ∧ u ≠ 0 then stepGain p (g + u) u 1 s1
    else s1

/-- PATHp_GAIN written: with MANEN the index goes to MANIDX and is held there (R117). -/
def pathGainWrite (p : Nat) (v : Word) (s : State) : State :=
  let s1 := plainWrite (R.pathGain p) v s
  if s1.bit (R.pathGain p) 13 then setGain p (s1.fld (R.pathGain p) 8 5) s1 else s1

/-- The first sample that carries the oldest new analog gain leaves the decimator: the digital gain follows it (R119). -/
def gainApply (p : Nat) (s : State) : State :=
  match s.link.gainPend.find? (fun e => e.1 == p) with
  | some e => s.setLink { s.link with gainPend := s.link.gainPend.erase e, digital := tabSet s.link.digital p e.2 }
  | none => s

/-- The gain index whose digital gain is in force on path `p`; at reset that of INDEX, 31. -/
def State.digitalIdx (s : State) (p : Nat) : Nat := tabLook 31 s.link.digital p

/-! ## Detection (R127 to R129) -/

/-- The activation that holds lane `n`. -/
def State.laneAct (s : State) (n : Nat) : Option Activ :=
  s.gates.acts.find? (fun a => a.lane == some n && 1 ≤ a.phase && a.phase ≤ 3)

/-- The lane searches now: its holder's window is open. -/
def State.searches (s : State) (n : Nat) : Bool :=
  (s.lane n).frame.isNone && !(s.lane n).drain && s.lanePresent n && !s.bit R.laneOos n &&
    (match s.holder n with
     | 1 => (match s.laneAct n with
       | some a => if isRx a.w then a.phase == 2 else a.phase == 3
       | none => false)
     | 2 => true
     | 3 => (s.lane n).measure.isNone
     | _ => false)

/-- The bank of a frame detected on lane `n` (R78, R303). -/
def State.laneBank (s : State) (n : Nat) : Bool :=
  match s.holder n, s.laneAct n with
  | 1, some a => a.bank
  | _, _ => s.bank

/-- The paths that lane `n` receives from now: of its input, with a port fitted and the synthesizer locked (R81, R83, R124). -/
def State.livePaths (s : State) (n : Nat) : List Nat :=
  let b := s.laneInput n / 4
  (s.inPaths (s.laneInput n)).filter (fun k => !s.bit (R.feAntcfg b) k && s.synLocked b k)

/-- Lane `n` may detect a preamble: it searches, and at least one of its paths receives and is not blanked (R81, R106). -/
def State.mayDetect (s : State) (n : Nat) : Bool :=
  let b := s.laneInput n / 4
  s.searches n && s.radioOn b && !s.fullHolds b && !(s.band b).blank && !(s.livePaths n).isEmpty

/-- The detection threshold of a slot of lane `n` (R127, R469) in 1/256 dB: THR of the profile in 0.25 dB plus THROFS in 0.5 dB. -/
def State.detectThr (s : State) (n slot : Nat) : Int :=
  64 * (bits (s.profWord (s.laneBank n) (s.laneProf n) 1) (8 * slot) 8 : Int) + 128 * signed (s.fld (R.laneCfg n) 0 6) 6

/-- The correlator that wins (R127): of the slots searched whose normalised metric, in 1/256 dB, exceeds its threshold, the one of the
highest metric, and of equal ones the lowest slot. -/
def State.winner (s : State) (n : Nat) (m : List Int) : Option Nat :=
  let l := [0, 1, 2].filter (fun i =>
    s.slotSearched (s.laneBank n) (s.laneInput n / 4) (s.laneProf n) i && decide (s.detectThr n i < m.getD i 0))
  l.foldl (fun b i => match b with
    | some j => if m.getD j 0 < m.getD i 0 then some i else some j
    | none => some i) none

/-- The frames differ in their timestamps by less than 1 µs. -/
def tsNear (a b : BitVec 72) : Bool := (a - b).toNat < 256000 || (b - a).toNat < 256000

/-- The centre frequency of lane `n`. -/
def State.laneFreq (s : State) (n : Nat) : Word := s.calWord (s.laneBank n) (s.laneChan n) 0

/-- The other lane that has the same frame (R129). -/
def State.twinOf (s : State) (n : Nat) (ts : BitVec 72) : Option Nat :=
  (List.range 16).find? (fun m => m != n && s.laneInput m == s.laneInput n && s.laneFreq m == s.laneFreq n &&
    (match (s.lane m).frame with
     | some f => tsNear f.ts ts
     | none => false))

/-- The levels of a lane's paths as its report gives them: 0x80 for a path that is not used (R81, R124). -/
def State.pathLevels (s : State) (n : Nat) (r1 r2 : Octet) : Octet × Octet :=
  let l := s.livePaths n
  (if l.contains 0 then r1 else 0x80, if l.contains 1 then r2 else 0x80)

/-- The frame that lane `n` detects in a slot: stamped with the delays of the stronger path taken off (R32), its bank, the window it may
belong to, and the class it is decoded in. -/
def State.newFrame (s : State) (n slot : Nat) (peak : BitVec 72) (r1 r2 snr : Octet) : RxFrame :=
  let bk := s.laneBank n
  let (l1, l2) := s.pathLevels n r1 r2
  let port := if signed l1.toNat 8 < signed l2.toNat 8 then 2 else 1
  { ts := peak - BitVec.ofNat 72 (s.rxDelay bk (s.laneInput n / 4) (s.laneProf n) slot port), slot := slot,
    mode := s.profMode bk (s.laneProf n) slot, rssi1 := l1, rssi2 := l2, snr := snr, bank := bk, hdr := none, len := 0, codes := [],
    left := 0, failed := false, toCome := 0, acts := ((s.laneAct n).map (fun a => (a.gate, a.iter))).toList,
    hcls := if s.holder n = 1 then s.laneClass n else 3, chan := s.laneChan n, prof := s.laneProf n, input := s.laneInput n,
    twins := [], bufs := [] }

/-- Lane `n` keeps a frame: its AGC freezes at an open gain of 0 to 48 dB in 0.5 dB steps (R126). -/
def keepFrame (n : Nat) (f : RxFrame) (s : State) : State :=
  ((s.setFld (R.laneStatus n) 3 2 f.slot).setLane n { s.lane n with
    frame := some f, gain := O ((Config.freeOctet s.draws).toNat % 97) }).drawn

/-- A stand-alone frame is no longer owed an acknowledgement on lane `n`. -/
def noAckLane (n : Nat) (s : State) : State :=
  forAll [0, 1] (fun b t => t.setBand b { t.band b with
    chain := (t.band b).chain.map (fun r => if r.ackLane = some n then { r with ackLane := none } else r)
    wait := (t.band b).wait.map (fun w => if w.tx.ackLane = some n then { w with tx := { w.tx with ackLane := none } } else w) }) s

/-- The holder of a lane out of service is detached once its frame has ended (R133): a receive activation is settled by the verdicts on
its frames; else the lane is free for what waits for it. -/
def laneRest (n : Nat) (s : State) : State :=
  if s.bit R.laneOos n && s.holder n != 0 then
    match s.holder n, s.laneAct n with
    | 1, some a =>
      if driftGuard a.w then putAct { a with phase := 4, lane := none } (femClose (gBand a.w) a.gate a.iter (freeLane n s))
      else if isRx a.w then releaseAct a s
      else putAct { a with lane := none } (noAckLane n (freeLane n s))
    | _, _ => noAckLane n (freeLane n s)
  else resumeLanes s

/-- The lane goes back to search, or is freed where its holder has left it. -/
def laneIdle (n : Nat) (s : State) : State := laneRest n (clearFrame n s)

/-- A lane's frame is lost to blanking (R67, R106). -/
def loseFrame (n : Nat) (s : State) : State := if (s.lane n).frame.isSome then laneRest n (abandonFrame n s) else s

/-- A lane reads its profile and its channel's calibration entry (R349, R350). -/
def laneSee (n : Nat) (s : State) : State :=
  let bk := bankAt (s.laneBank n)
  engSee 11 (fun a => inRange (bk + 0x1400 + 8 * s.laneProf n) 8 a || inRange (bk + 0x4000 + 4 * s.laneChan n) 4 a) s

/-- A lane detects a preamble (R127 to R129): of two lanes with one frame the lower keeps it, for the windows of both; the other counts
in TWIN and goes back to search. -/
def preambleDetect (n slot : Nat) (peak : BitVec 72) (r1 r2 snr : Octet) (s : State) : State :=
  let f := s.newFrame n slot peak r1 r2 snr
  match s.twinOf n f.ts with
  | some m =>
    match (s.lane m).frame with
    | none => keepFrame n f s
    | some g =>
      if m < n then
        (s.setLane m { s.lane m with frame := some { g with acts := g.acts ++ f.acts, twins := n :: g.twins } }).count
          (R.laneCounters n 3)
      else keepFrame n { f with acts := f.acts ++ g.acts, twins := m :: g.twins } ((laneIdle m s).count (R.laneCounters m 3))
  | none => keepFrame n f s

/-! ## Header and codewords (R150, R135 to R137) -/

/-- The header passes R150 at a width. -/
def State.hdrOk (s : State) (width : Nat) (h : BitVec 52) : Bool :=
  let w := s.mw (tmAddr (hTmid h))
  hcrcOk h && bits h 0 2 == 0 && hType h != 3 && 5 ≤ hLen h &&
    (if hTmid h == 0 then hUcon h != 0 && hUcon h != 7
     else hUcon h == 0 && bitOf w 23 && !bitOf w 22 && bits w 20 2 == width && codesOk (s.tmCodes (hTmid h) width))

/-- A lane reads the tone-map entry that a TL-OFDM header names (R156, R349, R350). -/
def mapSee (n : Nat) (h : BitVec 52) (s : State) : State :=
  match (s.lane n).frame with
  | some f => when (isTl f.mode && hcrcOk h && hTmid h != 0) (engSee 11 (inRange (tmAddr (hTmid h)) 36)) s
  | none => s

/-- The PHR's length lies within the limits of R144. -/
def phrOk (mode len : Nat) : Bool := if mode == 0x30 then 5 ≤ len && len ≤ 127 else 1 ≤ len && len ≤ 2047

/-- Packet buffers that a frame of `len` octets with `fcs` octets of FCS takes behind its record (R224, R345). -/
def rxBufs (len fcs : Nat) : Nat := (8 + (len - fcs + 2) / 3 + 126) / 127

/-- FCS octets of a frame in reception: a standard mode's header gives the FCS type in its bit 0, whatever the profile holds (R145). -/
def rxFcs (f : RxFrame) : Nat := fcsOf f.mode (match f.hdr with | some h => bitOf h 0 | none => false)

/-- A lane allocates the buffers of its frame, in the class of its holder, as the frame's length is known; a reception that finds none is
abandoned (R224, log 72). -/
def rxAlloc (n : Nat) (s : State) : State :=
  match (s.lane n).frame with
  | none => s
  | some f =>
    match bufTake f.hcls (rxBufs f.len (rxFcs f)) s with
    | (some l, t) => t.setLane n { t.lane n with frame := some { f with bufs := l } }
    | (none, t) => laneIdle n (reportAbandoned n (bufOut f.hcls t))

/-- A header arrives at a lane inside a frame (R145, R150): the map it names is copied (R157), and that entry has been used to decode
(R158). `phr`: the PHR of a standard mode passes. -/
def headerDecode (n : Nat) (h : BitVec 52) (phr : Bool) (s : State) : State :=
  match (s.lane n).frame with
  | none => s
  | some f =>
    let tl := isTl f.mode
    let ok := if tl then s.hdrOk (f.mode - 0x40) h else phr && phrOk f.mode (hLen h)
    if !ok then laneIdle n (s.count (R.laneCounters n 1))
    else
      let c := if tl then tlCodewords (hLen h) (hRate h) (hBlk h) else 0
      let map := tl && hTmid h != 0
      let s1 := if map then s.setLink { s.link with tmLast := tabSet s.link.tmLast (hTmid h) s.now } else s
      rxAlloc n <| s1.setLane n { s1.lane n with frame := some { f with
        hdr := some h, len := hLen h, left := c, toCome := c,
        codes := if tl then headerCodes (f.mode - 0x40) h (s.tmCodes (hTmid h) (f.mode - 0x40)) else [] } }

/-- A codeword arrives in lane `n`'s buffer; the ninth abandons the frame (R137). -/
def cwArrive (n : Nat) (s : State) : State :=
  match (s.lane n).frame with
  | none => s
  | some f =>
    if f.toCome = 0 then s
    else if 8 ≤ (s.link.cwq.filter (fun e => e.1 == n)).length then
      laneIdle n (reportAbandoned n (s.count (R.laneCounters n 4)))
    else
      let c := f.hcls
      let s1 := s.setLane n { s.lane n with frame := some { f with toCome := f.toCome - 1 } }
      s1.setLink { s1.link with cwq := s1.link.cwq ++ [(n, c)] }

/-- The codeword an engine takes next (R136): the lowest class, in order of arrival; engine 0 with C0RSV = 1 serves classes 1 to 3 in the
same order (log 133). -/
def nextCw (q : List (Nat × Nat)) : Option (Nat × Nat) :=
  ([0, 1, 2, 3].filterMap (fun c => q.find? (fun e => e.2 == c))).head?

/-- An engine's iterations on a codeword: MAXIT, 0 acting as 1 (R135). -/
def State.maxIt (s : State) : Nat := max 1 (s.fld R.ldpcCfg 0 4)

/-- An engine decodes the next waiting codeword, whose syndrome becomes zero after `its` iterations: it stops there, or fails at MAXIT
(R135, R153). -/
def cwDecode (its : Nat) (s : State) : State :=
  match nextCw s.link.cwq with
  | none => s
  | some e =>
    let s1 := s.setLink { s.link with cwq := s.link.cwq.erase e }
    match (s1.lane e.1).frame with
    | none => s1
    | some f => s1.setLane e.1 { s1.lane e.1 with frame := some { f with left := f.left - 1, failed := f.failed || decide (s.maxIt < its) } }

/-- Engine `e` decodes; in LISTEN engine 0 alone runs (R136, R424). -/
def cwDecodeBy (e its : Nat) (s : State) : State := if e = 0 ∨ s.mode ≠ 3 then cwDecode its s else s

/-- LDPC_STATUS. -/
def State.ldpcStatus (s : State) : Word :=
  let n := fun c => min 63 (s.link.cwq.filter (fun e => e.2 == c)).length
  W (n 0 + 64 * n 1 + 4096 * n 2 + 262144 * n 3)

/-! ## Frame end (R153, R472) -/

/-- The class a frame is judged by for the order of R472. -/
def State.rxClass (s : State) (bk : Bool) (status : Nat) (l : List Octet) : Nat :=
  if status != 0 then 3
  else
    match parseMhr l with
    | none => 3
    | some h =>
      match s.descRx bk h.fc with
      | none => 3
      | some d =>
        match bitOf (s.descWord bk d 0) 19, h.heroft (s.oui bk) 3 6 with
        | true, some m => bits (octAt m 4) 6 2
        | _, _ => bits (s.descWord bk d 3) 7 2

/-- The lane has a frame whose end may come: its header is decoded and, in TL-OFDM, every codeword. -/
def State.frameReady (s : State) (n : Nat) : Bool :=
  match (s.lane n).frame with
  | some f => f.hdr.isSome && f.left == 0 && f.toCome == 0
  | none => false

/-- A lane reaches a frame's end and hands it to LINK with its buffers. -/
def frameEnd (n : Nat) (psdu : List Octet) (fcsOk : Bool) (spread : Nat) (tones : List Word) (s : State) : State :=
  match (s.lane n).frame with
  | none => s
  | some f =>
    let st := if f.failed then 1 else if !fcsOk then 2 else 0
    let x : RxDone :=
      { lane := n, band := s.laneInput n / 4, status := st, fr := f, psdu := psdu.take (f.len - rxFcs f), ended := s.mt.ctr,
        cls := s.rxClass f.bank st psdu, spread := spread, tones := tones }
    let s1 := (s.count (R.laneCounters n 0)).setReg (R.laneLast n)
      (W (f.rssi1.toNat * 2 ^ 16 + f.rssi2.toNat * 2 ^ 8 + f.snr.toNat))
    let s2 := if s.bit R.linkCtrl 0 then
        (s1.setLink { s1.link with inbox := inboxPut x s1.link.inbox }).setLane n { s1.lane n with frame := some { f with bufs := [] } }
      else s1
    laneIdle n s2

/-! ## Service (R133) -/

/-- The band of the transmission that holds lane `n` for its acknowledgement or assessment, if one does. -/
def State.laneTx (s : State) (n : Nat) : Option (Nat × TxReq) :=
  ([0, 1].filterMap (fun b => (s.band b).chain.map (fun r => (b, r)))).find? (fun e => e.2.ackLane == some n)

/-- The wait that holds lane `n`. -/
def State.laneWait (s : State) (n : Nat) : Option (Nat × AckWait) :=
  ([0, 1].filterMap (fun b => (s.band b).wait.map (fun r => (b, r)))).find? (fun e => e.2.tx.ackLane == some n)

/-- The holder of a lane that is not inside a frame is released as the lane goes out of service: a gate activation counts in BUSY; one
that transmits or waits keeps its frame without its lane (log 101). -/
def detachLane (n : Nat) (s : State) : State :=
  match s.holder n, s.laneAct n, (s.lane n).measure with
  | 1, some a, _ =>
    let up := match s.laneTx n with | some (_, r) => r.up | none => false
    if isTx a.w && (a.phase == 3 || up) then
      missed 3 (gClass a.w) (putAct { a with lane := none } (noAckLane n (freeLane n s)))
    else missed 3 (gClass a.w) (releaseAct a (returnHead a s))
  | 3, _, some (t, tag) => freeLane n (finishTag t tag St.busy [] s)
  | 3, _, none =>
    match s.laneTx n with
    | some (b, r) => if r.cca then endUnsent b St.busy 2 false r s else noAckLane n (freeLane n s)
    | none => noAckLane n (freeLane n s)
  | 0, _, _ => s
  | _, _, _ => freeLane n s

/-- Lane `n` goes out of service. -/
def oosLane (n : Nat) (s : State) : State :=
  let s1 := when (s.bit R.gateC0lanes n) (fun t => t.count (R.laneGcounters 0)) s
  let s2 := (s1.setLane n { s1.lane n with susp := none }).setBit (R.laneBind n) 10 false
  laneShow n (if (s2.lane n).frame.isSome then s2 else detachLane n s2)

/-- OOS written. -/
def oosWrite (v : Word) (s : State) : State :=
  let s1 := s.setFld R.laneOos 0 16 (bits v 0 16)
  resumeLanes (forAll (List.range 16)
    (fun n t => if bitOf v n && !s.bit R.laneOos n then oosLane n t else laneShow n t) s1)

/-! ## Span (R134) -/

/-- No lane of a band is inside a frame. -/
def State.bandQuiet (s : State) (b : Nat) : Bool :=
  (List.range 16).all (fun n => (s.lane n).frame.isNone || s.laneInput n / 4 != b)

/-- Lane `n` has a suspended assignment of the band outside the span. -/
def State.suspOut (s : State) (b n : Nat) : Bool :=
  match (s.lane n).susp with
  | some (ch, inp, p) => inp / 4 == b && !s.inSpan s.bank b ch p
  | none => false

/-- A suspended assignment ends. -/
def dropSusp (n : Nat) (s : State) : State :=
  (s.setLane n { s.lane n with susp := none }).setBit (R.laneBind n) 10 false

/-- An activation in progress whose channel lies outside its band's span (R134). -/
def State.actOut (s : State) (b : Nat) (a : Activ) : Bool :=
  usesChan a.w && gBand a.w == b && 1 ≤ a.phase && a.phase ≤ 3 && !s.inSpan a.bank b a.chan (s.profFor a.w)

/-- An activation outside the moved span is released and counts in OUTSPAN (R134): its frame on the air is truncated, its wait for an
acknowledgement ends, and its descriptor goes back to the head of its queue. -/
def spanRelease (b : Nat) (a : Activ) (s : State) : State :=
  let mine := fun (r : TxReq) => r.src == .gate a.gate a.iter
  let s1 := match (s.band b).chain with | some r => when (mine r && r.up) (fun t => t.count (R.txcCounters b 5)) s | none => s
  let s2 := match (s1.band b).wait with
    | some w => if mine w.tx then s1.setBand b { s1.band b with wait := none } else s1
    | none => s1
  (if a.phase = 1 then missed 9 (gClass a.w) else gateCount 9) (releaseAct a (returnHead a s2))

/-- A moved span centre takes effect (R134): every activation whose channel now lies outside is released and counts in OUTSPAN, and so
with every standing assignment in SPANDROP. -/
def spanApply (b : Nat) (s : State) : State :=
  match (s.band b).span with
  | none => s
  | some c =>
    let s0 := (s.setFld (R.feSpan b) 0 10 c).setBand b { s.band b with span := none }
    let s1 := if s0.mode = 5 then tuneSyn b 1 c (tuneSyn b 0 c s0) else s0
    let s2 := if s1.mode = 5 then
        forAll (s1.gates.acts.filter (s1.actOut b)) (spanRelease b) s1
      else s1
    let s3 := if s2.mode = 5 then
        forAll ((List.range 16).filter (fun n => s2.holder n == 2 && s2.laneInput n / 4 == b &&
            !s2.inSpan s2.bank b (s2.laneChan n) (s2.laneProf n)))
          (fun n t => freeLane n (t.count (R.laneGcounters 1)))
          (forAll ((List.range 16).filter (s2.suspOut b)) (fun n t => dropSusp n (t.count (R.laneGcounters 1))) s2)
      else s2
    finishRun 0x10 (fun p => octAt p 0 == O b) St.done [] s3

/-! ## The commands -/

/-- PATH_AGC_WINDOW (R117). -/
def execPathAgcWindow (band path : Fin 2) (power : Octet) (ovl : Bool) (s : State) : Host.Outcome State Fault Refusal :=
  act (s.radioOn band.val) (agcWindow (2 * band.val + path.val) power ovl) s

/-- GAIN_APPLY (R119). -/
def execGainApply (p : Fin 4) (s : State) : Host.Outcome State Fault Refusal :=
  act (s.radioOn (pathBand p.val)) (gainApply p.val) s

end Sys2Proof.Machine
end

