-- ==== Sys2Proof/Machine/Flash.lean ====
section
/-! DEFINITION. The flash controller and its service (R360 to R373), images (R374 to R376), staging (R377 to R381) and the start-house
copy (R382 to R386). -/
namespace Sys2Proof.Machine

open Sys2Proof

/-- The flash part and the start house replaced. -/
def State.setFlash (s : State) (f : FlashState) : State := { s with flash := f }
def State.setStage (s : State) (g : StageState) : State := { s with stage := g }

/-! ## FAULT (R441) -/

/-- SYS.FAULT.ASSERTED follows bits [4:1]; FAULT's assertion is noticed (R289). -/
def faultShow (s : State) : State :=
  let on := s.fld R.sysFault 1 4 != 0
  let s1 := s.setBit R.sysFault 0 on
  when (on && !s.bit R.sysFault 0) (noticeFault 0 0) s1

/-! ## Images (R374 to R376) -/

/-- First word of the slot of an image type (R360). -/
def slotBase (t : Nat) : Nat := [0x120000, 0x104000, 0x115000, 0x100000].getD (t - 1) 0x120000

/-- Sectors of the slot of an image type. -/
def slotSectors (t : Nat) : Nat := [480, 17, 9, 2].getD (t - 1) 0

/-- Words an image of `len` body words occupies (R374). -/
def imageWords (len : Nat) : Nat := 32 + 8 * ((len + 7) / 8) + 24

/-- The start house. -/
abbrev stageBase : Nat := 0x300000

/-- The image at `base` bears the magic words. -/
def State.imageHere (s : State) (base : Nat) : Bool := s.mw base == 0x495456 && s.mw (base + 1) == 0x4B0000

/-- VERSION of the image at `base`; 0 without the magic words. -/
def State.imageVersion (s : State) (base : Nat) : Word := if s.imageHere base then s.mw (base + 6) else 0

/-- Body words of the image at `base`. -/
def State.imageLen (s : State) (base : Nat) : Nat := (s.mw (base + 5)).toNat

/-- Type of the image at `base`. -/
def State.imageType (s : State) (base : Nat) : Nat := bits (s.mw (base + 2)) 8 8

/-- SHA-256 of a body of `len` words at `a`, in lane order. -/
def State.bodyDigest (s : State) (a len : Nat) : List Octet := sha256 (wordsToOctets (s.mws a len))

/-- DIGEST of the header at `base`. -/
def State.headDigest (s : State) (base : Nat) : List Octet := (wordsToOctets (s.mws (base + 10) 11)).take 32

/-- The boot ROM or link firmware reads the whole image at `base` (R361): whether a word was uncorrectable, and the state after. -/
def imageSee (base : Nat) (s : State) : Bool × State := flashSee base (imageWords (s.imageLen base)) s

/-- A copy of a LINKFW image runs (R386). -/
def State.linkCopy (s : State) : Bool := s.stage.st == 3 && s.imageType stageBase == 2

/-- Key slot `k` accepts images of type `t` (R375). -/
def State.keyAccepts (s : State) (t k : Nat) : Bool :=
  (s.otp.pubKeys.getD k []).length == 64 && (if t = 2 then k == 0 else 1 ≤ k && k ≤ 3)

/-- The image at `base` passes the check of its digest and its signature, made with the key that its header names. -/
def State.imageOk (s : State) (base : Nat) : Bool :=
  let len := s.imageLen base
  let k := bits (s.mw (base + 21)) 0 2
  s.imageHere base && s.keyAccepts (s.imageType base) k && (s.bodyDigest (base + 32) len == s.headDigest base) &&
    ecdsaVerify (s.otp.pubKeys.getD k []) ((wordsToOctets (s.mws (base + imageWords len - 24) 22)).take 64)
      (sha256 (wordsToOctets (s.mws base 32)))

/-- STAGE_BEGIN's check of a header (R378): the status of the first check that fails. -/
def State.headerCheck (s : State) (h : List Word) : Option Nat :=
  let w := fun i => h.getD i 0
  let t := bits (w 2) 8 8
  let len := (w 5).toNat
  let base := slotBase t
  if w 0 ≠ 0x495456 ∨ w 1 ≠ 0x4B0000 ∨ bits (w 2) 0 8 ≠ 1 ∨ bits (w 2) 16 8 ≠ 0 ∨ bits (w 7) 11 13 ≠ 0 ∨
      bits (w 20) 16 8 ≠ 0 ∨ bits (w 21) 2 22 ≠ 0 ∨ (List.range 10).any (fun i => w (22 + i) != 0) then some St.headerReject
  else if w 3 ≠ 0x009805 then some St.headerReject
  else if t < 1 ∨ 4 < t then some St.headerReject
  else if (w 4).toNat ≠ base ∨
      (if t = 1 then !(base + 32 ≤ (w 8).toNat && (w 8).toNat < base + 32 + len) else w 8 != 0) then some St.headerReject
  else if len = 0 ∨ (t = 2 ∧ 65536 < len) ∨ (t = 3 ∧ 32768 < len) ∨ slotSectors t * 0x1000 < imageWords len ∨
      (w 9).toNat ≠ imageWords len - 24 then some St.headerReject
  else if !s.keyAccepts t (bits (w 21) 0 2) then some St.headerReject
  else if (w 6).toNat < (s.imageVersion base).toNat then some St.rollback
  else if bits (w 7) 0 11 < s.otp.rollback.toNat then some St.rollback
  else none

/-! ## The flash journal (R371, R377, R383) -/

/-- Records that one of sectors 2 and 3 holds: one to a line. -/
def journalLines : Nat := 512

/-- A record is written to the flash journal; a full sector hands over to the other one, which keeps every standing mark (`flash.marks`). -/
def journalPut (k : JKind) (s : State) : State :=
  let r : JRec := { kind := k, ok := true }
  if s.flash.jnew.length < journalLines then s.setFlash { s.flash with jnew := s.flash.jnew ++ [r] }
  else s.setFlash { s.flash with jold := s.flash.jnew, jnew := [r], jsel := !s.flash.jsel }

/-- Where a copy stands by a record of its own: sector, erase complete, lines; after COMPLETE no copy stands. A record whose CRC fails is
ignored (R383, R384). -/
def JRec.copyAt (r : JRec) : Option (Nat × Bool × Nat) :=
  if !r.ok then none
  else
    match r.kind with
    | .start => some (0, false, 0)
    | .eraseStart k => some (k, false, 0)
    | .sectorDone k => some (k + 1, false, 0)
    | _ => none

/-- What the flash journal says of the copy: the newest valid record of it, the newer sector first. -/
def State.journalCopy (s : State) : Nat × Bool × Nat :=
  ((s.flash.jnew.reverse ++ s.flash.jold.reverse).findSome? JRec.copyAt).getD (0, false, 0)

/-- Where a copy resumes (R384): by the backup-RAM journal while CONT = 1, else by the flash journal. -/
def State.copyPoint (s : State) : Nat × Bool × Nat :=
  if s.bit R.bkpStatus 0 then s.bkp.copy.getD s.journalCopy else s.journalCopy

/-- The backup-RAM journal of the copy written (R384). Its place in backup RAM has no stated address, so it stands beside the RAM (log
145). -/
def copyMark (c : Option (Nat × Bool × Nat)) (s : State) : State := { s with bkp := { s.bkp with copy := c } }

/-- The start house enters a state: the service journals it, and link firmware, while it serves, mirrors it in backup RAM (R377). -/
def stageTo (n : Nat) (s : State) : State :=
  let t := journalPut (.stage n) (s.setStage { s.stage with st := n })
  when t.serves (fun u => { u with bkp := { u.bkp with stage := n } }) t

/-! ## Marks (R371) -/

/-- FC_INTR follows the marks. -/
def intrShow (s : State) : State :=
  let l := s.flash.marks
  let lo := l.foldl (fun a n => min a n) 1023
  s.setReg R.fcIntr (W (if l.isEmpty then 0 else 2 ^ 23 + l.length * 2 ^ 10 + lo))

/-- A sector is marked interrupted in the flash journal. -/
def markSector (n : Nat) (s : State) : State :=
  intrShow (journalPut (.mark n)
    (s.setFlash { s.flash with marks := if s.flash.marks.contains n then s.flash.marks else s.flash.marks ++ [n] }))

/-! ## The controller (R365 to R369) -/

/-- An operation starts. -/
def flashStart (kind addr : Nat) (data : List Word) (autosusp : Bool) (by_ : FlashBy) (s : State) : State :=
  let s1 := ((s.setReg R.fcCmd (W (kind * 2 ^ 20 + (if autosusp then 2 ^ 19 else 0)))).setReg R.fcAddr (W addr)).setReg
    R.fcStatus 1
  let s2 := forAll (List.range data.length) (fun i t => t.setReg (R.fcData i) (data.getD i 0)) s1
  s2.setFlash { s2.flash with
    op := some { kind := kind, addr := addr, data := data, autosusp := autosusp, by_ := by_, pulses := 0, result := none,
                 abandon := false }
    susp := 0
    last := W addr }

/-- The 8 words of a line as stored. -/
def State.flashLine (s : State) (a : Nat) : List Word := s.mws a 8

/-- The line's contents are undefined, or a word of it cannot be corrected. -/
def State.lineBad (s : State) (a : Nat) : Bool :=
  s.flashUndef a || (List.range 8).any (fun i => badFlips (tabLook 0 s.flash.errs (a + i)))

/-- The error bits of the words that `p` picks are gone: their cells have been written anew. -/
def cleanErrs (p : Nat → Bool) (s : State) : State := s.setFlash { s.flash with errs := s.flash.errs.filter (fun e => !p e.1) }

/-- The line is blank (R361). -/
def State.lineBlank (s : State) (a : Nat) : Bool := !s.lineBad a && (s.flashLine a).all (· == 0xFFFFFF)

/-- A line of the array holds `l`, without errors. -/
def putLine (a : Nat) (l : List Word) (s : State) : State :=
  cleanErrs (inRange a 8) { s with mem := (List.range 8).foldl (fun m i => m.setWord (a + i) (l.getD i 0)) s.mem }

/-- Every cell of sector `n` is set, and the sector's mark in the journal is gone (R367). -/
def eraseCells (n : Nat) (s : State) : State :=
  let t := when (s.flash.marks.contains n) (journalPut (.unmark n)) (cleanErrs (inRange (sectorBase n) 0x1000) s)
  intrShow
    { t with
      mem := t.mem.clear (sectorBase n) (sectorBase n + 0x1000)
      flash := { t.flash with
        marks := t.flash.marks.filter (· != n)
        badSectors := t.flash.badSectors.filter (· != n)
        badLines := t.flash.badLines.filter (fun a => sectorOf a != n) } }

/-- What an operation leaves in the array once its pulses have verified: a program clears the cells that its data holds at 0, an
erase sets every cell (R367), a refresh leaves the corrected words in cells that hold them (R372). -/
def flashEffect (o : FlashOp) (s : State) : State :=
  let line := s.flashLine o.addr
  match o.kind with
  | 1 => putLine o.addr ((List.range 8).map (fun i => line.getD i 0 &&& o.data.getD i 0)) s
  | 2 => eraseCells (sectorOf o.addr) s
  | 6 => putLine o.addr o.data s
  | _ => s

/-- The part of the array that an operation that failed or was cut short leaves undefined (R366, R371). -/
def flashSpoil (o : FlashOp) (s : State) : State :=
  match o.kind with
  | 1 => s.setFlash { s.flash with badLines := o.addr :: s.flash.badLines.filter (· != o.addr) }
  | 2 => s.setFlash { s.flash with badSectors := sectorOf o.addr :: s.flash.badSectors.filter (· != sectorOf o.addr) }
  | _ => s

/-- Pulses of an operation at most (R366, R367). -/
def pulseLimit (kind : Nat) : Nat := if kind = 2 then 20 else 12

/-- A pulse and its verify end (R366, R367): AUTOHOLD clears; the first verify that passes, or the last that fails, gives the
operation its result. -/
def pulseEnd (ok : Bool) (s : State) : State :=
  match s.flash.op with
  | none => s
  | some o =>
    let n := o.pulses + 1
    let s1 := (s.setBit R.fcStatus 2 false).setFld R.fcStatus 11 5 n
    let o1 := { o with pulses := n }
    if ok then
      let s2 := flashEffect o s1
      s2.setFlash { s2.flash with op := some { o1 with result := some (if o.abandon then St.aborted else St.done) } }
    else if pulseLimit o.kind ≤ n then
      let s2 := flashSpoil o s1
      s2.setFlash { s2.flash with op := some { o1 with result := some (if o.abandon then St.aborted else St.verifyFail) } }
    else s1.setFlash { s1.flash with op := some o1 }

/-- DBGACC's register after an access has completed with `v` (R466). -/
def dbgDone (dr : BitVec 50) (v : Word) : BitVec 50 :=
  BitVec.ofNat 50 (1 + 2 * v.toNat + 2 ^ 25 * bits dr 25 24 + (if bitOf dr 49 then 2 ^ 49 else 0))

/-- A read of the debug port that waited for the array completes (R368, R466). -/
def dbgLand (s : State) : State :=
  match s.dbg.held with
  | none => s
  | some dr =>
    if s.flashWaits (bits dr 25 24) then s
    else
      let (v, _, t) := memRead (initOf .dbg) (bits dr 25 24) s
      { t with dbg := { t.dbg with dr := dbgDone dr v, held := none } }

/-- A running erase is suspended (1: by FS_SUSPEND; 2: automatically). -/
def suspend (how : Nat) (s : State) : State :=
  dbgLand ((s.setBit R.fcStatus 1 true).setFlash { s.flash with susp := how })

/-- A suspended erase resumes; its first pulse runs whole (R368). -/
def unsuspend (s : State) : State :=
  ((s.setBit R.fcStatus 1 false).setBit R.fcStatus 2 true).setFlash { s.flash with susp := 0 }

/-! ## Staging under way (R378, R379) -/

/-- The status of the last start-house command, and its final reply. -/
def stageReply (r status : Nat) (res : List Octet) (s : State) : State :=
  finalReply r status res (s.setStage { s.stage with status := O status, job := none })

/-- Words counted as written. -/
def countedWords (n : Nat) : List Octet := word3 (W (8 * n))

/-- A staging command has done one sector or line more, which its PROGRESS says (R299). -/
def jobNext (j : StageJob) (s : State) : State :=
  engWrite (recAddr j.rcd + 3) (W (j.next + 1)) (s.setStage { s.stage with job := some { j with next := j.next + 1 } })

/-- The lines of an image after its header. -/
def bodyLines (len : Nat) : Nat := (len + 7) / 8 + 3

/-- Line `i` of a STAGE_WRITE is counted as written. -/
def countLine (i : Nat) (s : State) : State :=
  s.setStage { s.stage with lines := if s.stage.lines.contains i then s.stage.lines else i :: s.stage.lines }

/-- The staging command under way goes on as far as it can before it needs the controller: `fuel` bounds the lines of one
command that already read equal. -/
def stageGo : Nat → State → State
  | 0, s => s
  | fuel + 1, s =>
    match s.stage.job, s.flash.op with
    | some j, none =>
      if j.kind = 0 then
        if j.next < j.count then flashStart 2 (stageBase + 0x1000 * j.next) [] false .stage s
        else
          let i := j.next - j.count
          if i < 4 then flashStart 1 (stageBase + 8 * i) ((j.data.drop (8 * i)).take 8) false .stage s
          else
            stageReply j.rcd St.done [] (stageTo 1 (s.setStage { s.stage with lines := [] }))
      else if j.next < j.count then
        let a := j.base + 8 * j.next
        let d := (j.data.drop (8 * j.next)).take 8
        let t := (flashSee a 8 s).2
        if !s.lineBad a && s.flashLine a == d then stageGo fuel (jobNext j (countLine ((a - stageBase - 32) / 8) t))
        else if s.lineBlank a then flashStart 1 a d false .stage t
        else stageReply j.rcd St.notBlank (countedWords j.next) t
      else stageReply j.rcd St.done (countedWords j.next) s
    | _, _ => s

/-- An operation of a staging command has ended with a result; while link firmware's service is interrupted the new owner reads it later
(R299). -/
def stageDone (res : Nat) (s : State) : State :=
  match s.stage.job with
  | none => s
  | some j =>
    if s.fwDown then s.setStage { s.stage with outcome := some res }
    else if res = St.done then
      let s1 := if j.kind = 1 then countLine ((j.base + 8 * j.next - stageBase - 32) / 8) s else s
      stageGo 64 (jobNext j s1)
    else if j.kind = 0 then stageReply j.rcd res [] (stageTo 4 s)
    else stageReply j.rcd res (countedWords j.next) s

/-! ## The copy (R382 to R385) -/

/-- Sectors of the staged image. -/
def State.copySectors (s : State) : Nat := (imageWords (s.imageLen stageBase) + 0xFFF) / 0x1000

/-- Lines of sector `i` of the staged image. -/
def State.copyLines (s : State) (i : Nat) : Nat := min 512 ((imageWords (s.imageLen stageBase) - 0x1000 * i) / 8)

/-- The first word of sector `i` of the image's slot. -/
def State.copyDst (s : State) (i : Nat) : Nat := slotBase (s.imageType stageBase) + 0x1000 * i

/-- The copy replaced. -/
def setCopy (c : Option CopyJob) (s : State) : State := s.setStage { s.stage with copy := c }

/-- The copy's progress, which the backup-RAM journal records too (R384). -/
def noteCopy (c : CopyJob) (s : State) : State := copyMark (some (c.sector, c.erased, c.lines)) (setCopy (some c) s)

/-- ERASE_START of the copy's sector is journaled, and its erase starts (R383). -/
def eraseSector (c : CopyJob) (s : State) : State :=
  flashStart 2 (s.copyDst c.sector) [] false .copy (journalPut (.eraseStart c.sector) (noteCopy { c with erased := false, lines := 0 } s))

/-- The copy goes on until it needs the controller or has done its last sector. -/
def copyGo : Nat → State → State
  | 0, s => s
  | fuel + 1, s =>
    match s.stage.copy, s.flash.op with
    | some c, none =>
      if !c.active || s.copySectors ≤ c.sector then s
      else if !c.erased then eraseSector c s
      else if c.lines < s.copyLines c.sector then
        let a := s.copyDst c.sector + 8 * c.lines
        let from_ := stageBase + 0x1000 * c.sector + 8 * c.lines
        let d := s.flashLine from_
        let t := (flashSee a 8 (flashSee from_ 8 s).2).2
        if !s.lineBad a && s.flashLine a == d then copyGo fuel (noteCopy { c with lines := c.lines + 1 } t)
        else if s.lineBlank a then flashStart 1 a d false .copy t
        else copyGo fuel (setCopy (some { c with erased := false, lines := 0 }) t)
      else
        copyGo fuel (journalPut (.sectorDone c.sector)
          (noteCopy { c with sector := c.sector + 1, erased := false, lines := 0 } s))
    | _, _ => s

/-- An operation of the copy has ended: the erase or the line is recorded. -/
def copyDone (kind res : Nat) (s : State) : State :=
  match s.stage.copy with
  | none => s
  | some c =>
    let ok := res == St.done
    copyGo 1024 (noteCopy (if kind = 2 then { c with erased := ok, lines := 0 } else { c with lines := c.lines + 1 }) s)

/-- The name of a staged image in a STAGE_EVENT notice. -/
def stageEvent (ev : Nat) (s : State) : State :=
  notice 6 0x60 (O ev :: O (s.imageType stageBase) :: word3 (s.mw (stageBase + 6))) s

/-- The application cores start in the installed image: every core at its entry, with no line valid in its I-cache or in the flash
cache (R385, R386). -/
def startCores (s : State) : State :=
  let entry := s.mw (slotBase 1 + 8)
  forAll [0, 1, 2, 3] (fun k t => t.setCore k { t.core k with pc := entry, icache := [] })
    ((s.setFlash { s.flash with cache := [] }).setBit R.rwinCtrl 2 false)

/-- The application domain stays in reset: FAULT (R385, R386). -/
def holdApp (s : State) : State := faultShow (s.setBit R.sysFault 3 true)

/-- The boot ROM's check of an installed APP image before the cores start (R386). -/
def bootApp (s : State) : State :=
  let (bad, t) := imageSee (slotBase 1) s
  if !bad && s.imageOk (slotBase 1) then startCores t else holdApp t

/-- The copy begins from its first sector, with `fails` failures of the digest behind it; its start is journaled. -/
def copyFrom (fails : Nat) (s : State) : State :=
  journalPut .start (noteCopy { sector := 0, erased := false, lines := 0, fails := fails, active := true } s)

/-- The boot ROM's check of the start house at an application-domain start (R382, R384, R386): a copy starts, or resumes where its journal
leaves it. -/
def bootCheck (s : State) : State :=
  let s0 := s.setStage { s.stage with boot := false }
  let s1 := if (s0.stage.st == 2 || s0.stage.copy.isSome) && s0.linkRuns then s0.setBit R.rwinCtrl 2 true else s0
  match s1.stage.st, s1.stage.copy with
  | 2, _ => copyGo 1024 (stageEvent 1 (stageTo 3 (copyFrom 0 s1)))
  | 3, some c =>
    let p := s1.copyPoint
    copyGo 1024 (stageEvent 3 (setCopy (some { c with sector := p.1, erased := p.2.1, lines := p.2.2, active := true }) s1))
  | _, _ => bootApp s1

/-- The copy's last sector is done (R385): the installed body's digest decides. The rollback counter is a thermometer of 1,024 bits
(R375). -/
def copyEnd (c : CopyJob) (s0 : State) : State :=
  let base := slotBase (s0.imageType stageBase)
  let (bad, s) := imageSee base s0
  if !bad && s0.bodyDigest (base + 32) (s0.imageLen base) == s0.headDigest stageBase then
    let roll := min 1024 (max s.otp.rollback.toNat (bits (s0.mw (stageBase + 7)) 0 11))
    let s1 := stageTo 0 (journalPut .complete
      (copyMark none (({ s with otp := { s.otp with rollback := W roll } }).setStage { s.stage with copy := none, lines := [] })))
    startCores (stageEvent 2 s1)
  else if c.fails < 2 then copyGo 1024 (copyFrom (c.fails + 1) s)
  else holdApp (stageTo 4 (copyMark none (s.setStage { s.stage with copy := none, status := O St.verifyFail })))

/-! ## The end of an operation (R363, R370, R373) -/

/-- The service's status reaches a core that waited for it: at once where the core is in the service, else as it comes back. -/
def giveStatus (k : Fin 4) (st : Nat) (s : State) : State :=
  if (s.core k).svc.isEmpty then s
  else if (s.core k).inService then svcReturn k st s
  else s.setFlash { s.flash with rets := (k, st) :: s.flash.rets }

/-- The service drops the lines of the shared flash cache that hold what an operation changed (R373). -/
def fcDrop (o : FlashOp) (s : State) : State :=
  let n := if o.kind = 2 then 0x1000 else 8
  s.setFlash { s.flash with cache := s.flash.cache.filter (fun e => !inRange o.addr n (8 * e.1)) }

/-- An operation in progress goes on for nobody, if `b` started it. -/
def orphan (b : FlashBy) (s : State) : State :=
  match s.flash.op with
  | some o => if o.by_ = b then s.setFlash { s.flash with op := some { o with by_ := .gone } } else s
  | none => s

/-- The copy's operation goes on without the core that ran the copy. -/
def disownCopy (s : State) : State := orphan .copy s

/-- The controller is free again: a staging command, which link firmware serves (R295), or a copy that waited for it goes on. -/
def flashNext (s : State) : State := copyGo 1024 (if s.fwDown then s else stageGo 64 s)

/-- The operation ends with its result: FC_STATUS, whoever waits for it (a core that waits for it twice, in a handler's FS_SUSPEND, leaves
that first), FLASH_DONE for a NOWAIT call, and what the staging
commands or the copy do next. -/
def flashEnd (res : Nat) (s : State) : State :=
  match s.flash.op with
  | none => s
  | some o =>
    let s0 := fcDrop o (s.setReg R.fcStatus (W (res * 2 ^ 16 + o.pulses % 32 * 2 ^ 11)))
    let owed := (s.flash.waiters.filter (fun k => decide (o.by_ = .core k true))).map (fun k => (k, res))
    let s1 := s0.setFlash { s0.flash with op := none, susp := 0, waiters := [], linkWaits := false, rets := owed ++ s0.flash.rets }
    let s2 := when s.flash.linkWaits (fun t => { t with rdata := W St.done })
      (forAll s.flash.waiters (fun k t => giveStatus k St.done t) (dbgLand s1))
    match o.by_ with
    | .core k true => flashNext (if owed.isEmpty then giveStatus k res s2 else s2)
    | .link true => flashNext { s2 with rdata := W res }
    | .core _ false => flashNext (fire 0x14 s2)
    | .link false => flashNext (fire 0x14 s2)
    | .stage => stageDone res s2
    | .copy => copyDone o.kind res s2
    | .gone => flashNext s2

/-- FS_ABANDON (R371): an erase stops and its sector is marked; a program or refresh stops after its line. -/
def flashAbandon (s : State) : State :=
  match s.flash.op with
  | none => s
  | some o =>
    if o.kind = 2 then flashEnd St.aborted (markSector (sectorOf o.addr) (flashSpoil o s))
    else s.setFlash { s.flash with op := some { o with abandon := true, result := o.result.map (fun _ => St.aborted) } }

/-- A chip-domain reset ends the controller's work: what it was doing stays undefined; FC_INTR is rebuilt from the journal
(R371, R381). -/
def flashReset (s : State) : State :=
  let s1 := match s.flash.op with
    | some o => if o.result.isNone then flashSpoil o s else s
    | none => s
  let s2 := intrShow (s1.setFlash { s1.flash with op := none, susp := 0, cache := [], waiters := [], linkWaits := false, rets := [] })
  let begun := match s2.stage.job with | some j => j.kind == 0 | none => false
  let cut := s2.stage.st == 1 || begun
  let s3 := when cut (stageTo 4) s2
  s3.setStage { s3.stage with
    lines := if cut then [] else s3.stage.lines
    job := none
    outcome := none
    copy := s3.stage.copy.map (fun c => { c with active := false })
    boot := true }

/-! ## The service's calls (R362 to R365, R370) -/

/-- The installed APP image's first sector beyond its end. -/
def State.appEnd (s : State) : Nat :=
  if s.imageHere (slotBase 1) then 32 + (imageWords (s.imageLen (slotBase 1)) + 0xFFF) / 0x1000 else 32

/-- The caller may erase and program the sector (R364). -/
def State.flashRights (s : State) (w : Who) (n : Nat) : Bool :=
  match w with
  | .app _ => 32 ≤ n && n ≤ 511 && s.appEnd ≤ n
  | _ => true

/-- What a call answers: a status with results g3 to g5, or nothing yet (the caller waits in ROM). -/
structure SvcOut where
  status : Option Nat
  r3 : Option Word
  r4 : Option Word
  r5 : Option Word
  deriving DecidableEq, Repr

/-- A status alone. -/
def SvcOut.st (n : Nat) : SvcOut := { status := some n, r3 := none, r4 := none, r5 := none }

/-- The caller waits. -/
def SvcOut.wait : SvcOut := { status := none, r3 := none, r4 := none, r5 := none }

/-- A register of a result. -/
def putOpt (i : Nat) (v : Option Word) (c : Core) : Core := match v with | some x => c.setG i x | none => c

/-- A call by application core `k`, its arguments in g2 to g4 and its results in its registers; refused in user mode (R364). -/
def svcByCore (k : Fin 4) (body : Word → Word → Word → State → SvcOut × State) (s : State) : State :=
  let c := s.core k
  if !c.sup then svcAnswer k St.denied s
  else
    let (o, t) := body (c.reg 2) (c.reg 3) (c.reg 4) s
    match o.status with
    | none => t.setCore k { t.core k with svc := c.pc :: c.svc, away := false }
    | some st => svcAnswer k st (t.setCore k (putOpt 5 o.r5 (putOpt 4 o.r4 (putOpt 3 o.r3 (t.core k)))))

/-- The standby's calls that R290 lets act: it may read everything, and any caller may make the four calls that concern an operation in
progress (R365). -/
def standbyMay (n : Nat) : Bool := n == 0 || (3 ≤ n && n ≤ 6)

/-- A call of service `n` by a link core: its status in `rdata`, its results g3 to g5 in `flash.linkG` (R362). -/
def svcByLink (n : Nat) (w : Who) (a2 a3 a4 : Word) (body : Word → Word → Word → State → SvcOut × State) (s : State) : State :=
  if !s.firm w && !standbyMay n then { s with rdata := W St.denied }
  else
    let (o, t) := body a2 a3 a4 s
    match o.status with
    | some st => { t with rdata := W st, flash := { t.flash with linkG := [o.r3, o.r4, o.r5].filterMap id } }
    | none => t

/-- Core `k` executes at the entry words: it runs, and is not itself blocked in a service there (a handler of a blocked core may call:
R365, R370). -/
def State.atEntry (s : State) (k : Fin 4) : Bool := s.coreOnline k && !s.halted k.val && !(s.core k).inService

/-- Core `k` stands at the entry word of service `n` and executes it. -/
def State.atService (s : State) (k : Fin 4) (n : Nat) : Bool := s.atEntry k && (s.core k).pc.toNat == 0x100 + n

/-- Core `k` stands at one of the reserved entry words 9 to 15 (R362). -/
def State.atReserved (s : State) (k : Fin 4) : Bool := s.atEntry k && 0x109 ≤ (s.core k).pc.toNat && (s.core k).pc.toNat ≤ 0x10F

/-- A call of service `n` by an application core or a link core. A core at a reserved entry is answered BAD_PARAM, whichever
service's command lets it go on (R362). -/
def svcCall (n : Nat) (w : Who) (a2 a3 a4 : Word) (body : Word → Word → Word → State → SvcOut × State) (s : State) :
    Host.Outcome State Fault Refusal :=
  match w with
  | .app k =>
    if s.atReserved k then .next (svcByCore k (fun _ _ _ t => (SvcOut.st St.badParam, t)) s)
    else act (s.atService k n) (svcByCore k body) s
  | .lcA | .lcB => act s.linkRuns (svcByLink n w a2 a3 a4 body) s
  | _ => .next s

/-- The call runs non-blocking: NOWAIT, and the return address outside the bank operated on (R370). -/
def State.svcNowait (s : State) (w : Who) (nowait : Bool) (addr : Nat) : Bool :=
  match w with
  | .app k =>
    let r := ((s.core k).reg 14).toNat
    nowait && !(0x100000 ≤ r && r < 0x500000 && ((r < 0x300000) == (addr < 0x300000)))
  | _ => nowait

/-- An operation of the service starts, and the answer to its caller. -/
def svcStart (w : Who) (nowait : Bool) (kind addr : Nat) (data : List Word) (autosusp : Bool) (s : State) : SvcOut × State :=
  let nb := s.svcNowait w nowait addr
  let by_ : FlashBy := match w with | .app k => .core k (!nb) | _ => .link (!nb)
  (if nb then SvcOut.st St.started else SvcOut.wait, flashStart kind addr data autosusp by_ s)

/-- The address is a flash line. -/
def lineOk (a : Nat) : Bool := 0x100000 ≤ a && a < 0x500000 && a % 8 == 0

/-- FS_ERASE. -/
def fsErase (w : Who) (a2 a3 _a4 : Word) (s : State) : SvcOut × State :=
  if s.flash.op.isSome then (SvcOut.st St.busy, s)
  else if 1024 ≤ a2.toNat then (SvcOut.st St.badParam, s)
  else if !s.flashRights w a2.toNat then (SvcOut.st St.denied, s)
  else svcStart w (bitOf a3 1) 2 (sectorBase a2.toNat) [] (bitOf a3 0) s

/-- The source words of FS_PROGRAM, which pass through the caller's MPU; the word of a line its D-cache holds is the cache's. -/
def svcSource (w : Who) (a : Nat) : Nat → State → List Word × Bool × State
  | 0, s => ([], false, s)
  | n + 1, s =>
    let hit : Option CLine := match w with
      | .app k => (s.core k).dcache.find? (fun l => l.line == a / 8 && (l.dirty || l.bad == 0))
      | _ => none
    let (v, err, s1) := match hit with
      | some l => (l.words.getD (a % 8) 0, bitOf l.bad (a % 8), s)
      | none => memRead (initOf w) a s
    let (l, e2, s2) := svcSource w (a + 1) n s1
    (v :: l, err || e2, s2)

/-- FS_PROGRAM (R366). -/
def fsProgram (w : Who) (a2 a3 a4 : Word) (s : State) : SvcOut × State :=
  let a := a2.toNat
  let src := a3.toNat
  let inRam := (0x600000 ≤ src && src + 8 ≤ 0x800000) || (0x800000 ≤ src && src + 8 ≤ 0x880000)
  if s.flash.op.isSome then (SvcOut.st St.busy, s)
  else if !lineOk a || !inRam then (SvcOut.st St.badParam, s)
  else if !s.flashRights w (sectorOf a) || !(List.range 8).all (fun i => s.mpuAllows w (src + i) .rd) then
    (SvcOut.st St.denied, s)
  else if s.flash.marks.contains (sectorOf a) then (SvcOut.st St.notBlank, s)
  else if (flashSee a 8 s).1 then (SvcOut.st St.hwFault, (flashSee a 8 s).2)
  else if !s.lineBlank a then (SvcOut.st St.notBlank, (flashSee a 8 s).2)
  else
    match svcSource w src 8 (flashSee a 8 s).2 with
    | (_, true, t) => (SvcOut.st St.hwFault, t)
    | (d, false, t) => svcStart w (bitOf a4 1) 1 a d false t

/-- Some cell of the line must go from 0 to 1 for its corrected words (R372): a data bit that reads 0 by error; for a check bit in error, whose
value the spec does not give, it is open. -/
def State.mustRise (s : State) (a : Nat) : Bool :=
  (List.range 8).any (fun i =>
    let f := tabLook 0 s.flash.errs (a + i)
    (List.range 24).any (fun b => bitOf f b && !bitOf (s.mem.word (a + i)) b) ||
      (decide (2 ^ 24 ≤ f.toNat) && Config.freeBool s.draws))

/-- FS_REFRESH (R372): the line is read and corrected. A line of undefined contents may turn out either way (an open choice). -/
def fsRefresh (w : Who) (a2 _a3 _a4 : Word) (s : State) : SvcOut × State :=
  let a := a2.toNat
  if s.flash.op.isSome then (SvcOut.st St.busy, s)
  else if !lineOk a then (SvcOut.st St.badParam, s)
  else if !s.flashRights w (sectorOf a) then (SvcOut.st St.denied, s)
  else if s.flashUndef a then
    (SvcOut.st (if Config.freeBool s.draws then St.hwFault else St.verifyFail), s.drawn)
  else
    let (bad, t) := flashSee a 8 s
    if bad then (SvcOut.st St.hwFault, t)
    else if s.mustRise a then (SvcOut.st St.verifyFail, t.drawn)
    else svcStart w false 6 a (s.flashLine a) false t

/-- FS_INFO (R362). The service's version has no value in the spec: an open value. -/
def fsInfo (a2 _a3 _a4 : Word) (s : State) : SvcOut × State :=
  if s.flash.op.isSome then (SvcOut.st St.busy, s)
  else
  match a2.toNat with
  | 0 => ({ status := some St.done, r3 := some s.otp.rollback, r4 := some (Config.freeWord s.draws), r5 := none }, s.drawn)
  | 1 => ({ status := some St.done, r3 := some (s.reg (R.fcErrcnt 0)), r4 := some (s.reg (R.fcErraddr 0)),
            r5 := some (s.reg (R.fcErrcnt 1)) }, s)
  | 2 => ({ status := some St.done, r3 := some (W s.flash.marks.length),
            r4 := some (if s.flash.marks.isEmpty then 0xFFFFFF else W (s.fld R.fcIntr 0 10)), r5 := none }, s)
  | _ => (SvcOut.st St.badParam, s)

/-- FS_STATUS (R362): the result of the operation in progress (STARTED) or last ended, in g2; its address; its pulses. -/
def fsStatus (_a2 _a3 _a4 : Word) (s : State) : SvcOut × State :=
  ({ status := some (if s.flash.op.isSome then St.started else s.fld R.fcStatus 16 8), r3 := some s.flash.last,
     r4 := some (W (s.fld R.fcStatus 11 5)), r5 := none }, s)

/-- FS_SUSPEND (R369). -/
def fsSuspend (w : Who) (_a2 _a3 _a4 : Word) (s : State) : SvcOut × State :=
  match s.flash.op with
  | none => (SvcOut.st St.done, s)
  | some o =>
    if o.kind = 2 then (SvcOut.st St.done, if o.result.isNone then suspend 1 s else s)
    else
      match w with
      | .app k => (SvcOut.wait, s.setFlash { s.flash with waiters := k :: s.flash.waiters })
      | _ => (SvcOut.wait, s.setFlash { s.flash with linkWaits := true })

/-- FS_RESUME (R369). -/
def fsResume (_a2 _a3 _a4 : Word) (s : State) : SvcOut × State :=
  (SvcOut.st St.done, if s.flash.op.isSome && s.flash.susp != 0 then unsuspend s else s)

/-- FS_ABANDON (R371). -/
def fsAbandon (_a2 _a3 _a4 : Word) (s : State) : SvcOut × State := (SvcOut.st St.done, flashAbandon s)

/-! ## The commands -/

/-- FS_INFO. -/
def execFsInfo (w : Who) (g2 : Word) (s : State) : Host.Outcome State Fault Refusal := svcCall 0 w g2 0 0 fsInfo s

/-- FS_ERASE (R367). -/
def execFsErase (w : Who) (g2 g3 : Word) (s : State) : Host.Outcome State Fault Refusal := svcCall 1 w g2 g3 0 (fsErase w) s

/-- FS_PROGRAM (R366). -/
def execFsProgram (w : Who) (g2 g3 g4 : Word) (s : State) : Host.Outcome State Fault Refusal :=
  svcCall 2 w g2 g3 g4 (fsProgram w) s

/-- FS_STATUS. -/
def execFsStatus (w : Who) (s : State) : Host.Outcome State Fault Refusal := svcCall 3 w 0 0 0 fsStatus s

/-- FS_SUSPEND (R369). -/
def execFsSuspend (w : Who) (s : State) : Host.Outcome State Fault Refusal := svcCall 4 w 0 0 0 (fsSuspend w) s

/-- FS_RESUME (R369). -/
def execFsResume (w : Who) (s : State) : Host.Outcome State Fault Refusal := svcCall 5 w 0 0 0 fsResume s

/-- FS_ABANDON (R371). -/
def execFsAbandon (w : Who) (s : State) : Host.Outcome State Fault Refusal := svcCall 6 w 0 0 0 fsAbandon s

/-- FS_REFRESH (R372). -/
def execFsRefresh (w : Who) (g2 : Word) (s : State) : Host.Outcome State Fault Refusal := svcCall 7 w g2 0 0 (fsRefresh w) s

/-- REPAIR_ROW's answer to its caller. -/
def repairRow (verified : Bool) (a2 a3 _a4 : Word) (s : State) : SvcOut × State :=
  if s.flash.op.isSome then (SvcOut.st St.busy, s)
  else
    let (st, t) := repairBankRow a2.toNat a3.toNat verified s
    (SvcOut.st st, t)

/-- REPAIR_ROW (R359), service 8. -/
def execRepairRow (w : Who) (bank row : Word) (verified : Bool) (s : State) : Host.Outcome State Fault Refusal :=
  svcCall 8 w bank row 0 (repairRow verified) s

/-- FLASH_PULSE_END (R366 to R368). -/
def execFlashPulseEnd (ok : Bool) (s : State) : Host.Outcome State Fault Refusal :=
  act (s.alive && s.flash.susp == 0 && s.flash.op.any (fun o => o.result.isNone)) (pulseEnd ok) s

/-- FLASH_DONE (R363). -/
def execFlashDone (s : State) : Host.Outcome State Fault Refusal :=
  match s.flash.op with
  | some o =>
    match o.result with
    | some r => act s.alive (flashEnd r) s
    | none => .next s
  | none => .next s

/-- AUTO_SUSPEND (R368): a read waits for the bank of an erase with AUTOSUSP, outside the first pulse after a resume. -/
def execAutoSuspend (s : State) : Host.Outcome State Fault Refusal :=
  act (s.alive && s.flash.susp == 0 && !s.bit R.fcStatus 2 &&
      s.flash.op.any (fun o => o.kind == 2 && o.autosusp && o.result.isNone))
    (suspend 2) s

/-- AUTO_RESUME (R368). -/
def execAutoResume (s : State) : Host.Outcome State Fault Refusal := act (s.alive && s.flash.susp == 2) unsuspend s

/-- The boot ROM's reads of the start house or of the installed image wait for the controller (R368). -/
def State.bootWaits (s : State) : Bool := s.flashWaits stageBase || (s.stage.st != 2 && s.stage.st != 3 && s.flashWaits (slotBase 1))

/-- START_HOUSE_COPY (R382): an application-domain start in RUN or FULL. -/
def execStartHouseCopy (s : State) : Host.Outcome State Fault Refusal :=
  act (s.appRuns && s.stage.boot && !s.imageHeld && !s.bootWaits) bootCheck s

/-- COPY_COMPLETE (R385). -/
def execCopyComplete (s : State) : Host.Outcome State Fault Refusal :=
  match s.stage.copy with
  | some c => act (s.alive && c.active && s.copySectors ≤ c.sector) (copyEnd c) s
  | none => .next s

end Sys2Proof.Machine
end

