-- ==== Sys2Proof/Machine/Discipline.lean ====
section
/-! DEFINITION. Slews that a command waits for (R279), and discipline by link firmware: sources, their qualification and loss, the
time parent (R14 to R19, R26). -/
namespace Sys2Proof.Machine

open Sys2Proof

/-! ## Slews that a command waits for (R279) -/

/-- The offset that a slew has left, as six octets: none of one that is zero, whatever MT_SLEW0 has been written since. -/
def State.slewOctets (s : State) : List Octet := natLe 6 (if s.mt.slewZero then 0 else s.multi R.mtSlew0 2)

/-- An effect that may end or replace a slew: the MT_SLEW command that waits for it ends with the offset left. -/
def slewWatch (f : State → State) (s : State) : State :=
  let t := f s
  if s.slewing && !t.slewing then finishRun 0x22 (fun _ => true) St.done t.slewOctets t
  else if s.mt.slewZero && !t.mt.slewZero then finishRun 0x22 (fun _ => true) St.done s.slewOctets t
  else t

/-- MT_SLEW1 written: a slew in progress is replaced, and its command ends with the offset it left. -/
def slewReplace (v : Word) (s : State) : State :=
  let t := if s.slewing || s.mt.slewZero then finishRun 0x22 (fun _ => true) St.done s.slewOctets s else s
  slewStart v t

/-! ## Discipline (R14 to R19, R26) -/

/-- The priority list of MT_SRC: a code of 0 ends it. -/
def State.prioList (s : State) : List Nat := ([0, 1, 2].map (fun i => s.fld R.mtSrc (2 * i) 2)).takeWhile (· ≠ 0)

/-- A source's qualification. -/
def State.srcQual (s : State) (c : Nat) : SrcQual :=
  tabLook { recent := [], qual := false } s.mt.qual c

/-- The most preferred qualified source. -/
def State.bestSrc (s : State) : Option Nat := s.prioList.find? (fun c => (s.srcQual c).qual)

/-- MT_SRC.STEPTHR in counter units. -/
def State.stepThr (s : State) : Nat := 256000 * s.fld R.mtSrc 15 9

/-- The source code of a measurement, and its offset, this node less the source, in counter units; none where R17 rejects the
edge. Half a unit of an odd two-way offset is dropped towards zero (log 88). -/
def DiscOffset : DiscMeasure → Nat × Option Int
  | .ptp o => (1, some o)
  | .pps c =>
    let r := c.toNat % 256000000000
    (2, if r ≤ 256000000 then some (r : Int) else if 255744000000 ≤ r then some ((r : Int) - 256000000000) else none)
  | .mesh t1 t2 t3 t4 => (3, some (((t2 - t1).toInt - (t4 - t3).toInt).tdiv 2))

/-- The path delay that a two-way exchange measures, in counter units (R18). -/
def discDelay : DiscMeasure → Option Int
  | .mesh t1 t2 t3 t4 => some (((t2 - t1).toInt + (t4 - t3).toInt).tdiv 2)
  | _ => none

/-- The greatest less the least of some offsets. -/
def spread : List Int → Int
  | [] => 0
  | x :: l => l.foldl max x - l.foldl min x

/-- The last QUAL of some offsets, newest first, all lie within STEPTHR of one another; QUAL 0 acts as 1 (R14). -/
def State.runOk (s : State) (l : List Int) : Bool :=
  let need := max 1 (s.fld R.mtSrc 11 4)
  decide (need ≤ l.length) && decide (spread (l.take need) ≤ s.stepThr)

/-- A sample joins a source's: the source is qualified once its last QUAL samples all lie within STEPTHR of one another (R14). -/
def qualify (c : Nat) (o : Int) (s : State) : State :=
  let q := s.srcQual c
  let recent := (o :: q.recent).take 15
  s.setMt { s.mt with qual := tabIns (tabDel s.mt.qual c) c { recent := recent, qual := q.qual || s.runOk recent } }

/-- A window of the RTC's automatic trim begins (R448). -/
def trimStart (s : State) : State :=
  { s with bkp := { s.bkp with
      winRtc := s.bkp.rtc, winMt := s.mt.ctr, winStep := O (s.fld R.mtStatus 16 8)
      winOk := s.bit R.rtcCtrl 2 && s.fld R.mtSrc 8 3 == 2 } }

/-- STATE or ACTIVE has changed: its notice (R289), and the trim window of a state that is left or entered (R448). -/
def srcChanged (before : Word) (s : State) : State :=
  let o := bits before 8 3
  let n := s.fld R.mtSrc 8 3
  let s1 := if (o == 2) != (n == 2) then trimStart s else s
  if o = n ∧ bits before 6 2 = s.fld R.mtSrc 6 2 then s1 else noticeMtState s1

/-- What neighbour `n` advertises of its clock: stratum and uncertainty. -/
def State.advert (s : State) (n : Nat) : Option (Nat × Nat) := (s.mt.adverts.find? (fun e => e.1 == n)).map (·.2)

/-- The stratum that the parent of MT_PARENT gives: its own plus one, at most 63; 63 while none is named or it has advertised none
(log 89). -/
def State.meshStratum (s : State) : Nat :=
  match (if s.bit R.mtParent 13 then s.advert (s.fld R.mtParent 0 13) else none) with
  | some e => min 63 (e.1 + 1)
  | none => 63

/-- MT_PARENT.STRATUM while LOCKED: a node that PTP or PPS drives is a root; one that MESH drives follows its parent (R18). -/
def stratumShow (s : State) : State :=
  if s.fld R.mtSrc 8 3 = 2 then s.setFld R.mtParent 14 6 (if s.fld R.mtSrc 6 2 = 3 then s.meshStratum else 0) else s

/-- STATE and ACTIVE of MT_SRC, and the stratum that follows. -/
def setSrc (st act : Nat) (s : State) : State :=
  stratumShow (srcChanged (s.reg R.mtSrc) ((s.setFld R.mtSrc 8 3 st).setFld R.mtSrc 6 2 act))

/-- The offset is corrected: a slew below STEPTHR, a step from there on; a zero offset asks for none (R19). -/
def correct (o : Int) (s : State) : State :=
  if o = 0 then s
  else if o.natAbs < s.stepThr then
    let v := BitVec.ofInt 48 (-o)
    slewReplace (wordOf v 1) (slew0Write (wordOf v 0) s)
  else
    let s1 := s.setMulti (R.mtStep 0) 3 (BitVec.ofInt 72 (-o)).toNat
    s1.setMt { s1.mt with stepPend := true }

/-- RATE is written by the servo (R10). -/
def servoRate (r : BitVec 32) (s : State) : State := rateWrite (wordOf r 1) (s.setReg R.mtRate0 (wordOf r 0))

/-- Link firmware uses a sample of the source that drives the counter: MT_OFFSET, the correction, RATE, and XOSTAB, now that it is
LOCKED (R19, R26). -/
def useSample (c : Nat) (o : Int) (m : DiscSample) (s : State) : State :=
  let s1 := setSrc 2 c s
  let s2 := s1.setMulti (R.mtOffset 0) 2 (BitVec.ofInt 48 o).toNat
  (servoRate m.rate (correct o s2)).setFld R.mtUcfg 0 12 m.rateUnc.toNat

/-- A discipline sample (R14 to R19, R24, R26). A first source is used as it qualifies; a more preferred one from its next
sample (R16). MT_USET is written after every accepted sample (R26). -/
def discipline (m : DiscSample) (s : State) : State :=
  let (c, off) := DiscOffset m.meas
  match off with
  | none => s
  | some o =>
    if m.stepcnt0.toNat ≠ s.fld R.mtStatus 16 8 ∨ !s.prioList.contains c then s
    else
      let locked := s.fld R.mtSrc 8 3 == 2
      let s1 := qualify c o s
      let s1 := s1.setMt { s1.mt with pathDelay := (discDelay m.meas).getD s1.mt.pathDelay }
      let best := if locked then s.bestSrc else s1.bestSrc
      let s2 := if best == some c then useSample c o m s1
        else if s1.fld R.mtSrc 8 3 = 0 then setSrc 1 (s1.fld R.mtSrc 6 2) s1
        else s1
      usetWrite m.uncert s2

/-- A source is lost (R15): the next qualified one takes over, its last offset corrected (log 121), or HOLDOVER begins with the
stability given for it (R26). -/
def sourceLost (c : Nat) (s : State) : State :=
  let s1 := s.setMt { s.mt with qual := s.mt.qual.filter (fun e => e.1 != c) }
  if s1.fld R.mtSrc 8 3 = 2 ∧ s1.fld R.mtSrc 6 2 = c then
    match s1.bestSrc with
    | some d => correct ((s1.srcQual d).recent.headD 0) (setSrc 2 d s1)
    | none => (setSrc 3 c s1).setFld R.mtUcfg 0 12 s1.mt.holdStab.toNat
  else s1

/-- MT_PARENT names neighbour `n` as the time parent. -/
def State.isParent (s : State) (n : Nat) : Bool := s.bit R.mtParent 13 && s.fld R.mtParent 0 13 == n

/-- Neighbour `n` has become LOST: where it is the time parent, the MESH source is lost (R15), and what it advertised goes. -/
def parentLost (n : Nat) (s : State) : State :=
  let s1 := s.setMt { s.mt with adverts := tabDel s.mt.adverts n }
  if s.isParent n then sourceLost 3 s1 else s1

/-- Neighbour `n` is a better time parent than the present one: a lower stratum, or the same and a lower uncertainty (R18). -/
def State.betterParent (s : State) (n : Nat) : Bool :=
  match s.advert n, (if s.bit R.mtParent 13 then s.advert (s.fld R.mtParent 0 13) else none) with
  | some (st, u), some (pst, pu) => decide (st < pst) || (st == pst && decide (u < pu))
  | some _, none => true
  | none, _ => false

/-- Link firmware looks at what neighbour `n` advertises: a node that MT_SOURCE has named no parent takes one from the PINNED
neighbours whose stratum is lower than its own, and the node's stratum follows its parent's (R18, log 89). -/
def parentLook (n : Nat) (s : State) : State :=
  match s.advert n with
  | some (st, _) =>
    stratumShow (if !s.mt.parentSet && s.prioList.contains 3 && s.pinned n && decide (st < s.fld R.mtParent 14 6) && s.betterParent n
      then (s.setBit R.mtParent 13 true).setFld R.mtParent 0 13 n else s)
  | none => s

/-- The TXTIME of a frame of neighbour `n` gives its stratum and its uncertainty, which link firmware looks at while it serves (R18, R295). -/
def stratumUpdate (n : Nat) (tt : List Octet) (s : State) : State :=
  let s1 := s.setMt { s.mt with adverts := tabIns (tabDel s.mt.adverts n) n (bits (octAt tt 9) 0 6, (ofWord3 tt 10).toNat) }
  when s.serves (parentLook n) s1

/-- Link firmware looks at all that neighbours have advertised, as its service resumes. -/
def parentLookAll (s : State) : State := forAll (s.mt.adverts.map (·.1)) parentLook s

/-! ## The commands -/

/-- DISCIPLINE_SAMPLE (R14, R18). -/
def execDisciplineSample (m : DiscSample) (s : State) : Host.Outcome State Fault Refusal :=
  act (s.serves && !s.bridged) (discipline m) s

/-- SOURCE_LOST (R15): MESH is lost with its parent's entry LOST. -/
def execSourceLost (src : BitVec 2) (s : State) : Host.Outcome State Fault Refusal :=
  act (s.serves && src != 0 && (src != 3 || (s.bit R.mtParent 13 && s.nbrState (s.fld R.mtParent 0 13) == 4)))
    (sourceLost src.toNat) s

end Sys2Proof.Machine
end

