-- ==== Sys2Proof/Machine/Nbr.lean ====
section
/-! DEFINITION. The neighbour table, the evicted-record ring and the replay window (R183 to R194, R198 to R200), and misses
(R63, R184). -/
namespace Sys2Proof.Machine

open Sys2Proof

/-- Bits [47:24] of a counter value. -/
def mid24 (t : BitVec 72) : Nat := t.toNat / 2 ^ 24 % 2 ^ 24

/-- LINK's index follows entry `n` (R186). -/
def reindex (n : Nat) (s : State) : State :=
  s.setLink { s.link with
    index := if s.nbrState n = 0 then tabDel s.link.index n
      else tabSet s.link.index n (s.nbrExt n, bits (s.nbr n 4) 16 4, s.nbrShort n) }

/-- The words of a range that memory lists. -/
def State.listed (s : State) (lo hi : Nat) : List Nat := (s.mem.cells.map (fun e => e.1 / 3)).filter (fun w => lo ≤ w && w < hi)

/-- LINK's index after a reset or a loss of link memory: that of the table (log 102), whose entries with a word other than 0 are
listed. -/
def reindexAll (s : State) : State :=
  let l := ((s.listed 0x800000 0x818000).map (fun w => (w - 0x800000) / 12)).eraseDups
  s.setLink { s.link with
    index := l.filterMap (fun n =>
      if s.nbrState n = 0 then none else some (n, (s.nbrExt n, bits (s.nbr n 4) 16 4, s.nbrShort n))) }

/-- The entry that LINK's index gives for an extended address (R186). -/
def State.nbrByExt (s : State) (e : Nat) : Option Nat := (s.link.index.find? (fun x => x.2.1 == e)).map (·.1)

/-- The entry that LINK's index gives for a network and short address (R186). -/
def State.nbrByShort (s : State) (net a : Nat) : Option Nat :=
  (s.link.index.find? (fun x => x.2.2.1 == net && x.2.2.2 == a && a != 0xFFFE)).map (·.1)

/-- H of an entry. -/
def State.nbrH (s : State) (n : Nat) : Nat := (s.nbr n 5).toNat + 2 ^ 24 * bits (s.nbr n 6) 0 8

/-- The replay bitmap of an entry. -/
def State.nbrWin (s : State) (n : Nat) : Nat := (s.nbr n 7).toNat + 2 ^ 24 * (s.nbr n 8).toNat

/-- H and the bitmap of an entry replaced. -/
def setWindow (n h win : Nat) (s : State) : State :=
  setNbr n 8 (W (win / 2 ^ 24)) (setNbr n 7 (W win) (setNbrFld n 6 0 8 (h / 2 ^ 24) (setNbr n 5 (W h) s)))

/-- The tone-map ID of an entry (R183). -/
def State.tmid (s : State) (n : Nat) : Nat := bits (s.nbr n 0) 5 11

/-- The tone-map ID that entry `n` held before names its map no more: TMHOLD runs from now (R158). -/
def unname (n before : Nat) (s : State) : State :=
  if before ≠ 0 ∧ (s.tmid n ≠ before ∨ s.nbrState n = 0) then s.setLink { s.link with tmLast := tabSet s.link.tmLast before s.now } else s

/-- A PINNED entry has changed to STALE, LOST or FRESH again: NBR_STATE (R289). -/
def noticeNbr (n st : Nat) (s : State) : State := when (s.pinned n) (notice 3 0x30 (natLe 2 n ++ [O st])) s

/-- A beacon's absence (R63, R184): an entry that is EMPTY keeps its words (R188); the time parent's loss is the loss of MESH (R15). -/
def beaconMiss (n : Nat) (s : State) : State :=
  if s.nbrState n = 0 then s else
  let m := min 255 (bits (s.nbr n 0) 16 8 + 1)
  let lq := bits (s.nbr n 10) 8 8
  let s1 := setNbrFld n 10 8 8 (lq - lq / 16) (setNbrFld n 0 16 8 m s)
  let st := s1.nbrState n
  let lost := max 4 (s.fld R.nbrCfg 0 8)
  if m = 3 ∧ (st = 1 ∨ st = 2) then
    noticeNbr n 3 (fire 0x29 ((setNbrFld n 10 16 8 255 (setNbrFld n 0 0 3 3 s1)).count (R.nbrCounters 9)))
  else if m = lost ∧ st ≠ 0 ∧ st ≠ 4 then
    parentLost n (noticeNbr n 4 (fire 0x2A ((setNbrFld n 0 0 3 4 s1).count (R.nbrCounters 10))))
  else s1

/-! ## The ring (R189, R190) -/

/-- Address of ring record `r`. -/
def ringAddr (r : Nat) : Nat := 0x864000 + 4 * r

/-- HASH of an extended address (R189). -/
def ringHash (ext : Nat) : Nat := crc24 (natLe 8 ext)

/-- The ring records a frame's source and slot match (R189). -/
def State.ringMatches (s : State) (ext k : Nat) : List Nat :=
  let h := ringHash ext
  (List.range 4096).filter (fun r =>
    bitOf (s.mw (ringAddr r + 2)) 23 && (s.mw (ringAddr r)).toNat == h && bits (s.mw (ringAddr r + 2)) 16 4 == k &&
      s.mw (ringAddr r + 3) == s.reg (R.keySeq k))

/-- The counter a ring record holds. -/
def State.ringCtr (s : State) (r : Nat) : Nat := (s.mw (ringAddr r + 1)).toNat + 2 ^ 24 * bits (s.mw (ringAddr r + 2)) 0 8

/-- A ring record for entry `n`; a VALID one it overwrites counts, sets RINGWRAP and fires (R190). -/
def ringRecord (n : Nat) (s : State) : State :=
  let r := s.fld R.nbrRingptr 0 12
  let k := bits (s.nbr n 4) 20 4
  let past := bitOf (s.mw (ringAddr r + 2)) 23
  let first := !s.bit R.nbrStatus 23
  let s1 := if past then
      let t := fire 0x28 ((s.count (R.nbrCounters 7)).setBit R.nbrStatus 23 true)
      if first then notice 3 0x31 (word3 (t.reg (R.nbrCounters 7))) t else t
    else s
  let s2 := engWrites (ringAddr r)
    [W (ringHash (s.nbrExt n)), W (s.nbrH n), W (2 ^ 23 + k * 2 ^ 16 + s.nbrH n / 2 ^ 24), s.reg (R.keySeq k)] s1
  s2.setFld R.nbrRingptr 0 12 ((r + 1) % 4096)

/-- What an entry's change to or from EMPTY does inside LINK: its confirmation count and drift state are cleared (R198,
R200). -/
def forget (n : Nat) (s : State) : State :=
  s.setLink { s.link with
    conf := tabDel s.link.conf n, drift := s.link.drift.filter (fun e => e.1 != n)
    sounding := s.link.sounding.filter (fun e => e.1 != n) }

/-! ## Admission and eviction (R185, R188) -/

/-- The entry that an admission evicts: not EMPTY, not PINNED, its last frame the oldest. -/
def State.evictee (s : State) : Option Nat :=
  let age := fun n => (mid24 s.mt.ctr + 2 ^ 24 - (s.nbr n 9).toNat) % 2 ^ 24
  ((List.range 8192).filter (fun n => s.nbrState n != 0 && !s.pinned n)).foldl
    (fun b n => match b with | some m => if age m < age n then some n else some m | none => some n) none

/-- An entry can be admitted. -/
def State.admits (s : State) : Bool :=
  s.bit R.nbrCtrl 1 && (List.range 8192).any (fun n => s.nbrState n == 0 || !s.pinned n)

/-- An unknown sender is admitted (R185): the lowest EMPTY entry, or the one freed by an eviction; ring records that matched
lose VALID. -/
def admitNbr (ext k net c rssi : Nat) (ts : BitVec 72) (s : State) : Nat × State :=
  let (n, s1) := match (List.range 8192).find? (fun n => s.nbrState n == 0) with
    | some n => (n, s)
    | none =>
      match s.evictee with
      | some n => (n, forget n (ringRecord n (s.count (R.nbrCounters 6))))
      | none => (0, s)
  let mine := (s.ringMatches ext k).filter (fun r => s1.fld R.nbrRingptr 0 12 == s.fld R.nbrRingptr 0 12 || r != s.fld R.nbrRingptr 0 12)
  let s2 := forAll mine (fun r t => engWrite (ringAddr r + 2) (setBits (t.mw (ringAddr r + 2)) 23 1 0) t) s1
  let s3 := engWrites (nbrAddr n 0)
    [1, W ext, W (ext / 2 ^ 24), W (ext / 2 ^ 48), W (k * 2 ^ 20 + net * 2 ^ 16 + 0xFFFE), W c, W (c / 2 ^ 24), 1, 0,
     W (mid24 ts), W (255 * 2 ^ 16 + 128 * 2 ^ 8 + rssi), 0] s2
  (n, reindex n (unname n (s1.tmid n) (forget n (s3.count (R.nbrCounters 5)))))

/-! ## Replay (R192) -/

/-- How a counter is judged. -/
inductive Replay where
  | accept
  | duplicate
  | old
  | oldKey
  deriving DecidableEq, Repr

/-- The judgement of a frame of slot `k` with counter `c` against entry `n` (R192). -/
def State.replay (s : State) (n k c : Nat) : Replay :=
  let ek := bits (s.nbr n 4) 20 4
  if ek ≠ k then
    if (s.reg (R.keySeq ek)).toNat < (s.reg (R.keySeq k)).toNat then .accept else .oldKey
  else
    let h := s.nbrH n
    if h < c then .accept
    else if h - c ≤ 47 then (if s.nbrWin n / 2 ^ (h - c) % 2 = 1 then .duplicate else .accept)
    else .old

/-- H and the bitmap after an accepted counter (R192). -/
def windowUpdate (n k c : Nat) (s : State) : State :=
  let h := s.nbrH n
  let win := s.nbrWin n
  if bits (s.nbr n 4) 20 4 ≠ k then setWindow n c 1 s
  else if h < c then
    let win2 := if c - h < 48 then win * 2 ^ (c - h) % 2 ^ 48 else 0
    setWindow n c (win2 / 2 * 2 + 1) s
  else if win / 2 ^ (h - c) % 2 = 1 then s
  else setWindow n h (win + 2 ^ (h - c)) s

/-! ## Updates of an accepted frame (R184, R198, R199) -/

/-- x + (y − x) / d, the quotient truncated towards zero. -/
def towards (x y : Int) (d : Nat) : Int := x + (y - x).tdiv d

/-- The drift sample of a frame with TXTIME (R198), in counter units of 1/256 ns throughout, so that nothing is rounded early. -/
def driftUpdate (n : Nat) (txtime : List Octet) (ts : BitVec 72) (s : State) : State :=
  let sent : BitVec 72 := BitVec.ofNat 72 (leNat (txtime.take 9))
  let e := signed (ts - sent).toNat 72
  let t := ts.toNat
  let st := (octAt txtime 13).toNat
  let mine := s.fld R.mtStatus 16 8
  let ref := s.link.drift.find? (fun x => x.1 == n)
  let put := fun dev (u : State) => u.setLink { u.link with
    drift := (n, ({ e := e, t := t, dev := dev, step := st, mine := mine } : DriftRef)) :: u.link.drift.filter (fun x => x.1 != n) }
  match ref with
  | none => put 0 s
  | some (_, r) =>
    let dt := (ts - BitVec.ofNat 72 r.t).toNat
    if dt < 256000000000 ∨ 2 ^ 71 ≤ dt ∨ r.mine ≠ mine ∨ r.step ≠ st then put r.dev s
    else
      let k := 2 ^ s.fld R.nbrCfg 12 3
      let drift := signed (bits (s.nbr n 6) 8 16) 16
      let d := roundDiv ((e - r.e) * 100000000) dt
      let res := d - drift
      let drift2 := max (-32768) (min 32767 (drift + res.tdiv k))
      let dev2 := r.dev + ((res.natAbs : Int) - r.dev).tdiv k
      let unc := min 255 (max (s.fld R.nbrCfg 16 8 : Int)
        (drift2.natAbs + 2 * dev2 + ((256 * 6000000000 + dt - 1) / dt : Nat)))
      put dev2 (setNbrFld n 10 16 8 unc.toNat (setNbrFld n 6 8 16 (drift2 % 65536).toNat s))

/-- LQ after an outcome of quality `q` (R199); an EMPTY entry keeps its words (R188). -/
def lqUpdate (n q : Nat) (s : State) : State :=
  if s.nbrState n = 0 then s else setNbrFld n 10 8 8 (towards (bits (s.nbr n 10) 8 8) q 16).toNat s

/-- The stronger of two path levels, signed dBm, 0x80 meaning not used. -/
def stronger (a b : Octet) : Octet := if signed a.toNat 8 < signed b.toNat 8 then b else a

/-- The changes every accepted frame makes to its entry (R184, R199). -/
def entryUpdate (n k net : Nat) (f : RxFrame) (admitted : Bool) (s : State) : State :=
  let st := s.nbrState n
  let cnt := tabLook 0 s.link.conf n + 1
  let s1 := if admitted then s
    else if st = 1 then
      if max 1 (s.fld R.nbrCfg 8 4) ≤ cnt then (setNbrFld n 0 0 3 2 s).setLink { s.link with conf := tabDel s.link.conf n }
      else s.setLink { s.link with conf := tabPut 0 s.link.conf n cnt }
    else if st = 3 ∨ st = 4 then noticeNbr n 2 (setNbrFld n 0 0 3 2 s)
    else s
  let rssi := signed (bits (s1.nbr n 10) 0 8) 8
  let new := towards rssi (signed (stronger f.rssi1 f.rssi2).toNat 8) 8
  let s2 := setNbrFld n 10 0 8 (new % 256).toNat (setNbrFld n 0 16 8 0 s1)
  reindex n (setNbr n 9 (W (mid24 f.ts)) (setNbrFld n 4 16 8 (k * 16 + net) s2))

/-! ## Writing entries (R200, R188) -/

/-- NBR.COMMIT written: with GO the masked staged words go into the entry as one step; a PINNED entry that they make STALE, LOST
or FRESH again is noticed (R289). -/
def nbrCommitWrite (v : Word) (s : State) : State :=
  let s1 := plainWrite R.nbrCommit v s
  if !bitOf v 13 then s1
  else
    let n := bits v 0 13
    let before := s1.nbrState n
    let m := s1.reg R.nbrWmask
    let m0 := s1.reg R.nbrW0mask
    let st := s1.reg (R.nbrStage 0)
    let w0 := (s1.nbr n 0 &&& ~~~m0) ||| (st &&& m0)
    let empties := bitOf m 0 && before != 0 && bits w0 0 3 == 0
    let s2 := if empties && !bitOf v 14 then ringRecord n s1 else s1
    let s3 := forAll (List.range 12) (fun j t =>
      if !bitOf m j then t else setNbr n j (if j = 0 then w0 else t.reg (R.nbrStage j)) t) s2
    let s4 := reindex n (unname n (s1.tmid n) (if (s3.nbrState n == 0) != (before == 0) then forget n s3 else s3))
    let st := s4.nbrState n
    when (st != before && (st == 3 || st == 4 || (st == 2 && (before == 3 || before == 4)))) (noticeNbr n st) s4

/-- Entries not EMPTY (NBR.STATUS.ENTRIES). -/
def State.nbrEntries (s : State) : Nat := ((List.range 8192).filter (fun n => s.nbrState n != 0)).length

/-- Link firmware rewrites old HEARD values (R62). -/
def heardRefresh (s : State) : State :=
  let now := mid24 s.mt.ctr
  forAll (List.range 8192) (fun n t =>
    if t.nbrState n != 0 && decide (2 ^ 23 < (now + 2 ^ 24 - (t.nbr n 9).toNat) % 2 ^ 24) then
      setNbr n 9 (W (now + 2 ^ 23)) t
    else t) s

/-- NBR_COMMIT (R200). -/
def execNbrCommit (w : Who) (v : Word) (s : State) : Host.Outcome State Fault Refusal :=
  act (s.mayWrite w R.nbrCommit) (nbrCommitWrite (setBits v 13 1 1)) s

/-- HEARD_REFRESH (R62). -/
def execHeardRefresh (s : State) : Host.Outcome State Fault Refusal := act s.serves heardRefresh s

/-- KEY_WALK_DONE (R179). -/
def execKeyWalkDone (slot : Fin 16) (s : State) : Host.Outcome State Fault Refusal :=
  act (s.linkRuns && s.bit R.linkCtrl 0 && s.bit (R.keyCfg slot.val) 21)
    (fun s => finishRun 0x50 (fun p => octAt p 0 == O slot.val) St.done (word3 (s.reg (R.keySeq slot.val))) (walkDone slot.val s)) s

end Sys2Proof.Machine
end

