-- ==== Sys2Proof/Machine/Link.lean ====
section
/-! DEFINITION. LINK's judgement of received frames (R181, R187, R193 to R197, R471), acknowledgements, and measurement records
(R159). -/
namespace Sys2Proof.Machine

open Sys2Proof

/-! ## Outcomes of transmissions that expect an acknowledgement (R213, R199) -/

/-- TRIES exceed the retry limit of the class (R213). -/
def State.triesOut (s : State) (c : Nat) (d : Word) : Bool := decide (s.fld R.fwdRetry (3 * c) 3 < s.tries d)

/-- A record's w4 bears FWD's form (R210): zero outside the destination's node index, ALT and the class. -/
def State.fwdForm (s : State) (d : Word) : Bool := bits (s.mw (bufBase (bits d 0 12) + 4)) 17 7 == 0

/-- A frame that a gate removes after its last attempt: RESULT NO_ACK, the spill queue, or freed, or dropped (R213). -/
def removeFrame (q : Nat) (d : Word) (s : State) : State :=
  let s1 := setResult d St.noAck (when (s.fwdForm d) (fun t => t.count (R.fwdCounters 12)) s)
  if s1.bit (R.qCfg q) 20 then (hwPush (s1.fld (R.qCfg q) 13 7) d s1).2
  else if s1.bit (R.qCfg q) 21 then freeChain d s1
  else s1

/-- The wait for an acknowledgement ends without one (R213). -/
def ackFailed (b : Nat) (wt : AckWait) (s : State) : State :=
  let s1 := lqUpdate wt.nbr 0 (s.setBand b { s.band b with wait := none })
  match wt.tx.src with
  | .gate g i =>
    match s1.activ g i with
    | some a =>
      let s2 := match a.desc with
        | some d => if s1.triesOut (gClass a.w) d then removeFrame (bits (gArg a.w) 0 7) d s1 else returnHead a (setResult d St.noAck s1)
        | none => s1
      releaseAct a s2
    | none => s1
  | .command t tag =>
    match wt.tx.desc with
    | some d =>
      let s2 := match wt.tx.ackLane with | some n => freeLane n s1 | none => s1
      if s2.triesOut wt.tx.cls d then cmdTxEnd t tag St.noAck { wt.tx with ackLane := none } (setResult d St.noAck s2)
      else s2.setBand b { s2.band b with waiting := (s2.band b).waiting ++ [{ wt.tx with
        ackLane := none, tuned := false, cca := s2.askedCca wt.tx, up := false, begun := false, latest := 0, retry := true }] }
    | none => cmdTxEnd t tag St.noAck wt.tx s1
  | .ack => s1

/-- The acknowledgement has come (R197, R213). -/
def ackGot (b : Nat) (wt : AckWait) (s : State) : State :=
  let s1 := lqUpdate wt.nbr 255 ((s.count (R.linkCounters 14)).setBand b { s.band b with wait := none })
  match wt.tx.src with
  | .gate g i =>
    match s1.activ g i with
    | some a =>
      let s2 := match a.desc with | some d => freeChain d (setResult d St.done s1) | none => s1
      releaseAct a s2
    | none => s1
  | .command t tag =>
    match wt.tx.desc with
    | some d => cmdTxEnd t tag St.done wt.tx (setResult d St.done s1)
    | none => cmdTxEnd t tag St.done wt.tx s1
  | .ack => s1

/-- A timestamp lies within tolerance of the expected instant (R197). -/
def State.ackTimely (s : State) (wt : AckWait) (ts : BitVec 72) : Bool :=
  let e := wt.sent + 1000 * s.ackDly
  let tol := 1000 * s.fld R.linkAckcfg 16 8
  nsLe (nsBack e tol) (nsOf ts) && nsLe (nsOf ts) (e + tol)

/-- A frame of lane `n` came on the acknowledgement lane of a wait, or on a lane that has left it to this one (R129). -/
def onAckLane (wt : AckWait) (n : Nat) (f : RxFrame) : Bool :=
  match wt.tx.ackLane with
  | some m => m == n || f.twins.contains m
  | none => false

/-- A frame under reception or waiting for its verdict could still be the acknowledgement (R471). -/
def State.ackPending (s : State) (wt : AckWait) : Bool :=
  s.link.inbox.any (fun x => onAckLane wt x.lane x.fr && s.ackTimely wt x.fr.ts) ||
    (List.range 16).any (fun n => match (s.lane n).frame with
      | some f => onAckLane wt n f && s.ackTimely wt f.ts
      | none => false)

/-- A wait that is over and has no verdict pending is settled. -/
def settleWait (b : Nat) (s : State) : State :=
  match (s.band b).wait with
  | some wt => if wt.elapsed && !s.ackPending wt then ackFailed b wt s else s
  | none => s

/-! ## Windows of RX_EXPECT and RX_SOUND (R63, R471) -/

/-- A timestamp lies within an activation's detection window. -/
def inWindow (a : Activ) (ts : BitVec 72) : Bool := nsLe (nsBack a.inst a.guard) (nsOf ts) && nsLe (nsOf ts) (a.inst + a.guard)

/-- A frame may belong to the activation's window: it was detected in it, on its lane or on one that left the frame to another. -/
def forWindow (a : Activ) (f : RxFrame) : Bool := f.acts.contains (a.gate, a.iter) && inWindow a f.ts

/-- A frame that belongs to the activation's window is under reception or waits for its verdict. -/
def State.winPending (s : State) (a : Activ) : Bool :=
  s.link.inbox.any (fun x => forWindow a x.fr) ||
    (List.range 16).any (fun n => match (s.lane n).frame with
      | some f => forWindow a f
      | none => false)

/-- A beacon RX_EXPECT activation: ARG.BEACON. -/
def isBeacon (w : List Word) : Bool := gAction w == 2 && bitOf (gArg w) 23

/-- An activation closes without its frame. -/
def closeMissed (a : Activ) (s : State) : State := when (isBeacon a.w) (beaconMiss (gNbr a.w)) s

/-- Activations whose window has ended and whose last verdict has come are settled. -/
def settleWindows (s : State) : State :=
  forAll (s.gates.acts.filter (fun a => a.phase == 4))
    (fun a t => if t.winPending a then t else closeMissed a (dropAct a.gate a.iter t)) s

/-- Windows and acknowledgement waits that are over are settled wherever the last frame they waited for has gone: by its verdict, or lost
before it had one (R471). -/
def settle (s : State) : State := settleWindows (settleWait 1 (settleWait 0 s))

/-- An accepted frame of neighbour `n` closes the windows it belongs to (R54, R471). -/
def windowGot (n : Nat) (x : RxDone) (s : State) : State :=
  forAll (s.gates.acts.filter (fun a => (gAction a.w == 2 || gAction a.w == 6) && gNbr a.w == n &&
      forWindow a x.fr && 2 ≤ a.phase))
    (fun a t =>
      let t1 := if a.phase = 4 then dropAct a.gate a.iter t else releaseAct a t
      when (isBeacon a.w) (lqUpdate n 255) t1) s

/-! ## Judging a frame (R181) -/

/-- What LINK knows of a frame that passes R181 or R178: descriptor, header, network, key slot, counter, plaintext
payload, the neighbour (none: unknown so far), the source's extended address. -/
structure Judged where
  d : Nat
  h : Mhr
  net : Nat
  key : Nat
  ctr : Nat
  pay : List Octet
  nbr : Option Nat
  ext : Nat
  unsec : Bool
  deriving DecidableEq, Repr

/-- How a frame ends in R181's checks: dropped with a count in LINK's (false) or NBR's (true) counters, a duplicate, or
passed. -/
inductive Verdict where
  | drop (nbr : Bool) (m : Nat)
  | dup (j : Judged) (n : Nat)
  | pass (j : Judged)
  deriving DecidableEq, Repr

/-- The network a frame belongs to (R176): by destination PAN, else by source PAN, else its key slot's. -/
def State.netOf (s : State) (h : Mhr) : Option Nat :=
  let byPan := fun p => (List.range 16).find? (fun n => s.bit (R.netPan n) 16 && s.fld (R.netPan n) 0 16 == p)
  match h.dstPan, h.srcPan with
  | some p, _ => byPan p
  | none, some p => byPan p
  | none, none =>
    if h.sec && h.keyMode == 1 && 1 ≤ h.keyIdx && h.keyIdx ≤ 16 then
      let n := s.keyNet (h.keyIdx - 1)
      if s.bit (R.netPan n) 16 then some n else none
    else none

/-- The frame's destination is this node, broadcast, or absent (R181 step 3). -/
def State.forMe (s : State) (h : Mhr) : Bool :=
  match h.dst with
  | none => true
  | some (m, a) =>
    if m = 2 then
      a == 0xFFFF || (match s.netOf h with | some n => s.short n == a && a != 0xFFFE | none => false)
    else a == s.self

/-- The destination is broadcast or absent. -/
def Mhr.bcast (h : Mhr) : Bool := match h.dst with | none => true | some (m, a) => m == 2 && a == 0xFFFF

/-- The level meets a descriptor's minimum (R177). -/
def levelMeets (level min_ : Nat) : Bool :=
  level % 4 != 0 && decide (micLen min_ ≤ micLen level) && (!levelEnc min_ || levelEnc level)

/-- The checks of R181 in order. -/
def State.judge (s : State) (x : RxDone) : Verdict :=
  if x.status ≠ 0 then .drop false 1
  else
    match parseMhr x.psdu with
    | none => .drop false 2
    | some h =>
      match s.descRx x.fr.bank h.fc with
      | none => .drop false 2
      | some d =>
        let w2 := s.descWord x.fr.bank d 2
        if !s.forMe h then .drop false 3
        else
          match s.netOf h with
          | none => .drop false 4
          | some net =>
            if !h.sec then
              if bitOf (s.descWord x.fr.bank d 0) 20 then
                .pass { d := d, h := h, net := net, key := 0, ctr := 0, pay := x.psdu.drop h.len, nbr := none, ext := 0, unsec := true }
              else .drop false 5
            else
              let k := h.keyIdx - 1
              match h.ctr with
              | none => .drop false 6
              | some c =>
                if h.keyMode ≠ 1 ∨ h.keyIdx = 0 ∨ 16 < h.keyIdx ∨ !s.keyValid k ∨ s.keyNet k ≠ net then .drop false 6
                else if !levelMeets h.level (bits w2 0 3) then .drop false 7
                else
                  let who := match h.src with
                    | some (3, a) => some (a, s.nbrByExt a)
                    | some (_, a) => (s.nbrByShort net a).map (fun n => (s.nbrExt n, some n))
                    | none => none
                  match who with
                  | none => .drop false 8
                  | some (ext, nb) =>
                    let (pay, ok) := openFrame (s.key k) ext c h.level h.len x.psdu
                    let j : Judged := { d := d, h := h, net := net, key := k, ctr := c, pay := pay, nbr := nb, ext := ext, unsec := false }
                    if !ok then .drop false 9
                    else
                      match nb with
                      | some n =>
                        match s.replay n k c with
                        | .oldKey => .drop true 2
                        | .old => .drop true 0
                        | .duplicate => .dup j n
                        | .accept => .pass j
                      | none =>
                        let l := s.ringMatches ext k
                        if l.any (fun r => c ≤ s.ringCtr r) then .drop true 3
                        else if !s.admits then .drop true 4
                        else .pass j

/-! ## Acknowledgements (R195, R196) -/

/-- An Enhanced Acknowledgement's header and content (log 8): to the sender, from SELF, with ACKINFO. -/
def State.ackPlain (s : State) (x : RxDone) (j : Judged) (c : Nat) : List Octet :=
  let short := match j.h.src with | some (2, _) => true | _ => false
  let a := match j.h.src with | some (_, v) => v | none => 0
  let fc := 0x2 + 0x8 + (if short then 0x40 else 0) + 0x200 + (if short then 2 else 3) * 0x400 + 0x2000 + 0xC000
  natLe 2 fc ++ [O c] ++ natLe 2 (s.fld (R.netPan j.net) 0 16) ++ (if short then natLe 2 a else natLe 8 a) ++
    natLe 8 s.self ++ [O (j.h.level + 8)] ++ natLe 4 c ++ [O (j.key + 1)] ++
    heroftIe (s.oui x.fr.bank) 4 (natLe 4 j.ctr ++ natLe 9 x.fr.ts.toNat)

/-- Octets of the acknowledgement that a received frame would get, without FCS. -/
def ackLen (x : RxDone) : Nat :=
  match parseMhr x.psdu with
  | none => 0
  | some h => (match h.src with | some (2, _) => 40 | _ => 46) + micLen h.level

/-- FCS octets of an acknowledgement to a frame: those of the frame's profile. -/
def State.ackFcs (s : State) (x : RxDone) : Nat := fcsOf x.fr.mode (bitOf (s.profWord x.fr.bank x.fr.prof 3) 19)

/-- Airtime of an acknowledgement in the mode of R154, with the FCS of the frame's profile. -/
def State.ackAir (s : State) (x : RxDone) (len : Nat) : Nat :=
  let mcs := match x.fr.hdr with | some h => hUcon h | none => 0
  s.airtimeM x.fr.bank x.fr.prof x.fr.mode mcs (len + s.ackFcs x) (0, false, true, 2 * tlTones (x.fr.mode - 0x40)) false

/-- The PHY header of a TL-OFDM acknowledgement (R149, R154): TMID 0, QPSK, rate 1/2, a 1,152-bit block, a 20 µs prefix. -/
def State.ackHdr (s : State) (x : RxDone) (len : Nat) : BitVec 52 :=
  if isTl x.fr.mode then headerOf 0 0 (len + s.ackFcs x) false 0 true 2 (Config.freeNat s.draws % 16) else 0

/-- The port an acknowledgement leaves: the frame's, or the stronger path's for a combined lane. -/
def ackPort (x : RxDone) : Nat :=
  match x.fr.input % 4 with
  | 1 => 1
  | 2 => 2
  | _ => if signed x.fr.rssi1.toNat 8 < signed x.fr.rssi2.toNat 8 then 2 else 1

/-- The claim of an acknowledgement in class `c`: its pre-tune instant is the frame's end (R196). -/
def ackRank (x : RxDone) (c : Nat) : Claim := { cls := c, pre := nsOf x.ended, gate := none }

/-- The band's chain after an acknowledgement's claim of it (R69, R196): none where it is held by a claim of equal or higher rank, the
band is out of service or has no antenna, or an earlier claim of class 0 would be held off (`late`). A background slice on SYNT gives
way (R108). -/
def ackChain (x : RxDone) (c : Nat) (late : Bool) (s : State) : Option State :=
  let b := x.band
  let k := ackRank x c
  if late || !s.feUp b || (s.txPort b (ackPort x)).isNone then none
  else
    match (s.band b).chain with
    | none => (claimIdle b c s).bind (fun t => claimSyn b [2] 1024 k (preemptUses b [2] t))
    | some r => if s.chainYields k r then claimSyn b [2] 1024 k (preemptUses b [2] (loseChain b k r s)) else none

/-- An acknowledgement takes the chain at its default power (R195): the octets `p` for a frame `x`, cached or built, in class `c`. SYNT is
tuned for it, or will be once the tune under way has ended (R108). -/
def ackRequest (x : RxDone) (c : Nat) (p : List Octet) (s : State) : State :=
  let b := x.band
  let bk := x.fr.bank
  let rs := 128 * b + 8 * 3 + (ackPort x - 1)
  let port := (s.portOf bk b rs (ackPort x)).getD (ackPort x)
  let inst := (nsOf x.ended + 1000 * s.ackDly) % 2 ^ 64
  let (code, capped, drive, bias) := s.txPower bk b port (min (pwrMax b) (s.fld (R.txcCfg b) 16 8))
  let free := s.tuning b 2 == 0
  let r : TxReq :=
    { src := .ack, cls := c, chan := x.fr.chan, prof := x.fr.prof, mode := x.fr.mode, port := port, routine := rs, bank := bk, psdu := p, seal_ := none,
      hdr := s.ackHdr x p.length, air := s.ackAir x p.length, freq := (s.calWord bk x.fr.chan 0).toNat,
      trim := s.calWord bk x.fr.chan 2, inst := inst, latest := inst, ramp := s.rampOf bk b rs, pwr := code, drive := drive,
      bias := bias, cca := false, expect := none, ackLane := none, desc := none, tuned := free, up := false, begun := false, launch := 0,
      retry := false, codes := if isTl x.fr.mode then List.replicate (tlTones (x.fr.mode - 0x40)) 2 else [], fb := [], sent := none }
  let s1 := when capped (fun t => t.count (R.txcCounters b 4)) s.drawn
  setChain b (some r) (if free then tuneSynIn bk b 2 x.fr.chan s1 else s1)

/-- Of the cached acknowledgements, those not sent yet and the last 256 sent (R195). -/
def trimAcks (l : List AckCached) : List AckCached := l.filter (fun a => !a.sent) ++ (l.filter (·.sent)).take 256

/-- The entry added to the acknowledgement cache, the newest first. -/
def cacheAck (e : AckCached) (s : State) : State :=
  s.setLink { s.link with acks := trimAcks (e :: s.link.acks.filter (fun a => !(a.nbr == e.nbr && a.ctr == e.ctr))) }

/-- The acknowledgement of these octets has left completely: it is the last sent. -/
def ackSent (p : List Octet) (s : State) : State :=
  s.setLink { s.link with acks := trimAcks ((s.link.acks.filter (fun a => a.psdu == p)).map (fun a => { a with sent := true }) ++
    s.link.acks.filter (fun a => a.psdu != p)) }

/-- An accepted frame of neighbour `n` is acknowledged: whether an acknowledgement is scheduled. -/
def ackFrame (x : RxDone) (j : Judged) (n c : Nat) (late : Bool) (s : State) : Bool × State :=
  if s.txlim j.key ≤ s.txctr j.key ∨ !s.bit (R.keyCfg j.key) 22 then (false, s.count (R.linkCounters 13))
  else
    match ackChain x c late s with
    | none => (false, s.count (R.linkCounters 13))
    | some s0 =>
      let (ctr, s1) := takeCtr j.key s0
      let p := secure (s1.key j.key) s1.self ctr j.h.level (s1.ackPlain x j ctr) []
      (true, cacheAck { nbr := n, ctr := j.ctr, psdu := p, sent := false } (ackRequest x c p s1))

/-- A duplicate that asks for an acknowledgement (R193): that of its first copy is sent again once it has left completely. -/
def reack (x : RxDone) (j : Judged) (n c : Nat) (late : Bool) (s : State) : State :=
  match s.link.acks.find? (fun a => a.nbr == n && a.ctr == j.ctr) with
  | none => s.count (R.linkCounters 12)
  | some a =>
    if !a.sent then s
    else
      match ackChain x c late s with
      | some t => ackRequest x c a.psdu (t.count (R.linkCounters 11))
      | none => s.count (R.linkCounters 13)

/-! ## Delivery -/

/-- The receive record (R173, R174). -/
def rxRecord (x : RxDone) (j : Judged) (n c : Nat) (acked : Bool) : List Word :=
  let t := x.fr.ts.toNat
  [W (j.d * 2 ^ 18 + c * 2 ^ 16 + n), W t, W (t / 2 ^ 24), W (t / 2 ^ 48),
   W ((stronger x.fr.rssi1 x.fr.rssi2).toNat * 2 ^ 16 + x.fr.snr.toNat * 2 ^ 8 + x.fr.mode),
   W (x.lane * 2 ^ 20 + j.key * 2 ^ 16 + j.h.level * 2 ^ 13 + (if j.h.bcast then 2 ^ 12 else 0) + (if acked then 2 ^ 11 else 0) +
     (if j.unsec then 2 ^ 10 else 0)),
   W j.ctr, W (j.ctr / 2 ^ 24)]

/-- FWD takes a frame (R206, R211): with EN = 0 it goes to QSEL.FWQ uncounted. -/
def fwdHand (f : FwdFrame) (s : State) : State :=
  let q := s.fld R.fwdQsel 7 7
  if !s.bit R.fwdCtrl 0 then (hwPushIf (fwdPushes q) q f.desc s).2
  else if f.cls = 0 then
    let s1 := when (127 < f.psdu) (fun t => t.count (R.fwdCounters 9)) s
    let s2 := when (!s1.fwd.c0.isEmpty) (fun t => t.count (R.fwdCounters 10)) s1
    { s2 with fwd := { s2.fwd with c0 := s2.fwd.c0 ++ [f] } }
  else { s with fwd := { s.fwd with other := s.fwd.other ++ [f] } }

/-- FWD takes the words waiting on QSEL.INJQ into its pipelines, in their order (R206, R211). -/
def takeInjected : Nat → State → State
  | 0, s => s
  | fuel + 1, s =>
    let (d, s1) := qPop (s.fld R.fwdQsel 0 7) s
    if d == 0xFFFFFF then s1
    else
      let (w4, s2) := engWord 8 (bufBase (bits d 0 12) + 4) s1
      takeInjected fuel (fwdHand { desc := d, rx := false, cls := bits w4 16 2, psdu := descLen d + 6 } s2)

/-- What stands on INJQ has come to FWD before anything that comes after (R211). Only a queue that FWD may pop under R218 serves as
INJQ. -/
def fwdInject (s : State) : State :=
  let inj := s.fld R.fwdQsel 0 7
  when (fwdPops inj) (takeInjected (s.qCount inj)) s

/-- The measurement record of a sounding or measured frame (R159), pushed onto MEASQ. -/
def measureRecord (x : RxDone) (n c : Nat) (s : State) : State :=
  match x.fr.hdr with
  | none => s
  | some h =>
    if isTl x.fr.mode && (hType h == 1 || hType h == 2) then
      let w := x.fr.mode - 0x40
      let bps := if hTmid h = 0 then tlTones w * conBits (hUcon h) else (x.fr.codes.map conBits).sum
      let sym := (tlAirtime w (hLen h) (hRate h) (hBlk h) (bitOf h 30) bps false - 340 - 100 * (4 / 2 ^ w)) /
        (if bitOf h 30 then 100 else 90)
      let obs := if hType h = 1 then 10 else min 255 (2 + sym)
      let ws := [W (w * 2 ^ 22 + (if hType h = 1 then 0 else 2 ^ 21) + n * 2 ^ 8 + obs), W (mid24 x.fr.ts),
        W ((if hBlk h then 2 ^ 23 else 0) + x.spread)] ++ (x.tones ++ List.replicate (tlTones w) 0).take (tlTones w)
      match storeChunks c 16 ws s with
      | (some b, t) =>
        let q := bits (t.bw x.fr.bank 0x2409) 0 7
        (hwPushIf (linkPushes q) q (W (b + 3 * ws.length * 4096)) t).2
      | (none, t) => t
    else s

/-- A frame's class (R472), before R187: the mesh IE's, or the descriptor's. -/
def State.carriedClass (s : State) (x : RxDone) (j : Judged) : Nat :=
  match bitOf (s.descWord x.fr.bank j.d 0) 19, j.h.heroft (s.oui x.fr.bank) 3 6 with
  | true, some m => bits (octAt m 4) 6 2
  | _, _ => bits (s.descWord x.fr.bank j.d 3) 7 2

/-- The class a neighbour's frame is handled in: class 0 as class 1 where CLASS0_OK is 0 (R187). -/
def State.heldClass (s : State) (n c : Nat) : Nat := if c = 0 ∧ !bitOf (s.nbr n 0) 4 then 1 else c

/-- A frame's record and data are stored in the buffers that its lane allocated: the descriptor, none without buffers. -/
def rxStore (x : RxDone) (rcd : List Word) (data : List Octet) (s : State) : Option Word × State :=
  match x.fr.bufs with
  | [] => (none, s)
  | b :: _ => (some (W (b + data.length * 4096)), storeBufs x.fr.bufs (rcd ++ octetsToWords data) s)

/-- A frame goes to the RXQ of its descriptor. -/
def toRxq (x : RxDone) (j : Judged) (desc : Word) (s : State) : State :=
  let q := bits (s.descWord x.fr.bank j.d 3) 0 7
  (hwPushIf (linkPushes q) q desc s).2

/-- A frame that R178 accepts: delivered to RXQ and nowhere else. -/
def acceptUnsec (x : RxDone) (j : Judged) (s : State) : State :=
  let c := s.carriedClass x j
  match rxStore x (rxRecord x j 0x1FFF c false) (x.psdu.take j.h.len ++ j.pay) s with
  | (none, t) => t
  | (some d, t) => toRxq x j d (t.count (R.linkCounters 0))

/-- The tone-map feedback elements of an authenticated frame are handed to link firmware (R163, R164): Vendor Specific payload IEs with
the bank's OUI, from their subtype on. -/
def feedbackIn (x : RxDone) (j : Judged) (n : Nat) (s : State) : State :=
  if !j.h.pies then s
  else
    let l := (parsePies j.pay.length j.pay).filter (fun e => e.1 == 2 && e.2.take 3 == word3 (s.oui x.fr.bank) && octAt e.2 3 == 1)
    s.setLink { s.link with fbIn := s.link.fbIn ++ l.map (fun e => (n, e.2.drop 3)) }

/-- A frame that passes every check (R181): the entry is updated, the acknowledgement scheduled, the frame delivered. -/
def acceptFrame (x : RxDone) (j : Judged) (late : Nat → Bool) (s : State) : State :=
  let data := x.psdu.take j.h.len ++ j.pay
  match rxStore x [0, 0, 0, 0, 0, 0, 0, 0] data s with
  | (none, t) => t
  | (some desc, s0) =>
    let c0 := s0.carriedClass x j
    let (n, s1) := match j.nbr with
      | some n => (n, s0)
      | none => admitNbr j.ext j.key j.net j.ctr (stronger x.fr.rssi1 x.fr.rssi2).toNat x.fr.ts s0
    let c := s1.heldClass n c0
    let demote := c != c0
    let s2 := when demote (fun t => t.count (R.nbrCounters 8)) (s1.count (R.linkCounters 0))
    let s3 := if j.nbr.isSome then windowUpdate n j.key j.ctr s2 else s2
    let s4 := match j.h.heroft (s3.oui x.fr.bank) 2 14 with
      | some tt => stratumUpdate n tt (driftUpdate n tt x.fr.ts s3)
      | none => s3
    let s5 := feedbackIn x j n (entryUpdate n j.key j.net x.fr j.nbr.isNone s4)
    let (acked, s6) := if j.h.ar && !j.h.bcast then ackFrame x j n c (late c) s5 else (false, s5)
    let s7 := engWrites (bufBase (bits desc 0 12)) (rxRecord x j n c acked) s6
    let s8 := windowGot n x (measureRecord x n c s7)
    if bitOf (s8.descWord x.fr.bank j.d 0) 19 && !j.h.bcast then
      fwdHand { desc := desc, rx := true, cls := c, psdu := x.fr.len } (fwdInject s8)
    else toRxq x j desc s8

/-- The frame on an acknowledgement lane within tolerance is the acknowledgement awaited (R197). -/
def State.isAck (s : State) (wt : AckWait) (x : RxDone) : Bool :=
  x.status == 0 &&
    (match parseMhr x.psdu with
     | none => false
     | some h =>
       match h.ctr, h.heroft (s.oui x.fr.bank) 4 13, h.src with
       | some c, some info, some (m, a) =>
         let k := h.keyIdx - 1
         let same := if m = 3 then a == s.nbrExt wt.nbr else a == s.nbrShort wt.nbr
         h.sec && h.keyMode == 1 && 1 ≤ h.keyIdx && h.keyIdx ≤ 16 && s.keyValid k && h.level % 4 != 0 && same &&
           wt.ctr == some (leNat (info.take 4)) && (openFrame (s.key k) (s.nbrExt wt.nbr) c h.level h.len x.psdu).2
       | _, _, _ => false)

/-- The wait whose acknowledgement lane and tolerance a frame meets. -/
def State.waitFor (s : State) (x : RxDone) : Option (Nat × AckWait) :=
  ([0, 1].filterMap (fun b => (s.band b).wait.map (fun w => (b, w)))).find?
    (fun e => onAckLane e.2 x.lane x.fr && s.ackTimely e.2 x.fr.ts)

/-- A frame received with status OK under a tone map ends the hold on the sender's maps superseded before that one (R162). -/
def mapUsed (x : RxDone) (s : State) : State :=
  match x.fr.hdr with
  | some h =>
    let t := hTmid h
    let ref := fun i => bits (s.mw (tmAddr i)) 0 13
    let before := s.link.old.takeWhile (· != t)
    if x.status = 0 ∧ isTl x.fr.mode ∧ t ≠ 0 then
      s.setLink { s.link with tmLast := s.link.tmLast.filter (fun e =>
        !(before.contains e.1 && !bitOf (s.mw (tmAddr e.1)) 22 && ref e.1 == ref t)) }
    else s
  | none => s

/-- The words of link memory that LINK reads to judge a frame (R170, R171, R181, R189): of the frame-format descriptors the first two of each
up to the one that matches, and all of that one; the entry of a known sender; for an unknown one the ring; and the OUI. -/
def State.judgeReads (s : State) (x : RxDone) (a : Nat) : Bool :=
  match parseMhr x.psdu with
  | none => false
  | some h =>
    let base := bankAt x.fr.bank + 0x800
    let d := s.descRx x.fr.bank h.fc
    let who := match h.src with
      | some (3, v) => s.nbrByExt v
      | some (_, v) => (s.netOf h).bind (fun n => s.nbrByShort n v)
      | none => none
    (inRange base (32 * d.getD 64) a && a % 32 < 2) || (match d with | some k => inRange (base + 32 * k) 32 a | none => false) ||
      a == bankAt x.fr.bank + 0x2408 ||
      (match who with | some n => inRange (nbrAddr n 0) 12 a | none => h.sec && inRange 0x864000 0x4000 a)

/-- A frame that LINK does not keep gives its buffers back. -/
def rxDrop (x : RxDone) (s : State) : State := bufGive x.fr.bufs s

/-- A frame's verdict (R181). `late` says of a class whether an acknowledgement of it must yield (R69). -/
def judgeFrame (x : RxDone) (late : Nat → Bool) (s : State) : State :=
  match s.judge x with
  | .drop nb m => rxDrop x (s.count (if nb then R.nbrCounters m else R.linkCounters m))
  | .dup j n =>
    let u := rxDrop x (s.count (R.nbrCounters 1))
    let c := u.heldClass n (u.carriedClass x j)
    if j.h.ar && !j.h.bcast then reack x j n c (late c) u else u
  | .pass j => if j.unsec then acceptUnsec x j s else acceptFrame x j late s

/-- LINK judges the first waiting frame, reading the tables that it needs through their port (R349, R350). -/
def frameAccept (late : RxDone → Nat → Bool) (s : State) : State :=
  match s.link.inbox with
  | [] => s
  | x :: rest =>
    let s1 := when (x.status == 0) (engSee 7 (s.judgeReads x)) s
    let s0 := mapUsed x (s1.setLink { s1.link with inbox := rest })
    settle (match s0.waitFor x with
      | some (b, wt) => if s0.isAck wt x then ackGot b wt (rxDrop x s0) else judgeFrame x (late x) (s0.count (R.linkCounters 15))
      | none => judgeFrame x (late x) s0)

/-! ## The commands of the lanes (R127 to R137, R150, R153) -/

/-- PREAMBLE_DETECT (R127): the slot whose correlator wins is detected. -/
def execPreambleDetect (n : Fin 16) (m : Metrics) (peak : BitVec 72) (rssi1 rssi2 snr : Octet) (s : State) :
    Host.Outcome State Fault Refusal :=
  match s.winner n.val m.toInts with
  | some i => act (s.mayDetect n.val) (fun s => settle (preambleDetect n.val i peak rssi1 rssi2 snr (laneSee n.val s))) s
  | none => .next s

/-- HEADER_DECODE (R150). -/
def execHeaderDecode (n : Fin 16) (hdr : BitVec 52) (phr : Bool) (s : State) : Host.Outcome State Fault Refusal :=
  act (s.laneLive n.val && (s.lane n.val).frame.any (fun f => f.hdr.isNone))
    (fun s => settle (headerDecode n.val hdr phr (mapSee n.val hdr s))) s

/-- CODEWORD_DECODE (R135 to R137): codewords arrive in the buffers of `arrived`, and engine `e` decodes the next one waiting. -/
def execCodewordDecode (arrived : List (Fin 16)) (e : Fin 4) (its : BitVec 5) (s : State) : Host.Outcome State Fault Refusal :=
  act s.linkRuns (fun s => settle (cwDecodeBy e.val its.toNat (forAll ((arrived.map Fin.val).filter s.laneLive) cwArrive s))) s

/-- FRAME_END (R153): the PSDU without its FCS, whether the FCS is right, and what a measured frame gives. -/
def execFrameEnd (n : Fin 16) (psdu : List Octet) (fcsOk : Bool) (spread : BitVec 12) (tones : List Word) (s : State) :
    Host.Outcome State Fault Refusal :=
  act (s.laneLive n.val && s.frameReady n.val) (fun s => settle (frameEnd n.val psdu fcsOk spread.toNat tones s)) s

/-- LANE_OOS_WRITE (R133). -/
def execLaneOosWrite (w : Who) (v : Word) (s : State) : Host.Outcome State Fault Refusal :=
  act (s.mayWrite w R.laneOos) (fun s => settle (oosWrite v s)) s

/-- SPAN_APPLY (R134): the first instant at which no lane of the band is inside a frame. -/
def execSpanApply (band : Fin 2) (s : State) : Host.Outcome State Fault Refusal :=
  act (s.radioOn band.val && s.bandQuiet band.val && (s.band band.val).span.isSome) (fun s => settle (spanApply band.val s)) s

end Sys2Proof.Machine
end

