-- ==== Sys2Proof/Machine/Rwin.lean ====
section
/-! DEFINITION. Remote windows (R226 to R247): issuing an operation, serving one, and its completion. -/
namespace Sys2Proof.Machine

open Sys2Proof

/-- RWIN replaced. -/
def State.setRwin (s : State) (r : RwinState) : State := { s with rwin := r }

/-- RWIN acts: the link domain runs and CTRL.EN = 1. -/
def State.rwinOn (s : State) : Bool := s.linkRuns && s.bit R.rwinCtrl 0

/-- A count of RWIN. -/
abbrev rwinCount (m : Nat) (s : State) : State := s.count (R.rwinCounters m)

/-! ## Elements (R230, R231) -/

abbrev eOp (e : List Octet) : Nat := bits (octAt e 0) 0 4
abbrev eWin (e : List Octet) : Nat := bits (octAt e 1) 0 6
abbrev eId (e : List Octet) : Nat := leNat [octAt e 2, octAt e 3]
abbrev eOff (e : List Octet) : Nat := (ofWord3 e 4).toNat
abbrev eCount (e : List Octet) : Nat := (octAt e 7).toNat

/-- Data word `i` of a request. -/
abbrev eData (e : List Octet) (i : Nat) : Word := ofWord3 e (8 + 3 * i)

/-- A well-formed request (R230). -/
def elemOk (e : List Octet) : Bool :=
  bits (octAt e 0) 4 4 == 0 && bits (octAt e 1) 6 2 == 0 && decide (8 ≤ e.length) &&
    (match eOp e with
     | 1 => 1 ≤ eCount e && eCount e ≤ 96 && e.length == 8
     | 2 => 1 ≤ eCount e && eCount e ≤ 96 && e.length == 8 + 3 * eCount e
     | 3 => eCount e == 1 && e.length == 11
     | 4 => eCount e == 1 && e.length == 14
     | _ => false)

/-! ## The window table (R226) -/

/-- Word `j` of window `w`. -/
def State.win (s : State) (w j : Nat) : Word := s.mw (0x860000 + 8 * w + j)

/-- VALID. -/
def State.winValid (s : State) (w : Nat) : Bool := bitOf (s.win w 0) 23

/-- A VALID window names the neighbour in its pinned set (R228). -/
def State.winNames (s : State) (n : Nat) : Bool :=
  (List.range 64).any (fun w => s.winValid w &&
    [4, 5, 6, 7].any (fun j => bitOf (s.win w j) 23 && bits (s.win w j) 0 13 == n))

/-! ## Completion (R235) -/

/-- The record of the WINDOW_OP in progress that sent USER with its request: link firmware notes it in w4. -/
def State.windowRec (s : State) (user : Nat) : Option Nat :=
  allRecs.find? (fun r => s.recOpc r == 0x5A && s.recState r == 2 && bits (s.mw (recAddr r + 4)) 0 8 == user)

/-- Link firmware takes the completion of a WINDOW_OP from its own queue (R285): the command that sent
USER with its request ends, USER is free again, and the buffer is freed (R288). -/
def firmTakes (cq : Nat) (s : State) : State :=
  let (d, s1) := qPop cq s
  if d == 0xFFFFFF then s1
  else
    let (r, s0) := engWords s1.firmInit (bufBase (bits d 0 12)) 8 s1
    let s2 := (frameScan s1.firmInit d s0).2
    let e := s2.frameOctets d
    let k := bits (r.getD 0 0) 16 8
    let res := O (bits (r.getD 0 0) 0 8) :: natLe 2 (bits (r.getD 5 0) 0 16) ++
      word3 (r.getD 2 0) ++ word3 (r.getD 3 0) ++ word3 (r.getD 4 0) ++ e.drop 5
    let s3 := s2.setCmdp { s2.cmdp with winUsers := s2.cmdp.winUsers.erase k }
    freeChain d (match s3.windowRec k with
      | some r => finalReply r St.done res s3
      | none => s3)

/-- The rest of the chain behind buffer `b` is freed, and `b` is its last (R235, R242); an uncorrectable link word ends the walk there
(R346). -/
def keepFirst (b : Nat) (s : State) : State :=
  let a := bufBase b + 127
  let (lw, err, s1) := engRead 10 a s
  engWrite a 0x001000 (if err || bitOf lw 12 then s1 else freeWalk 15 (bits lw 0 12) s1)

/-- A completion in the first buffer of `desc` is pushed onto CQ: the record of R235, then the response element. -/
def complete (desc : Word) (user status target cq : Nat) (ts : List Word) (opid : Nat) (elem : List Octet) (s : State) : State :=
  let b := bits desc 0 12
  let a := bufBase b
  let s3 := keepFirst b s
  let s4 := engWrites a ([W (user * 2 ^ 16 + status), W target] ++ (ts ++ [0, 0, 0]).take 3 ++ [W opid, 0, 0] ++
    octetsToWords elem) s3
  let s5 := (hwPush cq (W (b + elem.length * 4096)) s4).2
  when (cq == s5.windowCq && !s5.fwDown) (firmTakes cq) s5

/-- RWIN_CPLLOST (R236). -/
def completionLost (s : State) : State := fire 0x17 (rwinCount 8 s)

/-! ## Issuing an operation (R233, R234) -/

/-- A descriptor's record is an injection record under R206 with RWOP = 1, and it is pushed onto FWD.QSEL.INJQ. -/
def inject (desc : Word) (dest cls : Nat) (noalt : Bool) (s : State) : State :=
  let w4 := W (dest + cls * 2 ^ 16 + 2 ^ 18 + (if noalt then 2 ^ 19 else 0))
  (hwPush (s.fld R.fwdQsel 0 7) desc (engWrites (bufBase (bits desc 0 12)) [0, 0, 0, 0, w4, 0, 0, 0] s)).2

/-- PROGRESS of the WINDOW_OP whose request RWIN takes becomes its OPID (R299). -/
def noteOpid (cq user id : Nat) (s : State) : State :=
  if cq = s.windowCq then
    match s.windowRec user with
    | some r => engWrite (recAddr r + 3) (W id) s
    | none => s
  else s

/-- RWIN takes the request at the head of CFG.REQQ, reading its record and element through the port (R351); an uncorrectable error stops the
operation, which completes with HW_FAULT (R232, R245, log 137). -/
def takeRequest (s : State) : State :=
  let (d, s1) := qPop (s.fld R.rwinCfg 0 7) s
  if d == 0xFFFFFF then s1
  else
    let a := bufBase (bits d 0 12)
    let (bad, s2) := engScan 10 (inRange a 8) s1
    let (bad2, s2) := frameScan 10 d s2
    let r := s2.mws a 8
    let w0 := r.getD 0 0
    let w1 := r.getD 1 0
    let w2 := r.getD 2 0
    let e := s2.frameOctets d
    let cq := bits w1 0 7
    let user := bits w1 16 8
    let dest := bits w0 0 16
    let reuse := bitOf w2 16
    let id := if reuse then bits w2 0 16 else s2.fld R.rwinNextopid 0 16
    if cq < 96 then freeChain d (rwinCount 3 s2)
    else if bad || bad2 then
      complete d user St.hwFault dest cq [] (if reuse then id else bits (Config.freeWord s2.draws) 0 16) [] s2.drawn
    else if 0x4000 ≤ dest ∨ !elemOk e ∨ (reuse && s2.rwin.slots.any (fun x => x.opid == id)) then
      complete d user St.badParam dest cq [] (if reuse then id else bits (Config.freeWord s2.draws) 0 16) [] s2.drawn
    else if 32 ≤ s2.rwin.slots.length then
      complete d user St.busy dest cq [] (if reuse then id else bits (Config.freeWord s2.draws) 0 16) [] s2.drawn
    else
      let s3 := if reuse then s2 else s2.setFld R.rwinNextopid 0 16 ((id + 1) % 65536)
      let x : RwinSlot := { opid := id, dest := dest, user := user, cq := cq, cls := bits w0 16 2, tmo := max 1 (bits w1 8 8) }
      let s4 := s3.setRwin { s3.rwin with slots := s3.rwin.slots ++ [x] }
      let v0 := s4.mw (a + 8)
      let v1 := s4.mw (a + 9)
      let s5 := engWrite (a + 9) (setLane v1 0 (O (id / 256))) (engWrite (a + 8) (setLane v0 2 (O id)) s4)
      inject d dest x.cls (bitOf w0 18) (noteOpid cq user id s5)

/-! ## Responses at the originator (R235, R236) -/

/-- The first response delivered is matched against the slots by OPID and target. -/
def takeResponse (s : State) : State :=
  match s.rwin.resps with
  | [] => s
  | x :: rest =>
    let s1 := s.setRwin { s.rwin with resps := rest }
    match s1.rwin.slots.find? (fun y => y.opid == eId x.elem && y.dest == x.orig) with
    | none => freeChain x.desc (rwinCount 7 s1)
    | some y =>
      let s2 := s1.setRwin { s1.rwin with slots := s1.rwin.slots.erase y }
      complete x.desc y.user (octAt x.elem 4).toNat y.dest y.cq x.ts y.opid x.elem s2

/-- A slot's time has passed without a response (R236). -/
def slotTimeout (y : RwinSlot) (s : State) : State :=
  let s1 := rwinCount 6 (s.setRwin { s.rwin with slots := s.rwin.slots.erase y })
  match bufAlloc y.cls s1 with
  | (none, t) => completionLost t
  | (some b, t) => complete (W b) y.user St.noAck y.dest y.cq [] y.opid [] t

/-! ## Serving an operation (R237 to R246) -/

/-- The response in the request's first buffer, the rest of its chain freed, injected for the originator (R242). -/
def sendResponse (x : RwinOp) (e : List Octet) (s : State) : State :=
  let b := bits x.desc 0 12
  let s3 := engWrites (bufBase b + 8) (octetsToWords e) (keepFirst b s)
  inject (W (b + e.length * 4096)) x.orig x.cls x.noalt s3

/-- The response kept in the cache of the last 64 (R242). -/
def cacheResponse (x : RwinOp) (e : List Octet) (s : State) : State :=
  s.setRwin { s.rwin with
    cache := ((x.orig, eId x.elem, e) :: s.rwin.cache.filter (fun c => !(c.1 == x.orig && c.2.1 == eId x.elem))).take 64 }

/-- A response of this status, COUNT and data (R231, R232), with its count. -/
def respond (x : RwinOp) (status count : Nat) (data : List Octet) (s : State) : State :=
  let e := [O (128 + eOp x.elem), O (eWin x.elem), octAt x.elem 2, octAt x.elem 3, O status, O count] ++ data
  let s1 := if status = St.done then rwinCount 0 s
    else if status = St.denied then rwinCount 1 s
    else if status = St.busy then rwinCount 2 s
    else if status = St.badParam then rwinCount 3 s
    else if status = St.hwFault then rwinCount 4 s
    else s
  let s2 := if status = St.done ∨ status = St.badParam ∨ status = St.hwFault then cacheResponse x e s1 else s1
  sendResponse x e s2

/-- The cached response of an operation (step 3 of R238). -/
def State.cached (s : State) (x : RwinOp) : Option (List Octet) :=
  (s.rwin.cache.find? (fun c => c.1 == x.orig && c.2.1 == eId x.elem)).map (fun c => c.2.2)

/-- Checks 1 to 3 of R238: what answers the operation there, if anything does. -/
def earlyCheck (x : RwinOp) (s : State) : Option State :=
  if 0x4000 ≤ x.orig then some (freeChain x.desc (rwinCount 9 s))
  else if !elemOk x.elem then some (respond x St.badParam 0 [] s)
  else
    match s.cached x with
    | some e => some (sendResponse x e (rwinCount 5 s))
    | none => none

/-- Step 5 of R238. A local request skips KEY and the pinned set (R237). -/
def State.winPermits (s : State) (x : RwinOp) : Bool :=
  let w := eWin x.elem
  let w0 := s.win w 0
  s.winValid w && bitOf w0 (12 + (eOp x.elem - 1)) && bitOf w0 (8 + x.cls) &&
    decide (bits (s.win w 2) 0 16 ≤ x.orig) && decide (x.orig ≤ bits (s.win w 3) 0 16) &&
    (x.own || (bits w0 4 4 == x.key &&
      (!bitOf w0 3 || [4, 5, 6, 7].any (fun j => bitOf (s.win w j) 23 && bits (s.win w j) 0 13 == x.nbr))))

/-- The window is a doorbell (R243). -/
def State.winBell (s : State) (w : Nat) : Bool := bits (s.win w 0) 21 2 == 2

/-- Step 7 of R238 over the words from `a` up. -/
def State.winHonoured (s : State) (a n : Nat) : Bool := (List.range n).all (fun i => s.sramUp (a + i))

/-- Steps 5 to 8 of R238: the status that answers the operation, if a step fails. -/
def State.lateCheck (s : State) (x : RwinOp) : Option Nat :=
  let w := eWin x.elem
  let w0 := s.win w 0
  let a := (s.win w 1).toNat + eOff x.elem
  if !s.winPermits x then some St.denied
  else if 2 ^ bits w0 16 5 < eOff x.elem + eCount x.elem then some St.denied
  else if s.winBell w then none
  else if bits w0 21 2 = 3 ∨ !s.winHonoured a (eCount x.elem) then some St.denied
  else if bits w0 21 2 = 0 ∧ s.bit R.rwinCtrl 2 then some St.busy
  else none

/-- Words from `a` up as RWIN reads them, stopping at an uncorrectable error: the words, and whether one was met. -/
def rwinRead : Nat → Nat → State → List Word × Bool × State
  | _, 0, s => ([], false, s)
  | a, n + 1, s =>
    match engRead 10 a s with
    | (_, true, t) => ([], true, t)
    | (v, false, t) =>
      let (l, err, u) := rwinRead (a + 1) n t
      (v :: l, err, u)

/-- The operation's pipeline, and what it holds. -/
def State.rwinPipe (s : State) (c0 : Bool) : List RwinOp := if c0 then s.rwin.c0 else s.rwin.other
def setPipe (c0 : Bool) (l : List RwinOp) (s : State) : State :=
  s.setRwin (if c0 then { s.rwin with c0 := l } else { s.rwin with other := l })
def State.rwinBusy (s : State) (c0 : Bool) : Option RwinBusy := if c0 then s.rwin.busyC0 else s.rwin.busyOther
def setBusy (c0 : Bool) (b : Option RwinBusy) (s : State) : State :=
  s.setRwin (if c0 then { s.rwin with busyC0 := b } else { s.rwin with busyOther := b })

/-- An operation that writes nothing is answered with the words it read. -/
def answerRead (x : RwinOp) (count : Nat) (l : List Word) (s : State) : State :=
  respond x St.done count (l.flatMap word3) s

/-- The word of a one-word operation: the doorbell or the memory word. -/
def oneWord (bell : Bool) (db a : Nat) (s : State) : Word × Bool × State :=
  if bell then (s.reg (R.rwinDb db), false, s) else engRead 10 a s

/-- The write of an operation's words: DBk and RWIN_DBk for a doorbell (R243). -/
def rwinStore (bell : Bool) (db a : Nat) (l : List Word) (s : State) : State :=
  if bell then
    match l with
    | v :: _ => fire (0x18 + db) (s.setReg (R.rwinDb db) v)
    | [] => s
  else engWrites a l s

/-- RWIN reads words of memory for themselves: whether one of them is uncorrectable, which stops the reads (R245). -/
def rwinTouch : List Nat → State → Bool × State
  | [], s => (false, s)
  | a :: l, s =>
    match engRead 10 a s with
    | (_, true, t) => (true, t)
    | (_, false, t) => rwinTouch l t

/-- The words that hold a delivered element. -/
def State.elemAddrs (s : State) (x : RwinOp) : List Nat :=
  ((s.chainAddrs x.desc).take (8 + (descLen x.desc + 2) / 3)).drop 8

/-- The words of a window's entry. -/
def winAddrs (w : Nat) : List Nat := (List.range 8).map (fun j => 0x860000 + 8 * w + j)

/-- The operation at the head of a pipeline executes (R240). `go` is the operation's own action, given the window's first
word of the access; what it leaves is a write waiting for its read-back, or a response. The cache is looked at again, for an earlier copy
that has executed since the delivery (log 109). -/
def serve (c0 : Bool) (go : RwinOp → Bool → Nat → Nat → State → State) (s : State) : State :=
  match s.rwinPipe c0 with
  | [] => s
  | x :: rest =>
    let s1 := setPipe c0 rest s
    match earlyCheck x s1 with
    | some t => t
    | none =>
      match rwinTouch (winAddrs (eWin x.elem)) s1 with
      | (true, t) => respond x St.hwFault 0 [] t
      | (false, s2) =>
        match s2.lateCheck x with
        | some st => respond x st 0 [] s2
        | none =>
          let w := eWin x.elem
          go x (s2.winBell w) (bits (s2.win w 0) 0 3) ((s2.win w 1).toNat + eOff x.elem) s2

/-- The write is made and the pipeline waits for the read-back (R241). -/
def wrote (c0 : Bool) (x : RwinOp) (bell : Bool) (db a : Nat) (l : List Word) (data : List Octet) (s : State) : State :=
  setBusy c0 (some { op := x, base := a, words := if bell then 0 else l.length, data := data }) (rwinStore bell db a l s)

/-- RW_READ's action. -/
def goRead (x : RwinOp) (bell : Bool) (db a : Nat) (s : State) : State :=
  if bell then answerRead x 1 [s.reg (R.rwinDb db)] s
  else
    match rwinRead a (eCount x.elem) s with
    | (_, true, t) => respond x St.hwFault 0 [] t
    | (l, false, t) => answerRead x (eCount x.elem) l t

/-- RW_WRITE's action. -/
def goWrite (c0 : Bool) (x : RwinOp) (bell : Bool) (db a : Nat) (s : State) : State :=
  wrote c0 x bell db a ((List.range (eCount x.elem)).map (eData x.elem)) [] s

/-- RW_ADD's action. -/
def goAdd (c0 : Bool) (x : RwinOp) (bell : Bool) (db a : Nat) (s : State) : State :=
  match oneWord bell db a s with
  | (_, true, t) => respond x St.hwFault 0 [] t
  | (v, false, t) => wrote c0 x bell db a [v + eData x.elem 0] (word3 v) t

/-- RW_SWAP's action. -/
def goSwap (c0 : Bool) (x : RwinOp) (bell : Bool) (db a : Nat) (s : State) : State :=
  match oneWord bell db a s with
  | (_, true, t) => respond x St.hwFault 0 [] t
  | (v, false, t) =>
    if v == eData x.elem 0 then wrote c0 x bell db a [eData x.elem 1] (word3 v) t
    else answerRead x 0 [v] t

/-- The read-back returns (R241, R245, R246): the response is built, and a WINDOW_CLOSE that waited for the operation ends
(R229). -/
def readBack (c0 : Bool) (s : State) : State :=
  match s.rwinBusy c0 with
  | none => s
  | some b =>
    let s1 := setBusy c0 none s
    let w := eWin b.op.elem
    let s2 := if b.words = 0 then respond b.op St.done (eCount b.op.elem) b.data s1
      else
        match engRead 10 (b.base + b.words - 1) s1 with
        | (_, true, t) => respond b.op St.hwFault 0 [] t
        | (_, false, t) =>
          if t.winHonoured b.base b.words then respond b.op St.done (eCount b.op.elem) b.data t
          else respond b.op St.denied 0 [] t
    let still := match s2.rwinBusy (!c0) with | some o => eWin o.op.elem == w | none => false
    if still then s2 else finishRun 0x59 (fun p => bits (octAt p 0) 0 6 == w) St.done [] s2

/-- A frame with RWOP = 1 is delivered to RWIN (R235, R238): with EN = 0 it is freed; a response waits for its match; a request that passes
steps 1 to 3 joins its pipeline, or is answered BUSY where 16 wait there (step 4). -/
def rwinDeliver (x : RwinOp) (s : State) : State :=
  if !s.bit R.rwinCtrl 0 then freeChain x.desc s
  else if bitOf (octAt x.elem 0) 7 then s.setRwin { s.rwin with resps := s.rwin.resps ++ [x] }
  else
    match (if x.orig < 0x4000 then rwinTouch (s.elemAddrs x) s else (false, s)) with
    | (true, t) => respond x St.hwFault 0 [] t
    | (false, s1) =>
      match earlyCheck x s1 with
      | some t => t
      | none =>
        let l := s1.rwinPipe (x.cls == 0)
        if l.length < 16 then setPipe (x.cls == 0) (l ++ [x]) s1 else respond x St.busy 0 [] s1

/-- The head of the pipeline is an operation of this code and the pipeline is free. -/
def State.rwinHead (s : State) (c0 : Bool) (op : Nat) : Bool :=
  s.rwinOn && (s.rwinBusy c0).isNone &&
    (match s.rwinPipe c0 with
     | [] => false
     | x :: _ => eOp x.elem == op)

/-- RWIN.COMMIT written: with GO the eight staged words become entry INDEX (R229). -/
def windowCommitWrite (v : Word) (s : State) : State :=
  let s1 := plainWrite R.rwinCommit v s
  if bitOf v 6 then engWrites (0x860000 + 8 * bits v 0 6) ((List.range 8).map (fun j => s1.reg (R.rwinStage j))) s1 else s1

/-- RWIN.STATUS as read. -/
def State.rwinStatusWord (s : State) : Word :=
  W (s.rwin.slots.length * 2 ^ 16 + s.rwin.c0.length * 2 ^ 8 + s.rwin.other.length)

/-! ## The commands -/

/-- RWIN_REQUEST (R234). -/
def execRwinRequest (s : State) : Host.Outcome State Fault Refusal := act s.rwinOn takeRequest s

/-- RWIN_READBACK_DONE (R241). -/
def execRwinReadbackDone (c0 : Bool) (s : State) : Host.Outcome State Fault Refusal :=
  act (s.rwinOn && (s.rwinBusy c0).isSome) (readBack c0) s

/-- RWIN_RESPONSE (R235). -/
def execRwinResponse (s : State) : Host.Outcome State Fault Refusal := act s.rwinOn takeResponse s

/-- The time of the operation with this OPID has run out, if it is one in progress. -/
def rwinTimeout (opid : Nat) (s : State) : State :=
  match s.rwin.slots.find? (fun y => y.opid == opid) with
  | some y => slotTimeout y s
  | none => s

/-- RWIN_TIMEOUT (R236). -/
def execRwinTimeout (opid : BitVec 16) (s : State) : Host.Outcome State Fault Refusal :=
  act s.rwinOn (rwinTimeout opid.toNat) s

/-- WINDOW_COMMIT (R229). -/
def execWindowCommit (w : Who) (v : Word) (s : State) : Host.Outcome State Fault Refusal :=
  act (s.mayWrite w R.rwinCommit) (windowCommitWrite (setBits v 6 1 1)) s

end Sys2Proof.Machine
end

