-- ==== Sys2Proof/Machine/Fwd.lean ====
section
/-! DEFINITION. The forwarding engine (R201 to R212): the route table, the forwarding path and the record rewrite. -/
namespace Sys2Proof.Machine

open Sys2Proof

/-- FWD replaced. -/
def State.setFwd (s : State) (f : FwdState) : State := { s with fwd := f }

/-- A count of FWD. -/
abbrev fwdCount (m : Nat) (s : State) : State := s.count (R.fwdCounters m)

/-- CFG.NET. -/
def State.fwdNet (s : State) : Nat := s.fld R.fwdCfg 0 4

/-! ## The route table (R203, R204) -/

/-- First word of route entry `i`. -/
def routeAddr (i : Nat) : Nat := 0x818000 + 4 * i

/-- The entry that routes destination `d`, as FWD reads it. -/
def State.route (s : State) (d : Nat) : Option (List Word) :=
  let r := s.mws (routeAddr d) 4
  if bitOf (r.getD 0 0) 16 && bits (r.getD 0 0) 0 16 == d then some r else none

/-- FWD.COMMIT written: with GO the four staged words become entry INDEX (R205). -/
def routeCommitWrite (v : Word) (s : State) : State :=
  let s1 := plainWrite R.fwdCommit v s
  if bitOf v 14 then engWrites (routeAddr (bits v 0 14)) ((List.range 4).map (fun j => s1.reg (R.fwdStage j))) s1 else s1

/-! ## What FWD reads of a frame -/

/-- A frame on the forwarding path: its descriptor, whether it was received, class, six IE octets, MAC payload, sender's
neighbour index (received frames), and the receive record's words. -/
structure FwdJob where
  desc : Word
  rx : Bool
  cls : Nat
  ie : List Octet
  pay : List Octet
  nbr : Nat
  rcd : List Word
  deriving DecidableEq, Repr

/-- DEST, ORIG, HOPSLEFT, NOALT and RWOP of the mesh IE (R201). -/
abbrev FwdJob.dest (j : FwdJob) : Nat := leNat (j.ie.take 2)
abbrev FwdJob.orig (j : FwdJob) : Nat := leNat ((j.ie.drop 2).take 2)
abbrev FwdJob.hops (j : FwdJob) : Nat := bits (octAt j.ie 4) 0 6
abbrev FwdJob.noalt (j : FwdJob) : Bool := bitOf (octAt j.ie 5) 1
abbrev FwdJob.rwop (j : FwdJob) : Bool := bitOf (octAt j.ie 5) 0

/-- The six IE octets. -/
def meshIe (dest orig cls hops : Nat) (noalt rwop : Bool) : List Octet :=
  natLe 2 dest ++ natLe 2 orig ++ [O (cls * 64 + hops), O ((if noalt then 2 else 0) + (if rwop then 1 else 0))]

/-- The frame as FWD reads it, through the port; none where step 1 of R207 sends it to FWQ. -/
def fwdRead (f : FwdFrame) (s : State) : Option FwdJob × State :=
  let (r, s0) := engWords 8 (bufBase (bits f.desc 0 12)) 8 s
  let s1 := (frameScan 8 f.desc s0).2
  let data := s1.frameOctets f.desc
  if f.rx then
    match parseStored data with
    | none => (none, s1)
    | some h =>
      match h.heroft (s1.oui s1.bank) 3 6 with
      | some ie =>
        if s1.netOf h == some s1.fwdNet && h.iesOk then
          (some { desc := f.desc, rx := true, cls := f.cls, ie := ie, pay := data.drop h.len, nbr := bits (r.getD 0 0) 0 13, rcd := r }, s1)
        else (none, s1)
      | none => (none, s1)
  else
    let w4 := r.getD 4 0
    (some { desc := f.desc, rx := false, cls := f.cls, nbr := 0x1FFF, pay := data, rcd := r,
            ie := meshIe (bits w4 0 16) (s1.short s1.fwdNet) f.cls (s1.fld R.fwdCfg 18 6) (bitOf w4 19) (bitOf w4 18) }, s1)

/-- RXQ of a frame's descriptor: the one it was received under, CFG.TXDESC for an injected frame (log 12). -/
def State.fwdRxq (s : State) (j : FwdJob) : Nat :=
  let d := if j.rx then bits (j.rcd.getD 0 0) 18 6 else s.fld R.fwdCfg 12 6
  bits (s.descWord s.bank d 3) 0 7

/-! ## Next hops (R208) -/

/-- FWD reads the states of the neighbours that a route names (R349, R350). -/
def hopSee (r : List Word) (s : State) : State :=
  let n := bits (r.getD 1 0) 0 13
  let a := bits (r.getD 2 0) 0 13
  engSee 8 (fun x => x == nbrAddr n 0 || (a != 0x1FFF && x == nbrAddr a 0)) s

/-- How a next hop is chosen: the hop's route word and whether it is the alternate, with ALTUSED and LOOPBACK counted. -/
def nextHop (j : FwdJob) (r : List Word) (s : State) : Option (Word × Bool) × State :=
  let w1 := r.getD 1 0
  let w2 := r.getD 2 0
  let n := bits w1 0 13
  let a := bits w2 0 13
  let back := fun x => j.rx && x == j.nbr
  if s.nbrUsable n && !back n then (some (w1, false), s)
  else
    let s1 := when (s.nbrUsable n && back n) (fwdCount 7) s
    if a == 0x1FFF || !s.nbrUsable a || j.noalt then (none, s1)
    else if back a then (none, fwdCount 7 s1)
    else (some (w2, true), fwdCount 6 s1)

/-- FWD's push of a frame onto a queue of R218. -/
def fwdPush (q : Nat) (d : Word) (s : State) : State := (hwPushIf (fwdPushes q) q d s).2

/-- A frame without a route or hop (steps 6 and 8): to QSEL.NRQ, or dropped. -/
def noRoute (d : Word) (s : State) : State :=
  if s.bit R.fwdQsel 23 then fwdPush (s.fld R.fwdQsel 14 7) d s else freeChain d s

/-- FWD_NOHOP, and link firmware's notice, at most one a second for a destination (R289). -/
def noHopNotice (d : Nat) (s : State) : State :=
  let s1 := fire 0x15 s
  let said := s1.fwd.nohop.find? (fun e => e.1 == d)
  let due := match said with
    | some (_, t) => decide (256000000000 ≤ (s1.mt.ctr - t).toNat)
    | none => true
  if due then
    notice 4 0x40 (natLe 2 d)
      (s1.setFwd { s1.fwd with nohop := (d, s1.mt.ctr) :: s1.fwd.nohop.filter (fun e => e.1 != d) })
  else s1

/-! ## The record rewrite (R210) -/

/-- The frame's chain holds these words from its first buffer on: buffers beyond its end are freed, one more is allocated
where the data has outgrown it. An uncorrectable link word ends the chain at its buffer, as it ends a walk (R346). -/
def rewriteChain (c : Nat) : Nat → Nat → List Word → State → Bool × State
  | 0, _, _, s => (false, s)
  | fuel + 1, b, ws, s =>
    let (lw, err, s1) := engRead 8 (bufBase b + 127) s
    let last := err || bitOf lw 12
    let s2 := engWrites (bufBase b) (ws.take 127) s1
    if ws.length ≤ 127 then
      (true, if last then (if err then engWrite (bufBase b + 127) 0x001000 s2 else s2) else engWrite (bufBase b + 127) 0x001000 (freeWalk fuel (bits lw 0 12) s2))
    else if last then
      match storeChunks c fuel (ws.drop 127) s2 with
      | (some nx, s3) => (true, engWrite (bufBase b + 127) (W nx) s3)
      | (none, s3) => (false, s3)
    else rewriteChain c fuel (bits lw 0 12) (ws.drop 127) s2

/-- Step 9 of R207: the transmit record, the IE and the payload, and the push of R209. -/
def sendOn (j : FwdJob) (hop : Word) (alt : Bool) (c : Nat) (s : State) : State :=
  let n := bits hop 0 13
  let hops := if j.rx then j.hops - 1 else j.hops
  let ie := j.ie.take 4 ++ [O (bits (octAt j.ie 4) 6 2 * 64 + hops)] ++ (j.ie.drop 5).take 1
  let data := ie ++ j.pay
  let rcd : List Word :=
    [W (s.fld R.fwdCfg 12 6 * 2 ^ 18 + 2 ^ 17 + n), 0, 0, 0, W (j.dest + (if alt then 2 ^ 14 else 0) + c * 2 ^ 15), 0, 0, 0]
  let b := bits j.desc 0 12
  let q := if bitOf hop 20 then bits hop 13 7 else 8 * (if j.rwop then 1 else 0) + 4 * bits hop 21 1 + c
  match rewriteChain c 16 b (rcd ++ octetsToWords data) s with
  | (false, t) => fwdCount 11 (freeChain j.desc t)
  | (true, t) =>
    match hwPushIf (fwdPushes q) q (W (b + data.length * 4096)) t with
    | (true, u) => fwdCount 0 u
    | (false, u) => fwdCount 11 u

/-! ## The forwarding path (R207) -/

/-- A frame for this node: to RWIN or to RXQ. -/
def fwdDeliver (j : FwdJob) (s : State) : State :=
  let s1 := fwdCount 1 s
  if j.rwop then
    let ts : List Word := if j.rx then (j.rcd.drop 1).take 3
      else [Config.freeWord s1.draws, Config.freeWord (s1.draws + 1), Config.freeWord (s1.draws + 2)]
    let x : RwinOp := { desc := j.desc, cls := j.cls, orig := j.orig, noalt := j.noalt, own := !j.rx,
                        key := bits (j.rcd.getD 5 0) 16 4, nbr := j.nbr, ts := ts, elem := j.pay }
    rwinDeliver x (if j.rx then s1 else { s1 with draws := s1.draws + 3 })
  else fwdPush (s1.fwdRxq j) j.desc s1

/-- Steps 2 to 9 of R207. -/
def forward (j : FwdJob) (s : State) : State :=
  let d := j.dest
  if d == s.short s.fwdNet && d != 0xFFFE && d != 0xFFFF then fwdDeliver j s
  else if d == 0xFFFF then fwdPush (s.fwdRxq j) j.desc (fwdCount 1 s)
  else if 0x4000 ≤ d then fwdPush (s.fld R.fwdQsel 7 7) j.desc (fwdCount 2 s)
  else if j.rx && j.hops == 0 then freeChain j.desc (fwdCount 3 s)
  else
    let s0 := engSee 8 (inRange (routeAddr d) 4) s
    match s0.route d with
    | none => noRoute j.desc (fwdCount 4 s0)
    | some r =>
      let demote := j.cls == 0 && !bitOf (r.getD 0 0) 17
      let c := if demote then 1 else j.cls
      let s1 := hopSee r (when demote (fwdCount 8) s0)
      match nextHop j r s1 with
      | (none, t) => noRoute j.desc (noHopNotice d (fwdCount 5 t))
      | (some (hop, alt), t) => sendOn j hop alt c t

/-- FWD works on the first frame of a pipeline (R211); with CTRL.EN = 0 every
frame that has reached FWD goes to QSEL.FWQ, uncounted. -/
def fwdStep (c0 : Bool) (s : State) : State :=
  let s1 := fwdInject s
  match if c0 then s1.fwd.c0 else s1.fwd.other with
  | [] => s1
  | f :: rest =>
    let s2 := s1.setFwd (if c0 then { s1.fwd with c0 := rest } else { s1.fwd with other := rest })
    let q := s2.fld R.fwdQsel 7 7
    if !s2.bit R.fwdCtrl 0 then fwdPush q f.desc s2
    else
      match fwdRead f s2 with
      | (none, t) => fwdPush q f.desc (fwdCount 2 t)
      | (some j, t) => forward j t

/-- FWD.STATUS as read: the frames in the two pipelines. -/
def State.fwdStatusWord (s : State) : Word := W (min 255 s.fwd.other.length * 2 ^ 8 + min 255 s.fwd.c0.length)

/-! ## The commands -/

/-- FWD_PROCESS (R207). -/
def execFwdProcess (c0 : Bool) (s : State) : Host.Outcome State Fault Refusal :=
  act s.linkRuns (fwdStep c0) s

/-- ROUTE_COMMIT (R205). -/
def execRouteCommit (w : Who) (v : Word) (s : State) : Host.Outcome State Fault Refusal :=
  act (s.mayWrite w R.fwdCommit) (routeCommitWrite (setBits v 14 1 1)) s

end Sys2Proof.Machine
end

