-- ==== Sys2Proof/Machine/GateEng.lean ====
section
/-! DEFINITION. The gate engine: courses (R47 to R52), commits (R76, R77), guard evaluation (R61), and the pre-tune of an activation
with its contention for lanes, chains and synthesizers (R59, R64 to R69). -/
namespace Sys2Proof.Machine

open Sys2Proof

/-- Mesh time has reached instant `t` in this tick, or a step has carried it past `t` (R73). -/
def State.dueNow (s : State) (t : Nat) : Bool :=
  nsLe t s.now && (decide (nsSince t s.now < 26) ||
    (match tabGet s.gates.floor 16 with
     | some j => nsLe j s.now && decide (nsSince j s.now < 26) && nsLt t j
     | none => false))

/-! ## Courses -/

/-- STATUS.RUNNING. -/
def courseShow (s : State) : State := s.setBit R.gateStatus 0 ((List.range 16).any s.courseRun)

/-- The course runs or waits for the boundary of its stop. -/
def State.courseOn (s : State) (n : Nat) : Bool := s.courseRun n || s.stopPend n

/-- The course starts (R49, R74): its mark is cleared, and nothing is made whose pre-tune lies before now. -/
def startCourse (n : Nat) (s : State) : State :=
  let s1 := ((s.setBit (R.courseCfg n) 0 true).setBit (R.courseCfg n) 2 false).setMulti (R.courseMark n 0) 4 0
  courseShow (s1.setGates { s1.gates with
    floor := tabSet s1.gates.floor n s1.now
    fired := s1.gates.fired &&& ~~~(1#16 <<< n)
    passed := tabDel s1.gates.passed n
    made := s1.gates.made.filter (fun e => gCourse (s1.gateEntry e.1) != n) })

/-- The course stops (R50): RUN and STOPPEND read 0. -/
def endCourse (n : Nat) (s : State) : State :=
  courseShow ((s.setBit (R.courseCfg n) 0 false).setBit (R.courseCfg n) 2 false)

/-- The activations of a course that have not reached their instants are released, uncounted (R50, R77). -/
def releaseEarly (p : Activ → Bool) (s : State) : State :=
  forAll (s.gates.acts.filter (fun a => p a && nsLt s.now a.inst && a.phase != 4))
    (fun a t => releaseAct a (returnHead a t)) s

/-- Nothing of a course that stops at boundary `t` is made at or after it (R50). -/
def stopTrim (n t : Nat) (s : State) : State := releaseEarly (fun a => gCourse a.w == n && nsLe t a.inst) s

/-- The course stops at once (R50). -/
def stopNow (n : Nat) (s : State) : State := releaseEarly (fun a => gCourse a.w == n) (endCourse n s)

/-- Cn_CFG written: PROFILE is stored; STOPNOW, RUN = 1 and RUN = 0 act in that order of rank. -/
def courseCfgWrite (n : Nat) (v : Word) (s : State) : State :=
  let s1 := s.setFld (R.courseCfg n) 16 8 (bits v 16 8)
  if bitOf v 3 then stopNow n s1
  else if bitOf v 0 then startCourse n s1
  else if s1.courseRun n then
    stopTrim n (s1.nextBoundary n) (courseShow ((s1.setBit (R.courseCfg n) 0 false).setBit (R.courseCfg n) 2 true))
  else s1

/-- A period from 1 to 99,999 is stored as 100,000 (R51). -/
def periodFloor (n : Nat) (s : State) : State :=
  let p := s.multi (R.coursePeriod n 0) 2 % 2 ^ 40
  if 1 ≤ p ∧ p < 100000 then s.setMulti (R.coursePeriod n 0) 2 100000 else s

/-- Cn_PERIOD and Cn_START written: locked while the course runs or waits to stop; the write of PERIOD1 completes the period, and
START [7:0] reads 0 (R51, log 37). -/
def coursePlainWrite (n a : Nat) (v : Word) (s : State) : State :=
  if s.courseOn n then s
  else
    let s1 := plainWrite a v s
    if a = R.courseStart n 0 then s1.setFld a 0 8 0 else if a = R.coursePeriod n 1 then periodFloor n s1 else s1

/-- A pending bank swap takes effect at its boundary (R78, R303): the other bank is in force and the command is answered. -/
def bankSwap (s : State) : State :=
  let s1 := ((s.setBit R.gateStatus 1 (!s.bank)).setBit R.gateStatus 2 false).setGates { s.gates with swap := none }
  finishRun 0x66 (fun _ => true) St.done [if s1.bank then 1 else 0] s1

/-- A bank swap whose boundary has come applies (R78). -/
def swapDue (s : State) : State :=
  match s.gates.swap with
  | some b => if nsLe b s.now then bankSwap s else s
  | none => s

/-- A boundary of course `n`, at instant `t`: a pending stop applies (R50), and a bank swap whose boundary has come (R78). -/
def courseBoundary (n t : Nat) (s : State) : State := swapDue (if s.stopPend n then stopTrim n t (endCourse n s) else s)

/-- The instant at which the course's iteration in progress began. -/
def State.lastBoundary (s : State) (n : Nat) : Nat := (s.cstart n + s.iterNow n * s.period n) % 2 ^ 64

/-! ## Commits -/

/-- A frame in reception, a request: gate `g`'s activations go by another number. -/
def RxFrame.retire (f : RxFrame) (g : Nat) : RxFrame :=
  { f with acts := f.acts.map (fun e => if e.1 % 4096 = g then (e.1 + 4096, e.2) else e) }

@[inherit_doc RxFrame.retire]
def TxReq.retire (r : TxReq) (g : Nat) : TxReq :=
  match r.src with
  | .gate x i => if x % 4096 = g then { r with src := .gate (x + 4096) i } else r
  | _ => r

/-- What a band's front end holds for gate `g`. -/
def BandSt.retire (x : BandSt) (g : Nat) : BandSt :=
  { x with
    chain := x.chain.map (·.retire g)
    wait := x.wait.map (fun t => { t with tx := t.tx.retire g })
    femRx := x.femRx.map (fun e => if e.gate % 4096 = g then { e with gate := e.gate + 4096 } else e) }

/-- The activations of gate `g` in progress go on under the entry's old contents (R77). -/
def retire (g : Nat) (s : State) : State :=
  { s with
    gates := { s.gates with acts := s.gates.acts.map (fun a => if a.gate % 4096 = g then { a with gate := a.gate + 4096 } else a) }
    bandS := s.bandS.retire g
    bandG := s.bandG.retire g
    link := { s.link with
      lanes := s.link.lanes.map (fun e => (e.1, { e.2 with frame := e.2.frame.map (·.retire g) }))
      inbox := s.link.inbox.map (fun x => { x with fr := x.fr.retire g }) } }

/-- GATE.COMMIT written: with GO the six staged words replace the entry in one cycle; it applies from its next pre-tune instant, whatever
was judged under the old contents; activations not yet pre-tuned take the new contents, those in progress complete under the old ones,
and ENABLE = 0 releases those before their instant (R76, R77). -/
def gateCommitWrite (v : Word) (s : State) : State :=
  let s0 := plainWrite R.gateCommit v s
  if !bitOf v 12 then s0
  else
    let g := bits v 0 12
    let s1 := engWrites (0x828000 + 6 * g) ((List.range 6).map (fun j => s0.reg (R.gateStage j))) s0
    let s2 := forAll (s1.gates.acts.filter (fun a => a.gate == g && a.phase == 0)) (fun a t => dropAct a.gate a.iter t) s1
    let s3 := retire g (s2.setGates { s2.gates with made := tabDel s2.gates.made g, commits := tabSet s2.gates.commits g s2.now })
    if gEnable (s3.gateEntry g) then s3 else releaseEarly (fun a => a.gate % 4096 == g) s3

/-! ## Which activations are made -/

/-- Gate `g` may be made in iteration `i`: the engine and its course run, it takes part, it has not been judged yet, and its
instant lies within the counter's range (R48), not before the last step (R73), and before a pending stop (R49, R50, R56). -/
def State.mayMake (s : State) (g i : Nat) (w : List Word) : Bool :=
  let n := gCourse w
  s.gatesRun && s.courseOn n && takesPart w i && decide (tabLook 0 s.gates.made g ≤ i) &&
    decide (i * s.period n + gOffset w < 2 ^ 64) && !beforeMark s.gates.floor 16 (s.instant w i) &&
    (s.courseRun n || nsLt (s.instant w i) (s.nextBoundary n))

/-- The pre-tune instant lies at or after the course's start, the engine's last return and the entry's commit (R49, R52, R77). -/
def State.afterStart (s : State) (g : Nat) (w : List Word) (pre : Nat) : Bool :=
  !beforeMark s.gates.floor (gCourse w) pre && !beforeMark s.gates.floor 17 pre && !beforeMark s.gates.commits g pre

/-- The evaluation instant E (R61), or the course's start, the engine's return or the entry's commit where that comes later. -/
def State.evalAt (s : State) (g : Nat) (w : List Word) (i : Nat) : Nat :=
  let e := nsBack (s.instant w i) (1000 * s.fld R.gateGuardmax 0 16 + 1000 * s.leadFor (s.bankFor (s.instant w i)) w i)
  let from_ := fun (l : List (Nat × Nat)) k t => match tabGet l k with | some m => nsMax t m | none => t
  from_ s.gates.commits g (from_ s.gates.floor 17 (from_ s.gates.floor (gCourse w) e))

/-- An activation as it begins, with its guard and pre-tune instant. -/
def State.newAct (s : State) (g i : Nat) (w : List Word) (guard pre : Nat) : Activ :=
  { gate := g, iter := i, w := w, inst := s.instant w i, guard := guard, pre := pre, phase := 0, bank := s.bankFor (s.instant w i),
    chan := s.chanFor w i, lane := none, desc := none, late := beforeMark s.gates.floor 16 pre }

/-- The words that the gate engine and TXC read for an activation (R53, R57, R61, R87, R90, R143): the entry, its hop-sequence word, its
routine state, its channel's calibration entry, its profile, and the entry of the neighbour that it names. -/
def State.gateReads (s : State) (g : Nat) (w : List Word) (i a : Nat) : Bool :=
  let bk := bankAt (s.bankFor (s.instant w i))
  inRange (0x828000 + 6 * (g % 4096)) 6 a || inRange (bk + 8 * routineOf w) 8 a ||
    (usesChan w && (a == s.hopAddr w i || inRange (bk + 0x4000 + 4 * s.chanFor w i) 4 a || inRange (bk + 0x1400 + 8 * s.profFor w) 8 a)) ||
    (namesNbr w && inRange (nbrAddr (gNbr w) 0) 12 a)

/-- The guard is computed once, and with it the pre-tune instant (R61). -/
def guardEval (g i : Nat) (s : State) : State :=
  let w := s.gateEntry g
  let e := s.guardFor w (s.instant w i)
  let t := engSee 12 (s.gateReads g w i) s
  putAct (s.newAct g i w e.1 (s.pretuneAt w i e.1)) (when e.2 (gateCount 10) (markMade g i t))

/-! ## Look-ahead (R69, R97) -/

/-- The next pre-tune of a gate at or after now, of a course that runs. -/
def State.nextPretune (s : State) (w : List Word) : Option Nat :=
  let c := gCourse w
  let p := s.period c
  let est := s.iterNow c
  let l := (s.guardFor w (s.instant w est)).1 + 1000 * s.leadFor (s.bankFor (s.instant w est)) w est
  let base := s.cstart c + gOffset w
  let i0 := if nsLe base (s.now + l) then (nsSince base (s.now + l) + p - 1) / p else 0
  let m := gMod w
  let i1 := if m < 2 then i0 else i0 + (gPhase w + m - i0 % m) % m
  if s.courseOn c && gEnable w && (s.courseRun c || nsLt (s.instant w i1) (s.nextBoundary c)) then
    some (s.pretuneAt w i1 (s.guardFor w (s.instant w i1)).1)
  else none

/-- Some gate that satisfies `p` reaches its pre-tune before `until_`. -/
def State.nextUse (s : State) (p : List Word → Bool) (until_ : Nat) : Bool :=
  s.gatesRun && (s.gates.acts.any (fun a => a.phase == 0 && p a.w && nsLt a.pre until_) || (List.range 4096).any (fun g =>
    let w := s.gateEntry g
    gEnable w && p w && (match s.nextPretune w with | some t => nsLt t until_ | none => false)))

/-- A class-0 activation will claim the band's chain before `until_`. -/
def State.yieldChain (s : State) (b until_ : Nat) : Bool :=
  s.nextUse (fun w => gClass w == 0 && isTx w && gBand w == b) until_

/-- A class-0 activation will claim lane `n` before `until_`. -/
def State.yieldLane (s : State) (n until_ : Nat) : Bool :=
  s.nextUse (fun w => gClass w == 0 && (isRx w || gAction w == 3) && gLane w == n) until_

/-! ## Claims -/

/-- A standing assignment is suspended behind a class-0 activation (R130). -/
def suspendLane (n : Nat) (s : State) : State :=
  let s1 := s.setLane n { s.lane n with susp := some (s.laneChan n, s.laneInput n, s.laneProf n) }
  laneShow n ((s1.setFld (R.laneBind n) 22 2 0).setBit (R.laneBind n) 10 true)

/-- An assignment that has resumed on a lane that is being claimed is suspended again. -/
def holdOff (n : Nat) (s : State) : State := if s.holder n = 2 then suspendLane n s else s

/-- Lane `n` is claimed (R69); none where the claim fails. A frame in reception there is abandoned. -/
def claimLane (n : Nat) (c : Claim) (s : State) : Option State :=
  if s.laneFree n then some s
  else if !s.lanePresent n ∨ s.bit R.laneOos n then none
  else
    let cut := fun t : State => abandonFrame n t
    let low := c.cls == 0
    match s.holder n with
    | 1 =>
      match s.laneAct n with
      | some a =>
        if !low || !c.beats a.claim || (a.phase != 1 && gClass a.w == 0) then none
        else if a.phase = 3 then
          match s.laneWait n with
          | some (b, wt) => some (holdOff n (ackFailed b wt (gateCount 7 (cut s))))
          | none => some (holdOff n (loseAct c a (cut s)))
        else some (holdOff n (loseAct c a (cut s)))
      | none => none
    | 2 => if low then some (suspendLane n (gateCount 7 (cut s))) else none
    | 3 =>
      if !low then none
      else
        match (s.lane n).measure, s.laneTx n, s.laneWait n with
        | some (t, tag), _, _ => some (holdOff n (freeLane n (finishTag t tag St.busy [] (gateCount 7 (cut s)))))
        | none, some (b, r), _ => some (holdOff n (loseChain b c r (cut s)))
        | none, none, some (b, wt) => some (holdOff n (ackFailed b wt (gateCount 7 (cut s))))
        | none, none, none => none
    | _ =>
      match (s.lane n).frame with
      | some f => if f.hcls = 0 || !low then none else some (gateCount 7 (cut s))
      | none => none

/-- Every lane of a list is claimed. -/
def claimLanes (c : Claim) : List Nat → State → Option State
  | [], s => some s
  | n :: l, s => (claimLane n c s).bind (claimLanes c l)

/-- The lane of an activation (R69): the one it names, or under ANYLANE the lowest free one of LANEPOOL. -/
def State.pickLane (s : State) (w : List Word) : Nat :=
  if s.laneFree (gLane w) || !gAny w then gLane w
  else ((List.range 16).find? (fun n => s.bit R.gateLanepool n && s.laneFree n)).getD (gLane w)

/-- The lowest free lane a command may take (R130). -/
def State.cmdLane (s : State) : Option Nat := (List.range 16).find? (fun n => s.bit R.gateLanepool n && s.laneFree n)

/-- The chain is claimed (R69). A sender that waits for its acknowledgement still holds it. -/
def claimChain (b : Nat) (c : Claim) (s : State) : Option State :=
  match (s.band b).chain, (s.band b).wait with
  | none, none => claimIdle b c.cls s
  | some r, _ => if s.chainYields c r then some (loseChain b c r s) else none
  | none, some wt => if c.cls = 0 ∧ (s.txClaim wt.tx).cls ≠ 0 then some (ackFailed b wt (gateCount 7 s)) else none

/-- A receive lane and its paths are claimed and bound to a channel; the paths are tuned, every one for an activation, and a retuned path
takes the gain of routine state `rs` (R60, R91). -/
def claimRx (bk : Bool) (b n input chan prof : Nat) (c : Claim) (holder : Nat) (rs : Option Nat) (s : State) : Option State :=
  ((claimSyn b (if s.mode = 5 then [] else s.inPaths input) chan c s).bind (claimLane n c)).bind (fun s1 =>
    (claimLanes c (s1.clashLanes n input chan) s1).map (fun s2 =>
      bindLane n holder input chan prof c.cls (c.gate.getD 0) (tunePathsAt (holder == 1) bk input chan rs s2)))

/-! ## Transmissions -/

/-- What a transmission is prepared from. -/
structure TxPlan where
  src : TxBy
  b : Nat
  cls : Nat
  chan : Nat
  prof : Nat
  port : Nat
  rs : Nat
  bk : Bool
  inst : Nat
  latest : Nat
  code : Option Nat
  cca : Bool
  desc : Option Word
  fb : List Octet
  deriving DecidableEq, Repr

/-- The request of a plan with its frame: its header and tone map (R156, R157), the one read of its calibration entry (R87), power
settings from the sensors now, with CAPPED (R103). `free`: SYNT is tuned for it at once. -/
def txRequest (p : TxPlan) (x : Built) (dst : Option Nat) (air : Nat) (expect : Option (Nat × Option Nat)) (lane : Option Nat) (free : Bool)
    (s : State) : TxReq × State :=
  let code := match p.code with | some c => min (pwrMax p.b) c | none => s.pwrOf p.bk p.b p.rs
  let (c, capped, drive, bias) := s.txPower p.bk p.b p.port code
  let (hdr, codes) := s.frameHdr p.bk p.prof dst (x.psdu.length + s.fcsLen p.bk p.prof) x.type
  ({ src := p.src, cls := p.cls, chan := p.chan, prof := p.prof, mode := s.profMode p.bk p.prof 0, port := p.port, routine := p.rs, bank := p.bk, psdu := x.psdu,
     seal_ := x.seal_, hdr := hdr, air := air, freq := (s.calWord p.bk p.chan 0).toNat, trim := s.calWord p.bk p.chan 2, inst := p.inst,
     latest := p.latest, ramp := s.rampOf p.bk p.b p.rs, pwr := c, drive := drive, bias := bias, cca := p.cca, expect := expect,
     ackLane := lane, desc := p.desc, tuned := free, up := false, begun := false, launch := 0, retry := false, codes := codes, fb := p.fb,
     sent := none },
   when capped (fun t => t.count (R.txcCounters p.b 4)) s.drawn)

/-- The wait for an acknowledgement in µs: DLY and TOL (R65, R197). -/
def State.ackWaitUs (s : State) : Nat := s.ackDly + s.fld R.linkAckcfg 16 8

/-- The destination and the acknowledgement request of a record's frame. -/
def State.recDst (s : State) (bk : Bool) (desc : Word) : Option Nat × Bool :=
  let w0 := s.mw (bufBase (bits desc 0 12))
  let dst := if bitOf w0 15 then none else some (bits w0 0 13)
  (dst, dst.isSome && (bitOf w0 17 || bitOf (s.descWord bk (bits w0 18 6) 2) 7))

/-- The frame of a transmit activation, its destination, and whether it asks for an acknowledgement: from the queue's head, as a
beacon, or as a sounding frame (R54). -/
def actFrame (w : List Word) (bk : Bool) (inst : Nat) (s : State) : (Except BuildFail Built × State) × Option Nat × Bool :=
  if gAction w = 3 then
    let d := s.qPeek (bits (gArg w) 0 7)
    let e := s.recDst bk d
    (buildRecord bk d inst s, e.1, e.2)
  else
    let q : BuildReq := if gAction w = 4 then
        { d := bits (gArg w) 0 6, dst := none, ar := false, pies := [], pay := [], inst := inst, beacon := true, again := none, type := 0 }
      else { d := Config.soundDesc, dst := some (gNbr w), ar := false, pies := [], pay := [], inst := inst, beacon := false, again := none,
             type := 1 }
    (buildFrame bk q s, q.dst, s.buildAr bk q)

/-- The acknowledgement a frame awaits: its neighbour, and its counter where it carries one. -/
def awaited (ar : Bool) (dst : Option Nat) (x : Built) : Option (Nat × Option Nat) :=
  match ar, dst with
  | true, some n => some (n, x.ck.map (·.1))
  | _, _ => none

/-- The descriptor an activation was made for leaves its queue: the head, or, where the claim has put a preempted frame back before
it, its place behind that frame. -/
def takeDesc (q : Nat) (d : Word) (s : State) : State := if s.qPeek q = d then (qPop q s).2 else qTake q d s

/-- The pre-tune of a transmit activation (R59, R65, R69): a chain that is not to be had is judged before an empty queue (log 124). -/
def pretuneTx (a : Activ) (port : Nat) (s : State) : State :=
  let w := a.w
  let b := gBand w
  let c := gClass w
  let k := a.claim
  let bk := a.bank
  let rs := routineOf w
  let prof := s.profFor w
  if (claimChain b k s).isNone || (claimSyn b [2] 1024 k s).isNone then missed 3 c s
  else if gAction w = 3 ∧ s.qPeek (bits (gArg w) 0 7) = 0xFFFFFF then gateCount 12 s
  else
    let ((res, s1), dst, ar) := actFrame w bk a.inst s
    match res with
    | .error .badDesc => missed 4 c s1
    | .error _ => s1
    | .ok x =>
      let air := s1.frameAir bk prof dst x.psdu.length (gAction w == 5)
      let len := air + (if ar then s1.ackWaitUs else 0)
      if gAction w = 3 ∧ gDur w < len then missed 11 c s1
      else if c ≠ 0 && (s1.yieldChain b (a.inst + 1000 * len) || (ar && s1.yieldLane (gLane w) (a.inst + 1000 * len))) then missed 8 c s1
      else
        match (claimChain b k s1).bind (claimSyn b [2] 1024 k) with
        | none => missed 3 c s1
        | some s2 =>
          let lane := if ar then some (gLane w) else none
          match (if ar then claimRx bk b (gLane w) (4 * b) a.chan prof k 1 (some rs) s2 else some s2) with
          | none => missed 3 c s1
          | some s3 =>
            let desc := if gAction w = 3 then some (s.qPeek (bits (gArg w) 0 7)) else none
            let s4 := match desc with | some d => takeDesc (bits (gArg w) 0 7) d s3 | none => s3
            let plan : TxPlan := { src := .gate a.gate a.iter, b := b, cls := c, chan := a.chan, prof := prof, port := port, rs := rs,
                                   bk := bk, inst := a.inst, latest := a.inst, code := none, cca := false, desc := desc, fb := [] }
            let (r, s5) := txRequest plan x dst air (awaited ar dst x) lane true s4
            let cut := match (s.band b).chain with | some q => q.up | none => false
            setChain b (some r)
              (putAct { a with phase := 1, lane := lane, desc := desc, late := a.late || cut } (tuneSynIn bk b 2 a.chan s5))

/-! ## Calibration items for gates and the rotation (R94, R97) -/

/-- Valid entries of a band, in ascending order. -/
def State.validCal (s : State) (b : Nat) : List Nat :=
  (List.range 1024).filter (fun e => bitOf (s.calWord s.bank e 1) 23 && bits (s.calWord s.bank e 1) 22 1 == b)

/-- The valid entry of the band whose TEMP differs most from the die temperature, if by TDELTA or more (R97). -/
def State.calPick (s : State) (b : Nat) : Option Nat :=
  let t := signed (s.fld (R.feStatus b) 16 8) 8
  let diff := fun (e : Nat) => (signed (bits (s.calWord s.bank e 3) 16 8) 8 - t).natAbs
  match (s.validCal b).foldl (fun m e => match m with | some x => if diff x < diff e then some e else some x | none => some e) none with
  | some e => if s.fld (R.feCalpol b) 16 8 ≤ diff e then some e else none
  | none => none

/-- The synthesizer a SYNTH slice takes: a free one, preferring SYNT (R94). -/
def State.calSyn (s : State) (b : Nat) : Nat :=
  if (s.band b).chain.isNone && (s.band b).waiting.isEmpty then 2
  else ([0, 1].find? (fun k => (List.range 16).all (fun n =>
    s.holder n == 0 || !(s.laneInput n / 4 == b && inputPath (s.laneInput n) (k + 1))))).getD 2

/-- Slices of an item already done, by item and path. -/
def State.sliceDoneNo (s : State) (b item path : Nat) : Nat := tabLook 0 (s.band b).sliceNo (16 * item + path)

/-- Item `k` with the entry or path it takes; none where the rotation passes it over. -/
def State.calItem (s : State) (b k : Nat) : Option (Nat × Nat) :=
  match k with
  | 1 => (s.calPick b).map (fun e => (1, 1024 * s.calSyn b + e))
  | 3 => (s.calPick b).map (fun e => (3, 2048 + e))
  | 4 => some (4, 0)
  | 2 | 5 | 6 => some (k, if bitOf (s.band b).alt k then 1 else 0)
  | _ => none

/-- The next item of the background rotation (R97). -/
def State.rotNext (s : State) (b : Nat) : Option (Nat × Nat) :=
  ((List.range 6).map (fun j => ((s.band b).rot + j) % 6 + 1)).findSome? (fun k =>
    if s.bit (R.feCalmask b) k then s.calItem b k else none)

/-- The lanes that hold the paths an item uses, or finish a frame there. -/
def State.calLanes (s : State) (b item x : Nat) : List Nat :=
  (List.range 16).filter (fun n => (s.holder n != 0 || (s.lane n).frame.isSome) && s.laneInput n / 4 == b &&
    (s.inPaths (s.laneInput n)).any (calUses item x))

/-- The resources of an item. -/
def calRes (item x : Nat) : List Nat := [0, 1, 2].filter (calUses item x)

/-- A CALIBRATE activation holds the calibration engine of a band. -/
def State.engineHolders (s : State) (b : Nat) : List Activ :=
  s.gates.acts.filter (fun a => 1 ≤ a.phase && a.phase ≤ 3 && gAction a.w == 9 && gBand a.w == b && !(calRes (a.chan / 4096) 0).isEmpty)

/-- The calibration engine of a band, which runs one slice at a time, is claimed (log 111). -/
def claimEngine (b : Nat) (c : Claim) (s : State) : Option State :=
  let l := s.engineHolders b
  if l.any (fun a => !c.beats a.claim || (a.phase != 1 && gClass a.w == c.cls)) || s.cmdSlice b [0, 1, 2] then none
  else some (forAll l (loseAct c) s)

/-- The resources of an item on each band it holds are claimed: XO holds both front ends (R94). -/
def claimCal (c : Claim) (item x : Nat) : List Nat → State → Option State
  | [], s => some s
  | b :: l, s =>
    let rs := calRes item x
    ((((if rs.isEmpty then some s else claimEngine b c s).bind (claimSyn b rs 1024 c)).bind
      (fun t => if rs.contains 2 then claimChain b c t else some t)).bind
      (fun t => claimLanes c (t.calLanes b item x) t)).bind (claimCal c item x l)

/-- The bands whose front ends an item holds (R94). -/
def calBands (b item : Nat) : List Nat := if item = 7 then [0, 1] else [b]

/-- The entry of a VCOSWEEP's next slice: the first of the band's valid entries it has not done (R94). -/
def State.sweepAt (s : State) (b : Nat) : Nat := (s.validCal b).getD (s.sliceDoneNo b 8 0) 0

/-- The pre-tune of a CALIBRATE activation. A SYNTH or TXIQ item that it names without a qualifying entry takes entry 0 (log 107). -/
def pretuneCal (a : Activ) (s : State) : State :=
  let b := gBand a.w
  let k := bits (gArg a.w) 0 4
  let pick := if k = 0 then s.rotNext b
    else if k = 7 then some (7, 0)
    else if k = 8 then some (8, s.sweepAt b)
    else match s.calItem b k with
      | some e => some e
      | none => some (k, if k = 1 then 1024 * s.calSyn b else 2048)
  let (item, x) := pick.getD (0, 0)
  match claimCal a.claim item x (calBands b item) s with
  | none => missed 3 (gClass a.w) s
  | some s1 => putAct { a with phase := 1, chan := 4096 * item + x } s1

/-! ## Pre-tune -/

/-- The pair (iteration, offset) of the high-water mark of a course. -/
def State.mark (s : State) (n : Nat) : Nat × Nat :=
  (s.multi (R.courseMark n 0) 2, (s.reg (R.courseMark2 n)).toNat + 2 ^ 24 * s.fld (R.courseMark3 n) 0 16)

/-- The pair of an activation is at or below the mark that the last backward step found (R74). -/
def State.suppressed (s : State) (w : List Word) (i : Nat) : Bool :=
  match tabGet s.gates.passed (gCourse w) with
  | some m => decide (i < m.1 ∨ (i = m.1 ∧ gOffset w ≤ m.2))
  | none => false

/-- The pre-tune of a receive activation: its lane and paths are claimed, and the pattern of its front-end module lines (R93). -/
def pretuneRx (a : Activ) (s : State) : State :=
  let w := a.w
  let b := gBand w
  let c := gClass w
  let n := s.pickLane w
  match claimRx a.bank b n (4 * b + gInput w) a.chan (s.profFor w) a.claim 1 (some (routineOf w)) s with
  | none => missed 3 c s
  | some s1 =>
    if c ≠ 0 && s.yieldLane n (a.inst + a.guard + 1000 * gDur w) then missed 8 c s
    else putAct { a with phase := 1, lane := some n } (femClaim b a.gate a.iter a.bank (routineOf w) s1)

/-- The pre-tune of a TUNE activation: outside FULL both receive synthesizers go to the channel. -/
def pretuneTune (a : Activ) (s : State) : State :=
  let b := gBand a.w
  if s.mode = 5 then putAct { a with phase := 1 } s
  else
    match (claimSyn b [0, 1] a.chan a.claim s).bind (fun t => claimLanes a.claim (t.clashLanes 16 (4 * b) a.chan) t) with
    | none => missed 3 (gClass a.w) s
    | some s1 => putAct { a with phase := 1 } (tunePathsAt true a.bank (4 * b) a.chan (some (routineOf a.w)) s1)

/-- A mode change is requested: TARGET, and PMU asks every agent (R426 step 1). -/
def requestMode (m : Nat) (by_ : ChangeBy) (s : State) : State :=
  let s1 := ((s.setFld R.pmuMode 4 4 m).setReg R.pmuStatus (W (2 ^ 22))).setReg R.pmuLpload 0
  { s1 with pwr := { s1.pwr with
      change := some { kind := by_, delayed := 0, isolated := false, replyHold := false, said := false }
      loads := [], left := BitVec.ofNat 3 s.mode, wakeInst := s.mt.ctr, attempts := 0 } }

/-- No change of mode is in progress, and none waits for its retry. -/
def State.pmuIdle (s : State) : Bool := s.pwr.change.isNone && s.pwr.retry.isNone

/-- A WAKE_APP activation in LISTEN requests entry to RUN; during a change the request is kept (R54, R425). -/
def wakeRequest (s : State) : State :=
  if s.mode = 3 then
    (if s.pmuIdle then requestMode 4 .gate s else { s with pwr := { s.pwr with gateReq := true } })
  else s

/-- MODE0 of the transmission's profile is defined for the band, and TL-OFDM for a sounding frame (R143). -/
def State.txModeOk (s : State) (bk : Bool) (w : List Word) : Bool :=
  let m := s.profMode bk (s.profFor w) 0
  modeOk (gBand w) m && (gAction w != 5 || isTl m)

/-- An activation is judged at its pre-tune instant (R55, R64, R68, R74) and claims its resources (R59, R69). -/
def judge (a : Activ) (s : State) : State :=
  let w := a.w
  let c := gClass w
  let b := gBand w
  if s.gateBad w a.iter a.chan then missed 4 c s
  else if s.suppressed w a.iter then gateCount 6 s
  else if (driftGuard w || gAction w == 5) && (s.nbrState (gNbr w) == 0 || s.nbrState (gNbr w) == 4) then missed 5 c s
  else if isRx w && s.mode == 5 && !s.inSpan a.bank b a.chan (s.profFor w) then missed 9 c s
  else if 64 ≤ s.fld R.gateStatus 8 7 then missed 3 c s
  else if gAction w = 7 then putAct { a with phase := 1 } s
  else if gAction w = 10 then putAct { a with phase := 1 } (wakeRequest s)
  else if !s.feUp b then missed 3 c s
  else if isRx w then pretuneRx a s
  else if isTx w then
    if !s.txModeOk a.bank w then missed 3 c s
    else
      match s.portOf a.bank b (routineOf w) (gPort w) with
      | some p => pretuneTx a p s
      | none => missed 3 c s
  else if gAction w = 8 then pretuneTune a s
  else pretuneCal a s

/-- Gate `g` reaches the pre-tune instant of its activation in iteration `i` (R58, R59), and what it uses is read (R349, R350). -/
def pretune (g i : Nat) (w : List Word) (guard pre : Nat) (s : State) : State :=
  judge (s.newAct g i w guard pre) (markMade g i (dropAct g i (engSee 12 (s.gateReads g w i) s)))

/-- The bank of an activation's instant changes after its pre-tune (R78, log 118): it is released and pre-tuned again on its channel, but
for a window with a frame in reception, and an action that takes nothing from the bank. -/
def rebank (a : Activ) (s : State) : State :=
  let x := { a with bank := s.bankFor a.inst }
  let inFrame := match a.lane with | some n => (s.lane n).frame.isSome | none => false
  if inFrame || !(usesChan a.w || gAction a.w == 9) then putAct x s
  else judge { x with phase := 0, lane := none, desc := none } (releaseAct a (returnHead a s))

/-! ## The commands -/

/-- COURSE_RUN_WRITE (R49). -/
def execCourseRunWrite (w : Who) (n : Fin 16) (v : Word) (s : State) : Host.Outcome State Fault Refusal :=
  act (s.mayWrite w (R.courseCfg n.val)) (courseCfgWrite n.val (setBits v 0 1 1)) s

/-- COURSE_STOP_WRITE (R50). -/
def execCourseStopWrite (w : Who) (n : Fin 16) (v : Word) (s : State) : Host.Outcome State Fault Refusal :=
  act (s.mayWrite w (R.courseCfg n.val)) (courseCfgWrite n.val (setBits v 0 1 0)) s

/-- COURSE_STOPNOW (R50). -/
def execCourseStopnow (w : Who) (n : Fin 16) (v : Word) (s : State) : Host.Outcome State Fault Refusal :=
  act (s.mayWrite w (R.courseCfg n.val)) (courseCfgWrite n.val (setBits v 3 1 1)) s

/-- COURSE_BOUNDARY (R50): mesh time has just reached a boundary of the course. -/
def execCourseBoundary (n : Fin 16) (s : State) : Host.Outcome State Fault Refusal :=
  act (s.linkRuns && !s.bridged && nsLe (s.cstart n.val) s.now && s.dueNow (s.lastBoundary n.val))
    (courseBoundary n.val (s.lastBoundary n.val)) s

/-- GATE_COMMIT (R76). -/
def execGateCommit (w : Who) (v : Word) (s : State) : Host.Outcome State Fault Refusal :=
  act (s.mayWrite w R.gateCommit) (gateCommitWrite (setBits v 12 1 1)) s

/-- GUARD_EVALUATION (R61): the evaluation instant of gate `g` in iteration `i` has come. -/
def execGuardEvaluation (g : BitVec 12) (i : BitVec 48) (s : State) : Host.Outcome State Fault Refusal :=
  act (let w := s.gateEntry g.toNat
       driftGuard w && s.mayMake g.toNat i.toNat w && s.dueNow (s.evalAt g.toNat w i.toNat) && (s.activ g.toNat i.toNat).isNone &&
         s.afterStart g.toNat w (s.pretuneAt w i.toNat (s.guardFor w (s.instant w i.toNat)).1))
    (guardEval g.toNat i.toNat) s

/-- GATE_PRETUNE (R59): the pre-tune instant of gate `g` in iteration `i` has come; a window with a drift guard has had its guard
evaluated. A pre-tune instant that a change of its lead has moved into the past comes no more (log 123). -/
def execGatePretune (g : BitVec 12) (i : BitVec 48) (s : State) : Host.Outcome State Fault Refusal :=
  match s.activ g.toNat i.toNat with
  | some a =>
    act (s.gatesRun && a.phase == 0 && s.dueNow a.pre && !beforeMark s.gates.floor 16 a.inst)
      (fun s => settle (pretune g.toNat i.toNat a.w a.guard a.pre s)) s
  | none =>
    let w := s.gateEntry g.toNat
    let gd := (s.guardFor w (s.instant w i.toNat)).1
    let pre := s.pretuneAt w i.toNat gd
    act (!driftGuard w && s.mayMake g.toNat i.toNat w && s.dueNow pre && s.afterStart g.toNat w pre)
      (fun s => settle (pretune g.toNat i.toNat w gd pre s)) s

/-- FRAME_ACCEPT (R181): LINK judges the first frame that waits; an acknowledgement of class 1 to 3 yields to a class-0
activation that would claim the chain before it ends (R69). -/
def execFrameAccept (s : State) : Host.Outcome State Fault Refusal :=
  act (s.linkRuns && s.bit R.linkCtrl 0 && !s.link.inbox.isEmpty)
    (frameAccept (fun x c => c != 0 && s.yieldChain x.band (nsOf x.ended + 1000 * (s.ackDly + s.ackAir x (ackLen x))))) s

end Sys2Proof.Machine
end

