-- ==== Sys2Proof/Machine/GateFire.lean ====
section
/-! DEFINITION. Activations at and after their instants: windows, transmissions, events, tuning holds and calibration (R54, R61, R63,
R471), the transmit chain from ramp-up to its blanking's end (R105, R106, R108, R109), and the lines of the front-end modules (R93). -/
namespace Sys2Proof.Machine

open Sys2Proof

/-! ## Firing -/

/-- The activation has fired: the course's high-water mark is the greatest pair fired (R74). -/
def fireMark (a : Activ) (s : State) : State :=
  let n := gCourse a.w
  let m := s.mark n
  let o := gOffset a.w
  let s1 := if bitOf s.gates.fired n && decide (a.iter < m.1 ∨ (a.iter = m.1 ∧ o ≤ m.2)) then s
    else ((s.setMulti (R.courseMark n 0) 2 a.iter).setReg (R.courseMark2 n) (W o)).setReg (R.courseMark3 n) (W (o / 2 ^ 24 % 2 ^ 16))
  s1.setGates { s1.gates with fired := s1.gates.fired ||| (1#16 <<< n) }

/-- The paths of a receive activation's lane are locked (R59, R75). -/
def State.rxLocked (s : State) (a : Activ) : Bool :=
  (s.inPaths (4 * gBand a.w + gInput a.w)).all (fun k => s.synLocked (gBand a.w) k)

/-- A receive window opens, with its front-end module pattern; one that opens late counts in LATE (R75, R93). -/
def openWindow (late : Bool) (a : Activ) (s : State) : State :=
  fireMark a (putAct { a with phase := 2 } (femOn (gBand a.w) (fun e => e.gate == a.gate && e.iter == a.iter) (when late (gateCount 2) s)))

/-- The instant at which a receive window opens. -/
def winStart (a : Activ) : Nat := nsBack a.inst a.guard

/-- The window of a claimed activation may open: its opening has come and its paths are locked. -/
def State.mayOpen (s : State) (a : Activ) : Bool := a.phase == 1 && isRx a.w && nsLe (winStart a) s.now && s.rxLocked a

/-- Nanoseconds of an activation's DURATION. -/
def durNs (a : Activ) : Nat := 1000 * gDur a.w

/-- The end of a receive window: instant + DURATION + GUARD for RX_LISTEN, instant + G otherwise (R54, R61). -/
def winEnd (a : Activ) : Nat := a.inst + a.guard + (if gAction a.w = 1 then durNs a else 0)

/-- The window may close: its end has come; one that follows a neighbour stays for a frame in reception until the frame ends, and
never later than I + G + DURATION (R61). -/
def State.mayClose (s : State) (a : Activ) : Bool :=
  isRx a.w && (a.phase == 1 || a.phase == 2) && nsLe (winEnd a) s.now &&
    (!driftGuard a.w || nsLe (a.inst + a.guard + durNs a) s.now ||
      (match a.lane with | some n => (s.lane n).frame.isNone | none => true))

/-- A receive window closes (R63, R75, R471): one that never opened counts in LATE alone; a frame still in reception drains; with
verdicts pending the activation is settled by the last of them. -/
def closeWindow (a : Activ) (s : State) : State :=
  if a.phase = 1 then releaseAct a (gateCount 2 s)
  else if driftGuard a.w && s.winPending a then
    let s1 := match a.lane with | some n => if s.holder n == 1 then freeLane n s else s | none => s
    putAct { a with phase := 4, lane := none } (femClose (gBand a.w) a.gate a.iter s1)
  else closeMissed a (releaseAct a s)

/-- Synthesizers that TUNE's SYN names. -/
def tuneSyns (syn : Nat) : List Nat := if syn = 2 then [0, 1] else if syn = 3 then [2] else [syn]

/-- SYN of the TUNE that executes. -/
def State.tuneSyn? (s : State) : Nat :=
  match s.cmdp.exec with
  | some r => (octAt (s.recParams r) 1).toNat
  | none => 0

/-- A TUNE whose synthesizers are all locked ends: cold search, and the lock time in µs of mesh time (R275). -/
def tuneDone (b : Nat) (s : State) : State :=
  if (tuneSyns s.tuneSyn?).all (s.synLocked b) then
    finishRun 0x11 (fun p => octAt p 0 == O b) St.done
      (O (if s.cmdp.tuneCold then 1 else 0) :: natLe 2 (min 0xFFFF ((s.mt.ctr - s.cmdp.tuneStart).toNat / 256000))) s
  else s

/-- A request that waited for SYNT's tune to finish tunes it now (R108). -/
def chainTune (b : Nat) (s : State) : State :=
  match (s.band b).chain with
  | some r =>
    if r.tuned then setChain b (some r) s
    else setChain b (some { r with tuned := true }) (tuneSynIn r.bank b 2 r.chan s)
  | none => setChain b none s

/-- A synthesizer locks, and windows that have waited for it open late. -/
def synthLock (b k : Nat) (s : State) : State :=
  let s1 := lockSyn b k s
  let s2 := forAll (s1.gates.acts.filter (fun a => gBand a.w == b && s1.mayOpen a && nsLt (winStart a) s1.now)) (openWindow true) s1
  tuneDone b (if k = 2 then chainTune b s2 else s2)

/-! ## Events, tuning holds, wakes -/

/-- An EMIT_EVENT activation fires; with WINEN it holds its window level from now on (R54). -/
def emitEvent (a : Activ) (s : State) : State :=
  let s1 := fireMark a (fire (bits (gArg a.w) 0 3) s)
  if bitOf (gArg a.w) 6 then putAct { a with phase := 2 } s1 else dropAct a.gate a.iter s1

/-- The hold on a window level ends. -/
def winLevelEnd (a : Activ) (s : State) : State := dropAct a.gate a.iter s

/-- A TUNE activation fires; one whose lead a step has cut short and whose synthesizers are not locked counts in LATE instead (R73, log
126). -/
def tuneFire (a : Activ) (s : State) : State :=
  if a.late && s.mode != 5 && !([0, 1].all (s.synLocked (gBand a.w))) then releaseAct a (gateCount 2 s)
  else fireMark a (putAct { a with phase := 2 } s)

/-- A WAKE_APP activation fires (R54). -/
def wakeApp (a : Activ) (s : State) : State :=
  dropAct a.gate a.iter (fireMark a (fire (8 + bits (gArg a.w) 0 2) (wakeRequest s)))

/-! ## Calibration (R94 to R99) -/

/-- Slices of an item (R94): VCOSWEEP takes one for each valid entry. -/
def State.calSlices (s : State) (b item : Nat) : Nat :=
  if item = 5 then 4 else if item = 6 then 2 else if item = 8 then max 1 (s.validCal b).length else 1

/-- A background slice ends for a calibration that was asked for: its results are discarded, and it counts nowhere (log 111). -/
def dropBackground (b : Nat) (s : State) : State :=
  match (s.band b).slice with
  | some c => if c.asked then s
    else leaveSlice b c (calStat b c.item 1 ((s.setBand b { s.band b with slice := none }).setBit (R.feStatus b) 3 false))
  | none => s

/-- A slice starts: CALSTAT.ITEM; STATUS.SLICE for a background slice. -/
def sliceStart (b : Nat) (c : CalSlice) (s : State) : State :=
  let s0 := if c.asked then dropBackground b s else s
  let s1 := (s0.setBand b { s0.band b with slice := some c }).setFld (R.feCalstat b) 20 4 c.item
  if c.asked then s1 else s1.setBit (R.feStatus b) 3 true

/-- PACHK is armed: it measures the band's next frame of 60 µs or more. -/
def armPachk (b : Nat) (s : State) : State := s.setBand b { s.band b with pachk := true }

/-- A CALIBRATE activation fires: its slice may last DURATION, at most 150 µs (R54). -/
def calFire (a : Activ) (s : State) : State :=
  let b := gBand a.w
  let item := a.chan / 4096
  let s1 := fireMark a s
  if item = 0 then releaseAct a s1
  else if item = 4 then releaseAct a (armPachk b s1)
  else sliceStart b { item := item, x := a.chan % 4096, asked := true, limit := some (min 150 (gDur a.w)) } (putAct { a with phase := 2 } s1)

/-- The length of a slice in µs (R94). -/
def sliceUs (item : Nat) : Nat := [0, 110, 30, 140, 0, 150, 120, 4000, 110].getD item 0

/-- A CALIBRATE gate's item may use a resource of `rs` (R94); NEXT may be any item. -/
def calGateUses (k : Nat) (rs : List Nat) : Bool :=
  match k with
  | 2 | 5 | 6 => rs.any (· < 2)
  | 3 => rs.contains 2
  | 4 => false
  | _ => true

/-- A gate's action uses a resource of `rs` on band `b`; the acknowledgement of a TX_QUEUE gate's frame comes on both paths. -/
def State.gateUses (s : State) (b : Nat) (rs : List Nat) (w : List Word) : Bool :=
  (gBand w == b && ((isRx w && (s.inPaths (4 * b + gInput w)).any rs.contains) || (isTx w && rs.contains 2) ||
    ((gAction w == 3 || gAction w == 8) && rs.any (· < 2)) || (gAction w == 9 && calGateUses (bits (gArg w) 0 4) rs))) ||
  (gAction w == 9 && bits (gArg w) 0 4 == 7)

/-- A background slice of the item may start (R96, R97). -/
def State.mayCal (s : State) (b item x : Nat) : Bool :=
  let rs := calRes item x
  s.feUp b && s.bit (R.feCalpol b) 0 && (s.band b).slice.isNone && (s.synHolders b rs 1024).isEmpty && !s.cmdSlice b rs &&
    (s.calLanes b item x).isEmpty &&
    !(rs.contains 2 && ((s.band b).chain.isSome || (s.band b).wait.isSome || !(s.band b).waiting.isEmpty)) &&
    !s.gates.acts.any (fun a => 1 ≤ a.phase && a.phase ≤ 3 && s.gateUses b rs a.w) &&
    !s.nextUse (s.gateUses b rs) (s.now + 1000 * (sliceUs item + 10))

/-- The calibration entries' validity and temperatures are read (R97, R349, R350). -/
def calSee (bk : Bool) (s : State) : State :=
  engSee 11 (fun a => inRange (bankAt bk + 0x4000) 4096 a && a % 2 == 1) s

/-- The rotation's next slice starts; while its resources are not free the rotation waits at it (log 128). -/
def calStart (b : Nat) (s : State) : State :=
  match s.rotNext b with
  | none => s
  | some (item, x) =>
    if item = 4 then
      let s1 := armPachk b s
      s1.setBand b { s1.band b with rot := 4 }
    else if s.mayCal b item x then sliceStart b { item := item, x := x, asked := false, limit := none } (calSee s.bank s) else s

/-- The words of a calibration entry after a slice (R94): SYNTH sets VCOBAND, CAPCODE, LOOPGAIN, SETTLE and TEMP and makes it valid; TXIQ
sets the four trims. -/
def State.calResult (s : State) (b item e : Nat) (w1 w2 w3 : Word) : List Word :=
  let l := s.calEntry s.bank e
  let t := s.fld (R.feStatus b) 16 8
  if item = 1 ∨ item = 8 then
    [l.getD 0 0, W (2 ^ 23 + bits (l.getD 1 0) 22 1 * 2 ^ 22 + bits w1 0 22), l.getD 2 0,
     W (t * 2 ^ 16 + bits (l.getD 3 0) 8 8 * 2 ^ 8 + bits w3 0 8)]
  else [l.getD 0 0, l.getD 1 0, w2, l.getD 3 0]

/-- The activation whose slice runs on a band. -/
def State.calAct (s : State) (b : Nat) : Option Activ :=
  s.gates.acts.find? (fun a => gAction a.w == 9 && gBand a.w == b && a.phase == 2)

/-- The trims of SYN1, SYN2 and SYNT set (R94). -/
def putTrims (b : Nat) (trim : List Word) (s : State) : State :=
  forAll [0, 1, 2] (fun k t => match trim[k]? with | some v => t.setFld (R.feSynTrim b k) 0 16 v.toNat | none => t) s

/-- What a finished slice leaves: its entry's words, and at the end of a VCOSWEEP the trims (R87, R88, R94). A VCOSWEEP writes valid entries
alone. -/
def sliceResult (b : Nat) (c : CalSlice) (last : Bool) (w1 w2 w3 : Word) (trim : List Word) (s : State) : State :=
  let e := c.x % 1024
  if c.item = 1 ∨ c.item = 3 ∨ c.item = 8 then
    when (c.item == 8 && last) (putTrims b trim)
      (when (c.item != 8 || (s.validCal b).contains e)
        (fun t => (engCal b e (t.calResult b c.item e w1 w2 w3) t).setFld (R.feCalstat b) 0 10 e) s)
  else s

/-- A calibration slice ends (R87, R88, R94). One that would last longer than its gate lets it ends unfinished, with the result STOPPED
(log 106). The rotation moves on past an item that it or a NEXT gate took, and a path item's next path is the other one (R97). -/
def sliceDone (b : Nat) (ok : Bool) (w1 w2 w3 : Word) (trim : List Word) (s : State) : State :=
  match (s.band b).slice with
  | none => s
  | some c =>
    let long := match c.limit with | some l => decide (l < sliceUs c.item) | none => false
    let good := ok && !long
    let path := c.item == 2 || c.item == 5 || c.item == 6
    let key := 16 * c.item + (if path then c.x else 0)
    let no := tabLook 0 (s.band b).sliceNo key + 1
    let whole := decide (s.calSlices b c.item ≤ no)
    let act? := s.calAct b
    let finished := !good || whole || !c.asked || act?.isSome
    let turn := !c.asked || act?.any (fun a => bits (gArg a.w) 0 4 == 0)
    let s1 := when good (sliceResult b c whole w1 w2 w3 trim) s
    let s2 := when finished (leaveSlice b c) s1
    let s3 := s2.setBand b { s2.band b with
      slice := if finished then none else some { c with x := if c.item = 8 then (s.validCal b).getD no 0 else c.x }
      sliceNo := tabPut 0 (s2.band b).sliceNo key (if long then no - 1 else if !ok || whole then 0 else no)
      rot := if turn && (whole || !ok) && c.item ≤ 6 then c.item else (s2.band b).rot
      alt := if good && whole && path then
          (if c.x = 0 then (s2.band b).alt ||| (1#16 <<< c.item) else (s2.band b).alt &&& ~~~(1#16 <<< c.item))
        else (s2.band b).alt }
    let s4 := when (good && whole) (itemDone b c.item) s3
    let s5 := when finished (fun t => (calStat b c.item (if long then 3 else if ok then 0 else 2) t).setBit (R.feStatus b) 3 false) s4
    match act? with
    | some a => releaseAct a s5
    | none =>
      if c.asked && finished then
        finishRun 0x12 (fun p => octAt p 0 == O b) (if ok then St.done else St.hwFault) (if ok then [0, O (min 255 no)] else []) s5
      else s5

/-- The frame in reception on a lane is lost as its front end goes out of service (R99). -/
def dropFrame (n : Nat) (s : State) : State := if (s.lane n).frame.isSome then laneIdle n (reportAbandoned n s) else s

/-- A full calibration starts (R99): FULLBUSY; a background slice ends, uncounted, and the lanes of the band lose their frames; FES's holds
FEG too for its first item, XO (R94). -/
def fullStart (b : Nat) (s : State) : State :=
  if s.fullBusy b then s
  else
    let s1 := dropBackground b (when (b == 0) (dropBackground 1) s)
    let s2 := (s1.setBand b { s1.band b with fullStop := false, fullAt := s1.now }).setBit (R.feStatus b) 4 true
    settle (forAll ((List.range 16).filter (fun n => s2.fullHolds (s2.laneInput n / 4))) dropFrame s2)

/-- CTRL.EN stored: as it is set in FULL the receive synthesizers go to the span centre (R83). -/
def feEnable (b : Nat) (on : Bool) (s : State) : State :=
  let s1 := s.setBit (R.feCtrl b) 0 on
  let c := s.fld (R.feSpan b) 0 10
  if on && !s.bit (R.feCtrl b) 0 && s.mode == 5 then tuneSyn b 1 c (tuneSyn b 0 c s1) else s1

/-- The front end's CTRL written (R83, R99): EN, CLRCNT, FULLGO, CALSTOP. -/
def feCtrlWrite (b : Nat) (v : Word) (s : State) : State :=
  let s2 := feEnable b (bitOf v 0) s
  let s3 := if bitOf v 3 then forAll (List.range 6) (fun m t => t.setReg (R.feCounters b m) 0) s2 else s2
  let s4 := if bitOf v 1 then fullStart b s3 else s3
  if bitOf v 2 then s4.setBand b { s4.band b with fullStop := s4.fullBusy b } else s4

/-- The items of a full calibration in their order (R99). -/
def fullItems (b : Nat) : List Nat := (if b = 0 then [7] else []) ++ [8, 2, 5, 6, 3]

/-- What a full calibration leaves in the valid entry `e`: VCOSWEEP's words, TXIQ's words, as its event lists them; an entry that the
event does not list takes open ones (R94, R99). -/
def fullEntry (b : Nat) (results : List (Nat × List Word)) (sweep iq : Bool) (e : Nat) (s : State) : State :=
  let l := match results.find? (fun x => x.1 == e) with | some x => x.2 | none => []
  let w := fun j => l.getD j (Config.freeWord (s.draws + j))
  when iq (fun t => engCal b e (t.calResult b 3 e 0 (w 1) 0) t)
    (when sweep (fun t => engCal b e (t.calResult b 8 e (w 0) 0 (w 2)) t) s).drawn.drawn.drawn

/-- A full calibration ends (R99): trims and the valid entries are written, the ages of the items finished restart, PACHK is armed; one
that CALSTOP ended keeps the results of the `m` items it finished, and of the item in progress those of the entries listed (R97). -/
def fullDone (b : Nat) (trim : List Word) (results : List (Nat × List Word)) (m : Nat) (s : State) : State :=
  let stop := (s.band b).fullStop
  let done := if stop then (fullItems b).take m else fullItems b
  let part := if stop then (fullItems b)[m]? else none
  let s1 := when (done.contains 8) (putTrims b trim) s
  let s2 := forAll (s.validCal b)
    (fun e => let listed := results.any (fun x => x.1 == e)
      fullEntry b results (done.contains 8 || (part == some 8 && listed)) (done.contains 3 || (part == some 3 && listed)) e) s1
  let s3 := when (!stop) (armPachk b) (forAll done (itemDone b) s2)
  let s4 := (calStat b 8 (if stop then 3 else 0) s3).setBit (R.feStatus b) 4 false
  let s5 := leaveSyn b 2 (leaveSyn b 1 (leaveSyn b 0 (s4.setBand b { s4.band b with fullStop := false })))
  finishRun 0x12 (fun p => octAt p 0 == O b && octAt p 1 == 1) St.done [if stop then 3 else 0, O done.length] s5

/-! ## Transmission (R105 to R109) -/

/-- The ramp of a request in ns. -/
def rampNs (r : TxReq) : Nat := 1000 * r.ramp

/-- The request's latest start lets its first symbol leave RAMP µs from now (R108); 0: no limit. -/
def State.inTime (s : State) (r : TxReq) : Bool := r.latest == 0 || nsLe (s.now + rampNs r) (r.latest + 25)

/-- The request may start its ramp-up: it holds the chain, SYNT is tuned for it and locked, no assessment is still to come, its time has
come. -/
def State.mayRamp (s : State) (b : Nat) (r : TxReq) : Bool :=
  !r.up && r.tuned && s.synLocked b 2 && !r.cca && nsLe r.inst (s.now + rampNs r) && s.inTime r

/-- Lanes bound to a path of the band lose their frames, and the path power reads 0x80 (R106). -/
def blankLanes (b : Nat) (s : State) : State :=
  let s1 := s.setBand b { s.band b with blank := true }
  let s2 := forAll ((List.range 16).filter (fun n => s1.laneInput n / 4 == b)) loseFrame s1
  forAll [2 * b, 2 * b + 1] (fun p t => t.setFld (R.pathPwr p) 0 8 0x80) s2

/-- Word 2 of a routine state: FEM_RX, FEM_TX, FEM_LEAD. -/
def State.femWord (s : State) (bk : Bool) (rs : Nat) : Word := s.bw bk (8 * rs + 2)

/-- A transmission's pattern drives the band's lines (R93). -/
def femTxOn (b : Nat) (r : TxReq) (s : State) : State :=
  s.setBand b { s.band b with femTx := some (bits (s.femWord r.bank r.routine) 8 8, none) }

/-- A stand-alone frame would run into a class-0 activation's claim before it ends (R70). -/
def State.standsOff (s : State) (b : Nat) (r : TxReq) : Bool :=
  match r.src with
  | .command _ _ => s.yieldChain b (nsMax r.inst (s.now + rampNs r) + 1000 * (r.air + r.ramp + (if r.expect.isSome then s.ackWaitUs else 0)))
  | _ => false

/-- A stand-alone request goes back among those that wait for the chain; its assessment, where it asked for one, is to come again. -/
def backToWait (b : Nat) (r : TxReq) (s : State) : State :=
  let s0 := match r.ackLane with | some n => freeLane n s | none => s
  let s1 := femTxUnsent b s0
  setChain b none (s1.setBand b { s1.band b with
    waiting := { r with ackLane := none, tuned := false, cca := s.askedCca r } :: (s1.band b).waiting })

/-- The instant of the first symbol of a request whose ramp starts now: its own, where it lies in the tick that RAMP µs from now begins,
else then (R32, R65). -/
def State.symbolAt (s : State) (r : TxReq) : Nat :=
  let t := s.now + rampNs r
  if nsLe r.inst t && decide (nsSince r.inst t < 26) then r.inst else t

/-- The frame of a request as it leaves at `inst`: TXTIME filled in (R172), the instant of its first sample at the modulator (R32). -/
def TxReq.leaving (r : TxReq) (s : State) (b inst : Nat) : TxReq :=
  { r with
    up := true, inst := inst, sent := some inst
    psdu := match r.seal_ with | some e => s.sealed e true inst | none => r.psdu
    launch := BitVec.ofNat 72 (256 * inst) - BitVec.ofNat 72 (s.txDelay r.bank b r.mode r.port) }

/-- The ramp-up: the accountant admits and charges the frame, or refuses it (R66, R111); lanes are blanked. A stand-alone frame that
would still be on the air as a class-0 activation claims the chain waits for that activation instead (R70). -/
def rampUp (b : Nat) (s : State) : State :=
  match (s.band b).chain with
  | none => s
  | some r =>
    if s.standsOff b r then backToWait b r s
    else
      let (ok, s1) := dutyAdmit b r.cls r.chan r.freq (r.air + 2 * r.ramp) s
      if !ok then endUnsent b St.duty 13 true r s1
      else
        let q := r.leaving s b (s.symbolAt r)
        let s2 := (s1.setFld (R.txcStatus b) 16 8 r.pwr).setFld (R.txcStatus b) 6 10 r.drive
        let s3 := match r.desc, r.seal_ with | some d, some _ => keepOctets d q.psdu s2 | _, _ => s2
        settle (setChain b (some q) (blankLanes b (femTxOn b r s3)))

/-- A chain or waiting request whose time has passed: TX_LATE, or BUSY for a command that a class-0 activation held off (R108, R276). -/
def txLateNow (b : Nat) (s : State) : State :=
  match (s.band b).chain with
  | some r =>
    if !r.up && !s.inTime r then
      let s1 := s.count (R.txcCounters b 1)
      match r.src with
      | .gate g i =>
        let both := match s1.activ g i with | some a => a.late | none => false
        let s2 := when both (gateCount 2) (endUnsent b St.txLate 14 false r s1)
        if r.cls = 0 then gateCount 14 s2 else s2
      | _ => endUnsent b St.txLate 14 false r s1
    else waitingLate r.cls s
  | none => waitingLate 3 s
where
  waitingLate (holder : Nat) (s : State) : State :=
    match (s.band b).waiting.find? (fun r => !s.inTime r) with
    | none => s
    | some r =>
      let s1 := s.setBand b { s.band b with waiting := (s.band b).waiting.erase r }
      let s2 := setChain b (s1.band b).chain s1
      match r.src with
      | .command t tag =>
        if holder = 0 then cmdTxEnd t tag St.busy r s2 else cmdTxEnd t tag St.txLate r (s2.count (R.txcCounters b 1))
      | _ => s2

/-- Some request of the band is late. -/
def State.someLate (s : State) (b : Nat) : Bool :=
  (match (s.band b).chain with | some r => !r.up && !s.inTime r | none => false) || (s.band b).waiting.any (fun r => !s.inTime r)

/-- PACHK measures a frame of 60 µs or more (R94, R95). -/
def pachkEnd (b : Nat) (dev : Bool) (r : TxReq) (s : State) : State :=
  if !(s.band b).pachk || r.air < 60 then s
  else
    let s1 := s.setBand b { s.band b with pachk := false }
    let s2 := calStat b 4 (if dev then 2 else 0) (itemDone b 4 s1)
    let s2 := finishRun 0x12 (fun p => octAt p 0 == O b && octAt p 1 == 0 && octAt p 2 == 4) (if dev then St.hwFault else St.done)
      (if dev then [] else [0, 1]) s2
    if dev then notice 2 0x21 [O b, O r.port] (fire 0x0F (s2.count (R.feCounters b 3))) else s2

/-- The frame's attempt is over: an acknowledgement is awaited, or the transmission has succeeded (R65, R213, R276). -/
def sentFrame (b : Nat) (r : TxReq) (s : State) : State :=
  let s1 := match r.desc, r.expect with
    | some d, some _ => countTry d s
    | _, _ => s
  match r.expect with
  | some (n, c) =>
    let s2 := match r.src with
      | .gate g i => (match s1.activ g i with | some a => putAct { a with phase := 3 } s1 | none => s1)
      | _ => s1
    s2.setBand b { s2.band b with wait := some { nbr := n, ctr := c, sent := s2.now, elapsed := false, tx := r } }
  | none =>
    match r.src with
    | .gate g i =>
      match s1.activ g i with
      | some a => releaseAct a (match r.desc with | some d => freeChain d (setResult d St.done s1) | none => s1)
      | none => s1
    | .command t tag =>
      cmdTxEnd t tag St.done r (match r.desc with | some d => setResult d St.done s1 | none => s1)
    | .ack => s1

/-- The acknowledgement `r` has left completely (R193, R196). -/
def ackGone (r : TxReq) (s : State) : State :=
  if r.src = .ack then ackSent r.psdu (when (!r.begun) (fun t => t.count (R.linkCounters 10)) s) else s

/-- The last symbol leaves the ball and the PA ramps down: FRAMES, the OFFMIN gaps, PACHK. -/
def txEnd (b : Nat) (dev : Bool) (s : State) : State :=
  match (s.band b).chain with
  | none => s
  | some r =>
    let s1 := pachkEnd b dev r (s.count (R.txcCounters b 0))
    sentFrame b r (dropChain b r (ackGone r s1))

/-- The frame on air has had its airtime. -/
def State.airDone (s : State) (b : Nat) : Bool :=
  match (s.band b).chain with
  | some r => r.up && nsLe (r.inst + 1000 * r.air) (s.now + 25)
  | none => false

/-- The requests that wait for a chain end with nothing radiated; a retry in its backoff does not wait for it yet. -/
def haltWaiting (b : Nat) (s : State) : State :=
  forAll ((s.band b).waiting.filter (fun r => !r.retry)) (fun r t =>
    let t1 := setChain b (t.band b).chain (t.setBand b { t.band b with waiting := (t.band b).waiting.erase r })
    match r.src with
    | .command u tag => cmdTxEnd u tag St.aborted r t1
    | _ => t1) s

/-- HALT (R105): a frame on air is truncated and counted; every request that holds or waits for the chain and has not ramped up ends,
radiating nothing. -/
def halt (b : Nat) (s : State) : State :=
  haltWaiting b (match (s.band b).chain with
    | some r => endUnsent b St.aborted 2 false r (when r.up (fun t => t.count (R.txcCounters b 5)) s)
    | none => s)

/-- The clear-channel assessment ends (R109): its lane is released unless it stays for the acknowledgement. -/
def ccaDone (b : Nat) (mean : Octet) (s : State) : State :=
  match (s.band b).chain with
  | none => s
  | some r =>
    if signed (s.fld (R.txcCfg b) 0 8) 8 < signed mean.toNat 8 then endUnsent b St.ccaBusy 2 false r (s.count (R.txcCounters b 6))
    else if r.expect.isSome then setChain b (some { r with cca := false }) s
    else
      setChain b (some { r with cca := false, ackLane := none }) (match r.ackLane with | some n => freeLane n s | none => s)

/-- An acknowledgement's first symbol leaves: ACKSENT (R196). -/
def ackLeaves (b : Nat) (s : State) : State :=
  match (s.band b).chain with
  | none => s
  | some r => setChain b (some { r with begun := true }) (s.count (R.linkCounters 10))

/-- The frame of an acknowledgement is leaving. -/
def State.ackOnAir (s : State) (b : Nat) : Bool :=
  match (s.band b).chain with
  | some r => r.src == .ack && r.up && !r.begun && nsLe r.inst s.now
  | none => false

/-! ## Front-end module lines (R93) -/

/-- FEM_LEAD µs before a ramp-up or a window's opening the lines change. -/
def femLead (b : Nat) (s : State) : State :=
  let s1 := match (s.band b).chain with
    | some r => if nsLe r.inst (s.now + rampNs r + 1000 * bits (s.femWord r.bank r.routine) 0 8) then femTxOn b r s else s
    | none => s
  femOn b (fun e => e.off.isNone && (match s1.activ e.gate e.iter with
    | some a => nsLe (winStart a) (s1.now + 1000 * bits (s1.femWord a.bank (routineOf a.w)) 0 8)
    | none => false)) s1

/-- FEM_LAG µs after a window's close or a ramp-down's end the lines return. -/
def femLag (b : Nat) (s : State) : State :=
  let past := fun (t : Option Nat) => match t with | some e => nsLe e s.now | none => false
  s.setBand b { s.band b with
    femTx := (s.band b).femTx.filter (fun e => !past e.2)
    femRx := (s.band b).femRx.filter (fun e => !past e.off) }

/-! ## The commands -/

/-- An activation with this action in a phase, and what it does. -/
def onAct (g : BitVec 12) (i : BitVec 48) (p : Activ → Bool) (f : Activ → State → State) (s : State) :
    Host.Outcome State Fault Refusal :=
  match s.actFor g.toNat i.toNat p with
  | some a => act s.gatesRun (f a) s
  | none => .next s

/-- RX_LISTEN (R54): the window opens. -/
def execRxListen (g : BitVec 12) (i : BitVec 48) (s : State) : Host.Outcome State Fault Refusal :=
  onAct g i (fun a => gAction a.w == 1 && s.mayOpen a) (openWindow false) s

/-- RX_EXPECT (R54). -/
def execRxExpect (g : BitVec 12) (i : BitVec 48) (s : State) : Host.Outcome State Fault Refusal :=
  onAct g i (fun a => gAction a.w == 2 && s.mayOpen a) (openWindow false) s

/-- RX_SOUND (R54). -/
def execRxSound (g : BitVec 12) (i : BitVec 48) (s : State) : Host.Outcome State Fault Refusal :=
  onAct g i (fun a => gAction a.w == 6 && s.mayOpen a) (openWindow false) s

/-- The transmission of an activation has ramped up and its instant has come. -/
def State.txFires (s : State) (act : Nat) (a : Activ) : Bool :=
  gAction a.w == act && a.phase == 1 && nsLe a.inst s.now &&
    (match (s.band (gBand a.w)).chain with | some r => r.src == .gate a.gate a.iter && r.up | none => false)

/-- The first symbol leaves the ball (R65). -/
def txFire (a : Activ) (s : State) : State := fireMark a (putAct { a with phase := 2 } s)

/-- TX_QUEUE (R65). -/
def execTxQueue (g : BitVec 12) (i : BitVec 48) (s : State) : Host.Outcome State Fault Refusal :=
  onAct g i (s.txFires 3) txFire s

/-- TX_BEACON (R54). -/
def execTxBeacon (g : BitVec 12) (i : BitVec 48) (s : State) : Host.Outcome State Fault Refusal :=
  onAct g i (s.txFires 4) txFire s

/-- TX_SOUND (R54). -/
def execTxSound (g : BitVec 12) (i : BitVec 48) (s : State) : Host.Outcome State Fault Refusal :=
  onAct g i (s.txFires 5) txFire s

/-- An activation claimed, with this action, whose instant has come. -/
def State.atInstant (s : State) (act : Nat) (a : Activ) : Bool := gAction a.w == act && a.phase == 1 && nsLe a.inst s.now

/-- EMIT_EVENT (R54). -/
def execEmitEvent (g : BitVec 12) (i : BitVec 48) (s : State) : Host.Outcome State Fault Refusal :=
  onAct g i (s.atInstant 7) emitEvent s

/-- GATE_WIN_END (R54). -/
def execGateWinEnd (g : BitVec 12) (i : BitVec 48) (s : State) : Host.Outcome State Fault Refusal :=
  onAct g i (fun a => gAction a.w == 7 && a.phase == 2 && nsLe (a.inst + durNs a) s.now) winLevelEnd s

/-- GATE_TUNE (R54). -/
def execGateTune (g : BitVec 12) (i : BitVec 48) (s : State) : Host.Outcome State Fault Refusal :=
  onAct g i (s.atInstant 8) tuneFire s

/-- TUNE_HOLD_END (R54). -/
def execTuneHoldEnd (g : BitVec 12) (i : BitVec 48) (s : State) : Host.Outcome State Fault Refusal :=
  onAct g i (fun a => gAction a.w == 8 && a.phase == 2 && nsLe (a.inst + durNs a) s.now) releaseAct s

/-- GATE_CALIBRATE (R54). -/
def execGateCalibrate (g : BitVec 12) (i : BitVec 48) (s : State) : Host.Outcome State Fault Refusal :=
  onAct g i (s.atInstant 9) calFire s

/-- WAKE_APP (R54). -/
def execWakeApp (g : BitVec 12) (i : BitVec 48) (s : State) : Host.Outcome State Fault Refusal :=
  onAct g i (s.atInstant 10) wakeApp s

/-- RX_WINDOW_CLOSE (R63, R471). -/
def execRxWindowClose (g : BitVec 12) (i : BitVec 48) (s : State) : Host.Outcome State Fault Refusal :=
  onAct g i s.mayClose closeWindow s

/-- ACK_WAIT_END (R213, R471): the last instant at which the acknowledgement's first symbol could arrive has passed. -/
def execAckWaitEnd (band : Fin 2) (s : State) : Host.Outcome State Fault Refusal :=
  match (s.band band.val).wait with
  | some wt =>
    act (s.linkRuns && !wt.elapsed && nsLe (wt.sent + 1000 * s.ackWaitUs) s.now)
      (fun s => settleWait band.val (s.setBand band.val { s.band band.val with wait := some { wt with elapsed := true } })) s
  | none => .next s

/-- SYNTH_LOCK (R84). -/
def execSynthLock (band : Fin 2) (syn : Fin 3) (s : State) : Host.Outcome State Fault Refusal :=
  act (s.radioOn band.val && s.tuning band.val syn.val != 0) (synthLock band.val syn.val) s

/-- CAL_SLICE_START (R97). -/
def execCalSliceStart (band : Fin 2) (s : State) : Host.Outcome State Fault Refusal :=
  act (s.feUp band.val && s.bit (R.feCalpol band.val) 0 && (s.band band.val).slice.isNone) (calStart band.val) s

/-- CAL_SLICE_DONE (R94). -/
def execCalSliceDone (band : Fin 2) (res : Option (List Word)) (w1 w2 w3 : Word) (s : State) : Host.Outcome State Fault Refusal :=
  act (s.radioOn band.val && (s.band band.val).slice.isSome) (fun s => settle (sliceDone band.val res.isSome w1 w2 w3 (res.getD []) s)) s

/-- FULL_CAL_START (R99). -/
def execFullCalStart (w : Who) (band : Fin 2) (v : Word) (s : State) : Host.Outcome State Fault Refusal :=
  act (s.mayWrite w (R.feCtrl band.val)) (feCtrlWrite band.val (setBits v 1 1 1)) s

/-- FULL_CAL_DONE (R99). -/
def execFullCalDone (band : Fin 2) (e : FullCalEnd) (results : List (Nat × List Word)) (s : State) : Host.Outcome State Fault Refusal :=
  act (s.radioOn band.val && s.fullBusy band.val) (fullDone band.val e.trim results e.items.val) s

/-- CALSTOP (R99). -/
def execCalstop (w : Who) (band : Fin 2) (v : Word) (s : State) : Host.Outcome State Fault Refusal :=
  act (s.mayWrite w (R.feCtrl band.val)) (feCtrlWrite band.val (setBits v 2 1 1)) s

/-- TX_RAMP_UP (R108). -/
def execTxRampUp (band : Fin 2) (s : State) : Host.Outcome State Fault Refusal :=
  act (s.linkRuns && s.feUp band.val &&
      (s.band band.val).chain.any (fun r => s.mayRamp band.val r))
    (rampUp band.val) s

/-- TX_LATE (R108). -/
def execTxLate (band : Fin 2) (s : State) : Host.Outcome State Fault Refusal :=
  act (s.linkRuns && s.someLate band.val) (txLateNow band.val) s

/-- TX_END (R105). -/
def execTxEnd (band : Fin 2) (paDev : Bool) (s : State) : Host.Outcome State Fault Refusal :=
  act (s.linkRuns && s.airDone band.val) (txEnd band.val paDev) s

/-- BLANK_END (R106): 20 µs after the end of ramp-down. -/
def execBlankEnd (band : Fin 2) (s : State) : Host.Outcome State Fault Refusal :=
  act ((s.band band.val).blank && nsLe ((s.band band.val).down + 20000) s.now &&
      (s.band band.val).chain.all (fun r => !r.up))
    (fun s => s.setBand band.val { s.band band.val with blank := false }) s

/-- TX_HALT (R105). -/
def execTxHalt (w : Who) (band : Fin 2) (_v : Word) (s : State) : Host.Outcome State Fault Refusal :=
  act (s.mayWrite w (R.txcChctrl band.val)) (halt band.val) s

/-- CCA_DONE (R109). -/
def execCcaDone (band : Fin 2) (mean : Octet) (s : State) : Host.Outcome State Fault Refusal :=
  act (s.linkRuns && s.synLocked band.val 2 &&
      (s.band band.val).chain.any (fun r => r.cca && r.tuned && !r.up))
    (ccaDone band.val mean) s

/-- ACK_TRANSMIT (R195). -/
def execAckTransmit (band : Fin 2) (s : State) : Host.Outcome State Fault Refusal :=
  act (s.linkRuns && s.ackOnAir band.val) (ackLeaves band.val) s

/-- FEM_LEAD_SWITCH (R93). -/
def execFemLeadSwitch (band : Fin 2) (s : State) : Host.Outcome State Fault Refusal :=
  act (s.radioOn band.val) (femLead band.val) s

/-- FEM_LAG_RETURN (R93). -/
def execFemLagReturn (band : Fin 2) (s : State) : Host.Outcome State Fault Refusal :=
  act (s.radioOn band.val) (femLag band.val) s

end Sys2Proof.Machine
end

