-- ==== Sys2Proof/Machine/ToneMap.lean ====
section
/-! DEFINITION. Tone maps as link firmware makes and takes them (R158 to R164), and stand-alone transmissions (R70, R98, R276, R277). -/
namespace Sys2Proof.Machine

open Sys2Proof

/-! ## Computation (R160) -/

/-- TMCFG and CPCFG of the bank in force (R140). -/
def State.tmcfg (s : State) : Word := s.bw s.bank 0x2409
def State.cpcfg (s : State) : Word := s.bw s.bank 0x240A

/-- The effective threshold of a rate and constellation, in 1/40 dB. -/
def State.tmThr (s : State) (short : Bool) (r c : Nat) : Int :=
  4 * signed (bits (s.bw s.bank (0x2410 + 6 * r + (c - 1))) 0 12) 12 + 10 * (bits s.tmcfg 8 8 : Int) +
    (if short then 4 * (bits s.cpcfg 0 12 : Int) else 0)

/-- SNR of a tone's word in 1/40 dB: (ERR − SIG) × 0.125 dB. -/
def toneSnr (v : Word) : Int := 5 * ((bits v 0 12 : Int) - (bits v 12 12 : Int))

/-- The code of a tone at a rate: the highest constellation whose threshold it reaches, else OFF. -/
def State.toneCode (s : State) (short : Bool) (r : Nat) (v : Word) : Nat :=
  ([6, 5, 4, 3, 2, 1].find? (fun c => decide (s.tmThr short r c ≤ toneSnr v))).getD 0

/-- The codes of every tone at a rate. -/
def State.toneCodes (s : State) (short : Bool) (tones : List Word) (r : Nat) : List Nat := tones.map (s.toneCode short r)

/-- Twelve times the coded bits of a symbol that a rate leaves for data. -/
def rateBits (r : Nat) (codes : List Nat) : Nat := [6, 8, 9, 10].getD r 6 * (codes.map conBits).sum

/-- The rate with the greatest bits, the lower on a tie; none where every tone is OFF at every rate. -/
def State.bestRate (s : State) (short : Bool) (tones : List Word) : Option Nat :=
  let b := fun r => rateBits r (s.toneCodes short tones r)
  let r := [1, 2, 3].foldl (fun m r => if b m < b r then r else m) 0
  if b r = 0 then none else some r

/-- The entry that a new map takes: of those not VALID the lowest (log 134); entry 0 is never used (R155). -/
def State.freeTm (s : State) : Option Nat := ((List.range 2048).drop 1).find? (fun i => !bitOf (s.mw (tmAddr i)) 23)

/-- Codes as the words w1 to w35 of an entry. -/
def tmWords (codes : List Nat) : List Word :=
  (List.range 35).map (fun j => W ((List.range 6).foldl (fun a k => a + codes.getD (6 * j + k) 0 * 16 ^ k) 0))

/-- An entry written: w1 to w35 first, w0 last (R158). -/
def putTm (i : Nat) (w0 : Word) (codes : List Nat) (s : State) : State :=
  engWrite (tmAddr i) w0 (engWrites (tmAddr i + 1) (tmWords codes) s)

/-- The feedback element of an entry, from its OUI on (R163). -/
def State.feedbackOf (s : State) (i width : Nat) (blk : Bool) (rate : Nat) (cp20 : Bool) (slack : Nat) (codes : List Nat) : List Octet :=
  word3 (s.oui s.bank) ++ [0x01] ++
    natLe 2 (i + width * 2 ^ 11 + (if blk then 2 ^ 13 else 0) + rate * 2 ^ 14) ++ [if cp20 then 1 else 0, O slack] ++
    (List.range (codes.length / 2)).map (fun j => O (codes.getD (2 * j) 0 + 16 * codes.getD (2 * j + 1) 0))

/-- A request joins those that wait for a band's chain. -/
def reqQueue (b : Nat) (r : TxReq) (s : State) : State :=
  let s1 := s.setBand b { s.band b with waiting := (s.band b).waiting ++ [r] }
  setChain b (s1.band b).chain s1

/-- A stand-alone request before its frame is built. -/
def newReq (src : TxBy) (cls chan prof b port action inst latest : Nat) (cca : Bool) (expect : Option (Nat × Option Nat))
    (desc : Option Word) (fb : List Octet) (s : State) : TxReq :=
  let rs := 128 * b + 8 * action + (port - 1)
  { src := src, cls := cls, chan := chan, prof := prof, mode := 0, port := port, routine := rs, bank := s.bank, psdu := [], seal_ := none,
    hdr := 0, air := 0, freq := 0, trim := 0, inst := inst, latest := latest, ramp := s.rampOf s.bank b rs, pwr := 0, drive := 0, bias := 0,
    cca := cca, expect := expect, ackLane := none, desc := desc, tuned := false, up := false, begun := false, launch := 0, retry := false,
    codes := [], fb := fb, sent := none }

/-- A channel of the band that the spec does not name: an open one of those that may be tuned, if the draw finds it (log 10). -/
def State.openChan (s : State) (b : Nat) : Nat :=
  let c := Config.freeNat s.draws % 1024
  if s.chanOk s.bank b c then c else s.synChan b 2

/-- Link firmware asks for a frame that carries a feedback element to neighbour `n` (R162, R163): a Vendor Specific payload IE. The spec
does not say on which band, channel and profile it leaves, nor from which descriptor it is built: open values (log 9, log 10). -/
def sendFeedback (n : Nat) (e : List Octet) (s : State) : State :=
  let b := if Config.freeBool s.draws then 1 else 0
  let t := s.drawn
  reqQueue b (newReq (.command 6 0) 3 (t.openChan b) (Config.freeNat (t.draws + 1) % 256) b 1 3 t.now 0 false (some (n, none)) none
    (payloadIe 2 e) t) t.drawn.drawn

/-- The map of a measurement record is computed, placed in a free entry, and named to the sender (R160, R162); without a free entry it is
dropped (log 135). -/
def computeMap (l : List Word) (s : State) : State :=
  let w0 := l.getD 0 0
  let w2 := l.getD 2 0
  let width := bits w0 22 2
  let n := bits w0 8 13
  let tones := (l.drop 3).take (tlTones width)
  let blk := bitOf w2 23
  match s.bestRate (!blk) tones, s.freeTm with
  | some r, some i =>
    let codes := s.toneCodes (!blk) tones r
    let cp20 := decide (bits s.cpcfg 12 12 < bits w2 0 12)
    let surplus := (tones.zip codes).filterMap (fun e => if e.2 = 0 then none else some ((toneSnr e.1 - s.tmThr (!blk) r e.2) / 10).toNat)
    let slack := surplus.foldl min 255
    let old := ((List.range 2048).drop 1).filter (fun j =>
      let w := s.mw (tmAddr j)
      j != i && bitOf w 23 && !bitOf w 22 && bits w 0 13 == n)
    let v := W (2 ^ 23 + width * 2 ^ 20 + (if blk then 2 ^ 19 else 0) + r * 2 ^ 17 + (if cp20 then 2 ^ 16 else 0) + n)
    let s1 := putTm i v codes s
    sendFeedback n (s1.feedbackOf i width blk r cp20 slack codes) (s1.setLink { s1.link with
      old := (s1.link.old ++ old).eraseDups
      tmLast := old.foldl (fun t j => tabSet t j s.now) s1.link.tmLast })
  | _, _ => s

/-- The words of the record that a descriptor of MEASQ names: packed from the buffer's first word. -/
def State.measWords (s : State) (d : Word) : List Word := s.chainWords d (descLen d / 3)

/-- Link firmware takes the next measurement record; one that a later record of the same sender supersedes gives no map. -/
def tonemapCompute (s : State) : State :=
  let q := bits s.tmcfg 0 7
  let (d, s0) := qPop q s
  let s1 := (frameScan s.firmInit d s0).2
  let l := s1.measWords d
  let newer := (s1.queue q).words.any (fun e => bits ((s1.measWords e).getD 0 0) 8 13 == bits (l.getD 0 0) 8 13)
  freeChain d (if newer then s1 else computeMap l s1)

/-- A feedback element of neighbour `n`, after its OUI (R164); without a free entry it is dropped (log 135). -/
def tonemapFeedback (n : Nat) (e : List Octet) (s : State) : State :=
  let f := leNat ((e.drop 1).take 2)
  let id := f % 2 ^ 11
  let width := f / 2 ^ 11 % 4
  let codes := (e.drop 5).flatMap (fun o => [o.toNat % 16, o.toNat / 16])
  let cur := s.tmid n
  let same := cur != 0 && bitOf (s.mw (tmAddr cur)) 23 && bits (s.mw (tmAddr cur)) 0 11 == id
  let retire := fun t : State => if cur = 0 then t else unname n cur (t.setLink { t.link with old := (t.link.old ++ [cur]).eraseDups })
  if octAt e 0 != 1 then s
  else if id = 0 then retire (setNbrFld n 0 5 11 0 s)
  else if width = 3 ∨ codes.length ≠ tlTones width ∨ !codesOk codes ∨ same then s
  else
    match s.freeTm with
    | none => s
    | some i =>
      let v := W (2 ^ 23 + 2 ^ 22 + width * 2 ^ 20 + f / 2 ^ 13 % 2 * 2 ^ 19 + f / 2 ^ 14 % 4 * 2 ^ 17 +
        bits (octAt e 3) 0 1 * 2 ^ 16 + id)
      retire (setNbrFld n 0 5 11 i (putTm i v codes s))

/-- A neighbour's tone-map ID names an entry. -/
def State.tmNamed (s : State) (i : Nat) : Bool := (List.range 8192).any (fun n => s.nbrState n != 0 && s.tmid n == i)

/-- TMHOLD runs for an entry: it was last named, or used to decode, less than that ago (R158). -/
def State.tmHeld (s : State) (i : Nat) : Bool :=
  match tabGet s.link.tmLast i with
  | some t => nsLt s.now (t + 100000000 * bits s.tmcfg 16 8)
  | none => false

/-- TMHOLD has passed for an entry that is superseded: its VALID is cleared (R158, R162). -/
def tmExpire (i : Nat) (s : State) : State :=
  engWrite (tmAddr i) (setBits (s.mw (tmAddr i)) 23 1 0) (s.setLink { s.link with old := s.link.old.filter (· != i) })

/-! ## Stand-alone transmissions -/

/-- A request's lead before START has come, and a retry has had its backoff. -/
def State.reqDue (s : State) (r : TxReq) : Bool :=
  !r.retry && nsLe r.inst (s.now + 1000 * (bits (s.bw s.bank (8 * r.routine)) 0 16 + (if r.cca then 128 else 0)))

/-- A frame that asks for an acknowledgement has ended on the band and waits for its verdict: from its end on its acknowledgement comes
before stand-alone transmissions (R196). -/
def State.ackDue (s : State) (b : Nat) : Bool :=
  s.link.inbox.any (fun x => x.band == b && x.status == 0 &&
    (match parseMhr x.psdu with | some h => h.ar && !h.bcast | none => false))

/-- A request may take the chain now: nothing holds it or will from a frame's end on (R196), SYNT has finished any tune under way (R108),
and its time has come. -/
def State.reqReady (s : State) (b : Nat) (r : TxReq) : Bool :=
  s.feUp b && (s.band b).chain.isNone && (s.band b).wait.isNone && (s.ackHolds b).isNone && !s.ackDue b && s.tuning b 2 == 0 &&
    s.reqDue r

/-- CHn_STATUS.LOCKWAIT: a request waits for lock (R108), its own tune's or one that keeps it from the chain: SYNT settles, or a
calibration holds it. A scheduled activation never does. -/
def State.lockWaits (s : State) (b : Nat) : Bool :=
  match (s.band b).chain with
  | some q => !q.up && (match q.src with | .gate _ _ => false | _ => s.tuning b 2 != 0)
  | none => (s.band b).wait.isNone && (s.tuning b 2 != 0 || s.fullHolds b || s.cmdSlice b [2]) && (s.band b).waiting.any s.reqDue

/-- The power code a stand-alone request asks for: PWR of TX_FRAME, where 0xFF is the chain default (R276); a sounding frame's is
its routine state's; a frame of link firmware's has the default. -/
def State.reqPwr (s : State) (b : Nat) (r : TxReq) : Option Nat :=
  let dflt := s.fld (R.txcCfg b) 16 8
  match r.src with
  | .command t tag =>
    match s.recOf t tag with
    | some rc =>
      let p := (octAt (s.recParams rc) 20).toNat
      if r.desc.isSome then some (if p = 0xFF then dflt else p) else none
    | none => if r.desc.isSome || !r.fb.isEmpty then some dflt else none
  | _ => none

/-- A sounding frame is asked for. -/
def TxReq.sounds (r : TxReq) : Bool := r.desc.isNone && r.fb.isEmpty

/-- The frame of a stand-alone request under the bank in force: a transmit record's, one that carries a feedback element, or a sounding
frame to neighbour `expect`. -/
def reqFrame (r : TxReq) (s : State) : (Except BuildFail Built × State) × Option Nat × Bool :=
  let inst := nsMax r.inst s.now
  match (if r.sounds then none else r.desc) with
  | some d =>
    let e := s.recDst s.bank d
    (buildRecord s.bank d inst s, e.1, e.2)
  | none =>
    let n := (r.expect.map (·.1)).getD 0
    let q : BuildReq := { d := if r.sounds then Config.soundDesc else Config.feedbackDesc, dst := some n, ar := false, pies := r.fb, pay := [],
                          inst := inst, beacon := false, again := none, type := if r.sounds then 1 else 0 }
    (buildFrame s.bank q s, some n, s.buildAr s.bank q)

/-- A request that ends before it takes the chain. -/
def reqEnd (b code : Nat) (r : TxReq) (s : State) : State :=
  let s1 := setChain b (s.band b).chain (s.setBand b { s.band b with waiting := (s.band b).waiting.erase r })
  match r.src with
  | .command t tag => cmdTxEnd t tag code r s1
  | _ => s1

/-- The claim of a stand-alone request. -/
def State.reqClaim (s : State) : Claim := { cls := 3, pre := s.now, gate := none }

/-- A request can be sent under the bank in force: MODE0 of its profile is defined for the band, TL-OFDM for sounding, and its channel may
be tuned (R79, R143). -/
def State.reqLegal (s : State) (b : Nat) (r : TxReq) : Bool :=
  let m := s.profMode s.bank r.prof 0
  modeOk b m && (!r.sounds || isTl m) && s.chanOk s.bank b r.chan

/-- A request whose frame is built takes the chain and, where it needs one, a lane: a background slice on what it takes is preempted
(R98). It waits while a class-0 activation would claim before its frame ends (R70) or a commanded slice holds SYNT; SYNT tunes under the
bank in force (R303). `s0`: the state to wait in. -/
def reqClaims (b port : Nat) (r : TxReq) (x : Built) (dst : Option Nat) (ar : Bool) (s0 s : State) : State :=
  let air := s.frameAir s.bank r.prof dst x.psdu.length r.sounds
  let inst := nsMax r.inst s.now
  let until_ := inst + 1000 * (air + (if ar then s.ackWaitUs else 0))
  let wants := ar || r.cca
  let lane := if wants then s.cmdLane else none
  let s1 := preemptUses b (if wants then [0, 1, 2] else [2]) s
  if s.yieldChain b until_ || (match lane with | some n => s.yieldLane n until_ | none => false) then s0
  else if (claimSyn b [2] 1024 s.reqClaim s1).isNone then s0
  else if wants && (lane.isNone || (s.mode == 5 && !s.inSpan s.bank b r.chan r.prof)) then reqEnd b St.busy r s0
  else
    match (match lane with
      | some n => claimRx s.bank b n (4 * b) r.chan r.prof s.reqClaim 3 (some r.routine) s1
      | none => some s1) with
    | none => reqEnd b St.busy r s0
    | some s2 =>
      let plan : TxPlan := { src := r.src, b := b, cls := r.cls, chan := r.chan, prof := r.prof, port := port, rs := r.routine,
                             bk := s.bank, inst := inst, latest := r.latest, code := s.reqPwr b r, cca := r.cca, desc := r.desc, fb := r.fb }
      let (q, s3) := txRequest plan x dst air (awaited ar dst x) lane true s2
      let s4 := s3.setBand b { s3.band b with waiting := (s3.band b).waiting.erase r }
      setChain b (some { q with sent := r.sent }) (tuneSyn b 2 r.chan s4)

/-- A ready request is judged and its frame built (R143, R180, R202), and it takes the chain. -/
def reqStart (b : Nat) (r : TxReq) (s : State) : State :=
  match s.portOf s.bank b r.routine r.port with
  | none => reqEnd b St.badParam r s
  | some port =>
    if !s.reqLegal b r then reqEnd b St.badParam r s
    else
      let ((res, s1), dst, ar) := reqFrame r s
      match res with
      | .error .badDesc => reqEnd b St.badParam r s1
      | .error _ => reqEnd b St.denied r s1
      | .ok x => reqClaims b port r x dst ar s s1

/-- The first waiting request that is ready starts. -/
def pump (b : Nat) (s : State) : State :=
  match (s.band b).waiting.find? (s.reqReady b) with
  | some r => reqStart b r s
  | none => s

/-- A request joins those that wait for a band's chain, and starts if it may (R108, R276). -/
def reqWait (b : Nat) (r : TxReq) (s : State) : State := pump b (reqQueue b r s)

/-- A sounding frame is asked for (R277), with the buffer of its transmit record where it has one (R299). The spec does not say on which
channel it leaves (log 10). -/
def soundReq (src : TxBy) (n b port prof : Nat) (rec_ : Option Word) (s : State) : State :=
  let t := s.drawn
  reqWait b (newReq src 3 (s.openChan b) prof b port 5 t.now 0 false (some (n, none)) rec_ [] t) t

/-- A retry whose backoff has passed (R276). -/
def retryNow (b : Nat) (r : TxReq) (s : State) : State :=
  let r2 := { r with retry := false, inst := s.now, up := false }
  let s1 := s.setBand b { s.band b with waiting := (s.band b).waiting.map (fun x => if x = r then r2 else x) }
  pump b s1

/-- The number of a transport. -/
def tNum : Transport → Nat
  | .spi => 0
  | .uart => 1
  | .mb k => 2 + k.val

/-- The retry of a command that waits for its backoff. -/
def State.retryOf (s : State) (t : Nat) (tag : Octet) : Option (Nat × TxReq) :=
  [0, 1].findSome? (fun b => ((s.band b).waiting.find? (fun r => r.retry && r.src == .command t tag)).map (fun r => (b, r)))

/-! ## The commands -/

/-- TONEMAP_COMPUTE (R160). -/
def execTonemapCompute (s : State) : Host.Outcome State Fault Refusal :=
  act (s.serves && s.qCount (bits s.tmcfg 0 7) != 0) tonemapCompute s

/-- TONEMAP_FEEDBACK (R164): link firmware takes an element that LINK has handed to it. -/
def execTonemapFeedback (nbr : BitVec 13) (elem : List Octet) (s : State) : Host.Outcome State Fault Refusal :=
  act (s.serves && s.link.fbIn.contains (nbr.toNat, elem)) (fun s =>
    let t := s.setLink { s.link with fbIn := s.link.fbIn.erase (nbr.toNat, elem) }
    if t.nbrState nbr.toNat = 0 then t else tonemapFeedback nbr.toNat elem t) s

/-- TMHOLD_EXPIRY (R162). -/
def execTmholdExpiry (idx : BitVec 11) (s : State) : Host.Outcome State Fault Refusal :=
  act (s.serves && s.link.old.contains idx.toNat && !s.tmNamed idx.toNat && !s.tmHeld idx.toNat) (tmExpire idx.toNat) s

/-- SOUNDING_POLICY_TICK (R277): PERIOD seconds have passed for the policy that an entry's w11 keeps (log 129). -/
def execSoundingPolicyTick (nbr : BitVec 13) (s : State) : Host.Outcome State Fault Refusal :=
  match s.link.sounding.find? (fun e => e.1 == nbr.toNat && e.2.1 == s.nbr nbr.toNat 11) with
  | some (_, _, p) =>
    if s.nbrState nbr.toNat = 0 then
      act s.serves (fun s => s.setLink { s.link with sounding := s.link.sounding.filter (fun x => x.1 != nbr.toNat) }) s
    else
      act (s.serves && s.nbrUsable nbr.toNat)
        (soundReq (.command 6 0) nbr.toNat (p / 2 ^ 16 % 2) (1 + p / 2 ^ 17 % 2) (p / 2 ^ 18 % 256) none) s
  | none => .next s

/-- TX_FRAME_RETRY (R276). -/
def execTxFrameRetry (t : Transport) (tag : Octet) (s : State) : Host.Outcome State Fault Refusal :=
  match s.retryOf (tNum t) tag with
  | some (b, r) => act (s.serves && (s.band b).chain.isNone && (s.band b).wait.isNone) (retryNow b r) s
  | none => .next s

end Sys2Proof.Machine
end

