-- ==== Sys2Proof/Machine/MeshStep.lean ====
section
/-! DEFINITION. Ticks of mesh time and what follows them across the part: steps and their effect on gates and duty buckets (R20,
R73), and bridging (R29, R30). -/
namespace Sys2Proof.Machine

open Sys2Proof

/-! ## Gate instants passed over (R52, R73) -/

/-- Iterations of a gate's course whose instant lies before `t`. -/
def State.itersBefore (s : State) (w : List Word) (t : Nat) : Nat :=
  let base := s.cstart (gCourse w) + gOffset w
  let p := s.period (gCourse w)
  if nsLt base t then (nsSince base t + p - 1) / p else 0

/-- Of the first `n` iterations, those in which the gate takes part (R56). -/
def partsIn (w : List Word) (n : Nat) : Nat :=
  if gMod w < 2 then n
  else if gMod w ≤ gPhase w then n
  else if n ≤ gPhase w then 0 else (n - gPhase w + gMod w - 1) / gMod w

/-- Instants of a gate at or after `lo` and before `hi`, not judged yet, of a course that runs: none whose pre-tune came before the
course's start or the entry's commit, none from the boundary of a pending stop on (R49, R50, R77). -/
def State.passedOver (s : State) (g lo hi : Nat) : Nat :=
  let w := s.gateEntry g
  let n := gCourse w
  if gEnable w && s.courseOn n then
    let i0 := s.itersBefore w lo
    let l := (s.guardFor w (s.instant w i0)).1 + 1000 * s.leadFor (s.bankFor (s.instant w i0)) w i0
    let from_ := fun (t : List (Nat × Nat)) k x => match tabGet t k with | some m => nsMax x (m + l) | none => x
    let lo1 := from_ s.gates.commits g (from_ s.gates.floor n lo)
    let stop := s.boundaryAfter n lo
    let hi1 := if s.courseRun n || nsLt hi stop then hi else stop
    partsIn w (s.itersBefore w hi1) - partsIn w (max (s.itersBefore w lo1) (tabLook 0 s.gates.made g))
  else 0

/-- Gates that are enabled, and how many of their instants lie in the interval. -/
def State.allPassed (s : State) (lo hi : Nat) : Nat := ((List.range 4096).map (fun g => s.passedOver g lo hi)).sum

/-- The gate engine stops: activations that have not reached their instants are released, and count as not judged, so that their instants
are counted if they pass meanwhile (R52). -/
def gatesStop (s : State) : State :=
  let l := s.gates.acts.filter (fun a => nsLt s.now a.inst && a.phase != 4)
  let s1 := releaseEarly (fun _ => true) s
  s1.setGates { s1.gates with
    stopped := some s1.now
    made := l.foldl (fun m a => tabSet m a.gate (min (tabLook 0 m a.gate) a.iter)) s1.gates.made }

/-- The gate engine, stopped at `t`, returns (R48, R52): the instants that passed count in SLEPT, and stops and a bank swap whose boundary
has passed apply (R50, R78). An activation whose pre-tune has passed and whose instant lies ahead is neither made nor counted (log 108). -/
def gatesReturn (t : Nat) (s : State) : State :=
  let s1 := s.countBy (R.gateCounters 1) (s.allPassed t s.now)
  let s2 := forAll (List.range 16) (fun n u => if u.stopPend n && nsLe (u.boundaryAfter n t) u.now then endCourse n u else u) s1
  let s3 := swapDue s2
  s3.setGates { s3.gates with stopped := none, floor := tabSet s3.gates.floor 17 s3.now }

/-- The gate engine stops as its domain stops or the counter is bridged, and returns with them (R29, R52); what the lanes show follows. -/
def gateSync (s : State) : State :=
  let runs := s.linkRuns && !s.bridged
  match s.gates.stopped with
  | none => if runs then s else lanesShow (gatesStop s)
  | some t => if runs then lanesShow (gatesReturn t s) else s

/-! ## Steps (R20, R23, R73, R74) -/

/-- Gates at the boundary T of a forward step, with the mesh time before it: instants passed over and unfired activations count in SKIPPED;
a transmission or a TUNE whose lead the step has cut short counts in LATE if its tuning does not finish (R73). -/
def gatesForward (before : Nat) (s : State) : State :=
  let late := s.gates.acts.filter (fun a => a.phase ≤ 1 && nsLt a.inst s.now)
  let n := s.allPassed before s.now
  let s1 := forAll late (fun a t => releaseAct a (returnHead a t)) s
  let s2 := s1.setGates { s1.gates with
    acts := s1.gates.acts.map (fun a => if a.phase = 1 ∧ (isTx a.w ∨ gAction a.w = 8) then { a with late := true } else a) }
  s2.countBy (R.gateCounters 0) (n + late.length)

/-- The pair of an activation is at or below its course's mark. -/
def State.atMark (s : State) (a : Activ) : Bool :=
  let m := s.mark (gCourse a.w)
  bitOf s.gates.fired (gCourse a.w) && decide (a.iter < m.1 ∨ (a.iter = m.1 ∧ gOffset a.w ≤ m.2))

/-- Gates at the boundary of a backward step (R74): each course that has fired keeps its mark; unfired activations whose pre-tune lies ahead
again are released, those at or below the mark count in SUPPRESSED, and the other instants are judged anew (log 13). -/
def gatesBackward (s : State) : State :=
  let ahead := s.gates.acts.filter (fun a => a.phase ≤ 1 && nsLt s.now a.pre)
  let s1 := forAll ahead (fun a t => releaseAct a (returnHead a t)) s
  let again := s1.gates.acts.filter (fun a => a.phase ≤ 1 && s1.atMark a)
  let s2 := forAll again (fun a t => gateCount 6 (releaseAct a (returnHead a t))) s1
  s2.setGates { s2.gates with
    passed := (List.range 16).foldl (fun l n => if bitOf s2.gates.fired n then tabSet l n (s2.mark n) else l) s2.gates.passed
    made := (again ++ s2.gates.acts).foldl (fun m a => tabSet m a.gate (max (tabLook 0 m a.gate) (a.iter + 1))) []
    commits := []
    floor := tabDel s2.gates.floor 17 }

/-- The pending step applies at this tick boundary (R20): the counter moves, compares are evaluated, STEPCNT advances,
MT_STEPPED fires, and the gate engine recomputes (R73). A learning window is spoilt (R28), and a pulse on PPS_OUT keeps its length (R43). -/
def applyStep (s : State) : State :=
  let before := s.mt.ctr
  let d := s.multi (R.mtStep 0) 3
  let by_ := BitVec.ofNat 72 d
  let s1 := s.setMt { s.mt with
    ctr := before + by_, stepPend := false, lfSpoilt := true, pps := s.mt.pps.map (fun p => (p.1 + by_, p.2 + by_)) }
  let n := (s.fld R.mtStatus 16 8 + 1) % 256
  let s2 := evalComparesAtStep before (fire 0x0C (s1.setFld R.mtStatus 16 8 n))
  let s3 := notice 1 0x11 (O n :: natLe 9 d) s2
  let s4 := if s3.gates.stopped.isSome then s3
    else if d < 2 ^ 71 then gatesForward (nsOf before) s3 else gatesBackward s3
  let s5 := s4.setGates { s4.gates with floor := tabSet s4.gates.floor 16 s4.now }
  bucketSync 1 (bucketSync 0 s5)

/-- A tick boundary: a pending step applies and the compares are evaluated against the post-step value, or else against the counter
(R20, R39). -/
def boundary (s : State) : State := if s.mt.stepPend then applyStep s else evalCompares s

/-- One LF tick while bridged (R29). -/
def lfTick (s : State) : State := walkTick 30518 (boundary (lfTickCore s))

/-- The first LF edge after the domains are released: the ratio advance for the tick that ends here, then the reference
runs the counter again with the RATE last committed, and learning resumes (R30 step 5, R31, R473). -/
def bridgeExit (s : State) : State :=
  if !s.bridged || !s.mt.exitReq then s
  else
    let s1 := lfTick s
    let s2 := (s1.setBit R.mtStatus 0 false).setMt
      { s1.mt with exitReq := false, rate := s1.mt.rateNext.getD s1.mt.rate, rateNext := none }
    lfEdge (lfPause (addUncert 25 s2))

/-! ## Ticks -/

/-- A TUNE that has not locked within 220 µs ends with HW_FAULT (R275). -/
def tuneWatch (s : State) : State :=
  if s.cmdp.exec.isSome && decide (220 * 256000 < (s.mt.ctr - s.cmdp.tuneStart).toInt) then
    finishRun 0x11 (fun _ => true) St.hwFault [] s
  else s

/-- The end of a self-test (R287): which tests pass is the part's own (an open value). -/
def testEnd (e : SelfTest) (s : State) : State :=
  let fail := W e.mask &&& Config.freeWord s.draws
  finalReply e.rcd St.done (natLe 2 (e.mask - fail.toNat) ++ natLe 2 fail.toNat)
    (s.drawn.setCmdp { s.cmdp with tests := s.cmdp.tests.filter (· != e) })

/-- The self-tests whose time has come end. -/
def testWatch (s : State) : State := forAll (s.cmdp.tests.filter (fun e => 0 ≤ (s.mt.ctr - e.until_).toInt)) testEnd s

/-- One reference tick (R9, R21, R25, R39, R112): the advance and the slew, the growth of the uncertainty, a pending step, the
compares, the duty buckets, stand-alone transmissions whose time has come, and the reload walks (R179). -/
def tick (s : State) : State :=
  let s1 := growTick (slewWatch slewTick (s.setMt s.mt.advance))
  let s2 := boundary s1
  when s2.linkRuns (fun t => walkTick 25 <| testWatch <| tuneWatch <| pump 1 (pump 0 (bucketSync 1 (bucketSync 0 t)))) s2

/-! ## The commands -/

/-- The counter runs on the reference. -/
def State.refRuns (s : State) : Bool := s.alive && 1 ≤ s.mode && !s.bridged

/-- MT_TICK (R9). -/
def execMtTick (s : State) : Host.Outcome State Fault Refusal := act s.refRuns tick s

/-- LF_TICK (R29): one LF tick while bridged; while the reference runs, an LF edge (R28, log 122). -/
def execLfTick (s : State) : Host.Outcome State Fault Refusal :=
  act s.alive (fun s => if s.bridged then lfTick s else lfEdge s) s

/-- MT_STEP_APPLY (R20): the tick boundary at which the pending step applies. -/
def execMtStepApply (s : State) : Host.Outcome State Fault Refusal := act (s.alive && s.mt.stepPend) applyStep s

/-- SLEW_START (R21). -/
def execSlewStart (w : Who) (v : Word) (s : State) : Host.Outcome State Fault Refusal :=
  act (s.mayWrite w R.mtSlew1) (slewReplace v) s

/-- SLEWSTOP (R21). -/
def execSlewstop (w : Who) (v : Word) (s : State) : Host.Outcome State Fault Refusal :=
  act (s.mayWrite w R.mtCtrl) (slewWatch (mtCtrlWrite (setBits v 1 1 1))) s

/-- MT_SLEW_DONE (R21): the offset of the slew in progress is zero, or a zero slew was started. -/
def execMtSlewDone (s : State) : Host.Outcome State Fault Refusal :=
  act (s.alive && !s.bridged && ((s.slewing && s.slewRem == 0) || s.mt.slewZero)) (slewWatch slewDone) s

/-- BRIDGE_ENTER (R30). -/
def execBridgeEnter (s : State) : Host.Outcome State Fault Refusal := act s.alive (fun s => gateSync (bridgeEnter s)) s

/-- BRIDGE_EXIT (R473). -/
def execBridgeExit (s : State) : Host.Outcome State Fault Refusal := act s.alive (fun s => gateSync (bridgeExit s)) s

end Sys2Proof.Machine
end

