-- ==== Sys2Proof/Machine/Power.lean ====
section
/-! DEFINITION. Power modes, their agents, wakes and clocks (R423 to R438). -/
namespace Sys2Proof.Machine

open Sys2Proof

/-! ## Wake sources (R432, R433) -/

/-- The power part replaced. -/
def State.setPwr (s : State) (p : PowerState) : State := { s with pwr := p }

/-- The backup part replaced. -/
def State.setBkp (s : State) (b : BackupState) : State := { s with bkp := b }

/-- Wake pin `k` stands at its active level; its input reads 0 without VIO1 (R455). -/
def State.wakePin (s : State) (k : Nat) : Bool := (bitOf s.pins.wake k && s.pwr.vio1) != s.bit R.pmuWakecfg (3 * k)

/-- The source of a code of R432 is active. -/
def State.wakeActive (s : State) (c : Nat) : Bool :=
  if 1 ≤ c ∧ c ≤ 4 then
    s.bit R.pmuWakecfg (3 * (c - 1) + 2) &&
      (if s.bit R.pmuWakecfg (3 * (c - 1) + 1) then s.wakePin (c - 1) else s.bit R.pmuWakeflag (c - 1))
  else if c = 5 ∨ c = 6 then s.bit R.rtcAlmstat (c - 5) && s.bit (R.rtcAlmCfg (c - 5)) 8
  else if 0x10 ≤ c ∧ c < 0x20 then s.bit (R.gtStat (c - 0x10)) 0 && s.bit (R.gtCfg (c - 0x10)) 21
  else if 0x20 ≤ c ∧ c < 0x38 then s.bit R.mtMflag0 (c - 0x20) && s.bit (R.mtcCtrl (c - 0x20)) 2
  else if 0x38 ≤ c ∧ c < 0x40 then s.bit R.mtMflag1 (c - 0x38) && s.bit (R.mtcCtrl (c - 0x20)) 2
  else false

/-- The codes of sources outside the part's own requests. -/
def wakeCodes : List Nat := [1, 2, 3, 4, 5, 6] ++ (List.range 0x30).map (· + 0x10)

/-- The lowest active source. -/
def State.wakeLowest (s : State) : Option Nat := wakeCodes.find? s.wakeActive

/-- A wake is pending at commit (R433). -/
def State.wakePending (s : State) : Bool := s.wakeLowest.isSome || s.fld R.pmuWakeflag 0 4 != 0

/-- PMU.CFG.WAKEMODE. -/
def State.wakeMode (s : State) : Nat :=
  let m := s.fld R.pmuCfg 0 3
  if m = 3 ∨ m = 5 then m else 4

/-! ## Agents (R426 to R430) -/

/-- PMU.MODE.TARGET. -/
def State.modeTarget (s : State) : Nat := s.fld R.pmuMode 4 4

/-- An agent's share of the low-power LDO, in microamperes (R428). -/
def ldoShare (agent : Nat) (listen : Bool) : Nat :=
  if listen then [0, 100, 250, 150, 0, 500, 100, 350, 300, 0, 100, 100, 50, 600, 0, 250, 0, 0, 150].getD agent 0
  else [0, 100, 0, 0, 0, 0, 0, 0, 0, 0, 0, 0, 0, 0, 0, 250, 0, 0, 150].getD agent 0

/-- A frame or an acknowledgement is in the air or scheduled (R428). -/
def State.txBusy (s : State) : Bool :=
  [0, 1].any (fun b => (s.band b).chain.isSome || (s.band b).waiting.any (fun r => r.src == .ack)) ||
    s.link.acks.any (fun a => !a.sent)

/-- The standing assignments: lane, input, channel; the suspended ones among them. -/
def State.standing (s : State) : List (Nat × Nat × Nat) :=
  (List.range 16).filterMap (fun n =>
    match (s.lane n).susp with
    | some (ch, inp, _) => some (n, inp, ch)
    | none => if s.holder n == 2 then some (n, s.laneInput n, s.laneChan n) else none)

/-- A DMA channel's STATE. -/
def State.dmaSt (s : State) (n : Nat) : Nat := s.fld (R.dmaChstatus n) 0 3

/-- The condition of a reason of R429 holds for an agent whose load in the target mode is `load`. -/
def State.refuses (s : State) (a r load : Nat) : Bool :=
  let t := s.modeTarget
  match r with
  | 1 => a == 5 &&
      (if t == 3 then s.standing.any (fun e => 2 ≤ e.1 || e.2.1 / 4 != s.fld R.txcCtrl 0 1) else decide (t ≤ 2) && !s.standing.isEmpty)
  | 2 => a == 5 && t == 4 &&
      s.standing.any (fun e => s.standing.any (fun f => s.sharePath e.2.1 f.2.1 && e.2.2 != f.2.2))
  | 3 => a == 0x11 && t ≤ 2 && (List.range 32).any (fun n => 1 ≤ s.dmaSt n && s.dmaSt n ≤ 3)
  | 4 => (t == 2 || t == 3) && decide (ldoShare a (t == 3) < load)
  | 5 => a == 0x10 && (s.flash.op.isSome || (match s.stage.copy with | some c => c.active | none => false))
  | 6 => a == 3 && (s.fullBusy 0 || s.fullBusy 1)
  | 7 => a == 0x0F && (s.ecc.isolating != 0 || s.fld R.eccInitstat 0 16 != 0)
  | _ => false

/-- The first reason that holds for an agent. -/
def State.mustRefuse (s : State) (a load : Nat) : Option Nat := [1, 2, 3, 4, 5, 6, 7].find? (fun r => s.refuses a r load)

/-- An agent has accepted the change in progress. -/
def State.accepted (s : State) (a : Nat) : Bool := s.bit R.pmuStatus (a - 1)

/-- Every agent has accepted. -/
def State.allAccepted (s : State) : Bool := s.fld R.pmuStatus 0 18 == 0x3FFFF

/-- PMU asks the agents: a change in progress that is not committed. -/
def State.asking (s : State) : Bool := s.pwr.change.isSome && s.fld R.pmuStatus 22 2 == 1

/-- The change in progress is a wake, which no agent refuses (R432). -/
def State.waking (s : State) : Bool :=
  match s.pwr.change with
  | some c => (match c.kind with | .wake _ => true | _ => false)
  | none => false

/-- The change in progress replaced. -/
def setChange (f : ModeChange → ModeChange) (s : State) : State :=
  s.setPwr { s.pwr with change := s.pwr.change.map f }

/-- No change is in progress any more. -/
def endChange (s : State) : State :=
  let s1 := ((s.setFld R.pmuMode 4 4 0xF).setReg R.pmuStatus 0).setReg R.pmuLpload 0
  s1.setPwr { s1.pwr with change := none, loads := [] }

/-- A WAKE_APP request that was kept is made as the change in progress ends (R425). -/
def gateGo (s : State) : State :=
  if s.pwr.gateReq && s.pmuIdle then
    let s1 := s.setPwr { s.pwr with gateReq := false }
    if s1.mode = 3 then requestMode 4 .gate s1 else s1
  else s

/-- The change is cancelled (R427, R433): REFUSAL, PMU_EVENT, and what SET_MODE's host is told (R274). -/
def cancelChange (agent reason : Nat) (s : State) : State :=
  match s.pwr.change with
  | none => s
  | some c =>
    let t := s.modeTarget
    let s1 := fire 0x67 ((endChange s).setReg R.pmuRefusal (W (2 ^ 23 + agent * 2 ^ 8 + reason)))
    let s2 := match c.kind with
      | .command tr =>
        if c.said then noticeFor { to_ := .only tr, cls := 0, code := 0x04, payload := [O t, O agent, O reason, O s1.mode] } s1
        else finishRun 0x04 (fun _ => true) (if reason = 0xFF then St.busy else St.denied) [O agent, O reason] s1
      | _ => s1
    gateGo s2

/-- An agent accepts with its load. APP writes back the D-caches first (R428); with the last one, SET_MODE to HIBERNATE or DOZE
gets its DONE (R274). -/
def agentAccept (a load : Nat) (s : State) : State :=
  let s0 := if a = 0x0E ∧ s.modeTarget = 1 then
      forAll [0, 1, 2, 3] (fun k t => if t.offline k.val then t
        else forAll (t.core k).dcache (fun l u => (writeBack k l u).2) t) s
    else s
  let loads := tabPut 0 s0.pwr.loads a load
  let s1 := ((s0.setBit R.pmuStatus (a - 1) true).setPwr { s0.pwr with loads := loads }).setReg R.pmuLpload
    (W (min 0xFFF ((loads.map (fun e => e.2)).sum)))
  match s1.pwr.change with
  | some c =>
    (match c.kind with
     | .command _ =>
       if s1.allAccepted && s1.modeTarget ≤ 2 && !c.said then
         setChange (fun d => { d with replyHold := true, said := true }) (finishRun 0x04 (fun _ => true) St.done [O s1.mode] s1)
       else s1
     | _ => s1)
  | none => s1

/-- TXC and LINK wait while a frame or acknowledgement is in the air or scheduled. -/
def State.agentWaits (s : State) (a : Nat) : Bool := (a == 6 || a == 8) && s.txBusy

/-- Agent `a` answers (R426, R427, R432). An answer that its block's condition rules out does not occur. -/
def agentAnswer (a : Nat) (ans : AgentAnswer) (load : Nat) (s : State) : State :=
  match s.pwr.change with
  | none => s
  | some c =>
    let del := bitOf c.delayed a
    match ans with
    | .accept =>
      if s.waking || ((s.mustRefuse a load).isNone && !s.agentWaits a) then agentAccept a load s else s
    | .refuse r => if !s.waking && s.refuses a r.toNat load then cancelChange a r.toNat s else s
    | .delay =>
      if s.waking || del || s.accepted a then s
      else (setChange (fun d => { d with delayed := d.delayed ||| (1#19 <<< a) }) s).setPwr
        { (setChange (fun d => { d with delayed := d.delayed ||| (1#19 <<< a) }) s).pwr with loads := tabPut 0 s.pwr.loads a load }

/-- An agent's DELAY is over: TX_ACTIVE where the transmission is not, else its answer (R428). -/
def delayExpiry (a : Nat) (s : State) : State :=
  let load := tabLook 0 s.pwr.loads a
  if s.agentWaits a then cancelChange a 9 s
  else
    match s.mustRefuse a load with
    | some r => cancelChange a r s
    | none => agentAccept a load s

/-- An agent that has accepted and whose own block has since made it refuse, with the reason: it withdraws (R427), the lowest-numbered
first (log 130). A wake is not refused. -/
def State.withdraws (s : State) : Option (Nat × Nat) :=
  if s.waking then none
  else ((List.range 18).map (· + 1)).findSome? (fun a => (s.mustRefuse a (tabLook 0 s.pwr.loads a)).map (fun r => (a, r)))

/-- The lowest-numbered agent that has not accepted. -/
def State.firstSilent (s : State) : Nat := ((List.range 18).find? (fun i => !s.bit R.pmuStatus i)).getD 17 + 1

/-! ## What a mode stops and starts (R424, R426, R428, R434) -/

/-- The contents that HIBERNATE does not keep (R357): banks of application SRAM without RETAIN, which initialise at the return,
link memory and the packet buffer, which do so too (`upBanks`). -/
def loseBanks (s : State) : State :=
  let s1 := forAll (List.range 16)
    (fun k t => if t.bit R.eccRetain k || t.bit R.eccOffstat k then t
      else (clearBank k t).setBit R.eccOffstat k true) s
  let s2 := if s1.bit R.eccRetain 16 then s1
    else
      let t := forAll [16, 17, 18, 19] clearBank s1
      reindexAll { t with
        mem := t.mem.loseLink, link := { t.link with duty := [], bucket := [], sounding := [] }
        ecc := { t.ecc with down := t.ecc.down ||| 0x0F#8 } }
  if s2.bit R.eccRetain 17 then s2
  else
    let t := forAll [20, 21, 22, 23] clearBank s2
    t.setEcc { t.ecc with down := t.ecc.down ||| 0xF0#8 }

/-- Link memory and the packet buffer come into service: fuse records applied, every word zero where the contents were lost (R356 steps 6
and 7, R357, R358). The table has no row for the end of these steps: they end with the change or the start that powers the banks (log
144). -/
def upBanks (s : State) : State :=
  let t := applyFuses (fun b => 16 ≤ b && b < 24) s
  t.setEcc { t.ecc with down := 0 }

/-- Banks that lost their contents power up and initialise (R356 step 5, R357); an offline bank stays offline. -/
def initBanks (s : State) : State :=
  forAll (List.range 16) (fun k t => if t.bit R.eccOffstat k && !t.bit R.eccOffline k then t.setBit R.eccInitstat k true else t) s

/-- The synthesizers of a band that is not powered lose lock. -/
def dropBand (b : Nat) (s : State) : State :=
  if s.radioOn b then s
  else forAll [2 * b, 2 * b + 1] (fun p t => t.setFld (R.pathPwr p) 0 8 0x80) (forAll [0, 1, 2] (fun k t => dropSyn b k t) s)

/-- Lanes that exist no longer, or whose front end is not powered, lose their frames (R114). -/
def dropLanes (s : State) : State := forAll ((List.range 16).filter (fun n => !s.laneLive n)) dropFrame s

/-- The domains that the target stops are isolated (R426 step 5): engines stop where they stand, and synthesizers lose lock. -/
def isolate (s : State) : State :=
  let up := s.mode ≤ 3 && 4 ≤ s.modeTarget
  let s1 := setChange (fun c => { c with isolated := true }) s
  let s2 := if up then s1.setPwr { s1.pwr with regReady := false } else s1
  gateSync (dropLanes (dropBand 1 (dropBand 0 s2)))

/-- The reference and the banks of HIBERNATE: the XO and PLL stop, cores' caches are lost. -/
def hibernate (s : State) : State :=
  let s1 := ((s.setBit R.clkStatus 0 false).setBit R.clkStatus 2 false).setBit R.clkStatus 1 false
  let s2 := landAll (s1.setPwr { s1.pwr with xoFail := false })
  loseBanks (forAll [0, 1, 2, 3] (fun k t => t.setCore k { t.core k with dcache := [], icache := [] }) s2)

/-- The link cores' hidden part replaced. -/
def State.setLsup (s : State) (l : LsupState) : State := { s with lsup := l }

/-- The supervisor's timer of link core `b` started or stopped. -/
def setTimer (b on : Bool) (s : State) : State :=
  s.setLsup (if b then { s.lsup with timerB := on } else { s.lsup with timerA := on })

/-- A mode that holds the standby link core in reset: LISTEN (R292, R424). Its timer is stopped. -/
def standbyHeld (s : State) : State :=
  setTimer (!s.ownerB) false ((s.setFld R.lsupStatus 4 2 3).setBit R.lsupStbyrpt 23 false)

/-- The standby restarts from the image it ran, unless another load waits; its timer starts with its first heartbeat (R292, R300). -/
def standbyRestart (s : State) : State :=
  let s0 := setTimer (!s.ownerB) false (s.setBit R.dbgStat (if s.ownerB then 4 else 5) false)
  let s1 := (s0.setFld R.lsupStatus 4 2 1).setBit R.lsupStbyrpt 23 false
  { s1 with lsup := { s1.lsup with load := some ((s1.lsup.load).getD (2, none)) } }

/-- The receive synthesizers as the mode wants them: at the span centre in FULL, at the standing assignments' channels outside it
(R60, R83, R114). -/
def receiveTunes (old : Nat) (s : State) : State :=
  if s.mode = 5 ∧ old ≠ 5 then
    forAll [0, 1] (fun b t => if t.feUp b then tuneSyn b 1 (t.fld (R.feSpan b) 0 10) (tuneSyn b 0 (t.fld (R.feSpan b) 0 10) t) else t) s
  else if old = 5 ∧ s.mode ≠ 5 then forAll s.standing (fun e t => if t.holder e.1 == 2 then tunePaths e.2.1 e.2.2 t else t) s
  else s

/-- MODE_CHANGED goes to every transport that enables it but the one whose SET_MODE ordered the change (R289). -/
def modeChanged (old : Nat) (kind : ChangeBy) (s : State) : State :=
  let code := match kind with | .wake c => c.toNat | .gate => 0x40 | _ => 0xFF
  let by_ := match kind with | .command t => t | _ => 6
  noticeFor { to_ := .but by_, cls := 0, code := 0x02, payload := [O s.mode, O old, O code] } s

/-- WAKEREC of a wake or a WAKE_APP change (R434). -/
def wakeRecord (kind : ChangeBy) (s : State) : State :=
  let put := fun (code : Nat) =>
    (s.setReg R.pmuWakerec0 (W (code * 2 ^ 16 + s.pwr.left.toNat * 2 ^ 13 + min 15 s.pwr.attempts * 2 ^ 4 +
      (if s.pwr.xoFail then 1 else 0)))).setMulti (R.pmuWaketime 0) 3 s.pwr.wakeInst.toNat
  match kind with
  | .wake c => put c.toNat
  | .gate => put 0x40
  | _ => s

/-- Step 6 of R426 and R434: MODE takes the target. -/
def modeEnter (s : State) : State :=
  match s.pwr.change with
  | none => s
  | some c =>
    let old := s.mode
    let t := s.modeTarget
    let s1 := when (old == 1) upBanks (endChange (s.setFld R.pmuMode 0 3 t))
    let s2 := s1.setPwr { s1.pwr with regReady := true, retry := none }
    let s3 := if t = 1 then hibernate s2
      else if t ≤ 3 then s2.setBit R.clkStatus 2 false
      else s2
    let s4 := if t = 3 then standbyHeld s3 else if old ≤ 3 ∧ 4 ≤ t ∧ s3.fld R.lsupStatus 4 2 = 3 then standbyRestart s3 else s3
    let s5 := fire 0x67 (wakeRecord c.kind s4)
    let s6 := bucketSync 1 (bucketSync 0 (lanesShow (gateSync (dropLanes s5))))
    let s7 := modeChanged old c.kind (receiveTunes old s6)
    let s8 := if s7.pwr.xoFail && s.waking then notice 0 0x03 [0, O s7.pwr.attempts] s7 else s7
    let s9 := if 3 ≤ t then finishRun 0x04 (fun _ => true) St.done [O s8.mode] s8 else s8
    gateGo s9

/-- The change may take step 6: committed and isolated, or a wake, with its supplies and clocks ready. -/
def State.mayEnter (s : State) : Bool :=
  let t := s.modeTarget
  s.pwr.change.isSome &&
    (if s.waking then
       s.pwr.regReady && (s.mode != 1 || ((s.bit R.clkStatus 0 || s.pwr.xoFail) && (!s.bridged || s.pwr.xoFail))) &&
         ((s.mode != 1 && t ≤ 3) || s.bit R.clkStatus 2)
     else
       (match s.pwr.change with | some c => c.isolated | none => false) &&
         (!(s.mode ≤ 3 && 4 ≤ t) || (s.pwr.regReady && s.bit R.clkStatus 2)))

/-! ## Wakes (R432 to R436) -/

/-- A wake to mode `t` begins: the mesh time is latched, and every agent accepts (R432, R434 step 1). -/
def startWake (code t : Nat) (s : State) : State :=
  let s1 := (s.setFld R.pmuMode 4 4 t).setReg R.pmuStatus (W (2 ^ 22 + 0x3FFFF))
  s1.setPwr { s1.pwr with
    change := some { kind := .wake (O code), delayed := 0, isolated := false, replyHold := false, said := false }
    loads := [], left := BitVec.ofNat 3 s.mode, wakeInst := s.mt.ctr, retry := none
    regReady := s.mode != 1 && t ≤ 3
    tcxo := if s.mode = 1 then s.bit R.clkCfg 0 else s.pwr.tcxo }

/-- A wake source is active in HIBERNATE or DOZE, or in the window between isolation and the end of an entry (R433). -/
def wakeSource (s : State) : State :=
  match s.wakeLowest with
  | none => s
  | some c =>
    let s1 := if s.pwr.change.isSome then modeEnter s else s
    startWake c s1.wakeMode (s1.setPwr { s1.pwr with attempts := 0 })

/-- An entry to HIBERNATE or DOZE is committed and isolated. -/
def State.enteringSleep (s : State) : Bool :=
  !s.waking && (match s.pwr.change with | some c => c.isolated | none => false) && s.modeTarget ≤ 2

/-- The part may wake: it sleeps, or its entry is isolated; no retry waits, and R436 has not ended it. -/
def State.mayWake (s : State) : Bool :=
  s.alive && !s.pwr.dead && ((1 ≤ s.mode && s.mode ≤ 2 && s.pmuIdle) || s.enteringSleep)

/-- The change under way waits for the main regulator. -/
def State.regWaits (s : State) : Bool :=
  s.alive && !s.pwr.regReady && (s.waking || (match s.pwr.change with | some c => c.isolated | none => false))

/-- The regulator is not ready within its time (R436): back to the mode left, a retry in 1 s; after the third failed retry,
HIBERNATE until RESET_N or a power-on reset. -/
def regTimeout (s : State) : State :=
  let n := s.pwr.attempts + 1
  let t := s.modeTarget
  let s1 := endChange (s.setFld R.pmuWakerec0 4 4 n)
  if n ≤ 3 then s1.setPwr { s1.pwr with attempts := n, retry := some t, regReady := true }
  else
    let s2 := (s1.setFld R.pmuMode 0 3 1).setPwr { s1.pwr with attempts := n, retry := none, regReady := true, dead := true }
    let s3 := if s.mode = 1 then s2
      else
        let t := gateSync (lanesShow (dropLanes (dropBand 1 (dropBand 0 (hibernate s2)))))
        t.setMt { t.mt with bridgeReq := !t.bridged, exitReq := false }
    faultShow ((s3.setBit R.pmuWakerec0 1 true).setBit R.sysFault 2 true)

/-- The XO is ready: the part moves to it; after a failure, held domains are powered and MT leaves bridging (R435). -/
def xoReady (s : State) : State :=
  let s1 := (s.setBit R.clkStatus 0 true).setBit R.clkStatus 1 false
  let back := s.pwr.xoFail || !(s.waking && s.mode == 1)
  let s2 := when (s.pwr.xoFail && s.pwr.change.isNone) (receiveTunes 1) (s1.setPwr { s1.pwr with xoFail := false })
  if back then s2.setMt { s2.mt with exitReq := s2.bridged, bridgeReq := false } else s2

/-- The XO is wanted and does not run. -/
def State.xoWaits (s : State) : Bool :=
  s.alive && !s.bit R.clkStatus 0 && (2 ≤ s.mode || (s.waking && s.pwr.regReady))

/-- The PLL locks: the domains are released, and MT may leave bridging (R434 steps 4 and 5). -/
def pllLock (s : State) : State :=
  let s1 := (s.setBit R.clkStatus 2 true).setBit R.clkStatus 1 (!s.bit R.clkStatus 0)
  if s.waking && s.mode == 1 then
    let s2 := initBanks s1
    if s2.pwr.xoFail then s2 else s2.setMt { s2.mt with exitReq := s2.bridged, bridgeReq := false }
  else s1

/-- The PLL is wanted and not locked. -/
def State.pllWaits (s : State) : Bool :=
  s.alive && !s.bit R.clkStatus 2 && (s.bit R.clkStatus 0 || s.pwr.xoFail) &&
    ((s.pwr.change.isNone && 4 ≤ s.mode) ||
      (s.waking && s.pwr.regReady && (4 ≤ s.modeTarget || s.mode == 1)) ||
      (s.pwr.regReady && 4 ≤ s.modeTarget && (match s.pwr.change with | some c => c.isolated | none => false)))

/-- The reference fails while the part runs (R30): RC40 takes over, and MT bridges at the next LF edge. -/
def referenceFailure (s : State) : State :=
  let s1 := (s.setBit R.clkStatus 0 false).setBit R.clkStatus 1 true
  s1.setMt { s1.mt with bridgeReq := !s1.bridged, exitReq := false }

/-- The clock that CLKOUT drives and the divisor (R437): 1 reference, 2 TCLK, 3 LF, 4 PLL; none while it is low (R460). -/
def State.clkoutPin (s : State) : Option (Nat × Nat) :=
  let sel := s.fld R.clkClkout 4 3
  let runs := match sel with
    | 1 => s.bit R.clkStatus 0
    | 2 => true
    | 3 => s.bit R.clkStatus 4
    | 4 => s.bit R.clkStatus 2
    | _ => false
  if s.alive && runs then some (sel, 2 ^ s.fld R.clkClkout 0 4) else none

/-- The FAULT ball is driven low; it is open-drain, and released during a chip-domain reset (R441, R460). -/
def State.faultPin (s : State) : Bool := s.alive && s.pwr.vio1 && s.bit R.sysFault 0

/-- A window of the TCLK trim (R438). -/
def tclkWindow (count : Nat) (s : State) : State :=
  let t := s.fld R.clkTclktrim 0 10
  let step := 1001 < count || count < 999
  let t2 := if 1001 < count then t - 1 else if count < 999 then min 1023 (t + 1) else t
  let n := if step then 0 else min 8 (s.pwr.trimGood + 1)
  ((s.setFld R.clkTclktrim 0 10 t2).setPwr { s.pwr with trimGood := n }).setBit R.clkStatus 3 (n == 8)

end Sys2Proof.Machine
end

