-- ==== Sys2Proof/Machine/Abort.lean ====
section
/-! DEFINITION. What ends as a command is aborted (R264, R268, R288): the function, not its reply. -/
namespace Sys2Proof.Machine

open Sys2Proof

/-- The stand-alone transmission of a command ends (R268): what waits radiates nothing, what transmits is truncated as under HALT, and no
other request is touched. -/
def abortTx (t : Nat) (tag : Octet) (b : Nat) (s : State) : State :=
  let mine := fun (r : TxReq) => decide (r.src = .command t tag)
  match (s.band b).waiting.find? mine, (s.band b).chain, (s.band b).wait with
  | some r, _, _ => reqEnd b St.aborted r s
  | none, some r, w =>
    if mine r then endUnsent b St.aborted 2 false r (when r.up (fun t => t.count (R.txcCounters b 5)) s)
    else
      (match w with
       | some x => if mine x.tx then cmdTxEnd t tag St.aborted x.tx (s.setBand b { s.band b with wait := none }) else s
       | none => s)
  | none, none, some x => if mine x.tx then cmdTxEnd t tag St.aborted x.tx (s.setBand b { s.band b with wait := none }) else s
  | none, none, none => s

/-- A calibration that a command asked for stops (R268): the slice in progress is discarded, as under CALSTOP, and its item begins anew
another time. -/
def abortCal (b kind item : Nat) (s : State) : State :=
  if kind = 1 then s.setBand b { s.band b with fullStop := s.fullBusy b }
  else if item = 4 then s.setBand b { s.band b with pachk := false }
  else
    match (s.band b).slice with
    | some c =>
      if c.asked && (s.calAct b).isNone then
        leaveSlice b c (calStat b c.item 3 (s.setBand b { s.band b with
          slice := none, sliceNo := (s.band b).sliceNo.filter (fun e => e.1 / 16 != c.item) }))
      else s
    | none => s

/-- MEASURE_CHANNEL's lane is released. -/
def abortMeasure (t : Nat) (tag : Octet) (s : State) : State :=
  match (List.range 16).find? (fun n => (s.lane n).measure == some (t, tag)) with
  | some n => freeLane n s
  | none => s

/-- A pending bank swap is cancelled (R268, R303). -/
def swapCancel (s : State) : State := (s.setBit R.gateStatus 2 false).setGates { s.gates with swap := none }

/-- A line that a staging command programs is finished for nobody. -/
def disown (s : State) : State := orphan .stage s

/-- Staging stops (R268, R288): the controller's operation is abandoned; a line under way is finished, but no command waits for it. -/
def abortStage (s : State) : State :=
  match s.stage.job with
  | none => s
  | some j =>
    stageReply j.rcd St.aborted []
      (disown (match s.flash.op with | some o => if o.by_ = .stage then flashAbandon s else s | none => s))

/-- A pending bank swap can still be cancelled: its boundary has not come (R268, R303). -/
def State.swapAhead (s : State) : Bool := match s.gates.swap with | some b => nsLt s.now b | none => false

/-- The effect of ABORT on the function of a command that has STARTED. -/
def abortEffect (r : Nat) (s : State) : State :=
  let t := r / 17
  let tag := O (s.recTag r)
  let p := s.recParams r
  match s.recOpc r with
  | 0x04 => endChange s
  | 0x10 => s.setBand (octAt p 0).toNat { s.band (octAt p 0).toNat with span := none }
  | 0x12 => abortCal (octAt p 0).toNat (octAt p 1).toNat (octAt p 2).toNat s
  | 0x18 | 0x1A => abortTx t tag 1 (abortTx t tag 0 s)
  | 0x19 => abortMeasure t tag s
  | 0x22 => mtCtrlWrite (setBits (s.reg R.mtCtrl) 1 1 1) (s.setMt { s.mt with slewZero := false })
  | 0x50 => keyCommitWrite (W (2 ^ 10 + bits (octAt p 0) 0 4)) s
  | 0x60 | 0x61 => abortStage s
  | 0x64 => { s with lsup := { s.lsup with load := some (2, none) } }
  | 0x66 => swapCancel s
  | 0x70 => s.setCmdp { s.cmdp with tests := s.cmdp.tests.filter (fun e => e.rcd != r) }
  | _ => s

/-- ABORT ends the command of this record: it is accepted and has not begun, or has started and its work is not complete. -/
def State.abortable (s : State) (r : Nat) : Bool :=
  s.recOpc r != 0x7F &&
    (match s.recState r with
     | 1 => !(s.recOpc r == 0x65 && s.cmdp.exec == some r)
     | 2 => (s.recOpc r != 0x04 || s.asking) && (s.recOpc r != 0x66 || s.swapAhead)
     | _ => false)

/-- The command of a record ends: its function, then its final reply ABORTED, where its own end has not given it one. -/
def abortRecord (r : Nat) (s : State) : State :=
  finalReply r St.aborted [] (if s.recState r = 2 then abortEffect r s else s)

/-- The commands outstanding on a transport end as an ABORT would end them but without replies, and its replies, notices and packets
are discarded (R264). -/
def dropTransport (t : Nat) (s : State) : State :=
  let s1 := forAll ((s.outstanding t).filter s.abortable) abortRecord s
  let s2 := forAll (s1.outstanding t) (setRecState · 0) s1
  let s3 := s2.setCmdp { s2.cmdp with
    replies := tabDel s2.cmdp.replies t
    slots := s2.cmdp.slots.filter (fun p => p.t != t)
    notices := tabDel s2.cmdp.notices t
    mbCopy := tabDel s2.cmdp.mbCopy (t - 2) }
  if 2 ≤ t then s3.setBit (R.mbStatus (t - 2)) 0 false else s3

end Sys2Proof.Machine
end

