-- ==== Sys2Proof/Machine/DmaMove.lean ====
section
/-! DEFINITION. The DMA channels' MOVE (R390 to R393), the shared buffer and the write engine (R398, R399), without the bus: how a unit that is
no memory word is written is an argument. -/
namespace Sys2Proof.Machine

open Sys2Proof

/-- A channel's hidden part after a fresh start. -/
def DmaCh.idle : DmaCh :=
  { on0 := false, on1 := false, moving := false, last := none, sync := false, held := none, insn := 0, arg := 0 }

/-- Channel `n`'s hidden part. -/
def State.dmaCh (s : State) (n : Nat) : DmaCh := tabLook DmaCh.idle s.dma n

/-- The state with channel `n`'s hidden part replaced. -/
def State.setDma (s : State) (n : Nat) (x : DmaCh) : State := { s with dma := tabPut DmaCh.idle s.dma n x }

/-- The state with CHn_STATUS.STATE replaced. -/
def State.setDmaSt (s : State) (n x : Nat) : State := s.setFld (R.dmaChstatus n) 0 3 x

/-! ## Faults and the program counter -/

/-- CHn_PC. -/
def State.dmaPcOf (s : State) (n : Nat) : Nat := (s.reg (R.dmaPc n)).toNat

/-- The channel goes on at CHn_PC + k, and runs if it waited. -/
def dmaNext (n k : Nat) (s : State) : State :=
  let s1 := s.setReg (R.dmaPc n) (W (s.dmaPcOf n + k))
  if s1.dmaSt n = 2 then s1.setDmaSt n 1 else s1

/-- A channel stops for a fault (R402). -/
def dmaFault (n code a : Nat) (s : State) : State :=
  let s1 := ((s.setDmaSt n 6).setFld (R.dmaChstatus n) 20 4 code).setReg (R.dmaErraddr n) (W a)
  fire 0x2C (s1.setDma n { s1.dmaCh n with moving := false, sync := false })

/-- A channel stops for an uncorrectable error: source 18 fires too. -/
def dmaEcc (n a w : Nat) (s : State) : State := eccSignal w (dmaFault n 1 a s)

/-! ## MOVE (R390 to R393) -/

/-- SMODE, DMODE, OCTS, OCTD, SK, DK, DESC of a MOVE's first word. -/
abbrev mvMode (w0 : Word) (dst : Bool) : Nat := if dst then bits w0 16 2 else bits w0 18 2
abbrev mvK (w0 : Word) (dst : Bool) : Nat := if dst then bits w0 4 5 else bits w0 9 5
abbrev mvDesc (w0 : Word) : Nat := bits w0 0 2

/-- The side is the frame of the descriptor in DREG (R393). -/
def mvFrame (w0 : Word) (dst : Bool) : Bool := mvDesc w0 == if dst then 2 else 1

/-- The side is an octet side. -/
def mvOct (w0 : Word) (dst : Bool) : Bool := mvFrame w0 dst || bitOf w0 (if dst then 14 else 15)

/-- The side's mode and k are legal. -/
def mvSideOk (w0 : Word) (dst : Bool) : Bool :=
  mvFrame w0 dst || (mvMode w0 dst != 3 && (mvMode w0 dst != 2 || (1 ≤ mvK w0 dst && mvK w0 dst ≤ 20)))

/-- A MOVE's fields are legal. -/
def mvOk (w0 : Word) : Bool := mvDesc w0 != 3 && mvSideOk w0 false && mvSideOk w0 true

/-- The address after a unit (R391); a frame's side runs on within its buffer. -/
def mvStep (w0 : Word) (dst : Bool) (a : Nat) : Nat :=
  let m := if mvOct w0 dst then 2 ^ 21 else 2 ^ 24
  match (if mvFrame w0 dst then 0 else mvMode w0 dst) with
  | 0 => (a + 1) % m
  | 1 => a
  | _ =>
    let b := 2 ^ mvK w0 dst
    (a / b * b + (a + 1) % b) % m

/-- Where a frame's side starts: word 8, lane 0 of the descriptor's first buffer. -/
def frameStart (dreg : Word) : Word := W (384 * bits dreg 0 12 + 24)

/-- The octet address of a frame's side past the end of a buffer's data goes on in the next buffer: none where the chain ends
(R393), and the link word's address where its read fails. -/
def frameFollow (a : Nat) (s : State) : Except (Option Nat) Nat × State :=
  if a % 384 < 381 then (.ok a, s)
  else
    let lw := 0x900000 + 128 * (a / 384) + 127
    let (v, err, s1) := memRead 6 lw s
    if err then (.error (some lw), s1)
    else if bitOf v 12 then (.error none, s1)
    else (.ok (384 * bits v 0 12), s1)

/-- Where a unit lies: the side's address, a frame's taken across buffers. -/
def unitAddr (w0 : Word) (dst : Bool) (a : Nat) (s : State) : Except (Option Nat) Nat × State :=
  if mvFrame w0 dst then frameFollow a s else (.ok (if mvOct w0 dst then a % 2 ^ 21 else a), s)

/-- Units are octets. -/
def mvOctets (w0 : Word) : Bool := mvOct w0 false || mvOct w0 true

/-- The word that holds octet address `o`, and whether the address names an octet (R347). -/
def octWord (o : Nat) : Nat := 0x900000 + o / 3
def octNamed (o : Nat) : Bool := o < 0x180000

/-- The word address that a unit at `a` of a side reaches. -/
def unitWord (w0 : Word) (dst : Bool) (a : Nat) : Nat := if mvOct w0 dst then octWord a else a

/-- How a burst ends early: an uncorrectable error (pointer, word), or the end of a chain (pointer). -/
inductive BurstEnd where
  | ecc (ptr word : Nat)
  | chain (ptr : Nat)
  deriving DecidableEq, Repr

/-- The units of a burst written from pointer `a` by `put`: the pointer after them, how many were written, the last word written, and an
early end. -/
def writeUnits (put : Word → Nat → Word → State → State) (w0 : Word) :
    List Word → Nat → Option Nat → State → Nat × Nat × Option Nat × Option BurstEnd × State
  | [], a, last, s => (a, 0, last, none, s)
  | v :: l, a, last, s =>
    match unitAddr w0 true a s with
    | (.error (some lw), s1) => (a, 0, last, some (.ecc a lw), s1)
    | (.error none, s1) => (a, 0, last, some (.chain a), s1)
    | (.ok x, s1) =>
      let (p, m, la, e, s2) := writeUnits put w0 l (mvStep w0 true x) (some (unitWord w0 true x)) (put w0 x v s1)
      (p, m + 1, la, e, s2)

/-! ## The shared buffer (R399) -/

/-- How a channel's unit is written: given the channel, the MOVE's first word, the address and the value. -/
abbrev UnitPut := Nat → Word → Nat → Word → State → State

/-- Channels in flight. -/
def State.inFlight (s : State) : List Nat := (s.dmaBuf.map (fun (b : DmaBurst) => b.ch)).eraseDups

/-- Units of channel `n` in the buffer. -/
def State.buffered (s : State) (n : Nat) : Nat := ((s.dmaBuf.filter (fun b => b.ch == n)).map (fun b => b.units.length)).sum

/-- Units of its MOVE that channel `n` has still to read. -/
def State.toRead (s : State) (n : Nat) : Nat := (s.reg (R.dmaPtrs n 2)).toNat - s.buffered n

/-- A burst that cannot go on ends its channel, whose other bursts are dropped (R402). -/
def burstFault (n : Nat) (e : BurstEnd) (s : State) : State :=
  let t := { s with dmaBuf := s.dmaBuf.filter (fun b => b.ch != n) }
  match e with
  | .ecc p lw => dmaEcc n p lw t
  | .chain p => dmaFault n 4 p t

/-- The write engine writes out the oldest burst: DPTR and REMAIN follow, and the MOVE ends with its last unit. -/
def writeOldest (put : UnitPut) (s : State) : State :=
  match s.dmaBuf with
  | [] => s
  | b :: rest =>
    let n := b.ch
    let w0 := (s.dmaCh n).insn
    let (dp, m, last, e, s1) := writeUnits (put n) w0 b.units (s.reg (R.dmaPtrs n 1)).toNat (s.dmaCh n).last { s with dmaBuf := rest }
    let left := (s.reg (R.dmaPtrs n 2)).toNat - m
    let s2 := (s1.setReg (R.dmaPtrs n 1) (W dp)).setReg (R.dmaPtrs n 2) (W left)
    let s3 := s2.setDma n { s2.dmaCh n with last := last }
    match e with
    | some x => burstFault n x s3
    | none => if left = 0 then dmaNext n 4 (s3.setDma n { s3.dmaCh n with moving := false }) else s3

/-- The write engine writes out the `m` oldest bursts. -/
def writeSome (put : UnitPut) : Nat → State → State
  | 0, s => s
  | m + 1, s => writeSome put m (writeOldest put s)

/-- The write engine writes out every burst up to the last one of channel `n`. -/
def writeThrough (put : UnitPut) (n : Nat) : Nat → State → State
  | 0, s => s
  | fuel + 1, s => if s.inFlight.contains n then writeThrough put n fuel (writeOldest put s) else s

/-- Every burst of channel `n` has left the write engine. -/
def flushCh (put : UnitPut) (n : Nat) (s : State) : State := writeThrough put n s.dmaBuf.length s

/-- A unit written to memory alone, as a port accepts it. -/
def memPut (n : Nat) (w0 : Word) (x : Nat) (v : Word) (s : State) : State :=
  let ok := fun a => s.mayWriteMem (.dma (Fin.ofNat 32 n)) a
  if mvOct w0 true then
    if octNamed x then portAccept (ok (octWord x)) (octWord x) (some (x % 3)) v s else s
  else portAccept (ok x) x none v s

/-- The writes of a channel to the port of its last one have landed, its merge buffer's octets among them (R351, R398). -/
def syncLand (n : Nat) (s : State) : State :=
  match bankOf ((s.dmaCh n).last.getD 0) with
  | some b => drainBank b (landBank (some b) s)
  | none => s

end Sys2Proof.Machine
end

