-- ==== Sys2Proof/Machine/Reset.lean ====
section
/-! DEFINITION. Resets (R439 to R441), VIO supplies (R455), the backup domain (R442 to R452), and the rows of power and clocks. -/
namespace Sys2Proof.Machine

open Sys2Proof

/-! ## Resets (R439, R440) -/

/-- A DMA channel stops as EN = 0 stops it and is IDLE (R401, R404): a burst in progress is written out (its writes to registers, which no
reset waits for, are not made: log 148), and a SYNC whose read-back is out ends first. -/
def dmaIdle (n : Nat) (s : State) : State :=
  let s1 := flushCh memPut n s
  let s2 := when (s1.dmaCh n).sync (fun t => (syncLand n t).setReg (R.dmaPc n) (W (t.dmaPcOf n + 1))) s1
  let s3 := s2.setFld (R.dmaChstatus n) 0 3 0
  { s3 with dma := tabDel s3.dma n }

/-- The address is a register of one of these domains. -/
def regInDom (p : RegDomain → Bool) (a : Nat) : Bool :=
  match regRow a with
  | some r => p r.dom
  | none => false

/-- The application domain's part of a reset (R440): cores, INTC, DMA channels 0 to 23; its start waits for the boot ROM (R382), whose copy
is cut short; the shared flash cache is invalid (R333). -/
def appCores (cause : Nat) (s : State) : State :=
  let s1 := forAll (List.range 24) dmaIdle (s.resetRegs (regInDom (· == RegDomain.application)))
  let s2 := forAll [0, 1, 2, 3] (fun k t => t.setCore k Core.reset) s1
  let s3 := disownCopy ((s2.setFld R.sysRstcause 12 4 cause).setStage { s2.stage with
    boot := true, copy := s2.stage.copy.map (fun c => { c with active := false }) })
  let s4 := faultShow (s3.setBit R.sysFault 3 false)
  { s4 with dbg := { s4.dbg with stepReq := 0 }, flash := { s4.flash with cache := [], rets := [], waiters := [] } }

/-- Link firmware holds APPHOLD while the application's start is to come, its image is copied, or its image has failed (R247). -/
def holdShow (s : State) : State :=
  when (s.stage.boot || (match s.stage.copy with | some c => c.active | none => false) || s.bit R.sysFault 3) (·.setBit R.rwinCtrl 2 true) s

/-- The application domain resets: the mailboxes' commands end and their ports are discarded, which a RESET notice reports (R264, R289), and
link firmware sets APPHOLD (R247). -/
def appReset (cause : Nat) (s : State) : State :=
  let s1 := forAll [2, 3, 4, 5] dropTransport (holdShow (appCores cause s))
  s1.setCmdp { s1.cmdp with resetSaid := s1.cmdp.resetSaid &&& 0x03#6, resetApp := 0x3C#6 }

/-- The registers that a link-domain reset restores: the link domain's and the front ends' (R82), but not SUPRST, LOADSEQ and the
KEYn registers. -/
def linkReg (a : Nat) : Bool :=
  regInDom (fun d => d == .link || d == .radio) a && a != R.lsupStatus && a != R.linkLoadseq &&
    !(R.keyCfg 0 ≤ a && a < R.keyCfg 16)

/-- The link cores' state at a start of the link domain: core A owns, and core B boots from the image that A runs: the installed one; while
a LINKFW copy runs the staged one, after its check, else the one that A ran (R300, R386). -/
def lsupStart (s : State) : LsupState :=
  { LsupState.reset with
    verA := if !s.linkCopy then s.imageVersion (slotBase 2)
      else if s.imageOk stageBase then s.imageVersion stageBase else s.lsup.verA }

/-- Tt_CFG, Tt_PERM and WOPCQ as link firmware loads them from the BOOTCFG image, where there is one (R376; log 142). -/
def loadBoot (s : State) : State :=
  let base := slotBase 4
  if s.imageHere base then
    forAll [0, 1, 2, 3, 4, 5] (fun t u =>
      plainWrite (R.tPerm t) (u.mw (base + 38 + t)) (plainWrite (R.tCfg t) (u.mw (base + 32 + t)) u))
      (s.setCmdp { s.cmdp with winCq := max 96 (bits (s.mw (base + 44)) 0 7) })
  else s

/-- The link domain's part of a reset: its engines, link firmware and the command port (R264, R440). -/
def linkEngines (dom : Nat) (s : State) : State :=
  let s1 := forAll (List.range 8) (fun i t => dmaIdle (24 + i) t) s
  let l := s1.link
  let s2 := { s1 with
    cmdp := { CmdpState.reset with resetDom := dom }
    qm := { q := [], used := [] }
    fwd := { c0 := [], other := [], nohop := [] }
    gates := GateState.reset
    bandS := BandSt.idle
    bandG := BandSt.idle
    rwin := RwinState.reset
    lsup := lsupStart s1
    link := { LinkState.reset with
      keys := l.keys, walk := l.walk.map (fun e => (e.1, (0, 0))), duty := l.duty, bucket := l.bucket, old := l.old, sounding := l.sounding
      recSeq := [], ctrStage := l.ctrStage } }
  loadBoot (forAll allRecs (fun r t => if t.recState r = 0 then t else setRecState r 0 t) s2)

/-- The link domain resets (R440). SUPRST tells a supervisor's reset from the others (R292); a staging command under way ends with its
record (R264); link firmware starts again and sets APPHOLD where the application's image is not in place (R247). -/
def linkReset (cause : Nat) (s : State) : State :=
  let s1 := (s.resetRegs linkReg).setReg R.lsupStatus (W (if cause = 0xA then 2 ^ 15 else 2 ^ 15 * s.fld R.lsupStatus 15 1))
  let s2 := when (s1.mode == 3) (fun t => t.setFld R.lsupStatus 4 2 3) (linkEngines 2 (s1.setFld R.sysRstcause 16 4 cause))
  let s3 := holdShow (lanesShow (reindexAll (s2.setStage { s2.stage with job := none, outcome := none })))
  faultShow (s3.setBit R.sysFault 1 (s3.bit R.lsupStatus 15))

/-- After a chip-domain reset link firmware clears VALID in every ring record and writes every gate entry with ENABLE = 0
(R179 and the head of GATE's registers). -/
def firstStart (s : State) : State :=
  let s1 := forAll ((s.listed 0x864000 0x868000).filter (fun w => w % 4 == 2 && bitOf (s.mw w) 23))
    (fun w t => engWrite w (setBits (t.mw w) 23 1 0) t) s
  forAll ((s1.listed 0x828000 0x82E000).filter (fun w => (w - 0x828000) % 6 == 0 && bitOf (s1.mw w) 17))
    (fun w t => engWrite w (setBits (t.mw w) 17 1 0) t) s1

/-- The part starts once nothing holds the chip domain in reset: link firmware's first steps, and its report of a regulator
failure (R436). -/
def chipStart (s : State) : State :=
  if s.alive then
    let s1 := holdShow (lanesShow (reindexAll (firstStart (upBanks s))))
    if s1.pwr.dead then
      notice 0 0x03 [1, O s1.pwr.attempts] (s1.setPwr { s1.pwr with dead := false, attempts := 0 })
    else s1
  else s

/-- The duty-cycle slots as a chip-domain reset leaves them (R112): empty, with the present bucket. -/
def dutyFresh (s : State) : State :=
  let s1 := { s with mem := s.mem.clear 0x862800 0x862900, link := { s.link with duty := [], bucket := [] } }
  bucketSync 1 (bucketSync 0 s1)

/-- The chip domain resets (R440): everything but the backup domain, RSTCAUSE and SRAM contents. -/
def chipReset (cause : Nat) (s0 : State) : State :=
  let s := drainAll (landAll s0)
  let off := s.reg R.eccOffstat
  let s1 := s.resetRegs (fun a => a != R.sysRstcause && !regInDom (· == RegDomain.backup) a)
  let s2 := { s1 with
    mt := MtState.reset
    fab := FabricState.reset
    tmr := { presc := [], evs := [] }
    ecc := { s1.ecc with isolating := 0, merge := [] }
    dma := []
    dmaTurn := (31, 32)
    dmaBuf := []
    dmaUsed := []
    link := { LinkState.reset with sounding := s1.link.sounding }
    pins := { s1.pins with madcBusy := false }
    dbg := { s1.dbg with held := none }
    pwr := { s1.pwr with
      change := none, gateReq := false, regReady := true, xoFail := false, left := 0, trimGood := 0, loads := [], wakeInst := 0
      attempts := if s1.pwr.dead then s1.pwr.attempts else 0, retry := none, tcxo := false } }
  let s3 := ((s2.setFld R.clkTclktrim 0 10 s2.otp.tclkTrim.toNat).setReg R.eccOffstat off).setReg R.eccInitstat off
  let c0 := s3.fld R.bkpStatus 0 1
  let s4 := s3.setReg R.sysRstcause (W (cause * 2 ^ 20 + cause * 2 ^ 16 + cause * 2 ^ 12 + c0))
  dutyFresh (appCores cause (flashReset (linkEngines 0 s4)))

/-- A chip-domain reset whose hold is over at once. -/
def chipCycle (cause : Nat) (s : State) : State := chipStart (chipReset cause s)

/-- SYS.RSTCTRL.DOMAIN: 0 chip, 1 application, 2 link, 3 as 0. -/
def domainReset (dom cause : Nat) (s : State) : State :=
  match dom with
  | 1 => appReset cause s
  | 2 => linkReset cause s
  | _ => chipCycle cause s

/-- VMAIN is lost (R424): BACKUP. Everything outside the backup domain and the nonvolatile memories goes; every bank but backup RAM's will
initialise (R357). -/
def vmainLoss (s : State) : State :=
  let r := chipReset 1 { s with ecc := { s.ecc with merge := [] }, dmaPost := [] }
  let cells := r.mem.cells.filter (fun e => (decide (3 * 0x100000 ≤ e.1) && decide (e.1 < 3 * 0x500000)) ||
    (decide (3 * 0xA00000 ≤ e.1) && decide (e.1 < 3 * 0xA02000)))
  let s1 := { r with
    mem := { cells := cells, shipped := false }
    ecc := { r.ecc with
      flips := r.ecc.flips.filter (fun e => decide (0xA00000 ≤ e.1)), octFlips := [], b15oct := false, down := 0xFF#8 }
    link := { r.link with sounding := [] }
    dbg := DebugState.reset
    pwr := { r.pwr with vmain := false, dead := false, porWait := false, tapHold := false } }
  ((s1.setReg R.eccOffstat 0xFFFF).setReg R.eccInitstat 0).setFld R.pmuMode 0 3 0

/-- VMAIN rises (R439): the power-on reset, released when both VIO supplies are present (R455). -/
def powerOn (s : State) : State :=
  let s1 := if s.pwr.vmain then vmainLoss s else s
  let s2 := s1.setPwr { s1.pwr with vmain := true, porWait := !(s1.pwr.vio1 && s1.pwr.vio2) }
  chipStart (chipReset 1 s2)

/-- TAP instructions that hold the chip domain in reset (R465). -/
def tapHolds (ir : Octet) : Bool := ir == 0x00 || ir == 0x04 || ir == 0x05

/-- LCKSTAT's snapshot (R467). -/
def State.lockStatus (s : State) : BitVec 72 :=
  BitVec.ofNat 72 ((List.range 64).foldl (fun a c => a + (if s.bit (R.evfCfg c) 23 then 2 ^ c else 0)) 0 +
    (List.range 4).foldl (fun a k => a + (if s.bit (R.wdCfg k) 23 then 2 ^ (64 + k) else 0)) 0 + 2 ^ 68 * s.otp.debugLevel.toNat)

/-- An instruction stands in the TAP's instruction register (R464, R465). -/
def tapLoad (ir : Octet) (s : State) : State :=
  let s1 := { s with dbg := { s.dbg with ir := ir, lck := if ir == 0x21 then s.lockStatus else s.dbg.lck } }
  if tapHolds ir && !s.pwr.tapHold then chipReset 4 (s1.setPwr { s1.pwr with tapHold := true })
  else if !tapHolds ir && s.pwr.tapHold then chipStart (s1.setPwr { s1.pwr with tapHold := false })
  else s1

/-! ## The backup domain (R442 to R452) -/

/-- RTC_TRIM as a signed number. -/
def State.rtcTrimVal (s : State) : Int := signed (s.fld R.rtcTrim 0 12) 12

/-- Alarm `k` is enabled. -/
def State.almOn (s : State) (k : Nat) : Bool := s.bit (R.rtcAlmCfg k) 7

/-- Alarm `k` is a one-shot: MASK = 0. -/
def State.almOnce (s : State) (k : Nat) : Bool := s.fld (R.rtcAlmCfg k) 0 6 == 0

/-- The compare value of alarm `k`. -/
def State.almVal (s : State) (k : Nat) : Nat := s.multi (R.rtcAlmCmp k 0) 2

/-- Count `c` matches alarm `k`: every unmasked octet field is equal (R444). -/
def State.almMatch (s : State) (k c : Nat) : Bool :=
  (List.range 6).all (fun f => s.bit (R.rtcAlmCfg k) f || c / 2 ^ (8 * f) % 256 == s.almVal k / 2 ^ (8 * f) % 256)

/-- Alarm `k` fires (R444, R445). -/
def almFire (k : Nat) (skip : Bool) (s : State) : State :=
  let s1 := s.setBit R.rtcAlmstat k true
  let s2 := if skip then s1.setBit R.rtcAlmstat (2 + k) true else s1
  fire (0x65 + k) (if s2.almOnce k then s2.setBit (R.rtcAlmCfg k) 7 false else s2)

/-- An alarm's match of the last tick remembered. -/
def setPrev (k : Nat) (b : Bool) (s : State) : State :=
  s.setBkp { s.bkp with prev := if b then s.bkp.prev ||| (1#2 <<< k) else s.bkp.prev &&& ~~~(1#2 <<< k) }

/-- An alarm at a tick (R444): it fires where it matches and did not match at the previous tick. -/
def almTick (k : Nat) (s : State) : State :=
  let m := s.almOn k && s.almMatch k s.bkp.rtc.toNat
  setPrev k m (if m && !bitOf s.bkp.prev k then almFire k false s else s)

/-- An alarm at an adjustment from `c` by `d` (R445). -/
def almAdjust (c : BitVec 48) (d : Int) (k : Nat) (s : State) : State :=
  let n := s.bkp.rtc
  let m := s.almOn k && s.almMatch k n.toNat
  let v := BitVec.ofNat 48 (s.almVal k)
  let between := if 0 < d then decide (0 < (v - c).toNat) && decide (((v - c).toNat : Int) < d)
    else decide (0 < (c - v).toNat) && decide (((c - v).toNat : Int) < -d)
  let s1 :=
    if !s.almOn k then s
    else if s.almOnce k then
      (if m then (if bitOf s.bkp.prev k && n == c then s else almFire k false s)
       else if between then almFire k true s else s)
    else if m && !s.almMatch k c.toNat then almFire k false s else s
  setPrev k m s1

/-- A tick of the RTC (R442 to R447). -/
def rtcTick (s : State) : State :=
  let acc := s.bkp.trimAcc + s.rtcTrimVal
  let step : Nat := if 2 ^ 20 ≤ acc then 2 else if acc ≤ -(2 ^ 20) then 0 else 1
  let acc2 := if 2 ^ 20 ≤ acc then acc - 2 ^ 20 else if acc ≤ -(2 ^ 20) then acc + 2 ^ 20 else acc
  match s.bkp.adj with
  | some d =>
    let s1 := s.setBkp { s.bkp with rtc := s.bkp.rtc + d, trimAcc := acc2, adj := none }
    almAdjust s.bkp.rtc d.toInt 1 (almAdjust s.bkp.rtc d.toInt 0 s1)
  | none => almTick 1 (almTick 0 (s.setBkp { s.bkp with rtc := s.bkp.rtc + BitVec.ofNat 48 step, trimAcc := acc2 }))

/-- RTC_CTRL written: ADJGO takes RTC_ADJ (R443, R446); TRIMAUTO's rise begins a window (R448). -/
def rtcCtrlWrite (v : Word) (s : State) : State :=
  let s1 := plainWrite R.rtcCtrl v s
  let s2 := if bitOf v 0 then s1.setBkp { s1.bkp with adj := some (BitVec.ofNat 48 (s1.multi (R.rtcAdj 0) 2)) } else s1
  if s2.bit R.rtcCtrl 2 != s.bit R.rtcCtrl 2 then trimStart s2 else s2

/-- A window of the automatic trim ends (R448): the RTC's rate error against mesh time in units of 2^-20; how its last unit
is rounded, and what a result beyond 12 bits becomes, are open. A window with a step in it is discarded. -/
def trimWindow (s : State) : State :=
  let ns := (s.mt.ctr - s.bkp.winMt).toNat / 256
  let ticks := (s.bkp.rtc - s.bkp.winRtc).toNat
  if !s.bkp.winOk || s.bkp.winStep != O (s.fld R.mtStatus 16 8) || ticks = 0 then trimStart s
  else
    let num : Int := 2 ^ 20 * ((32768 * ns : Nat) - (1000000000 * ticks : Nat) : Int)
    let den : Int := (1000000000 * ticks : Nat)
    let e := num / den + (if num % den = 0 then 0 else if Config.freeBool s.draws then 1 else 0)
    let s1 := s.drawn
    let fit := fun (x : Int) (t : State) =>
      if -2048 ≤ x ∧ x ≤ 2047 then ((BitVec.ofInt 12 x).toNat, t) else (bits (Config.freeWord t.draws) 0 12, t.drawn)
    let (m, s2) := fit e s1
    let (r, s3) := fit (s.rtcTrimVal + e) s2
    trimStart ((s3.setReg R.rtcTrimmeas (W (2 ^ 23 + m))).setFld R.rtcTrim 0 12 r)

/-- The backup domain resets (R451). -/
def backupReset (s : State) : State :=
  let s1 := s.resetRegs (regInDom (· == RegDomain.backup))
  (applyFuses (· == 24)) (clearBank 24 (s1.setBkp { rtc := 0, snaps := [], trimAcc := 0, adj := none, prev := 0, winRtc := 0, winMt := 0, winStep := 0, winOk := false, stage := 0, copy := none }))

/-! ## The commands: changes of mode -/

/-- PMU.REQ written (R425): during a change the write obeys R4; GO with a mode of 1 to 5 requests it. -/
def pmuReqWrite (v : Word) (s : State) : State :=
  if !s.pmuIdle then s
  else
    let s1 := plainWrite R.pmuReq v s
    let m := bits v 0 3
    if bitOf v 23 && 1 ≤ m && m ≤ 5 then requestMode m .firmware s1 else s1

/-- MODE_REQUEST (R425). -/
def execModeRequest (w : Who) (v : Word) (s : State) : Host.Outcome State Fault Refusal :=
  act (s.mayWrite w R.pmuReq) (pmuReqWrite (setBits v 23 1 1)) s

/-- AGENT_ANSWER (R426). -/
def execAgentAnswer (agent : Fin 19) (ans : AgentAnswer) (load : BitVec 12) (s : State) : Host.Outcome State Fault Refusal :=
  act (s.alive && s.asking && agent != 0) (agentAnswer agent.val ans load.toNat) s

/-- AGENT_DELAY_EXPIRY (R428). -/
def execAgentDelayExpiry (agent : Fin 19) (s : State) : Host.Outcome State Fault Refusal :=
  act (s.alive && s.asking && s.pwr.change.any (fun c => bitOf c.delayed agent.val) &&
    !s.accepted agent.val) (delayExpiry agent.val) s

/-- MODE_CHANGE_TIMEOUT (R427). -/
def execModeChangeTimeout (s : State) : Host.Outcome State Fault Refusal :=
  act (s.alive && s.asking && !s.waking && !s.allAccepted) (fun s => cancelChange s.firstSilent 0xFF s) s

/-- MODE_COMMIT (R426 step 4): an agent withdraws its ACCEPT where its condition has come about since (R427); a pending wake cancels an entry to HIBERNATE or DOZE (R433); a mode without the reference asks MT
to bridge (R30). -/
def modeCommit (s : State) : State :=
  match s.withdraws with
  | some (a, x) => cancelChange a x s
  | none =>
    if s.modeTarget ≤ 2 && s.wakePending then cancelChange 0 8 s
    else
      let s1 := s.setFld R.pmuStatus 22 2 2
      if s.modeTarget = 1 then s1.setMt { s1.mt with bridgeReq := !s1.bridged, exitReq := false } else s1

/-- MODE_COMMIT (R426). -/
def execModeCommit (s : State) : Host.Outcome State Fault Refusal :=
  act (s.alive && s.asking && s.allAccepted && !s.pwr.change.any (fun c => c.replyHold)) modeCommit s

/-- DOMAIN_ISOLATE (R426 step 5). -/
def execDomainIsolate (s : State) : Host.Outcome State Fault Refusal :=
  act (s.alive && s.fld R.pmuStatus 22 2 == 2 && !s.waking &&
    !s.pwr.change.all (fun c => c.isolated)) isolate s

/-- MODE_CHANGE_COMPLETE (R426 step 6). -/
def execModeChangeComplete (s : State) : Host.Outcome State Fault Refusal := act (s.alive && s.mayEnter) modeEnter s

/-- The pin of a level-mode source stands at its active level while its supply is there (R432). -/
def State.wakePinAt (s : State) (code : Octet) : State :=
  let k := code.toNat - 1
  if 1 ≤ code.toNat ∧ code.toNat ≤ 4 ∧ s.bit R.pmuWakecfg (3 * k + 1) ∧ s.pwr.vio1 then
    { s with pins := { s.pins with wake := if s.bit R.pmuWakecfg (3 * k) then s.pins.wake &&& ~~~(1#4 <<< k) else s.pins.wake ||| (1#4 <<< k) } }
  else s

/-- WAKE_SOURCE (R432). -/
def execWakeSource (code : Octet) (s : State) : Host.Outcome State Fault Refusal :=
  act ((s.wakePinAt code).mayWake && (s.wakePinAt code).wakeActive code.toNat) wakeSource (s.wakePinAt code)

/-- WAKE_PIN_EDGE (R432, R433): the pin takes its level; in edge mode the edge sets WAKEFLAG, but in the window after a commit it
is lost. -/
def wakeEdge (k : Nat) (rising : Bool) (s : State) : State :=
  let s1 := { s with pins := { s.pins with wake := if rising then s.pins.wake ||| (1#4 <<< k) else s.pins.wake &&& ~~~(1#4 <<< k) } }
  let window := s.fld R.pmuStatus 22 2 == 2 && s.modeTarget ≤ 2 && !s.enteringSleep
  if s.alive && s.bit R.pmuWakecfg (3 * k + 2) && !s.bit R.pmuWakecfg (3 * k + 1) && rising != s.bit R.pmuWakecfg (3 * k) && !window then
    s1.setBit R.pmuWakeflag k true
  else s1

/-- WAKE_PIN_EDGE (R432). -/
def execWakePinEdge (pin : Fin 4) (rising : Bool) (s : State) : Host.Outcome State Fault Refusal :=
  act s.pwr.vio1 (wakeEdge pin.val rising) s

/-- REGULATOR_READY (R434). -/
def execRegulatorReady (s : State) : Host.Outcome State Fault Refusal :=
  act s.regWaits (fun s => s.setPwr { s.pwr with regReady := true }) s

/-- REGULATOR_TIMEOUT (R436). -/
def execRegulatorTimeout (s : State) : Host.Outcome State Fault Refusal := act s.regWaits regTimeout s

/-- Another try of the main regulator. -/
def regRetry (s : State) : State :=
  let t := startWake 0x41 (s.pwr.retry.getD 4) s
  t.setPwr { t.pwr with regReady := false }

/-- REG_RETRY (R436). -/
def execRegRetry (s : State) : Host.Outcome State Fault Refusal :=
  act (s.alive && s.pwr.change.isNone && s.pwr.retry.isSome) regRetry s

/-- XO_READY (R434, R435). -/
def execXoReady (s : State) : Host.Outcome State Fault Refusal := act s.xoWaits xoReady s

/-- XO_TIMEOUT (R435): the wake goes on on RC40. -/
def execXoTimeout (s : State) : Host.Outcome State Fault Refusal :=
  act (s.xoWaits && s.waking && s.mode == 1 && !s.pwr.xoFail) (fun s =>
    (s.setBit R.clkStatus 1 true).setPwr { s.pwr with xoFail := true }) s

/-- XO_RETRY (R435): the XO is started again, from the reference REFSEL names. -/
def execXoRetry (s : State) : Host.Outcome State Fault Refusal :=
  act (s.alive && 2 ≤ s.mode && !s.bit R.clkStatus 0) (fun s => s.setPwr { s.pwr with tcxo := s.bit R.clkCfg 0 }) s

/-- PLL_LOCK (R434). -/
def execPllLock (s : State) : Host.Outcome State Fault Refusal := act s.pllWaits pllLock s

/-- REFERENCE_FAILURE (R30). -/
def execReferenceFailure (s : State) : Host.Outcome State Fault Refusal :=
  act (s.alive && 2 ≤ s.mode && s.bit R.clkStatus 0) referenceFailure s

/-- TCLK_TRIM_WINDOW (R438). -/
def execTclkTrimWindow (count : Nat) (s : State) : Host.Outcome State Fault Refusal :=
  act (s.alive && s.bit R.clkStatus 0 && s.bit R.clkTclktrim 23) (tclkWindow count) s

/-- LF_OSCILLATOR_READY (R437). -/
def execLfOscillatorReady (s : State) : Host.Outcome State Fault Refusal := act s.alive (fun s => s.setBit R.clkStatus 4 true) s

/-! ## The commands: resets and supplies -/

/-- POR (R439, R455). -/
def execPor (s : State) : Host.Outcome State Fault Refusal := act true powerOn s

/-- BROWNOUT_MAIN (R439). -/
def execBrownoutMain (s : State) : Host.Outcome State Fault Refusal := act (s.pwr.vmain && !s.pwr.dead) (chipCycle 2) s

/-- BROWNOUT_LP (R431): on the low-power LDO. -/
def execBrownoutLp (s : State) : Host.Outcome State Fault Refusal :=
  act (s.alive && (s.mode == 2 || s.mode == 3) && !s.pwr.dead) (chipCycle 3) s

/-- The pin goes low: the chip domain resets and stays in reset. -/
def resetPinLow (s : State) : State :=
  let s1 := s.setPwr { s.pwr with resetPin := true }
  if s.pwr.vmain then chipReset 4 s1 else s1

/-- RESET_PIN_ASSERT (R439). -/
def execResetPinAssert (s : State) : Host.Outcome State Fault Refusal := act (!s.pwr.resetPin) resetPinLow s

/-- RESET_PIN_RELEASE (R439): the part restarts. -/
def execResetPinRelease (s : State) : Host.Outcome State Fault Refusal :=
  act s.pwr.resetPin (fun s => chipStart (s.setPwr { s.pwr with resetPin := false })) s

/-- SYS.RSTCTRL written (R440). -/
def rstctrlWrite (v : Word) (s : State) : State :=
  let s1 := plainWrite R.sysRstctrl v s
  if bitOf v 2 then domainReset (bits v 0 2) 9 s1 else s1

/-- RSTCTRL_GO (R440). -/
def execRstctrlGo (w : Who) (v : Word) (s : State) : Host.Outcome State Fault Refusal :=
  act (s.mayWrite w R.sysRstctrl) (rstctrlWrite (setBits v 2 1 1)) s

/-- VMAIN_LOSS (R424). -/
def execVmainLoss (s : State) : Host.Outcome State Fault Refusal := act s.pwr.vmain vmainLoss s

/-- SUPPLY_SWITCH (R450). -/
def execSupplySwitch (cell : Bool) (s : State) : Host.Outcome State Fault Refusal :=
  act true (fun s => s.setBit R.bkpStatus 1 cell) s

/-- BACKUP_RESET (R451). -/
def execBackupReset (s : State) : Host.Outcome State Fault Refusal := act true backupReset s

/-- A VIO supply is lost (R455): the bank's inputs read 0, a falling edge at each that stood high; TRST_N among them resets the TAP (log 150). -/
def vioLoss (second : Bool) (s : State) : State :=
  if second then
    let s1 := forAll ((List.range 48).filter (bitOf s.pins.gpio)) (fun p t => pinEdge p false t) s
    s1.setPwr { s1.pwr with vio2 := false }
  else
    let s1 := forAll ((List.range 4).filter (bitOf s.pins.wake)) (fun k t => wakeEdge k false t) s
    let s2 := tapLoad 0x01 { s1 with pins := { s1.pins with cts := true } }
    s2.setPwr { s2.pwr with vio1 := false }

/-- VIO_LOSS (R455). -/
def execVioLoss (second : Bool) (s : State) : Host.Outcome State Fault Refusal := act true (vioLoss second) s

/-- VIO_RETURN (R455): the power-on reset is released once VMAIN and both supplies are there. -/
def vioReturn (second : Bool) (s : State) : State :=
  let s1 := s.setPwr (if second then { s.pwr with vio2 := true } else { s.pwr with vio1 := true })
  if s1.pwr.porWait && s1.pwr.vio1 && s1.pwr.vio2 then chipStart (s1.setPwr { s1.pwr with porWait := false }) else s1

/-- VIO_RETURN (R455). -/
def execVioReturn (second : Bool) (s : State) : Host.Outcome State Fault Refusal := act true (vioReturn second) s

/-- TAP_INSTRUCTION_LOAD (R464, R465). -/
def execTapInstructionLoad (ir : Octet) (s : State) : Host.Outcome State Fault Refusal :=
  act (s.pwr.vmain && s.pwr.vio1) (tapLoad ir) s

/-- TAP_RESET (R464): IDCODE. -/
def execTapReset (s : State) : Host.Outcome State Fault Refusal := act s.pwr.vmain (tapLoad 0x01) s

/-! ## The commands: the RTC -/

/-- RTC_TICK (R447). -/
def execRtcTick (s : State) : Host.Outcome State Fault Refusal := act true rtcTick s

/-- RTC_ALARM (R444): an alarm that matches and did not at the last tick. -/
def execRtcAlarm (k : Fin 2) (s : State) : Host.Outcome State Fault Refusal :=
  act (s.almOn k.val && s.almMatch k.val s.bkp.rtc.toNat && !bitOf s.bkp.prev k.val) (almTick k.val) s

/-- ADJGO (R443). -/
def execAdjgo (w : Who) (v : Word) (s : State) : Host.Outcome State Fault Refusal :=
  act (s.mayWrite w R.rtcCtrl) (rtcCtrlWrite (setBits v 0 1 1)) s

/-- RTC_TRIM_WINDOW (R448). -/
def execRtcTrimWindow (s : State) : Host.Outcome State Fault Refusal :=
  act (s.alive && s.bit R.rtcCtrl 2 && s.fld R.mtSrc 8 3 == 2) trimWindow s

end Sys2Proof.Machine
end

