-- ==== Sys2Proof/Machine/Cmdp.lean ====
section
/-! DEFINITION. The command port (R248 to R264): the transports, their slots and stores, and the checks of R260. -/
namespace Sys2Proof.Machine

open Sys2Proof

/-! ## Service -/

/-- Transport `t` accepts packets (R257). -/
def State.accepts (s : State) (t : Nat) : Bool := s.linkRuns && s.bit R.cmdpCtrl 0 && s.bit (R.tCfg t) 0

/-- Receive slots of a transport (R254, R256, R258). -/
def slotCount (t : Nat) : Nat := if t < 2 then 4 else 1

/-- Free receive slots: the UART's packet under reception holds one. -/
def State.slotsFree (s : State) (t : Nat) : Nat :=
  slotCount t - (s.cmdp.slots.filter (fun p => p.t == t)).length - (if t = 1 ∧ s.cmdp.uartIn then 1 else 0)

/-- A count of transport `t` (R257's registers). -/
abbrev tCount (t m : Nat) (s : State) : State := s.count (R.tCounters t m)

/-! ## Opcodes (Command Reference) -/

/-- The octets of a request element are as many as its OP and COUNT give (R230). -/
def elemLenOk (e : List Octet) : Bool :=
  match eOp e with
  | 1 => e.length == 8
  | 2 => e.length == 8 + 3 * eCount e
  | 3 => e.length == 11
  | 4 => e.length == 14
  | _ => 8 ≤ e.length

/-- Parameter octets that an opcode's entry gives: the count fits, given the octets that say how many follow; none for an opcode
not listed. -/
def opcodeFits (opc : Nat) (p : List Octet) : Option Bool :=
  let n := p.length
  let exact := fun (k : Nat) => some (n == k)
  match opc with
  | 0x00 | 0x01 | 0x03 | 0x05 | 0x06 => exact 0
  | 0x02 | 0x04 => exact 1
  | 0x10 | 0x11 | 0x14 => exact 4
  | 0x12 => exact 6
  | 0x13 => exact 7
  | 0x15 => exact 769
  | 0x16 => exact 5
  | 0x17 => exact 1
  | 0x18 => some (21 ≤ n && n ≤ 1020)
  | 0x19 => exact 6
  | 0x1A => exact 8
  | 0x20 | 0x24 => exact 0
  | 0x21 => exact 9
  | 0x22 => exact 7
  | 0x23 => exact 13
  | 0x30 => exact 20
  | 0x31 => exact 2
  | 0x32 => exact 16
  | 0x33 => exact 1
  | 0x34 => exact 2
  | 0x35 => some (4 ≤ n && n == 4 + 2 * (if octAt p 3 = 0 then 256 else (octAt p 3).toNat))
  | 0x40 => exact 10
  | 0x41 => exact 43
  | 0x42 => exact 3
  | 0x43 => exact 14
  | 0x44 => exact 2
  | 0x45 => exact 111
  | 0x46 => exact 2
  | 0x50 => exact 19
  | 0x51 => exact 3
  | 0x52 => exact 1
  | 0x58 => exact 25
  | 0x59 => exact 1
  | 0x5A => some (12 ≤ n && elemLenOk (p.drop 4))
  | 0x60 => exact 96
  | 0x61 => some (27 ≤ n && n ≤ 3 + 24 * 42 && (n - 3) % 24 == 0)
  | 0x62 | 0x63 | 0x65 => exact 0
  | 0x64 | 0x66 => exact 1
  | 0x70 => exact 2
  | 0x71 => exact 4
  | 0x72 => exact 2
  | 0x73 => some (n ≤ 1019)
  | 0x7F => exact 2
  | _ => none

/-- The band that a command names, where it names one. -/
def opcodeBand (opc : Nat) (p : List Octet) : Option Nat :=
  match opc with
  | 0x10 | 0x11 | 0x12 | 0x13 | 0x14 | 0x18 | 0x19 => some (octAt p 0).toNat
  | 0x16 => some ((octAt p 1).toNat / 4)
  | 0x1A => some (octAt p 2).toNat
  | _ => none

/-- The present mode permits the command (R272 and the Modes columns). -/
def State.modePermits (s : State) (opc : Nat) (p : List Octet) : Bool :=
  3 ≤ s.mode && (!(opc == 0x64 || opc == 0x65 || opc == 0x70) || 4 ≤ s.mode) &&
    !(opc == 0x11 && (octAt p 1).toNat ≤ 2 && s.mode == 5) &&
    !(s.mode == 3 && (match opcodeBand opc p with | some b => b ≤ 1 && !s.radioOn b | none => false))

/-! ## The checks of R260, steps 1 to 8 -/

/-- LEN, OPC, TAG and the parameters of a packet as received. -/
abbrev pLen (p : Packet) : Nat := leNat (p.octets.take 2)
abbrev pOpc (p : Packet) : Nat := (octAt p.octets 2).toNat
abbrev pTag (p : Packet) : Octet := octAt p.octets 3
abbrev pParams (p : Packet) : List Octet := (p.octets.drop 4).take (pLen p - 4)

/-- The octets that LEN counts have arrived, with the CRC. -/
def pFull (p : Packet) : Bool := 4 ≤ pLen p && pLen p + 2 ≤ p.octets.length

/-- The CRC of R249 matches. -/
def pCrcOk (p : Packet) : Bool :=
  crc 16 0x1021 0xFFFF (p.octets.take (pLen p)) == leNat ((p.octets.drop (pLen p)).take 2)

/-- The first free record of a transport. -/
def State.freeRec (s : State) (t : Nat) : Option Nat := (recsOf t).find? (fun r => s.recState r == 0)

/-- The status of the first of the steps 1 to 8 that a packet fails; DONE if it passes them (R260, R266). -/
def State.packetStatus (s : State) (p : Packet) : Nat :=
  if pFull p && !pCrcOk p then St.badCrc
  else
    match opcodeFits (pOpc p) (pParams p) with
    | none => St.unknownOpcode
    | some fits =>
      if !p.whole || !pFull p || 1024 < pLen p || !fits then St.badLength
      else if pTag p = 0 then St.badParam
      else if (s.recOf p.t (pTag p)).isSome then St.busy
      else if (s.freeRec p.t).isNone || (pOpc p != 0x7F && 16 ≤ (s.outstanding p.t).length) then St.busy
      else if pOpc p != 0x7F && !s.bit (R.tPerm p.t) (pOpc p / 16) then St.locked
      else if !s.modePermits (pOpc p) (pParams p) then St.wrongMode
      else St.done

/-- A packet that passes every step is journaled as ACCEPTED, in the order of acceptance, and counts in RXOK (R260, R296, R297). -/
def journal (p : Packet) (r : Nat) (s : State) : State :=
  let opc := pOpc p
  let guard : Word := if opc = 0x21 then W (s.fld R.mtStatus 16 8) else if opc = 0x50 then s.reg R.linkLoadseq else 0
  let w0 := W (opc * 2 ^ 14 + (pTag p).toNat * 2 ^ 6 + p.t * 2 ^ 3 + 1)
  let s1 := engWrites (recAddr r) ([w0, s.cmdp.seq, guard, 0, 0, 0, 0, 0] ++ octetsToWords (p.octets.take (pLen p + 2))) s
  tCount p.t 0 (s1.setCmdp { s1.cmdp with
    seq := s1.cmdp.seq + 1, replay := s1.cmdp.replay.filter (· != r), accepted := tabSet s1.cmdp.accepted r s1.now })

/-! ## Mailboxes (R258, R259) -/

/-- A packet is posted: CMDP copies it. -/
def mailboxPost (k : Nat) (v : Word) (s : State) : State :=
  (s.setBit (R.mbStatus k) 0 true).setCmdp { s.cmdp with mbCopy := tabIns (tabDel s.cmdp.mbCopy k) k v.toNat }

/-- Words as the command port reads them, for the owning link core. -/
def portWords : Nat → Nat → State → List Word × State
  | _, 0, s => ([], s)
  | a, n + 1, s =>
    let (v, _, s1) := memRead (4 + s.fld R.lsupStatus 0 1) a s
    let (l, s2) := portWords (a + 1) n s1
    (v :: l, s2)

end Sys2Proof.Machine
end

