-- ==== Sys2Proof/Machine/CmdBase.lean ====
section
/-! DEFINITION. How a command starts and ends (R260 to R263, R269, R270), and ABORT (R265 to R268). -/
namespace Sys2Proof.Machine

open Sys2Proof

/-! ## Parameters (R269) -/

/-- A field of two octets, of three octets, and an INSTANT. -/
abbrev par2 (p : List Octet) (i : Nat) : Nat := leNat ((p.drop i).take 2)
abbrev par3 (p : List Octet) (i : Nat) : Nat := leNat ((p.drop i).take 3)
abbrev par9 (p : List Octet) (i : Nat) : Nat := leNat ((p.drop i).take 9)

/-- One octet as a number. -/
abbrev par1 (p : List Octet) (i : Nat) : Nat := (octAt p i).toNat

/-- `n` WORDs from offset `i`. -/
def parWords (p : List Octet) (i n : Nat) : List Word := (List.range n).map (fun j => ofWord3 p (i + 3 * j))

/-- BAND, CHAN and NBR are legal. -/
abbrev bandOk (p : List Octet) (i : Nat) : Bool := par1 p i ≤ 1
abbrev chanIs (p : List Octet) (i : Nat) : Bool := par2 p i < 1024
abbrev nbrIs (p : List Octet) (i : Nat) : Bool := par2 p i < 8192

/-- A link core as an initiator: A or B. -/
def linkCore (b : Bool) : Who := if b then .lcB else .lcA

/-- A check of step 9 and one of step 10: the status of the first that fails, DONE if both hold. -/
def legalFree (legal free : Bool) : Nat := if !legal then St.badParam else if !free then St.busy else St.done

/-! ## Starting (R262) -/

/-- How long ago, in acceptances, a record was accepted. -/
def State.recAge (s : State) (r : Nat) : Nat := (s.cmdp.seq - s.mw (recAddr r + 1)).toNat

/-- The record that link firmware starts next: the first accepted of those not begun (R262). While a command that is not long-running
executes, none starts. -/
def State.nextCmd (s : State) : Option Nat :=
  if s.cmdp.exec.isSome then none
  else
    (allRecs.filter (fun r => s.recState r == 1 && s.recOpc r != 0x7F)).foldl
      (fun m r => match m with
        | some x => if s.recAge x < s.recAge r then some r else some x
        | none => some r) none

/-- Words as link firmware reads them at the addresses of a list: whether one is uncorrectable. -/
def fwReads : List Nat → State → Bool × State
  | [], s => (false, s)
  | a :: l, s =>
    let (_, err, s1) := memRead (4 + s.fld R.lsupStatus 0 1) a s
    let (e2, s2) := fwReads l s1
    (err || e2, s2)

/-- Link firmware reads the words of SRAM and the flash lines that `p` picks: of those whose stored words have an error, whether one is
uncorrectable; the others read as they stand. -/
def fwTouch (p : Nat → Bool) (s : State) : Bool × State :=
  fwReads ((s.ecc.flips.map Prod.fst ++ s.flash.errs.map Prod.fst ++ s.flash.badLines ++
    (s.flash.marks ++ s.flash.badSectors).flatMap (fun n => (List.range 512).map (fun i => sectorBase n + 8 * i))).filter p) s

/-- An address lies in `n` words from `a` up. -/
def within (a n x : Nat) : Bool := decide (a ≤ x) && decide (x < a + n)

/-- Words that the overlap check of an entry's new contents reads (R72): the leads of the course's class-0 gates in both banks, and what
gives the airtime of a frame that DURATION does not bound. -/
def State.overlapReads (s : State) (v : List Word) (a : Nat) : Bool :=
  gEnable v && gClass v == 0 &&
    (v :: ((List.range 4096).map s.gateEntry).filter (fun w => gEnable w && gClass w == 0 && gCourse w == gCourse v)).any (fun w =>
      [false, true].any (fun b =>
        within (bankAt b + 8 * routineOf w) (if gAction w = 4 ∨ gAction w = 5 then 4 else 2) a ||
          ((gAction w == 4 || gAction w == 5) &&
            (within (bankAt b + 0x1400 + 8 * s.profFor w) 8 a ||
              within (bankAt b + 0x800 + 32 * (if gAction w = 4 then bits (gArg w) 0 6 else Config.soundDesc)) 32 a))))

/-- Words that link firmware reads to check and to execute a command, beside those that its reply gives (R270). -/
def cmdReads (opc : Nat) (p : List Octet) (s : State) (a : Nat) : Bool :=
  let bank := bankAt s.bank
  let nbr := fun (n : Nat) => n != 0x1FFF && within (nbrAddr n 0) 12 a
  let nbrs := within 0x800000 0x18000 a
  let gates := within 0x828000 0x6000 a
  let routes := within 0x818000 0x10000 a
  let wins := within 0x860000 0x200 a
  let chan := fun (i : Nat) => within (bank + 0x4000 + 4 * par2 p i) 4 a
  let prof := fun (i : Nat) => within (bank + 0x1400 + 8 * par1 p i) 8 a
  let head := fun (b : Nat) => within b 8 a
  match opc with
  | 0x01 => head (slotBase 1) || head (slotBase 4)
  | 0x11 => chan 2
  | 0x16 => chan 2 || prof 4
  | 0x18 => chan 3 || prof 2 || within (bank + 0x800 + 32 * par1 p 6) 32 a
  | 0x19 => chan 1 || prof 3
  | 0x1A => within (nbrAddr (par2 p 0) 0) 12 a || prof 4
  | 0x23 => nbr (par2 p 6)
  | 0x30 => gates || within (nbrAddr (gNbr (parWords p 2 6)) 0) 12 a || s.overlapReads (parWords p 2 6) a
  | 0x41 | 0x42 => nbrs || gates || routes || wins
  | 0x43 => within (nbrAddr (bits (ofWord3 p 5) 0 13) 0) 12 a || nbr (bits (ofWord3 p 8) 0 13)
  | 0x45 => nbrs || within (tmAddr (par2 p 0)) 1 a
  | 0x51 => [false, true].any (fun b => within (bankAt b + 0x800) 0x800 a && a % 32 == 2)
  | 0x58 | 0x59 => within (0x860000 + 8 * par1 p 0) 8 a || (opc == 0x58 && nbrs)
  | 0x60 => head (slotBase (bits (ofWord3 p 6) 8 8))
  | 0x61 => within stageBase 32 a
  | 0x62 => within stageBase (imageWords (s.imageLen stageBase)) a
  | 0x63 => s.stage.st != 0 && within stageBase 32 a
  | 0x64 => within (if par1 p 0 = 1 then stageBase else slotBase 2) 64 a || a == 0x870000
  | _ => false

/-- What a long-running command holds under R262, as far as another command accepted before it starts must find it held. -/
def cmdKeys (opc : Nat) (p : List Octet) : List Nat :=
  match opc with
  | 0x04 => [0]
  | 0x10 => [1 + par1 p 0]
  | 0x12 => [3 + par1 p 0]
  | 0x18 => [5 + par1 p 0]
  | 0x1A => if par1 p 5 = 0 then [5 + par1 p 2] else []
  | 0x17 => [16 + par1 p 0]
  | 0x50 => [32 + par1 p 0]
  | 0x60 | 0x61 | 0x62 => [7]
  | 0x64 => [8]
  | 0x66 => [9]
  | 0x70 => ((List.range 6).filter (fun i => bitOf (W (par2 p 0)) i)).map (· + 48)
  | _ => []

/-- RWIN slots that are held: those of link firmware's operations, whether RWIN has taken their requests or not, and the others' (R284). -/
def State.windowsHeld (s : State) : Nat := s.cmdp.winUsers.length + (s.rwin.slots.filter (fun x => x.cq != s.windowCq)).length

/-- A command that is accepted and has not begun will hold what this one needs. -/
def State.cmdQueued (s : State) (opc : Nat) (p : List Octet) : Bool :=
  let l := if opc = 0x65 then [8] else if opc = 0x15 then [9] else cmdKeys opc p
  if opc = 0x5A then 32 ≤ s.windowsHeld + (allRecs.filter (fun r => s.recState r == 1 && s.recOpc r == 0x5A)).length
  else
  !l.isEmpty && allRecs.any (fun r => s.recState r == 1 && s.cmdp.exec != some r && l.any (cmdKeys (s.recOpc r) (s.recParams r)).contains)

/-- The start of a command: an uncorrectable word that it reads ends it with HW_FAULT (R270); steps 9 and 10 (`check`) are judged again for
what has changed since its acceptance, and what they refuse is its final reply; else it executes (`body`, given its record and
parameters). -/
def startCmd (opc : Nat) (check : List Octet → State → Nat) (body : Nat → List Octet → State → State) (r : Nat) (s : State) : State :=
  let p := s.recParams r
  match fwTouch (cmdReads opc p s) s with
  | (true, t) => finalReply r St.hwFault [] t
  | (false, t) => if check p t != St.done then finalReply r (check p t) [] t else body r p t

/-- The command's reads of flash wait for the controller (R368). -/
def State.cmdWaits (s : State) (opc r : Nat) : Bool :=
  let p := s.recParams r
  match opc with
  | 0x01 | 0x60 => s.flashWaits (slotBase 1)
  | 0x61 | 0x62 | 0x63 => s.flashWaits stageBase
  | 0x64 => s.flashWaits (if par1 p 0 = 1 then stageBase else slotBase 2)
  | _ => false

/-- The start of the accepted command of a transport and tag (R262), once its flash reads need not wait. -/
def command (opc : Nat) (check : List Octet → State → Nat) (body : Nat → List Octet → State → State) (t : Transport) (tag : Octet)
    (s : State) : Host.Outcome State Fault Refusal :=
  match s.recOf (tNum t) tag with
  | some r =>
    act (s.serves && s.recOpc r == opc && s.recState r == 1 && s.nextCmd == some r && !s.cmdWaits opc r) (startCmd opc check body r) s
  | none => .next s

/-- No check of step 9 or 10. -/
def anyParams (_p : List Octet) (_s : State) : Nat := St.done

/-- The command is long-running: STARTED is queued and its record shows it. -/
abbrev started (r : Nat) (s : State) : State := startedReply r s

/-- The command executes beyond this step and is not long-running. -/
def executing (r : Nat) (s : State) : State := s.setCmdp { s.cmdp with exec := some r }

/-- DONE with a result. -/
abbrev done (r : Nat) (res : List Octet) (s : State) : State := finalReply r St.done res s

/-- Words as link firmware reads them: an uncorrectable error is its command's HW_FAULT (R270). -/
def fwWords : Nat → Nat → State → List Word × Bool × State
  | _, 0, s => ([], false, s)
  | a, n + 1, s =>
    let (v, err, s1) := memRead (4 + s.fld R.lsupStatus 0 1) a s
    let (l, e2, s2) := fwWords (a + 1) n s1
    (v :: l, err || e2, s2)

/-- The reply of a command that reads `n` words. -/
def replyWords (r a n : Nat) (before : List Octet) (s : State) : State :=
  match fwWords a n s with
  | (_, true, t) => finalReply r St.hwFault [] t
  | (l, false, t) => done r (before ++ l.flatMap word3) t

/-! ## ABORT (R265 to R268) -/

/-- The records that ABORT reaches. -/
def State.abortTargets (s : State) (r scope tag : Nat) : List Nat :=
  let l := match scope with
    | 0 => (recsOf (r / 17)).filter (fun x => s.recState x != 0 && s.recTag x == tag)
    | 1 => recsOf (r / 17)
    | _ => allRecs
  l.filter s.abortable

/-- ABORT's checks at its acceptance on transport `t`: ABORTALL for scope ALL (R265), its scope, another ABORT outstanding there (R266). -/
def abortCheck (t : Nat) (p : List Octet) (s : State) : Nat :=
  if par1 p 0 = 2 ∧ !s.bit (R.tCfg t) 1 then St.locked
  else legalFree (par1 p 0 ≤ 2) (!(s.outstanding t).any (fun x => s.recOpc x == 0x7F))

/-- ABORT ends its targets and replies with their number, after their replies; ABORTLAT keeps the longest time, which the part
measures (an open value). -/
def abortBody (r : Nat) (p : List Octet) (s : State) : State :=
  let l := s.abortTargets r (par1 p 0) (par1 p 1)
  let s1 := forAll l (fun x t => tCount (x / 17) 7 (abortRecord x t)) s
  let lat := max (s1.fld R.cmdpAbortlat 0 16) (Config.freeNat s1.draws % 2 ^ 16)
  (done r [O l.length] s1.drawn).setFld R.cmdpAbortlat 0 16 lat

/-- ABORT: it waits for no other command. -/
def execAbort (t : Transport) (tag : Octet) (s : State) : Host.Outcome State Fault Refusal :=
  match s.recOf (tNum t) tag with
  | some r => act (s.serves && s.recOpc r == 0x7F && s.recState r == 1) (fun s => abortBody r (s.recParams r) s) s
  | none => .next s

end Sys2Proof.Machine
end

