-- ==== Sys2Proof/Machine/CmdRadio.lean ====
section
/-! DEFINITION. The radio commands (R275 to R277). -/
namespace Sys2Proof.Machine

open Sys2Proof

/-! ## Front ends -/

/-- A RADIO_CONFIG still waits to move the span of a band. -/
def State.spanHeld (s : State) (b : Nat) : Bool := (s.band b).span.isSome || (s.running 0x10 (fun p => octAt p 0 == O b)).isSome

/-- RADIO_CONFIG (R275): EN and ANTCFG at once; the centre under R134 in FULL, else at once. -/
def radioConfigBody (r : Nat) (p : List Octet) (s : State) : State :=
  let b := par1 p 0
  let c := par2 p 1
  let s1 := (feEnable b (bitOf (octAt p 3) 0) s).setFld (R.feAntcfg b) 0 2 (bits (octAt p 3) 1 2)
  if s1.mode = 5 ∧ s1.fld (R.feSpan b) 0 10 ≠ c then started r (s1.setBand b { s1.band b with span := some c })
  else done r [] (s1.setFld (R.feSpan b) 0 10 c)

/-- Steps 9 and 10 for RADIO_CONFIG. -/
def checkRadioConfig (p : List Octet) (s : State) : Nat :=
  legalFree (bandOk p 0 && chanIs p 1 && par1 p 3 < 8) (!s.spanHeld (par1 p 0))

/-- RADIO_CONFIG. -/
def execRadioConfig (t : Transport) (tag : Octet) (s : State) : Host.Outcome State Fault Refusal :=
  command 0x10 checkRadioConfig radioConfigBody t tag s

/-- Synthesizer `k` of a band is free for a command: no lane, activation, slice or transmission uses it. -/
def State.synFree (s : State) (b k : Nat) : Bool :=
  (s.synHolders b [k] 1024).isEmpty &&
    (match (s.band b).slice with | some c => !calUses c.item c.x k | none => true) && !s.cmdSlice b [k] &&
    (if k = 2 then (s.band b).chain.isNone && (s.band b).wait.isNone && (s.band b).waiting.isEmpty
     else (List.range 16).all (fun n => s.holder n == 0 || s.laneInput n / 4 != b || !inputPath (s.laneInput n) (k + 1)))

/-- TUNE (R275): the reply follows the lock, or 220 µs without one. -/
def tuneBody (r : Nat) (p : List Octet) (s : State) : State :=
  let b := par1 p 0
  let ks := tuneSyns (par1 p 1)
  let s1 := executing r (forAll ks (fun k t => tuneSyn b k (par2 p 2) t) s)
  s1.setCmdp { s1.cmdp with tuneStart := s.mt.ctr, tuneCold := ks.any (fun k => s1.tuning b k == 2) }

/-- Steps 9 and 10 for TUNE. -/
def checkTune (p : List Octet) (s : State) : Nat :=
  legalFree (bandOk p 0 && par1 p 1 ≤ 3 && chanIs p 2 && s.chanOk s.bank (par1 p 0) (par2 p 2))
    (s.feUp (par1 p 0) && (tuneSyns (par1 p 1)).all (s.synFree (par1 p 0)))

/-- TUNE. -/
def execTune (t : Transport) (tag : Octet) (s : State) : Host.Outcome State Fault Refusal :=
  command 0x11 checkTune tuneBody t tag s

/-! ## Calibration -/

/-- The item of a CALIBRATE command with what it takes: the entry it names, or the one that the rotation would take; the path. -/
def State.cmdItem (s : State) (p : List Octet) : Option (Nat × Nat) :=
  let b := par1 p 0
  let k := par1 p 2
  let e := if par2 p 3 = 0xFFFF then s.calPick b else some (par2 p 3)
  if k = 1 then e.map (fun x => (1, 1024 * s.calSyn b + x))
  else if k = 3 then e.map (fun x => (3, 2048 + x))
  else if k = 2 ∨ k = 5 ∨ k = 6 then some (k, par1 p 5 - 1)
  else if k = 8 then some (8, s.sweepAt b)
  else some (k, 0)

/-- CALIBRATE's parameters are legal; an item that the front end does not define is not (R94). -/
def calLegal (p : List Octet) : Bool :=
  let k := par1 p 2
  bandOk p 0 && par1 p 1 ≤ 1 &&
    (par1 p 1 == 1 ||
      (1 ≤ k && k ≤ 8 && !(k == 7 && par1 p 0 == 1) && (!(k == 1 || k == 3) || par2 p 3 < 1024 || par2 p 3 == 0xFFFF) &&
        (!(k == 2 || k == 5 || k == 6) || par1 p 5 == 1 || par1 p 5 == 2)))

/-- What an item needs is free for a command on each band that it holds, the calibration engine among it; a background slice gives way (log
111). -/
def State.calFree (s : State) (b item x : Nat) : Bool :=
  let rs := calRes item x
  s.feUp b && (calBands b item).all (fun k =>
    (s.synHolders k rs 1024).isEmpty && (s.calLanes k item x).isEmpty && !s.cmdSlice k [0, 1, 2] && !s.fullHolds k &&
      (!rs.contains 2 || ((s.band k).chain.isNone && (s.band k).wait.isNone && (s.band k).waiting.isEmpty)) &&
      !s.gates.acts.any (fun a => 1 ≤ a.phase && a.phase ≤ 3 && s.gateUses k rs a.w) && (s.engineHolders k).isEmpty)

/-- The resources that a CALIBRATE command needs are free: the whole front end for KIND 1, and both for XO. -/
def State.calCmdFree (s : State) (p : List Octet) : Bool :=
  let b := par1 p 0
  (s.running 0x12 (fun q => octAt q 0 == O b)).isNone &&
    (if par1 p 1 = 1 then s.calFree b 8 0 && (b == 1 || s.calFree b 7 0)
     else if par1 p 2 = 4 then s.feUp b
     else
       match s.cmdItem p with
       | some (item, x) => s.calFree b item x
       | none => s.feUp b)

/-- CALIBRATE (R94, R99, R275): with no entry that qualifies nothing runs. -/
def calibrateBody (r : Nat) (p : List Octet) (s : State) : State :=
  let b := par1 p 0
  if par1 p 1 = 1 then fullStart b (started r s)
  else if par1 p 2 = 4 then armPachk b (started r s)
  else
    match s.cmdItem p with
    | none => done r [0, 0] s
    | some (item, x) =>
      let t := started r s
      sliceStart b { item := item, x := x, asked := true, limit := none } (if item = 7 then dropBackground 1 t else t)

/-- Steps 9 and 10 for CALIBRATE. -/
def checkCalibrate (p : List Octet) (s : State) : Nat :=
  legalFree (calLegal p) (s.calCmdFree p)

/-- CALIBRATE. -/
def execCalibrate (t : Transport) (tag : Octet) (s : State) : Host.Outcome State Fault Refusal :=
  command 0x12 checkCalibrate calibrateBody t tag s

/-- Steps 9 and 10 for SET_CAL_POLICY. -/
def checkSetCalPolicy (p : List Octet) (_s : State) : Nat :=
  legalFree (bandOk p 0 && par1 p 1 ≤ 1 && par1 p 2 ≤ 1) true

/-- The policy, its thresholds and the items. -/
def calPolicyBody (r : Nat) (p : List Octet) (s : State) : State :=
  done r []
    ((s.setReg (R.feCalpol (par1 p 0)) (W (par1 p 5 * 2 ^ 16 + par1 p 6 * 2 ^ 8 + par1 p 2 * 2 + par1 p 1))).setFld
      (R.feCalmask (par1 p 0)) 0 16 (par2 p 3))

/-- SET_CAL_POLICY (R275). -/
def execSetCalPolicy (t : Transport) (tag : Octet) (s : State) : Host.Outcome State Fault Refusal :=
  command 0x13 checkSetCalPolicy calPolicyBody t tag s

/-- The transmit settings of a band, its power clipped to the band's limit, which the reply gives. -/
def setTxPowerBody (r : Nat) (p : List Octet) (s : State) : State :=
  let c := min (pwrMax (par1 p 0)) (par1 p 1)
  done r [O c] (s.setReg (R.txcCfg (par1 p 0)) (W (c * 2 ^ 16 + par1 p 2 * 2 ^ 12 + par1 p 3)))

/-- Steps 9 and 10 for SET_TX_POWER. -/
def checkSetTxPower (p : List Octet) (_s : State) : Nat :=
  legalFree (bandOk p 0 && 2 ≤ par1 p 2 && par1 p 2 ≤ 8) true

/-- SET_TX_POWER (R101, R275). -/
def execSetTxPower (t : Transport) (tag : Octet) (s : State) : Host.Outcome State Fault Refusal :=
  command 0x14 checkSetTxPower setTxPowerBody t tag s

/-- Steps 9 and 10 for LOAD_POWER_CURVE. -/
def checkLoadPowerCurve (p : List Octet) (s : State) : Nat :=
  legalFree (par1 p 0 ≤ 3) (!s.bit R.gateStatus 2)

/-- A power curve goes into the inactive bank (R302). -/
def powerCurveBody (r : Nat) (p : List Octet) (s : State) : State :=
  done r [] (engWrites (bankAt (!s.bank) + 0x1000 + 256 * par1 p 0) (parWords p 1 256) s)

/-- LOAD_POWER_CURVE (R102, R275). -/
def execLoadPowerCurve (t : Transport) (tag : Octet) (s : State) : Host.Outcome State Fault Refusal :=
  command 0x15 checkLoadPowerCurve powerCurveBody t tag s

/-! ## Lanes -/

/-- An INPUT code that may be bound (R123). -/
def inputLegal (c : Nat) : Bool := c < 8 && c % 4 != 3

/-- A CALIBRATE command runs a full calibration of the band: it holds the whole front end. -/
def State.fullByCmd (s : State) (b : Nat) : Bool := (s.running 0x12 (fun q => octAt q 0 == O b && octAt q 1 == 1)).isSome

/-- Something that may not give way holds the lane or one of the paths that LANE_ASSIGN needs (R131, R262). -/
def State.assignBusy (s : State) (n i c : Nat) : Bool :=
  let b := i / 4
  let ks := s.inPaths i
  !s.laneFree n || (s.lane n).susp.isSome || !(s.clashLanes n i c).isEmpty || !s.radioOn b ||
    (s.mode != 5 && !(s.synHolders b ks c).isEmpty) || s.cmdSlice b ks || s.fullByCmd b

/-- LANE_ASSIGN (R130, R131): a background slice on the lane's paths gives way (R98). -/
def laneAssignBody (r : Nat) (p : List Octet) (s : State) : State :=
  let n := par1 p 0
  let i := par1 p 1
  let c := par2 p 2
  done r [] (bindLane n 2 i c (par1 p 4) 3 0 (tunePaths i c (preemptUses (i / 4) (s.inPaths i) s)))

/-- Steps 9 and 10 for LANE_ASSIGN. -/
def checkLaneAssign (p : List Octet) (s : State) : Nat :=
  let i := par1 p 1
  let c := par2 p 2
  legalFree (par1 p 0 ≤ 15 && inputLegal i && chanIs p 2 && s.chanOk s.bank (i / 4) c &&
      !(s.mode == 5 && !s.inSpan s.bank (i / 4) c (par1 p 4)))
    (!s.assignBusy (par1 p 0) i c)

/-- LANE_ASSIGN. -/
def execLaneAssign (t : Transport) (tag : Octet) (s : State) : Host.Outcome State Fault Refusal :=
  command 0x16 checkLaneAssign laneAssignBody t tag s

/-- LANE_RELEASE (R132): a suspended assignment ends at once; a lane inside a frame finishes it first. -/
def laneReleaseBody (r : Nat) (p : List Octet) (s : State) : State :=
  let n := par1 p 0
  if (s.lane n).susp.isSome then
    let s1 := s.setLane n { s.lane n with susp := none }
    done r [] (s1.setBit (R.laneBind n) 10 false)
  else if (s.lane n).frame.isSome then freeLane n (started r s)
  else done r [] (freeLane n s)

/-- Steps 9 and 10 for LANE_RELEASE. -/
def checkLaneRelease (p : List Octet) (s : State) : Nat :=
  legalFree (par1 p 0 ≤ 15 && (s.holder (par1 p 0) == 2 || (s.lane (par1 p 0)).susp.isSome))
    (s.running 0x17 (fun q => octAt q 0 == octAt p 0)).isNone

/-- LANE_RELEASE. -/
def execLaneRelease (t : Transport) (tag : Octet) (s : State) : Host.Outcome State Fault Refusal :=
  command 0x17 checkLaneRelease laneReleaseBody t tag s

/-- MEASURE_CHANNEL (R130, R275): the lowest free lane of the pool measures, unless a class-0 activation will claim it within DUR (R69). -/
def measureBody (r : Nat) (p : List Octet) (s : State) : State :=
  let b := par1 p 0
  let c := par2 p 1
  let bound := match s.cmdLane with
    | some n =>
      if s.yieldLane n (s.now + 1000 * par2 p 4) then none
      else (claimRx s.bank b n (4 * b) c (par1 p 3) s.reqClaim 3 none s).map (fun t => (n, t))
    | none => none
  if s.mode = 5 ∧ !s.inSpan s.bank b c (par1 p 3) then finalReply r St.busy [] s
  else
    match bound with
    | none => finalReply r St.busy [] s
    | some (n, s1) => started r (s1.setLane n { s1.lane n with measure := some (r / 17, O (s.recTag r)) })

/-- Steps 9 and 10 for MEASURE_CHANNEL. -/
def checkMeasureChannel (p : List Octet) (s : State) : Nat :=
  legalFree (bandOk p 0 && chanIs p 1 && s.chanOk s.bank (par1 p 0) (par2 p 1) && 128 ≤ par2 p 4)
    (s.feUp (par1 p 0) && !s.cmdSlice (par1 p 0) (s.inPaths (4 * par1 p 0)))

/-- MEASURE_CHANNEL. -/
def execMeasureChannel (t : Transport) (tag : Octet) (s : State) : Host.Outcome State Fault Refusal :=
  command 0x19 checkMeasureChannel measureBody t tag s

/-- MEASURE_DONE: DUR has passed; the lane gives its mean and peak level and the share of windows above the threshold. -/
def execMeasureDone (t : Transport) (tag mean peak share : Octet) (s : State) : Host.Outcome State Fault Refusal :=
  match (List.range 16).find? (fun n => (s.lane n).measure == some (tNum t, tag)) with
  | some n => act s.linkRuns (fun s => finishTag (tNum t) tag St.done [mean, peak, share] (freeLane n s)) s
  | none => .next s

/-! ## Stand-alone transmissions -/

/-- A command's transmission is on the band's chain or waits for it. -/
def State.chainByCmd (s : State) (b : Nat) : Bool :=
  let mine := fun (r : TxReq) => match r.src with | .command t _ => t < 6 | _ => false
  (match (s.band b).chain with | some r => mine r | none => false) || (s.band b).waiting.any mine ||
    (match (s.band b).wait with | some w => mine w.tx | none => false)

/-- The class of a TX_FRAME. -/
def txClass (p : List Octet) : Nat := if bitOf (octAt p 5) 3 then bits (octAt p 5) 4 2 else 3

/-- TX_FRAME's parameters are legal (R170, R202, R276). -/
def txLegal (p : List Octet) (s : State) : Bool :=
  let f := octAt p 5
  let d := par1 p 6
  bandOk p 0 && (par1 p 1 == 1 || par1 p 1 == 2) && chanIs p 3 && s.chanOk s.bank (par1 p 0) (par2 p 3) && !bitOf f 7 && d < 64 &&
    (bitOf f 2 || nbrIs p 7) && modeOk (par1 p 0) (s.profMode s.bank (par1 p 2) 0) && s.descTx s.bank d &&
    (!bitOf (s.descWord s.bank d 0) 19 || 6 ≤ (p.drop 21).length)

/-- TX_FRAME (R276): the record and payload go into buffers of the frame's class, and the request joins those that wait for the
chain. -/
def txFrameBody (r : Nat) (p : List Octet) (s : State) : State :=
  let b := par1 p 0
  let f := octAt p 5
  let c := txClass p
  let bcast := bitOf f 2
  let w0 := W (par1 p 6 * 2 ^ 18 + (if bitOf f 1 then 2 ^ 17 else 0) + (if bitOf f 6 then 2 ^ 16 else 0) +
    (if bcast then 2 ^ 15 else par2 p 7))
  match storeFrame c [w0, 0, 0, 0, 0, 0, 0, 0] (p.drop 21) s with
  | (none, t) => finalReply r St.busy [] t
  | (some d, t) =>
    let inst := if par9 p 9 = 0 then t.now else par9 p 9 / 256
    let from_ := if par9 p 9 = 0 then tabLook t.now t.cmdp.accepted r else inst
    let latest := if par2 p 18 = 0 then 0 else from_ + 100000 * par2 p 18
    let q := newReq (.command (r / 17) (O (s.recTag r))) c (par2 p 3) (par1 p 2) b (par1 p 1) 3 inst latest (bitOf f 0) none (some d) [] t
    reqWait b q (engWrite (recAddr r + 3) (W (bits d 0 12)) (started r t))

/-- Steps 9 and 10 for TX_FRAME. -/
def checkTxFrame (p : List Octet) (s : State) : Nat :=
  legalFree (txLegal p s) (!s.chainByCmd (par1 p 0) && !s.cmdSlice (par1 p 0) [2])

/-- TX_FRAME. -/
def execTxFrame (t : Transport) (tag : Octet) (s : State) : Host.Outcome State Fault Refusal :=
  command 0x18 checkTxFrame txFrameBody t tag s

/-- SOUND's parameters are legal (R277); a band without an antenna has no port for it (R81). -/
def soundLegal (p : List Octet) (s : State) : Bool :=
  nbrIs p 0 && s.nbrUsable (par2 p 0) && bandOk p 2 && (par1 p 3 == 1 || par1 p 3 == 2) &&
    isTl (s.profMode s.bank (par1 p 4) 0) && modeOk (par1 p 2) (s.profMode s.bank (par1 p 4) 0) && par1 p 5 ≤ 1 &&
    (s.txPort (par1 p 2) (par1 p 3)).isSome

/-- One sounding frame: its transmit record goes into a buffer, which PROGRESS names (R299). -/
def soundOnce (r : Nat) (p : List Octet) (s : State) : State :=
  let n := par2 p 0
  match storeFrame 3 [W (Config.soundDesc * 2 ^ 18 + n), 0, 0, 0, 0, 0, 0, 0] [] s with
  | (none, t) => finalReply r St.busy [] t
  | (some d, t) =>
    soundReq (.command (r / 17) (O (s.recTag r))) n (par1 p 2) (par1 p 3) (par1 p 4) (some d)
      (engWrite (recAddr r + 3) (W (bits d 0 12)) (started r t))

/-- SOUND (R277): one frame, or the neighbour's policy, which its entry's w11 keeps in an encoding that the spec does not give (log 129). -/
def soundBody (r : Nat) (p : List Octet) (s : State) : State :=
  let n := par2 p 0
  let b := par1 p 2
  let period := par2 p 6
  if par1 p 5 = 0 then soundOnce r p s
  else
    let rest := s.link.sounding.filter (fun e => e.1 != n)
    let code := period + 2 ^ 16 * b + 2 ^ 17 * (par1 p 3 - 1) + 2 ^ 18 * par1 p 4
    let w := if period = 0 then 0 else Config.soundWord code
    let s1 := s.setLink { s.link with sounding := if period = 0 then rest else rest ++ [(n, w, code)] }
    done r [] (setNbr n 11 w s1)

/-- Steps 9 and 10 for SOUND. -/
def checkSound (p : List Octet) (s : State) : Nat :=
  legalFree (soundLegal p s) (par1 p 5 != 0 || (!s.chainByCmd (par1 p 2) && !s.cmdSlice (par1 p 2) [2]))

/-- SOUND. -/
def execSound (t : Transport) (tag : Octet) (s : State) : Host.Outcome State Fault Refusal :=
  command 0x1A checkSound soundBody t tag s

end Sys2Proof.Machine
end

