-- ==== Sys2Proof/Machine/Lsup.lean ====
section
/-! DEFINITION. The link cores: heartbeats and the supervisor (R291, R292), takeover and swap (R293 to R299, R301), the standby's
load (R300), and the request of a bank swap (R303). -/
namespace Sys2Proof.Machine

open Sys2Proof

/-- The version of the image that link core `b` runs, and it replaced. -/
def State.linkVer (s : State) (b : Bool) : Word := if b then s.lsup.verB else s.lsup.verA
def setLinkVer (b : Bool) (v : Word) (s : State) : State :=
  s.setLsup (if b then { s.lsup with verB := v } else { s.lsup with verA := v })

/-- The supervisor's timer of link core `b` runs. -/
def State.timerOn (s : State) (b : Bool) : Bool := if b then s.lsup.timerB else s.lsup.timerA

/-- STATUS.STBY. -/
def State.stby (s : State) : Nat := s.fld R.lsupStatus 4 2

/-- The standby is held in reset by the mode, LISTEN (R292, R424). -/
def State.stbyHeld (s : State) : Bool := s.stby == 3

/-! ## Heartbeats (R291) -/

/-- Link core `b` writes its heartbeat: its timer restarts. -/
def heartbeat (b : Bool) (v : Word) (s : State) : State := setTimer b true (s.setReg (R.lsupHb (if b then 1 else 0)) v)

/-- Link firmware writes its heartbeat as it takes or hands over the token (R293, R301): what it writes is open. -/
def beat (b : Bool) (s : State) : State := heartbeat b (Config.freeWord s.draws) s.drawn

/-- HEARTBEAT: a core that is held in reset, loads, or is halted by the debugger writes none. -/
def execHeartbeat (c : Bool) (v : Word) (s : State) : Host.Outcome State Fault Refusal :=
  act (s.linkRuns && s.mayWrite (linkCore c) (R.lsupHb (if c then 1 else 0)) && !s.bit R.dbgStat (if c then 5 else 4) &&
      (c == s.ownerB || s.stby == 2)) (heartbeat c v) s

/-! ## The standby's load (R300) -/

/-- STBYCMD.LOAD: the standby is held in reset and loads an image; in LISTEN it stays held. -/
def standbyLoad (src : Nat) (rcd : Option Nat) (s : State) : State :=
  let s1 := (if s.stbyHeld then s else s.setFld R.lsupStatus 4 2 1).setBit R.lsupStbyrpt 23 false
  let s2 := setTimer (!s.ownerB) false (s1.setBit R.dbgStat (if s.ownerB then 4 else 5) false)
  s2.setLsup { s2.lsup with load := some (src, rcd) }

/-- STBYCMD written: LOAD acts from the owner alone. -/
def stbycmdWrite (w : Who) (v : Word) (s : State) : State :=
  let s1 := plainWrite R.lsupStbycmd v s
  if bitOf v 2 && w == linkCore s.ownerB then standbyLoad (bits v 1 1) none s1 else s1

/-- STANDBY_LOAD. -/
def execStandbyLoad (w : Who) (v : Word) (s : State) : Host.Outcome State Fault Refusal :=
  act (s.mayWrite w R.lsupStbycmd) (stbycmdWrite w (setBits v 2 1 1)) s

/-- The image that a load takes from flash: the installed one, or the staged one; while a LINKFW copy runs every restart takes the staged
one (R386), but one after a failed check. 4 stands for the image the core ran, whatever copy runs. -/
def State.loadBase (s : State) (src : Nat) : Option Nat :=
  if src = 4 then none
  else if src = 1 ∨ s.linkCopy then some stageBase
  else if src = 0 then some (slotBase 2)
  else none

/-- The command that waits for a load ends. -/
def loadEnds (rcd : Option Nat) (st : Nat) (res : List Octet) (s : State) : State :=
  match rcd with
  | some r => finalReply r st res s
  | none => s

/-- The boot ROM reports LOADED and the takeover loop sets READY. -/
def standbyUp (v : Word) (rcd : Option Nat) (s : State) : State :=
  let s1 := setLinkVer (!s.ownerB) v (((s.setReg R.lsupStbyrpt 0x900000).setReg R.lsupStbyver v).setFld R.lsupStatus 4 2 2)
  loadEnds rcd St.done (word3 v) (s1.setLsup { s1.lsup with load := none })

/-- The check fails, or there is no image: the standby restarts from the image it ran. -/
def standbyBad (result : Nat) (rcd : Option Nat) (s : State) : State :=
  let s1 := s.setFld R.lsupStbyrpt 20 3 result
  loadEnds rcd St.signature [] (s1.setLsup { s1.lsup with load := some (4, none) })

/-- The standby's boot ends: the image is read from flash (R361) and checked, or the one that a core runs is taken. -/
def standbyReady (src : Nat) (rcd : Option Nat) (s : State) : State :=
  match s.loadBase src with
  | some base =>
    let (bad, t) := imageSee base s
    if !s.imageHere base then standbyBad 3 rcd t
    else if bad || !s.imageOk base then standbyBad 2 rcd t
    else standbyUp (s.imageVersion base) rcd t
  | none => standbyUp (s.linkVer (if src = 3 then s.ownerB else !s.ownerB)) rcd s

/-- The load's reads of flash wait for the controller (R368). -/
def State.loadWaits (s : State) (src : Nat) : Bool := match s.loadBase src with | some base => s.flashWaits base | none => false

/-- STANDBY_READY. -/
def execStandbyReady (s : State) : Host.Outcome State Fault Refusal :=
  match s.lsup.load with
  | some (src, rcd) => act (s.linkRuns && 4 ≤ s.domainMode && !s.stbyHeld && !s.loadWaits src) (standbyReady src rcd) s
  | none => .next s

/-! ## Takeover and swap -/

/-- The token moves to the standby; the old owner restarts, from the image that the new owner runs (R292, R301). LSUP_TAKEOVER
fires. -/
def moveToken (cause : Nat) (s : State) : State :=
  let old := s.ownerB
  let s1 := ((s.setBit R.lsupStatus 0 (!old)).setFld R.lsupStatus 4 2 0).setBit R.lsupStbyrpt 23 false
  let s2 := setTimer old false (s1.setBit R.dbgStat (if old then 5 else 4) false)
  fire 0x7E (s2.setLsup { s2.lsup with load := some (3, none), move := some cause })

/-- A timer reaches TIMEOUT (R292). -/
def supervisorTimeout (b : Bool) (s : State) : State :=
  if b = s.ownerB then
    if s.stby = 2 then moveToken 2 (s.setBit R.lsupStatus 1 true) else linkReset 0xA s
  else standbyLoad 2 none (s.count (R.lsupCounters 3))

/-- SUPERVISOR_TIMEOUT: with SUPEN at 0 nothing happens, and the timer of a standby held in reset is stopped. An owner that fails before it
has resumed service finds no standby (R294). -/
def execSupervisorTimeout (c : Bool) (s : State) : Host.Outcome State Fault Refusal :=
  act (s.linkRuns && s.bit R.lsupCtrl 0 && s.timerOn c && (c == s.ownerB || !s.stbyHeld)) (supervisorTimeout c) s

/-- STBYRPT written: a standby that writes READY is in its takeover loop (R300). -/
def stbyrptWrite (w : Who) (v : Word) (s : State) : State :=
  let s1 := plainWrite R.lsupStbyrpt v s
  when (w == linkCore (!s.ownerB) && bitOf v 23 && s.stby ≤ 1) (·.setFld R.lsupStatus 4 2 2) s1

/-- LSUP.CTRL written: SUPEN stored; CLRCNT; SWAPGO, from the owner, moves the token to a READY standby (R301). -/
def lsupCtrlWrite (w : Who) (v : Word) (s : State) : State :=
  let s1 := plainWrite R.lsupCtrl v s
  let s2 := if bitOf v 2 then (forAll [0, 1, 2, 3] (fun m t => t.setReg (R.lsupCounters m) 0) s1).setReg R.lsupMaxdur 0 else s1
  if bitOf v 1 && w == linkCore s.ownerB && s2.stby == 2 && s2.lsup.move.isNone then moveToken 1 s2 else s2

/-- SWAPGO. -/
def execSwapgo (w : Who) (v : Word) (s : State) : Host.Outcome State Fault Refusal :=
  act (s.mayWrite w R.lsupCtrl) (lsupCtrlWrite w (setBits v 1 1 1)) s

/-! ## The walk of the journal (R298) -/

/-- The records in the order of acceptance, first accepted first. -/
def State.recOrder (s : State) (l : List Nat) : List Nat :=
  l.foldl (fun acc r => acc.takeWhile (fun x => s.recAge r ≤ s.recAge x) ++ [r] ++ acc.dropWhile (fun x => s.recAge r ≤ s.recAge x)) []

/-! ## Table banks (R303) -/

/-- A bank swap is requested for the next boundary of a course that runs; nothing while one is pending. Activations whose pre-tune has
passed and whose instant lies at or after the boundary are pre-tuned again, for the bank that their instants find in force (R78). -/
def swapRequest (n : Nat) (s : State) : State :=
  if s.bit R.gateStatus 2 || !s.courseRun n then s
  else
    let t := s.nextBoundary n
    let s1 := (s.setBit R.gateStatus 2 true).setGates { s.gates with swap := some t }
    forAll (s1.gates.acts.filter (fun a => 1 ≤ a.phase && a.phase ≤ 2 && nsLe t a.inst)) rebank s1

/-- BANKSWAP written: COURSE stored; CANCEL; GO. -/
def bankswapWrite (v : Word) (s : State) : State :=
  let s1 := plainWrite R.lsupBankswap v s
  let s2 := if bitOf v 5 then
      (match s1.gates.swap with
       | some b => if nsLt s1.now b then swapCancel s1 else s1
       | none => s1)
    else s1
  if bitOf v 4 then swapRequest (bits v 0 4) s2 else s2

/-- BANKSWAP_GO. -/
def execBankswapGo (w : Who) (v : Word) (s : State) : Host.Outcome State Fault Refusal :=
  act (s.mayWrite w R.lsupBankswap) (bankswapWrite (setBits v 4 1 1)) s

/-- BANKSWAP_CANCEL. -/
def execBankswapCancel (w : Who) (v : Word) (s : State) : Host.Outcome State Fault Refusal :=
  act (s.mayWrite w R.lsupBankswap) (bankswapWrite (setBits v 5 1 1)) s

end Sys2Proof.Machine
end

