-- ==== Sys2Proof/Machine/CmdStage.lean ====
section
/-! DEFINITION. The start house, link firmware and table-bank commands (R286, R377 to R380, R300 to R303), and the test commands that
read no register (R287). -/
namespace Sys2Proof.Machine

open Sys2Proof

/-! ## Staging (R378 to R381) -/

/-- The start house is free for a command: no staging command is under way and no copy holds it. -/
def State.stageFree (s : State) : Bool := s.stage.job.isNone && s.stage.st != 3

/-- STAGE_BEGIN (R378): the header's checks, then the erase of the sectors and the header's lines. -/
def stageBeginBody (r : Nat) (p : List Octet) (s : State) : State :=
  let h := parWords p 0 32
  match s.headerCheck h with
  | some st => stageReply r st [] s
  | none =>
    let n := (imageWords (h.getD 5 0).toNat + 0xFFF) / 0x1000
    let s1 := started r s
    stageGo 64 ((stageTo 0 s1).setStage { (stageTo 0 s1).stage with
      lines := [], job := some { kind := 0, rcd := r, next := 0, count := n, base := stageBase, data := h } })

/-- Steps 9 and 10 for STAGE_BEGIN. -/
def checkStageBegin (_p : List Octet) (s : State) : Nat :=
  legalFree true (s.stageFree && s.stage.st != 2)

/-- STAGE_BEGIN. -/
def execStageBegin (t : Transport) (tag : Octet) (s : State) : Host.Outcome State Fault Refusal :=
  command 0x60 checkStageBegin stageBeginBody t tag s

/-- Lines of a STAGE_WRITE. -/
def writeLines (p : List Octet) : Nat := (p.length - 3) / 24

/-- STAGE_WRITE (R379). -/
def stageWriteBody (r : Nat) (p : List Octet) (s : State) : State :=
  let o := par3 p 0
  let n := writeLines p
  let s1 := started r s
  stageGo 64 (s1.setStage { s1.stage with
    job := some { kind := 1, rcd := r, next := 0, count := n, base := stageBase + 32 + o, data := parWords p 3 (8 * n) } })

/-- Steps 9 and 10 for STAGE_WRITE: a stage is open, and the lines lie within body and trailer (R286). -/
def checkStageWrite (p : List Octet) (s : State) : Nat :=
  legalFree (par3 p 0 % 8 == 0 && s.stage.st == 1 && par3 p 0 / 8 + writeLines p ≤ bodyLines (s.imageLen stageBase)) s.stageFree

/-- STAGE_WRITE. -/
def execStageWrite (t : Transport) (tag : Octet) (s : State) : Host.Outcome State Fault Refusal :=
  command 0x61 checkStageWrite stageWriteBody t tag s

/-- STAGE_COMMIT (R380). -/
def stageCommitBody (r : Nat) (_p : List Octet) (s : State) : State :=
  if !s.imageOk stageBase then stageReply r St.signature [] s
  else
    stageReply r St.done [] (stageTo 2 (s.setStage { s.stage with digest := sha256 (wordsToOctets (s.mws stageBase 32)) }))

/-- Steps 9 and 10 for STAGE_COMMIT: every line of an open stage is written (R380). -/
def checkStageCommit (_p : List Octet) (s : State) : Nat :=
  legalFree (s.stage.st == 1 && bodyLines (s.imageLen stageBase) ≤ s.stage.lines.length) s.stageFree

/-- STAGE_COMMIT. -/
def execStageCommit (t : Transport) (tag : Octet) (s : State) : Host.Outcome State Fault Refusal :=
  command 0x62 checkStageCommit stageCommitBody t tag s

/-- STAGE_STATUS: nothing of an image while the start house is IDLE. -/
def stageStatusBody (r : Nat) (_p : List Octet) (s : State) : State :=
  let g := s.stage
  let body := if g.st = 0 then List.replicate 10 0
    else [O (s.imageType stageBase)] ++ word3 (s.mw (stageBase + 6)) ++ word3 (W (8 * g.lines.length)) ++
      word3 (s.mw (stageBase + 5))
  done r ([O g.st] ++ body ++ natLe 2 s.otp.rollback.toNat ++ [g.status]) s

/-- STAGE_STATUS. -/
def execStageStatus (t : Transport) (tag : Octet) (s : State) : Host.Outcome State Fault Refusal :=
  command 0x63 anyParams stageStatusBody t tag s

/-! ## Link firmware (R300, R301) -/

/-- The image that LINKFW_LOAD names exists, and its descriptor word lists the owner's JVER. -/
def State.linkImage (s : State) (src : Nat) : Bool :=
  let base := if src = 1 then stageBase else slotBase 2
  let d := s.mw (base + 32)
  let j := bits (s.mw 0x870000) 0 8
  (src == 0 || s.stage.st == 2) && s.imageHere base && s.imageType base == 2 && bits d 0 8 ≤ j && j ≤ bits d 8 8

/-- LINKFW_LOAD. -/
def linkfwLoadBody (r : Nat) (p : List Octet) (s : State) : State :=
  standbyLoad (par1 p 0) (some r) ((started r s).setFld R.lsupStbycmd 1 1 (par1 p 0))

/-- Steps 9 and 10 for LINKFW_LOAD. -/
def checkLinkfwLoad (p : List Octet) (s : State) : Nat :=
  legalFree (par1 p 0 ≤ 1 && s.linkImage (par1 p 0)) (match s.lsup.load with | some (_, some _) => false | _ => true)

/-- LINKFW_LOAD. -/
def execLinkfwLoad (t : Transport) (tag : Octet) (s : State) : Host.Outcome State Fault Refusal :=
  command 0x64 checkLinkfwLoad linkfwLoadBody t tag s

/-- Steps 9 and 10 for LINKFW_SWAP. -/
def checkLinkfwSwap (_p : List Octet) (s : State) : Nat :=
  legalFree true (s.stby == 2)

/-- The owner writes its heartbeat, and SWAPGO moves the token (R301). -/
def linkfwSwapBody (r : Nat) (_p : List Octet) (s : State) : State := moveToken 1 (beat s.ownerB (executing r s))

/-- LINKFW_SWAP: its final reply is the new owner's. -/
def execLinkfwSwap (t : Transport) (tag : Octet) (s : State) : Host.Outcome State Fault Refusal :=
  command 0x65 checkLinkfwSwap linkfwSwapBody t tag s

/-- TABLE_BANK_SWAP. -/
def tableSwapBody (r : Nat) (p : List Octet) (s : State) : State :=
  let n := par1 p 0
  swapRequest n ((started r s).setFld R.lsupBankswap 0 4 n)

/-- Steps 9 and 10 for TABLE_BANK_SWAP. -/
def checkTableBankSwap (p : List Octet) (s : State) : Nat :=
  legalFree (par1 p 0 < 16 && s.courseRun (par1 p 0)) (!s.bit R.gateStatus 2)

/-- TABLE_BANK_SWAP. -/
def execTableBankSwap (t : Transport) (tag : Octet) (s : State) : Host.Outcome State Fault Refusal :=
  command 0x66 checkTableBankSwap tableSwapBody t tag s

/-! ## Test and diagnostics (R287) -/

/-- The blocks that SELFTEST's MASK names are free: no other test has one, and a loopback test holds its whole front end. -/
def State.testFree (s : State) (m : Nat) : Bool :=
  s.cmdp.tests.all (fun e => e.mask &&& m == 0) && [0, 1].all (fun b => !(m / 2 ^ (4 + b) % 2 == 1) || s.calFree b 8 0)

/-- SELFTEST starts: it holds its blocks for a time that the spec bounds by 50,000 µs (an open value). -/
def selftestBody (r : Nat) (p : List Octet) (s : State) : State :=
  let us := Config.freeNat s.draws % 50000
  let s1 := (started r s).drawn
  s1.setCmdp { s1.cmdp with tests := s1.cmdp.tests ++ [{ rcd := r, mask := par2 p 0, until_ := s.mt.ctr + BitVec.ofNat 72 (256000 * us) }] }

/-- Steps 9 and 10 for SELFTEST. -/
def checkSelftest (p : List Octet) (s : State) : Nat :=
  legalFree (par2 p 0 < 64) (s.testFree (par2 p 0))

/-- SELFTEST. -/
def execSelftest (t : Transport) (tag : Octet) (s : State) : Host.Outcome State Fault Refusal :=
  command 0x70 checkSelftest selftestBody t tag s

/-- The counters of a block of CLEAR_COUNTERS, by the bit of MASK. -/
def blockCounters (i : Nat) : List Nat :=
  match i with
  | 0 => (List.range 15).map R.gateCounters
  | 1 => (List.range 6).map (R.feCounters 0)
  | 2 => (List.range 6).map (R.feCounters 1)
  | 3 => [0, 1].flatMap (fun b => (List.range 7).map (R.txcCounters b))
  | 4 => (List.range 2).map R.laneGcounters ++ (List.range 16).flatMap (fun n => (List.range 5).map (R.laneCounters n)) ++
      (List.range 4).flatMap (fun p => (List.range 4).map (R.pathCounters p))
  | 5 => (List.range 17).map R.linkCounters
  | 6 => (List.range 11).map R.nbrCounters
  | 7 => (List.range 13).map R.fwdCounters
  | 8 => (List.range 4).map R.qmCounters ++ (List.range 128).map R.qHiwat
  | 9 => (List.range 10).map R.rwinCounters
  | 10 => R.cmdpAbortlat :: (List.range 6).flatMap (fun t => (List.range 8).map (R.tCounters t))
  | _ => []

/-- A block's CLRCNT; the registers of an unpowered domain are left. -/
def clearBlock (i : Nat) (s : State) : State :=
  forAll (blockCounters i) (fun a t => if t.regPowered a then t.setReg a 0 else t) s

/-- Steps 9 and 10 for CLEAR_COUNTERS. -/
def checkClearCounters (p : List Octet) (_s : State) : Nat :=
  legalFree (par2 p 0 < 2048) true

/-- The counters of the blocks of MASK are cleared. -/
def clearCountersBody (r : Nat) (p : List Octet) (s : State) : State :=
  done r [] (forAll ((List.range 11).filter (fun i => bitOf (W (par2 p 0)) i)) clearBlock s)

/-- CLEAR_COUNTERS. -/
def execClearCounters (t : Transport) (tag : Octet) (s : State) : Host.Outcome State Fault Refusal :=
  command 0x72 checkClearCounters clearCountersBody t tag s

/-- The parameter octets come back. -/
def echoBody (r : Nat) (p : List Octet) (s : State) : State := done r p s

/-- ECHO. -/
def execEcho (t : Transport) (tag : Octet) (s : State) : Host.Outcome State Fault Refusal :=
  command 0x73 anyParams echoBody t tag s

end Sys2Proof.Machine
end

