-- ==== Sys2Proof/Machine/CoreAlu.lean ====
section
/-! DEFINITION. The register and immediate ALU of the application cores (R309, R310), and the hint space (R320). -/
namespace Sys2Proof.Machine

open Sys2Proof

/-- A register ALU instruction (major 0x00): gd := f ga gb. -/
def aluR (k : Fin 4) (d a b : BitVec 4) (func : Nat) (legal : Bool) (f : Word → Word → Word) (s : State) :
    Host.Outcome State Fault Refusal :=
  coreInstr k (fmtA 0 d a b func) legal false
    (fun s => putReg k d (f ((s.core k).reg a.toNat) ((s.core k).reg b.toNat)) s) s

/-- An immediate ALU instruction: gd := f ga. -/
def aluI (k : Fin 4) (major : Nat) (d a : BitVec 4) (imm : BitVec 10) (legal : Bool) (f : Word → Word) (s : State) :
    Host.Outcome State Fault Refusal :=
  coreInstr k (fmtI major d a imm) legal false (fun s => putReg k d (f ((s.core k).reg a.toNat)) s) s

/-- A high-immediate instruction (format U): gd := f gd. -/
def aluU (k : Fin 4) (major : Nat) (d : BitVec 4) (imm : BitVec 14) (f : Word → Word) (s : State) :
    Host.Outcome State Fault Refusal :=
  coreInstr k (fmtU major d imm) true false (fun s => putReg k d (f ((s.core k).reg d.toNat)) s) s

/-- ADD (R309). -/
def execAdd (k : Fin 4) (d a b : BitVec 4) (s : State) : Host.Outcome State Fault Refusal :=
  aluR k d a b 0x01 true (fun x y => x + y) s

/-- SUB (R309). -/
def execSub (k : Fin 4) (d a b : BitVec 4) (s : State) : Host.Outcome State Fault Refusal :=
  aluR k d a b 0x02 true (fun x y => x - y) s

/-- AND (R309). -/
def execAndR (k : Fin 4) (d a b : BitVec 4) (s : State) : Host.Outcome State Fault Refusal :=
  aluR k d a b 0x03 true (fun x y => x &&& y) s

/-- OR (R309). -/
def execOrR (k : Fin 4) (d a b : BitVec 4) (s : State) : Host.Outcome State Fault Refusal :=
  aluR k d a b 0x04 true (fun x y => x ||| y) s

/-- XOR (R309). -/
def execXorR (k : Fin 4) (d a b : BitVec 4) (s : State) : Host.Outcome State Fault Refusal :=
  aluR k d a b 0x05 true (fun x y => x ^^^ y) s

/-- NOR (R309). -/
def execNor (k : Fin 4) (d a b : BitVec 4) (s : State) : Host.Outcome State Fault Refusal :=
  aluR k d a b 0x06 true (fun x y => ~~~(x ||| y)) s

/-- LTS (R309). -/
def execLts (k : Fin 4) (d a b : BitVec 4) (s : State) : Host.Outcome State Fault Refusal :=
  aluR k d a b 0x07 true (fun x y => ofBool (x.slt y)) s

/-- LTU (R309). -/
def execLtu (k : Fin 4) (d a b : BitVec 4) (s : State) : Host.Outcome State Fault Refusal :=
  aluR k d a b 0x08 true (fun x y => ofBool (x.ult y)) s

/-- SHL (R309). -/
def execShl (k : Fin 4) (d a b : BitVec 4) (s : State) : Host.Outcome State Fault Refusal :=
  aluR k d a b 0x09 true (fun x y => shl24 x (bits y 0 5)) s

/-- SHR (R309). -/
def execShr (k : Fin 4) (d a b : BitVec 4) (s : State) : Host.Outcome State Fault Refusal :=
  aluR k d a b 0x0A true (fun x y => shr24 x (bits y 0 5)) s

/-- SAR (R309). -/
def execSar (k : Fin 4) (d a b : BitVec 4) (s : State) : Host.Outcome State Fault Refusal :=
  aluR k d a b 0x0B true (fun x y => sar24 x (bits y 0 5)) s

/-- ROR (R309). -/
def execRor (k : Fin 4) (d a b : BitVec 4) (s : State) : Host.Outcome State Fault Refusal :=
  aluR k d a b 0x0C true (fun x y => ror24 x (bits y 0 5)) s

/-- MIN (R309). -/
def execMinS (k : Fin 4) (d a b : BitVec 4) (s : State) : Host.Outcome State Fault Refusal :=
  aluR k d a b 0x0D true (fun x y => if x.slt y then x else y) s

/-- MAX (R309). -/
def execMaxS (k : Fin 4) (d a b : BitVec 4) (s : State) : Host.Outcome State Fault Refusal :=
  aluR k d a b 0x0E true (fun x y => if x.slt y then y else x) s

/-- MINU (R309). -/
def execMinu (k : Fin 4) (d a b : BitVec 4) (s : State) : Host.Outcome State Fault Refusal :=
  aluR k d a b 0x0F true (fun x y => if x.ult y then x else y) s

/-- MAXU (R309). -/
def execMaxu (k : Fin 4) (d a b : BitVec 4) (s : State) : Host.Outcome State Fault Refusal :=
  aluR k d a b 0x10 true (fun x y => if x.ult y then y else x) s

/-- ADDS (R309). -/
def execAdds (k : Fin 4) (d a b : BitVec 4) (s : State) : Host.Outcome State Fault Refusal :=
  aluR k d a b 0x11 true (fun x y => satWord (x.toInt + y.toInt)) s

/-- SUBS (R309). -/
def execSubs (k : Fin 4) (d a b : BitVec 4) (s : State) : Host.Outcome State Fault Refusal :=
  aluR k d a b 0x12 true (fun x y => satWord (x.toInt - y.toInt)) s

/-- ABS (R309). -/
def execAbs (k : Fin 4) (d a b : BitVec 4) (s : State) : Host.Outcome State Fault Refusal :=
  aluR k d a b 0x13 (b == 0) (fun x _ => satWord x.toInt.natAbs) s

/-- CLZ (R309). -/
def execClz (k : Fin 4) (d a b : BitVec 4) (s : State) : Host.Outcome State Fault Refusal :=
  aluR k d a b 0x14 (b == 0) (fun x _ => W (clz24 x)) s

/-- POPC (R309). -/
def execPopc (k : Fin 4) (d a b : BitVec 4) (s : State) : Host.Outcome State Fault Refusal :=
  aluR k d a b 0x15 (b == 0) (fun x _ => W (popcount x)) s

/-- REVO (R309). -/
def execRevo (k : Fin 4) (d a b : BitVec 4) (s : State) : Host.Outcome State Fault Refusal :=
  aluR k d a b 0x16 (b == 0) (fun x _ => setLane (setLane x 0 (laneOf x 2)) 2 (laneOf x 0)) s

/-- SEXO (R309). -/
def execSexo (k : Fin 4) (d a b : BitVec 4) (s : State) : Host.Outcome State Fault Refusal :=
  aluR k d a b 0x17 (b == 0) (fun x _ => sext (laneOf x 0)) s

/-- SEX12 (R309). -/
def execSex12 (k : Fin 4) (d a b : BitVec 4) (s : State) : Host.Outcome State Fault Refusal :=
  aluR k d a b 0x18 (b == 0) (fun x _ => sext (BitVec.ofNat 12 x.toNat)) s

/-- ADD.K (R310). -/
def execAddK (k : Fin 4) (d a : BitVec 4) (imm : BitVec 10) (s : State) : Host.Outcome State Fault Refusal :=
  aluI k 0x01 d a imm true (fun x => x + sext imm) s

/-- AND.K (R310). -/
def execAndK (k : Fin 4) (d a : BitVec 4) (imm : BitVec 10) (s : State) : Host.Outcome State Fault Refusal :=
  aluI k 0x02 d a imm true (fun x => x &&& W imm.toNat) s

/-- OR.K (R310). -/
def execOrK (k : Fin 4) (d a : BitVec 4) (imm : BitVec 10) (s : State) : Host.Outcome State Fault Refusal :=
  aluI k 0x03 d a imm true (fun x => x ||| W imm.toNat) s

/-- XOR.K (R310). -/
def execXorK (k : Fin 4) (d a : BitVec 4) (imm : BitVec 10) (s : State) : Host.Outcome State Fault Refusal :=
  aluI k 0x04 d a imm true (fun x => x ^^^ W imm.toNat) s

/-- LTS.K (R310). -/
def execLtsK (k : Fin 4) (d a : BitVec 4) (imm : BitVec 10) (s : State) : Host.Outcome State Fault Refusal :=
  aluI k 0x05 d a imm true (fun x => ofBool (x.slt (sext imm))) s

/-- LTU.K (R310). -/
def execLtuK (k : Fin 4) (d a : BitVec 4) (imm : BitVec 10) (s : State) : Host.Outcome State Fault Refusal :=
  aluI k 0x06 d a imm true (fun x => ofBool (x.ult (sext imm))) s

/-- SHL.K (R310). -/
def execShlK (k : Fin 4) (d a : BitVec 4) (imm : BitVec 10) (s : State) : Host.Outcome State Fault Refusal :=
  aluI k 0x07 d a imm (shiftImmOk imm) (fun x => shl24 x (bits imm 0 5)) s

/-- SHR.K (R310). -/
def execShrK (k : Fin 4) (d a : BitVec 4) (imm : BitVec 10) (s : State) : Host.Outcome State Fault Refusal :=
  aluI k 0x08 d a imm (shiftImmOk imm) (fun x => shr24 x (bits imm 0 5)) s

/-- SAR.K (R310). -/
def execSarK (k : Fin 4) (d a : BitVec 4) (imm : BitVec 10) (s : State) : Host.Outcome State Fault Refusal :=
  aluI k 0x09 d a imm (shiftImmOk imm) (fun x => sar24 x (bits imm 0 5)) s

/-- ROR.K (R310). -/
def execRorK (k : Fin 4) (d a : BitVec 4) (imm : BitVec 10) (s : State) : Host.Outcome State Fault Refusal :=
  aluI k 0x0A d a imm (shiftImmOk imm) (fun x => ror24 x (bits imm 0 5)) s

/-- ADDS.K (R310). -/
def execAddsK (k : Fin 4) (d a : BitVec 4) (imm : BitVec 10) (s : State) : Host.Outcome State Fault Refusal :=
  aluI k 0x0D d a imm true (fun x => satWord (x.toInt + (sext imm).toInt)) s

/-- RSB.K (R310). -/
def execRsbK (k : Fin 4) (d a : BitVec 4) (imm : BitVec 10) (s : State) : Host.Outcome State Fault Refusal :=
  aluI k 0x0E d a imm true (fun x => sext imm - x) s

/-- EXT.K (R310). -/
def execExtK (k : Fin 4) (d a : BitVec 4) (imm : BitVec 10) (s : State) : Host.Outcome State Fault Refusal :=
  aluI k 0x0F d a imm (extOk imm) (fun x => W (bits x (bits imm 0 5) (bits imm 5 5 + 1))) s

/-- WHI: gd := imm14 × 2^10 (R310). -/
def execWhi (k : Fin 4) (d : BitVec 4) (imm : BitVec 14) (s : State) : Host.Outcome State Fault Refusal :=
  aluU k 0x0B d imm (fun _ => W (imm.toNat * 1024)) s

/-- ADH: gd := gd + imm14 × 2^10 (R310). -/
def execAdh (k : Fin 4) (d : BitVec 4) (imm : BitVec 14) (s : State) : Host.Outcome State Fault Refusal :=
  aluU k 0x0C d imm (fun x => x + W (imm.toNat * 1024)) s

/-- HINT: every encoding of major 0x37 is a no-operation (R320). -/
def execHint (k : Fin 4) (rest : BitVec 18) (s : State) : Host.Outcome State Fault Refusal :=
  coreInstr k (fmtJ 0x37 rest) true false (nextPc k) s

end Sys2Proof.Machine
end

