-- ==== Sys2Proof/Machine/CoreFlow.lean ====
section
/-! DEFINITION. Branches, jumps and system functions of the application cores (R313, R314, R316). -/
namespace Sys2Proof.Machine

open Sys2Proof

/-- A compare-branch (format B: the registers in the a and b fields, off10). -/
def branch (k : Fin 4) (major : Nat) (a b : BitVec 4) (off : BitVec 10) (take : Word → Word → Bool) (s : State) :
    Host.Outcome State Fault Refusal :=
  coreInstr k (fmtI major a b off) true false
    (fun s =>
      let c := s.core k
      if take (c.reg a.toNat) (c.reg b.toNat) then jumpTo k (target c (sext off)) s else nextPc k s) s

/-- CB.EQ (R313). -/
def execCbEq (k : Fin 4) (a b : BitVec 4) (off : BitVec 10) (s : State) : Host.Outcome State Fault Refusal :=
  branch k 0x18 a b off (fun x y => x == y) s

/-- CB.NE (R313). -/
def execCbNe (k : Fin 4) (a b : BitVec 4) (off : BitVec 10) (s : State) : Host.Outcome State Fault Refusal :=
  branch k 0x19 a b off (fun x y => x != y) s

/-- CB.LT (R313). -/
def execCbLt (k : Fin 4) (a b : BitVec 4) (off : BitVec 10) (s : State) : Host.Outcome State Fault Refusal :=
  branch k 0x1A a b off (fun x y => x.slt y) s

/-- CB.GE (R313). -/
def execCbGe (k : Fin 4) (a b : BitVec 4) (off : BitVec 10) (s : State) : Host.Outcome State Fault Refusal :=
  branch k 0x1B a b off (fun x y => !x.slt y) s

/-- CB.LTU (R313). -/
def execCbLtu (k : Fin 4) (a b : BitVec 4) (off : BitVec 10) (s : State) : Host.Outcome State Fault Refusal :=
  branch k 0x1C a b off (fun x y => x.ult y) s

/-- CB.GEU (R313). -/
def execCbGeu (k : Fin 4) (a b : BitVec 4) (off : BitVec 10) (s : State) : Host.Outcome State Fault Refusal :=
  branch k 0x1D a b off (fun x y => !x.ult y) s

/-- CB.ANY (R313). -/
def execCbAny (k : Fin 4) (a b : BitVec 4) (off : BitVec 10) (s : State) : Host.Outcome State Fault Refusal :=
  branch k 0x1F a b off (fun x y => (x &&& y) != 0) s

/-- CB.DEC: r := ga − 1; r to ga; branch if r ≠ 0 (R313). -/
def execCbDec (k : Fin 4) (a b : BitVec 4) (off : BitVec 10) (s : State) : Host.Outcome State Fault Refusal :=
  coreInstr k (fmtI 0x1E a b off) (b == 0) false
    (fun s =>
      let c := s.core k
      let r := c.reg a.toNat - 1
      let s1 := s.setCore k (c.setG a.toNat r)
      if r != 0 then jumpTo k (target c (sext off)) s1 else nextPc k s1) s

/-- JMP (R313). -/
def execJmp (k : Fin 4) (off : BitVec 18) (s : State) : Host.Outcome State Fault Refusal :=
  coreInstr k (fmtJ 0x20 off) true false (fun s => jumpTo k (target (s.core k) (sext off)) s) s

/-- CALL: g14 := the next instruction's address. -/
def execCall (k : Fin 4) (off : BitVec 18) (s : State) : Host.Outcome State Fault Refusal :=
  coreInstr k (fmtJ 0x21 off) true false
    (fun s =>
      let c := s.core k
      jumpTo k (target c (sext off)) (s.setCore k (c.setG 14 (c.pc + 1)))) s

/-- JMPR. -/
def execJmpr (k : Fin 4) (d a : BitVec 4) (imm : BitVec 10) (s : State) : Host.Outcome State Fault Refusal :=
  coreInstr k (fmtI 0x22 d a imm) (d == 0) false
    (fun s => jumpTo k ((s.core k).reg a.toNat + sext imm) s) s

/-- CALLR: the target is computed before g14 is written. -/
def execCallr (k : Fin 4) (d a : BitVec 4) (imm : BitVec 10) (s : State) : Host.Outcome State Fault Refusal :=
  coreInstr k (fmtI 0x23 d a imm) (d == 0) false
    (fun s =>
      let c := s.core k
      jumpTo k (c.reg a.toNat + sext imm) (s.setCore k (c.setG 14 (c.pc + 1)))) s

/-- TRAP raises SYSCALL with its code in XCAUSE.ARG (R314). -/
def execTrap (k : Fin 4) (code : BitVec 12) (s : State) : Host.Outcome State Fault Refusal :=
  coreInstr k (fmtSys code 0x01) true false (raise k 3 code.toNat false 0) s

/-- BKPT raises BREAK, or halts the core before the instruction while BRKHALT is set (R314, R340). -/
def execBkpt (k : Fin 4) (code : BitVec 12) (s : State) : Host.Outcome State Fault Refusal :=
  coreInstr k (fmtSys code 0x02) true false
    (fun s => if s.bit R.dbgCtrl (4 + k.val) then s.setBit R.dbgStat k.val true else raise k 4 code.toNat false 0 s) s

/-- XRET: return from an exception (R314, R330). -/
def execXret (k : Fin 4) (rest : BitVec 12) (s : State) : Host.Outcome State Fault Refusal :=
  coreInstr k (fmtSys rest 0x03) (rest == 0) true (fun s => svcPoll k (s.setCore k (s.core k).leave)) s

/-- WAIT: the core stops until an input could be taken, ignoring IE; it goes on at once if one already could (R314). -/
def execWait (k : Fin 4) (rest : BitVec 12) (s : State) : Host.Outcome State Fault Refusal :=
  coreInstr k (fmtSys rest 0x04) (rest == 0) true
    (fun s =>
      let s1 := nextPc k s
      if (s.takeable k).isSome then s1 else s1.setCore k { s1.core k with waiting := true }) s

/-- EI: STATUS.IE := 1 (R314). -/
def execEi (k : Fin 4) (rest : BitVec 12) (s : State) : Host.Outcome State Fault Refusal :=
  coreInstr k (fmtSys rest 0x06) (rest == 0) true
    (fun s => nextPc k (s.setCore k ((s.core k).setSys 0x010 (setBits ((s.core k).sysReg 0x010) 1 1 1)))) s

/-- DI: gd := STATUS.IE; STATUS.IE := 0 (R314). -/
def execDi (k : Fin 4) (d : BitVec 4) (rest : BitVec 8) (s : State) : Host.Outcome State Fault Refusal :=
  coreInstr k (fmtSys (BitVec.ofNat 12 (d.toNat * 256 + rest.toNat)) 0x07) (rest == 0) true
    (fun s =>
      let c := s.core k
      putReg k d (ofBool c.ie) (s.setCore k (c.setSys 0x010 (setBits (c.sysReg 0x010) 1 1 0)))) s

/-- What a system register reads as: COREID, the cycle count (an open value at each read, log 6), the accumulator's words,
and the stored registers (R316). -/
def sysRead (k : Fin 4) (n : Nat) (s : State) : Word × State :=
  let c := s.core k
  if n = 0x000 then (W k.val, s)
  else if n = 0x001 then
    (Config.freeWord s.draws,
      (s.drawn.drawn).setCore k { c with cycSnap := Config.freeWord (s.draws + 1) })
  else if n = 0x002 then (c.cycSnap, s)
  else if n = 0x051 then (wordOf c.acc 0, s)
  else if n = 0x052 then (wordOf c.acc 1, s)
  else if n = 0x053 then (W (bits c.acc 48 8 + (if c.sat then 2 ^ 23 else 0)), s)
  else (c.sysReg n, s)

/-- The writable bits of a system register (the tables of 12_qoris24_cores.md). -/
def sysMask (n : Nat) : Word :=
  if n = 0x010 ∨ n = 0x011 then 0x000077
  else if n = 0x012 ∨ n = 0x016 ∨ n = 0x017 ∨ n = 0x018 ∨ n = 0x055 then 0xFFFFFF
  else if n = 0x015 then 0xFFFE00
  else if n = 0x020 ∨ n = 0x050 then 0x000003
  else if 0x030 ≤ n ∧ n < 0x050 then (if n % 2 = 0 then 0xFFFFFF else 0xFE003F)
  else if n = 0x054 then 0x0007FF
  else 0

/-- A system register written: read-only fields and reserved bits are ignored (R316). -/
def Core.sysWrite (c : Core) (n : Nat) (v : Word) : Core :=
  if n = 0x051 then { c with acc := BitVec.ofNat 56 (c.acc.toNat / 2 ^ 24 * 2 ^ 24 + v.toNat) }
  else if n = 0x052 then
    { c with acc := BitVec.ofNat 56 (c.acc.toNat / 2 ^ 48 * 2 ^ 48 + v.toNat * 2 ^ 24 + c.acc.toNat % 2 ^ 24) }
  else if n = 0x053 then
    { c with acc := BitVec.ofNat 56 (bits v 0 8 * 2 ^ 48 + c.acc.toNat % 2 ^ 48), sat := bitOf v 23 }
  else c.setSys n ((c.sysReg n &&& ~~~(sysMask n)) ||| (v &&& sysMask n))

/-- MFS: gd := system register imm10; user mode may read 0x000 to 0x002 (R316). -/
def execMfs (k : Fin 4) (d a : BitVec 4) (imm : BitVec 10) (s : State) : Host.Outcome State Fault Refusal :=
  coreInstr k (fmtI 0x26 d a imm) (a == 0 && sysExists imm.toNat) (2 < imm.toNat)
    (fun s =>
      let (v, t) := sysRead k imm.toNat s
      putReg k d v t) s

/-- MTS: system register imm10 := ga (R316). -/
def execMts (k : Fin 4) (d a : BitVec 4) (imm : BitVec 10) (s : State) : Host.Outcome State Fault Refusal :=
  coreInstr k (fmtI 0x27 d a imm) (d == 0 && sysExists imm.toNat) true
    (fun s =>
      let c := s.core k
      nextPc k (s.setCore k (c.sysWrite imm.toNat (c.reg a.toNat)))) s

end Sys2Proof.Machine
end

