-- ==== Sys2Proof/Machine/DmaCtl.lean ====
section
/-! DEFINITION. The DMA channels' control (R387, R395, R401): starting, stopping and resuming, triggers, and the registers that
are locked while a channel runs. -/
namespace Sys2Proof.Machine

open Sys2Proof

/-- A channel starts at CHn_PC (R401): loop counters, REMAIN and the fault code clear; or, asked to resume, a STOPPED one goes on from
where it was stopped. -/
def dmaStart (n : Nat) (resume : Bool) (s : State) : State :=
  if resume && s.dmaSt n == 4 then s.setDmaSt n 1
  else
    let s1 := (((s.setReg (R.dmaLc n 0) 0).setReg (R.dmaLc n 1) 0).setReg (R.dmaPtrs n 2) 0).setFld (R.dmaChstatus n) 20 4 0
    (s1.setDma n { DmaCh.idle with last := (s.dmaCh n).last }).setDmaSt n 1

/-- EN written: 1 starts a channel that is stopped, and is held while it is STOPPING; 0 moves a running channel to STOPPING, and ends a
WAIT or QPOP at once (R401). -/
def dmaEnable (n : Nat) (v : Word) (s : State) : State :=
  match bitOf v 0, s.dmaSt n with
  | true, 1 => s
  | true, 2 => s
  | true, 3 => s.setDma n { s.dmaCh n with held := some v }
  | true, _ => dmaStart n (bitOf v 1) s
  | false, 1 => s.setDmaSt n 3
  | false, 2 => s.setDmaSt n 4
  | false, 3 => s.setDma n { s.dmaCh n with held := none }
  | false, _ => s

/-- CHn_CTRL written: EN and PRI are stored, CLRPEND acts before SWTRIG, then EN. -/
def chctrlWrite (n : Nat) (v : Word) (s : State) : State :=
  let s1 := plainWrite (R.dmaChctrl n) v s
  let s2 := if bitOf v 4 then s1.setFld (R.dmaChstatus n) 4 4 0 else s1
  dmaEnable n v (if bitOf v 3 then dmaTrig n s2 else s2)

/-- The channel runs, waits or is stopping, which locks its program counter and pointers (R401). -/
def State.dmaBusy (s : State) (n : Nat) : Bool := 1 ≤ s.dmaSt n && s.dmaSt n ≤ 3

/-- CHn_PC, SPTR, DPTR, REMAIN and DREG written; a new PC gives up the MOVE that a stop left unfinished. -/
def dmaLockedWrite (n a : Nat) (v : Word) (s : State) : State :=
  if s.dmaBusy n then s
  else if a = R.dmaPc n then plainWrite a v (s.setDma n { s.dmaCh n with moving := false })
  else plainWrite a v s

/-- CHANNEL_START (R401). -/
def execChannelStart (w : Who) (n : Fin 32) (v : Word) (s : State) : Host.Outcome State Fault Refusal :=
  act (s.mayWrite w (R.dmaChctrl n.val)) (chctrlWrite n.val (setBits v 0 1 1)) s

/-- CHANNEL_STOP (R401). -/
def execChannelStop (w : Who) (n : Fin 32) (v : Word) (s : State) : Host.Outcome State Fault Refusal :=
  act (s.mayWrite w (R.dmaChctrl n.val)) (chctrlWrite n.val (setBits v 0 1 0)) s

/-- SWTRIG (R395). -/
def execSwtrig (w : Who) (n : Fin 32) (v : Word) (s : State) : Host.Outcome State Fault Refusal :=
  act (s.mayWrite w (R.dmaChctrl n.val)) (chctrlWrite n.val (setBits v 3 1 1)) s

/-- CLRPEND (R395). -/
def execClrpend (w : Who) (n : Fin 32) (v : Word) (s : State) : Host.Outcome State Fault Refusal :=
  act (s.mayWrite w (R.dmaChctrl n.val)) (chctrlWrite n.val (setBits v 4 1 1)) s

end Sys2Proof.Machine
end

