-- ==== Sys2Proof/Machine/Bus.lean ====
section
/-! DEFINITION. The bus: what a write and a read of any word address does for any initiator (R3 to R6, R342). A register whose write
or read does more than R3's access codes say has its own case here; every other register is plain. -/
namespace Sys2Proof.Machine

open Sys2Proof

/-! ## Application cores out of service (R337) -/

/-- What waits for a core in the boot ROM, and a debugger's step, are gone. -/
def forgetCore (k : Fin 4) (s : State) : State :=
  { s with
    flash := { s.flash with waiters := s.flash.waiters.filter (· != k), rets := s.flash.rets.filter (fun e => e.1 != k) }
    dbg := { s.dbg with stepReq := s.dbg.stepReq &&& ~~~(1#4 <<< k.val) } }

/-- APPk goes offline: its caches are lost without write-back, OFFSTAT reads 1, and its mailbox's commands end (R264, R337). -/
def coreOff (k : Fin 4) (s : State) : State :=
  if s.offline k.val then s
  else
    let s1 := (forgetCore k s).setBit R.intcCorectl (8 + k.val) true
    let s2 := s1.setCore k { s1.core k with dcache := [], icache := [], waiting := false, svc := [], away := false }
    dropTransport (2 + k.val) s2

/-- The core restarts from RESET, and the boot ROM starts it at its entry in the application image. -/
def restartCore (k : Fin 4) (s : State) : State :=
  let s1 := forgetCore k s
  s1.setCore k { Core.reset with pc := s.mw (slotBase 1 + 8) }

/-- APPk comes back: OFFSTAT clears and it restarts. -/
def coreOn (k : Fin 4) (s : State) : State :=
  if s.offline k.val then restartCore k (s.setBit R.intcCorectl (8 + k.val) false) else s

/-- CORECTL written: each core follows its OFFLINE bit. -/
def corectlWrite (v : Word) (s : State) : State :=
  forAll [0, 1, 2, 3] (fun (k : Fin 4) t => if bitOf v k.val then coreOff k t else coreOn k t) (plainWrite R.intcCorectl v s)

/-- A watchdog expires (R339): the application domain resets with cause WATCHDOG_APPk, or APPk alone restarts and EXPIRED sets. -/
def wdExpire (k : Fin 4) (s : State) : State :=
  if s.bit (R.wdCfg k.val) 21 then
    let s1 := ((s.setFld (R.wdCount k.val) 0 16 (s.wdTimeout k.val)).setBit (R.wdStat k.val) 1 true)
    dropTransport (2 + k.val) (restartCore k s1)
  else appReset (5 + k.val) s

/-- Ck_WDKICK written: the key reloads, anything else expires at once (R339). -/
def wdKick (k : Fin 4) (v : Word) (s : State) : State :=
  if v == 0x5A50A5 then s.setFld (R.wdCount k.val) 0 16 (s.wdTimeout k.val)
  else if s.wdRuns k then wdExpire k s else s

/-! ## The debug block (R340, R466 to R468) -/

/-- DBG.REGDATA reaches register `n` of a halted core; none selects nothing or a core that runs. -/
def State.dbgSel (s : State) : Option (Fin 4 × Bool × Nat) :=
  let r := s.reg R.dbgRegsel
  let k := bits r 22 2
  let n := bits r 0 10
  let ok := s.halted k && (if bitOf r 10 then sysExists n else n ≤ 16)
  if ok then some (Fin.ofNat 4 k, bitOf r 10, n) else none

/-- DBG.REGDATA read. -/
def dbgRegRead (s : State) : Word × State :=
  match s.dbgSel with
  | none => (0, s)
  | some (k, true, n) => sysRead k n s
  | some (k, false, n) => (if n = 16 then (s.core k).pc else (s.core k).reg n, s)

/-- DBG.REGDATA written. -/
def dbgRegWrite (v : Word) (s : State) : State :=
  match s.dbgSel with
  | none => s
  | some (k, true, n) => s.setCore k ((s.core k).sysWrite n v)
  | some (k, false, n) =>
    if n = 16 then s.setCore k { s.core k with pc := v } else s.setCore k ((s.core k).setG n v)

/-- DBG.CTRL.LHALT: link cores halt, but not at debug level 1 (R467). -/
def lhaltWrite (v : Word) (s : State) : State :=
  if s.otp.debugLevel.toNat = 0 then
    forAll [0, 1] (fun c t => if bitOf v (20 + c) then t.setBit R.dbgStat (4 + c) true else t) s
  else s

/-- DBG.CTRL written: BRKHALT is stored; HALT, RESUME, STEP and LHALT act. -/
def dbgCtrlWrite (v : Word) (s : State) : State :=
  lhaltWrite v (dbgStep v (dbgResume v (dbgHalt v (plainWrite R.dbgCtrl v s))))

/-- DBG.LEVEL written: the level in OTP can only rise (R467). -/
def dbgLevelWrite (v : Word) (s : State) : State :=
  if s.otp.debugLevel.toNat < bits v 0 2 then { s with otp := { s.otp with debugLevel := BitVec.ofNat 2 v.toNat } } else s

/-! ## Register writes, block by block -/

/-- SYS, PMU, CLK and BKP. -/
def writeSys (a : Nat) (v : Word) (s : State) : State :=
  if a = R.sysRstctrl then rstctrlWrite v s
  else if a = R.sysFault then faultShow (plainWrite a v s)
  else if a = R.pmuReq then pmuReqWrite v s
  else if a = R.rtcCtrl then rtcCtrlWrite v s
  else plainWrite a v s

/-- MT_SRC written: a change of STATE or ACTIVE is noticed (R289). -/
def mtSrcWrite (v : Word) (s : State) : State := srcChanged (s.reg R.mtSrc) (plainWrite R.mtSrc v s)

/-- MT. -/
def writeMt (a : Nat) (v : Word) (s : State) : State :=
  if a = R.mtCtrl then slewWatch (mtCtrlWrite v) s
  else if a = R.mtRate1 then rateWrite v s
  else if a = R.mtSlew0 then slew0Write v s
  else if a = R.mtSlew1 then slewReplace v s
  else if a = R.mtSlewcfg then slewcfgWrite v s
  else if a = R.mtUset then usetWrite v s
  else if a = R.mtUalarm then ualarmWrite v s
  else if a = R.mtSrc then mtSrcWrite v s
  else if R.mtcCmp 0 0 ≤ a ∧ a < 0xF04200 then
    let n := (a - R.mtcCmp 0 0) / 8
    if a % 8 = 2 then armCompare n v s else if a % 8 = 5 then mtcCtrlWrite n v s else plainWrite a v s
  else plainWrite a v s

/-- The frame of a gate no longer waits for its acknowledgement. -/
def dropGateWait (b : Nat) (s : State) : State :=
  match (s.band b).wait with
  | some wt => (match wt.tx.src with | .gate _ _ => s.setBand b { s.band b with wait := none } | _ => s)
  | none => s

/-- GATE.CTRL written: CLRCNT, and EN = 0 releases the activations in progress uncounted, their frames back at the heads of their queues. -/
def gateCtrlWrite (v : Word) (s : State) : State :=
  let s1 := plainWrite R.gateCtrl v s
  let s2 := if bitOf v 1 then clearBlock 0 s1 else s1
  if bitOf v 0 then s2
  else forAll s2.gates.acts (fun x t => releaseAct x (returnHead x t)) (dropGateWait 1 (dropGateWait 0 s2))

/-- GATE and its courses. -/
def writeGate (a : Nat) (v : Word) (s : State) : State :=
  if a = R.gateCtrl then gateCtrlWrite v s
  else if a = R.gateCommit then gateCommitWrite v s
  else if R.courseCfg 0 ≤ a then
    let n := (a - R.courseCfg 0) / 16
    if a % 16 = 0 then courseCfgWrite n v s else coursePlainWrite n a v s
  else plainWrite a v s

/-- FES and FEG. -/
def writeFe (a : Nat) (v : Word) (s : State) : State :=
  let b := if a < 0xF07000 then 0 else 1
  if a = R.feCtrl b then feCtrlWrite b v s
  else if a = R.feCalcommit b then calCommitWrite b v s
  else plainWrite a v s

/-- LANE, TXC. -/
def writeLane (a : Nat) (v : Word) (s : State) : State :=
  if a = R.laneCtrl then (if bitOf v 0 then clearBlock 4 s else s)
  else if a = R.laneOos then oosWrite v s
  else if a = R.txcCtrl then (if bitOf v 1 then clearBlock 3 (plainWrite a v s) else plainWrite a v s)
  else if a = R.txcChctrl 0 ∨ a = R.txcChctrl 1 then (if bitOf v 0 then halt (a - R.txcChctrl 0) s else s)
  else if a = R.txcCfg 0 ∨ a = R.txcCfg 1 then txcCfgWrite (a - R.txcCfg 0) v s
  else if R.txcRule0 0 0 ≤ a ∧ a ≤ R.txcRule7 1 3 then ruleWrite a v s
  else if R.pathGain 0 ≤ a ∧ a ≤ R.pathGain 3 ∧ a % 16 = 1 then pathGainWrite ((a - R.pathGain 0) / 16) v s
  else plainWrite a v s

/-- A block whose CTRL has CLRCNT in bit `i` and whose counters are block `n` of CLEAR_COUNTERS. -/
def ctrlWrite (a i n : Nat) (v : Word) (s : State) : State :=
  if bitOf v i then clearBlock n (plainWrite a v s) else plainWrite a v s

/-- FWD, QM, RWIN. -/
def writeFwd (a : Nat) (v : Word) (s : State) : State :=
  if a = R.fwdCtrl then ctrlWrite a 1 7 v s
  else if a = R.fwdCommit then routeCommitWrite v s
  else if a = R.qmCtrl then (if bitOf v 0 then clearBlock 8 s else s)
  else if a = R.qmFreebuf then freeChain v s
  else if 0xF0B800 ≤ a ∧ a < 0xF0C000 ∧ a % 16 = 6 then (qPush ((a - 0xF0B800) / 16) v s).2
  else if 0xF0B800 ≤ a ∧ a < 0xF0C000 ∧ a % 16 = 7 then (qPushHead ((a - 0xF0B800) / 16) v s).2
  else if a = R.rwinCtrl then ctrlWrite a 1 9 v s
  else if a = R.rwinCommit then windowCommitWrite v s
  else plainWrite a v s

/-- A post on mailbox `k` (R258): ignored while the mailbox accepts nothing or copies. -/
def postWrite (k : Nat) (v : Word) (s : State) : State :=
  if s.accepts (2 + k) && !s.bit (R.mbStatus k) 0 then mailboxPost k v (sayReset (2 + k) s) else s

/-- CMDP. -/
def writeCmdp (a : Nat) (v : Word) (s : State) : State :=
  if a = R.cmdpCtrl then ctrlWrite a 1 10 v s
  else if R.mbPost 0 ≤ a ∧ a % 8 = 0 then postWrite ((a - R.mbPost 0) / 8) v s
  else plainWrite a v s

/-- LSUP.STATUS written: SUPRST, and its copy in SYS.FAULT. -/
def lsupStatusWrite (v : Word) (s : State) : State :=
  let s1 := plainWrite R.lsupStatus v s
  faultShow (s1.setBit R.sysFault 1 (s1.bit R.lsupStatus 15))

/-- LSUP. -/
def writeLsup (w : Who) (a : Nat) (v : Word) (s : State) : State :=
  if a = R.lsupCtrl then lsupCtrlWrite w v s
  else if a = R.lsupStatus then lsupStatusWrite v s
  else if a = R.lsupHb 0 then heartbeat false v s
  else if a = R.lsupHb 1 then heartbeat true v s
  else if a = R.lsupStbycmd then stbycmdWrite w v s
  else if a = R.lsupStbyrpt then stbyrptWrite w v s
  else if a = R.lsupBankswap then bankswapWrite v s
  else plainWrite a v s

/-- LINK and NBR. -/
def writeLink (a : Nat) (v : Word) (s : State) : State :=
  if a = R.linkCtrl then ctrlWrite a 1 5 v s
  else if R.linkKeystage 0 ≤ a ∧ a ≤ R.linkKeystage 5 then keyStageWrite (a - R.linkKeystage 0) v s
  else if a = R.linkKeycommit then keyCommitWrite v s
  else if a = R.nbrCtrl then ctrlWrite a 0 6 v s
  else if a = R.nbrCommit then nbrCommitWrite v s
  else if R.keyCfg 0 ≤ a ∧ a < R.keyCfg 16 then
    let k := (a - R.keyCfg 0) / 8
    match (a - R.keyCfg 0) % 8 with
    | 2 => ctrLowWrite a v s
    | 3 => ctrCommit k (a - 1) v s
    | 4 => ctrLowWrite a v s
    | 5 => ctrCommit k (a - 1) v s
    | _ => plainWrite a v s
  else plainWrite a v s

/-- ECC. -/
def writeEcc (w : Who) (a : Nat) (v : Word) (s : State) : State :=
  if a = R.eccCtrl then eccCtrlWrite v s
  else if a = R.eccOffline then offlineWrite v s
  else if a = R.eccB15mode then b15Write v s
  else if a = R.eccRetain then retainWrite w v s
  else plainWrite a v s

/-- DMA. -/
def writeDma (a : Nat) (v : Word) (s : State) : State :=
  if a < R.dmaChctrl 0 then plainWrite a v s
  else
    let n := (a - R.dmaChctrl 0) / 16
    match a % 16 with
    | 0 => chctrlWrite n v s
    | 1 => dmaLockedWrite n a v s
    | 4 => dmaLockedWrite n a v s
    | 5 => dmaLockedWrite n a v s
    | 6 => dmaLockedWrite n a v s
    | 7 => dmaLockedWrite n a v s
    | _ => plainWrite a v s

/-- EVF and GT. -/
def writeFabric (a : Nat) (v : Word) (s : State) : State :=
  if a < R.lutIn 0 then
    let c := (a - R.evfCfg 0) / 2
    if a % 2 = 0 then evfCfgWrite c v s else evfDstWrite c v s
  else if a < R.pinlvl then
    let j := (a - R.lutIn 0) / 2
    if a % 2 = 0 then lutInWrite j v s else lutCtlWrite j v s
  else if R.gtCtrl 0 ≤ a then
    let n := (a - R.gtCtrl 0) / 8
    match a % 8 with
    | 0 => if bitOf v 0 then gtArm n s else s
    | 1 => gtCfgWrite n v s
    | 2 => gtTopWrite n v s
    | _ => plainWrite a v s
  else plainWrite a v s

/-- INTC, CORECTL and the watchdogs. -/
def writeIntc (a : Nat) (v : Word) (s : State) : State :=
  if a = R.intcCorectl then corectlWrite v s
  else if a < R.intcCorectl then
    let k := (a - R.intcEn 0 0) / 64
    if a = R.intcSetpend k then setpendWrite k v s else plainWrite a v s
  else if R.wdCfg 0 ≤ a then
    let k := (a - R.wdCfg 0) / 4
    if a % 4 = 0 then wdCfgWrite k v s
    else if a % 4 = 1 then wdKick (Fin.ofNat 4 k) v s
    else plainWrite a v s
  else plainWrite a v s

/-- DBG. -/
def writeDbg (a : Nat) (v : Word) (s : State) : State :=
  if a = R.dbgCtrl then dbgCtrlWrite v s
  else if a = R.dbgRegdata then dbgRegWrite v s
  else if a = R.dbgLevel then dbgLevelWrite v s
  else plainWrite a v s

/-- The effect of a register write that R4 honours. -/
def regWrite (w : Who) (a : Nat) (v : Word) (s : State) : State :=
  match page a with
  | 0x00 | 0x01 | 0x02 | 0x03 => writeSys a v s
  | 0x04 => writeMt a v s
  | 0x05 => writeGate a v s
  | 0x06 | 0x07 => writeFe a v s
  | 0x08 | 0x09 => writeLane a v s
  | 0x0A | 0x0B | 0x0C => writeFwd a v s
  | 0x0D => writeCmdp a v s
  | 0x0E => writeLsup w a v s
  | 0x0F => writeLink a v s
  | 0x10 => writeEcc w a v s
  | 0x12 => writeDma a v s
  | 0x13 | 0x14 => writeFabric a v s
  | 0x15 => writeIntc a v s
  | 0x1F => writeDbg a v s
  | _ => plainWrite a v s

/-! ## Register reads, block by block -/

/-- LANEn_STATUS read: LGAIN is the gain of the lane AGC in 0.5 dB, 0 to 96 (R126): inside a frame what the frame found, while the lane
searches what it measures, an open value, and its reset value otherwise (log 136). -/
def laneStatusRead (a : Nat) (s : State) : Word × State :=
  let n := (a - R.laneStatus 0) / 16
  if (s.lane n).frame.isSome then (setBits (s.reg a) 16 8 (s.lane n).gain.toNat, s)
  else if s.fld a 0 3 = 1 then (setBits (s.reg a) 16 8 ((Config.freeOctet s.draws).toNat % 97), s.drawn)
  else (s.reg a, s)

/-- BKP_STATUS read: whether the charger delivers current while it is on is open (R449). -/
def bkpStatusRead (s : State) : Word × State :=
  if s.bit R.bkpChg 7 && s.pwr.vmain then
    (setBits (s.reg R.bkpStatus) 2 1 (if Config.freeBool s.draws then 1 else 0), s.drawn)
  else (s.reg R.bkpStatus, s)

/-- Tt_STATUS as read. -/
def State.tStatusWord (s : State) (t : Nat) : Word :=
  W ((s.outstanding t).length * 2 ^ 19 + min 63 (tabLook [] s.cmdp.replies t).length * 2 ^ 13 +
    (tabLook [] s.cmdp.notices t).length * 2 ^ 7 + s.slotsFree t * 2 ^ 4)

/-- MBk_STATUS as read. -/
def State.mbStatusWord (s : State) (k : Nat) : Word :=
  setBits (s.reg (R.mbStatus k)) 1 1 (if s.fld (R.mbRhead k) 0 12 = s.fld (R.mbRtail k) 0 12 then 0 else 1)

/-- A GPIO configuration as read: IN is the ball's level, 0 for FUNC 2 and 3. -/
def State.gpioWord (s : State) (p : Nat) : Word :=
  setBits (s.reg (R.gpioCfg p)) 0 1 (if s.fld (R.gpioCfg p) 8 2 < 2 ∧ bitOf s.pins.gpio p then 1 else 0)

/-- The words that show state which no register holds. -/
def State.shown (s : State) (a : Nat) : Option Word :=
  match page a with
  | 0x05 =>
    if R.courseCfg 0 ≤ a then
      let n := (a - R.courseCfg 0) / 16
      let i : BitVec 48 := BitVec.ofNat 48 (s.iterNow n)
      match a % 16 with
      | 6 => some (wordOf i 0)
      | 7 => some (wordOf i 1)
      | _ => none
    else none
  | 0x08 =>
    if a = R.lanePresent then
      some (W ((List.range 16).foldl (fun m n => m + if s.lanePresent n then 2 ^ n else 0) 0))
    else if a = R.ldpcStatus then some s.ldpcStatus
    else none
  | 0x09 =>
    if R.txcStatus 0 ≤ a ∧ a ≤ R.txcStatus 1 then some (setBits (s.reg a) 2 1 (if s.lockWaits (a - R.txcStatus 0) then 1 else 0)) else none
  | 0x0A => if a = R.fwdStatus then some s.fwdStatusWord else none
  | 0x0B => s.qmRead a
  | 0x0C => if a = R.rwinStatus then some s.rwinStatusWord else none
  | 0x0D =>
    if R.mbPost 0 ≤ a then (if a % 8 = 5 then some (s.mbStatusWord ((a - R.mbPost 0) / 8)) else none)
    else if R.tCfg 0 ≤ a ∧ a % 16 = 2 then some (s.tStatusWord ((a - R.tCfg 0) / 16))
    else none
  | 0x0F => if a = R.nbrStatus then some (setBits (s.reg a) 0 14 s.nbrEntries) else none
  | 0x10 =>
    if a = R.eccFuserec then some (s.otp.fuses.getD (s.fld R.eccFuseidx 0 7) 0)
    else if a = R.eccFusefree then some (W (128 - s.otp.fuses.length))
    else none
  | 0x12 =>
    if a = R.dmaStatus then some (W s.inFlight.length)
    else if R.dmaChstatus 0 ≤ a ∧ a % 16 = 2 then
      some (setBits (s.reg a) 10 1 (if s.inFlight.contains ((a - R.dmaChstatus 0) / 16) then 1 else 0))
    else none
  | 0x15 => if a < R.intcCorectl ∧ a % 64 = 0x20 then some (s.intcTopWord ((a - R.intcEn 0 0) / 64)) else none
  | 0x18 => some (s.gpioWord (a - R.gpioCfg 0))
  | 0x1F =>
    if a = R.dbgStat then some (setBits (s.reg a) 6 2 s.otp.debugLevel.toNat)
    else if a = R.dbgLevel then some (W s.otp.debugLevel.toNat)
    else none
  | _ => none

/-- Reads of MT that act on the reader's snapshots (R12, R46). -/
def mtRead (w : Who) (a : Nat) (s : State) : Word × State :=
  if a = R.mtNow0 then readNow0 w s
  else if a = R.mtNow1 then (wordOf (tabLook 0 s.mt.snaps (whoId w)) 0, s)
  else if a = R.mtNow2 then (wordOf (tabLook 0 s.mt.snaps (whoId w)) 1, s)
  else if R.mtCap 0 0 ≤ a then
    let n := (a - R.mtCap 0 0) / 4
    match a % 4 with
    | 0 => readCap w n s
    | 1 => (wordOf (tabLook 0 s.mt.capSnaps (8 * whoId w + n)) 0, s)
    | 2 => (wordOf (tabLook 0 s.mt.capSnaps (8 * whoId w + n)) 1, s)
    | _ => (plainRead s a, s)
  else (plainRead s a, s)

/-- RTC_COUNT0 read: the low word, and the reader's snapshot of the high one (R442). -/
def rtcRead (w : Who) (s : State) : Word × State :=
  (wordOf s.bkp.rtc 0, s.setBkp { s.bkp with snaps := tabPut 0 s.bkp.snaps (whoId w) (wordOf s.bkp.rtc 1) })

/-- The value and the effect of a register read that R4 honours. -/
def regRead (w : Who) (a : Nat) (s : State) : Word × State :=
  if (s.shown a).isSome then ((s.shown a).getD 0, s)
  else if page a = 0x04 then mtRead w a s
  else if a = R.rtcCount0 then rtcRead w s
  else if a = R.rtcCount1 then (tabLook 0 s.bkp.snaps (whoId w), s)
  else if a = R.bkpStatus then bkpStatusRead s
  else if R.wdCount 0 ≤ a ∧ a ≤ R.wdCount 3 ∧ a % 4 = R.wdCount 0 % 4 then wdCountRead (Fin.ofNat 4 ((a - R.wdCount 0) / 4)) s
  else if R.laneStatus 0 ≤ a ∧ a ≤ R.laneStatus 15 ∧ a % 16 = 3 then laneStatusRead a s
  else if 0xF0B800 ≤ a ∧ a < 0xF0C000 ∧ a % 16 = 8 then qPop ((a - 0xF0B800) / 16) s
  else if a = R.qmAlloc then allocRead s
  else if R.gtCtrl 0 ≤ a ∧ a < R.gtCtrl 16 ∧ a % 8 = 4 then gtCapRead ((a - R.gtCtrl 0) / 8) s
  else if a = R.dbgRegdata then dbgRegRead s
  else (plainRead s a, s)

/-! ## The whole map -/

/-- The peripheral registers' range (R342). -/
def regRange (a : Nat) : Bool := 0xF00000 ≤ a && a < 0xF20000

/-- A word read by `w` at `a`: the value, whether an uncorrectable error stopped it, and the state after. A read that is not honoured
gives 0 and has no effect (R4). -/
def busRead (w : Who) (a : Nat) (s : State) : Word × Bool × State :=
  if regRange a then
    if s.mayRead w a then ((regRead w a s).1, false, (regRead w a s).2) else (0, false, s)
  else if s.mpuAllows w a .rd then memRead (initOf w) a s
  else (0, false, s)

/-- A word write by `w` at `a`; ignored where it is not honoured (R4). -/
def busWrite (w : Who) (a : Nat) (v : Word) (s : State) : State :=
  if regRange a then (if s.mayWrite w a then regWrite w a v s else s)
  else if s.mpuAllows w a .wr then memWrite w a v s
  else s

/-- The bits of a register that keep their value under an octet write of another lane: its RW bits. -/
def keptBits (s : State) (a : Nat) : Word :=
  match regRow a with
  | some r => s.reg a &&& W r.rw
  | none => 0

/-- One octet written by `w`: in memory through the port's merge buffer; in a register as a word whose other lanes keep their RW
bits and act on no other field. -/
def busWriteOctet (w : Who) (a lane : Nat) (o : Octet) (s : State) : State :=
  if regRange a then busWrite w a (setLane (keptBits s a) lane o) s
  else if s.mpuAllows w a .wr then memWriteOctet w a lane o s
  else s

/-- One octet read by `w`. -/
def busReadOctet (w : Who) (a lane : Nat) (s : State) : Octet × Bool × State :=
  if regRange a then
    let (v, err, t) := busRead w a s
    (laneOf v lane, err, t)
  else if s.mpuAllows w a .rd then memReadOctet (initOf w) a lane s
  else (0, false, s)

/-! ## The commands -/

/-- REGISTER_WRITE (R3). -/
def execRegisterWrite (w : Who) (a v : Word) (s : State) : Host.Outcome State Fault Refusal :=
  act (s.mayWrite w a.toNat) (regWrite w a.toNat v) s

/-- CORE_OFFLINE (R337). -/
def execCoreOffline (w : Who) (k : Fin 4) (s : State) : Host.Outcome State Fault Refusal :=
  act (s.mayWrite w R.intcCorectl) (fun s => corectlWrite (setBits (s.reg R.intcCorectl) k.val 1 1) s) s

/-- CORE_RESTART (R337). -/
def execCoreRestart (w : Who) (k : Fin 4) (s : State) : Host.Outcome State Fault Refusal :=
  act (s.mayWrite w R.intcCorectl) (fun s => corectlWrite (setBits (s.reg R.intcCorectl) k.val 1 0) s) s

/-- WATCHDOG_KICK (R339). -/
def execWatchdogKick (w : Who) (k : Fin 4) (v : Word) (s : State) : Host.Outcome State Fault Refusal :=
  act (s.mayWrite w (R.wdKick k.val)) (wdKick k v) s

/-- WATCHDOG_EXPIRE (R339): the count passes half of TIMEOUT, where WARN sets, before it comes to 0. -/
def execWatchdogExpire (k : Fin 4) (s : State) : Host.Outcome State Fault Refusal :=
  act (s.wdRuns k && s.fld (R.wdCount k.val) 0 16 ≤ s.wdTimeout k.val / 2) (fun s => wdExpire k (s.setFld (R.wdCount k.val) 0 16 0)) s

/-- The debug port is open: DBGACC is selected and the level is below 2 (R466, R467). -/
def State.dbgOpen (s : State) : Bool := s.alive && s.dbg.ir == 0x20 && s.otp.debugLevel.toNat < 2

/-- DEBUG_HALT (R340). -/
def execDebugHalt (v : Word) (s : State) : Host.Outcome State Fault Refusal := act s.dbgOpen (dbgHalt v) s

/-- DEBUG_STEP (R340). -/
def execDebugStep (v : Word) (s : State) : Host.Outcome State Fault Refusal := act s.dbgOpen (dbgStep v) s

/-- DEBUG_RESUME (R340). -/
def execDebugResume (v : Word) (s : State) : Host.Outcome State Fault Refusal := act s.dbgOpen (dbgResume v) s

/-- LHALT (R292, R467). -/
def execLhalt (c : Bool) (s : State) : Host.Outcome State Fault Refusal :=
  act s.dbgOpen (lhaltWrite (if c then 0x200000 else 0x100000)) s

/-- DEBUG_LEVEL_WRITE (R467). -/
def execDebugLevelWrite (v : Word) (s : State) : Host.Outcome State Fault Refusal := act s.dbgOpen (dbgLevelWrite v) s

/-- Update-DR of DBGACC (R466): a word access at ADDR; DATA takes what was read, or what was written, and DONE sets. A read that its target
makes wait leaves DONE 0 and takes place when the wait ends (R368; log 149). -/
def dbgUpdate (dr : BitVec 50) (s : State) : State :=
  let a := bits dr 25 24
  let d := W (bits dr 1 24)
  if bitOf dr 49 then
    let t := busWrite .dbg a d s
    { t with dbg := { t.dbg with dr := dbgDone dr d, held := none } }
  else if s.flashWaits a then { s with dbg := { s.dbg with dr := dr &&& ~~~1#50, held := some dr } }
  else
    let (v, _, t) := busRead .dbg a s
    { t with dbg := { t.dbg with dr := dbgDone dr v, held := none } }

/-- DBGACC_UPDATE: while DBGACC is selected. -/
def execDbgaccUpdate (dr : BitVec 50) (s : State) : Host.Outcome State Fault Refusal := act s.dbgOpen (dbgUpdate dr) s

/-- What Capture-DR loads, with the register's length, under the instruction in force (R464 to R467): IDCODE, the access register (BYPASS from
debug level 2 on), the lock status, and one bit of 0 for BYPASS, CLAMP, HIGHZ and codes not listed; none for the boundary chain, whose
cells the BSDL orders. Capture-IR loads 0x01. -/
def State.tapCapture (s : State) : Option (Nat × Nat) :=
  match s.dbg.ir.toNat with
  | 0x00 | 0x02 => none
  | 0x01 => some (32, 0x298054C3)
  | 0x20 => if s.otp.debugLevel.toNat < 2 then some (50, s.dbg.dr.toNat) else some (1, 0)
  | 0x21 => some (72, s.dbg.lck.toNat)
  | _ => some (1, 0)

end Sys2Proof.Machine
end

