-- ==== Sys2Proof/Machine/CmdDiag.lean ====
section
/-! DEFINITION. GET_COUNTERS (R287). -/
namespace Sys2Proof.Machine

open Sys2Proof

/-- The address is a counter (log 139): one that CLEAR_COUNTERS clears, or one of LSUP, ECC and FLASHC. -/
def isCounter (a : Nat) : Bool :=
  (List.range 11).any (fun i => (blockCounters i).contains a) || (List.range 4).any (fun m => a == R.lsupCounters m) ||
    (List.range 5).any (fun m => a == R.eccCounters m) || a == R.fcErrcnt 0 || a == R.fcErrcnt 1

/-- Counters from `a` up as `w` reads them; 0 where there is none (R287). -/
def busWords (w : Who) : Nat → Nat → State → List Word × State
  | _, 0, s => ([], s)
  | a, n + 1, s =>
    let (v, _, s1) := if isCounter a then busRead w a s else (0, false, s)
    let (l, s2) := busWords w (a + 1) n s1
    (v :: l, s2)

/-- The registers that a GET_COUNTERS names, read by the owning link core. -/
def getCountersBody (r : Nat) (p : List Octet) (s : State) : State :=
  let (l, t) := busWords (linkCore s.ownerB) (par3 p 0) (par1 p 3) s
  done r (l.flatMap word3) t

/-- Steps 9 and 10 for GET_COUNTERS. -/
def checkGetCounters (p : List Octet) (_s : State) : Nat :=
  legalFree (0xF00000 ≤ par3 p 0 && par3 p 0 < 0xF20000 && 1 ≤ par1 p 3 && par1 p 3 ≤ 64) true

/-- GET_COUNTERS. -/
def execGetCounters (t : Transport) (tag : Octet) (s : State) : Host.Outcome State Fault Refusal :=
  command 0x71 checkGetCounters getCountersBody t tag s

end Sys2Proof.Machine
end

