-- ==== Sys2Proof/Machine/CmdSys.lean ====
section
/-! DEFINITION. The system and mesh-time commands (R273, R274, R278, R279). -/
namespace Sys2Proof.Machine

open Sys2Proof

/-- DONE without a result. -/
def pingBody (r : Nat) (_p : List Octet) (s : State) : State := done r [] s

/-- PING (R273). -/
def execPing (t : Transport) (tag : Octet) (s : State) : Host.Outcome State Fault Refusal :=
  command 0x00 anyParams pingBody t tag s

/-- The version of the image that the owning link core runs. -/
def State.firmVersion (s : State) : Word := if s.ownerB then s.lsup.verB else s.lsup.verA

/-- The part, its versions, its owner, its bank and its mode. -/
def getInfoBody (r : Nat) (_p : List Octet) (s : State) : State :=
  done r
    (natLe 4 0x298054C3 ++ word3 s.firmVersion ++ [O (s.fld R.lsupStatus 0 1)] ++ word3 (s.imageVersion (slotBase 1)) ++
      word3 (s.imageVersion (slotBase 4)) ++ natLe 2 s.otp.rollback.toNat ++ [O (if s.bank then 1 else 0), O s.mode]) s

/-- GET_INFO (R273). -/
def execGetInfo (t : Transport) (tag : Octet) (s : State) : Host.Outcome State Fault Refusal :=
  command 0x01 anyParams getInfoBody t tag s

/-- The domain's reset waits until the reply has left. -/
def resetDomainBody (r : Nat) (p : List Octet) (s : State) : State :=
  let s1 := done r [] s
  s1.setCmdp { s1.cmdp with deferred := s1.cmdp.deferred ++ [(par1 p 0, r)] }

/-- Steps 9 and 10 for RESET_DOMAIN. -/
def checkResetDomain (p : List Octet) (_s : State) : Nat :=
  legalFree (par1 p 0 ≤ 2) true

/-- RESET_DOMAIN (R273, R274). -/
def execResetDomain (t : Transport) (tag : Octet) (s : State) : Host.Outcome State Fault Refusal :=
  command 0x02 checkResetDomain resetDomainBody t tag s

/-- The causes of the domains' last resets. -/
def getCauseBody (r : Nat) (_p : List Octet) (s : State) : State :=
  done r [O (s.fld R.sysRstcause 20 4), O (s.fld R.sysRstcause 16 4), O (s.fld R.sysRstcause 12 4), O (s.fld R.sysRstcause 0 1)] s

/-- GET_RESET_CAUSE (R273). -/
def execGetResetCause (t : Transport) (tag : Octet) (s : State) : Host.Outcome State Fault Refusal :=
  command 0x03 anyParams getCauseBody t tag s

/-- Steps 9 and 10 for SET_MODE. -/
def checkSetMode (p : List Octet) (s : State) : Nat :=
  legalFree (1 ≤ par1 p 0 && par1 p 0 ≤ 5) s.pmuIdle

/-- A mode equal to the present one is DONE at once; another is requested. -/
def setModeBody (r : Nat) (p : List Octet) (s : State) : State :=
  if par1 p 0 = s.mode then done r [O s.mode] s else requestMode (par1 p 0) (.command (r / 17)) (started r s)

/-- SET_MODE (R273, R274). -/
def execSetMode (t : Transport) (tag : Octet) (s : State) : Host.Outcome State Fault Refusal :=
  command 0x04 checkSetMode setModeBody t tag s

/-- The mode, the one being entered, and the last refusal. -/
def getModeBody (r : Nat) (_p : List Octet) (s : State) : State :=
  done r [O s.mode, O (if s.modeTarget = 0xF then 0xFF else s.modeTarget), O (s.fld R.pmuRefusal 8 5), O (s.fld R.pmuRefusal 0 8)] s

/-- GET_MODE (R273). -/
def execGetMode (t : Transport) (tag : Octet) (s : State) : Host.Outcome State Fault Refusal :=
  command 0x05 anyParams getModeBody t tag s

/-- WAKEREC and its instant. -/
def wakeRecordBody (r : Nat) (_p : List Octet) (s : State) : State :=
  done r
    ([O (s.fld R.pmuWakerec0 16 8), O (s.fld R.pmuWakerec0 13 3)] ++ natLe 9 (s.multi (R.pmuWaketime 0) 3) ++
      [O (s.fld R.pmuWakerec0 4 4), O (s.fld R.pmuWakerec0 0 2)]) s

/-- GET_WAKE_RECORD (R273, R434). -/
def execGetWakeRecord (t : Transport) (tag : Octet) (s : State) : Host.Outcome State Fault Refusal :=
  command 0x06 anyParams wakeRecordBody t tag s

/-! ## Mesh time -/

/-- The counter, as the owner reads it under R12, and what stands beside it. -/
def mtGetBody (r : Nat) (_p : List Octet) (s : State) : State :=
  done r
    (natLe 9 s.mt.ctr.toNat ++ word3 (s.reg R.mtUncert) ++
      [O (s.fld R.mtSrc 8 3), O (s.fld R.mtSrc 6 2), O (s.fld R.mtParent 14 6)]) (readNow0 (linkCore s.ownerB) s).2

/-- MT_GET (R278). -/
def execMtGet (t : Transport) (tag : Octet) (s : State) : Host.Outcome State Fault Refusal :=
  command 0x20 anyParams mtGetBody t tag s

/-- The servo owns the counter: ACQUIRING or LOCKED (R279). -/
def State.servoOwns (s : State) : Bool := s.fld R.mtSrc 8 3 == 1 || s.fld R.mtSrc 8 3 == 2

/-- A step by command; as a takeover replays it, only where STEPCNT is still its GUARD (R299). -/
def mtStepBody (r : Nat) (p : List Octet) (s : State) : State :=
  if s.servoOwns then finalReply r St.locked [] s
  else if s.cmdp.replay.contains r && s.fld R.mtStatus 16 8 != bits (s.mw (recAddr r + 2)) 0 8 then done r [O (s.fld R.mtStatus 16 8)] s
  else
    let s1 := s.setMulti (R.mtStep 0) 3 (par9 p 0)
    let s2 := applyStep (s1.setMt { s1.mt with stepPend := true })
    done r [O (s2.fld R.mtStatus 16 8)] s2

/-- MT_STEP (R278, R279). -/
def execMtStep (t : Transport) (tag : Octet) (s : State) : Host.Outcome State Fault Refusal :=
  command 0x21 anyParams mtStepBody t tag s

/-- A slew by command replaces one in progress. -/
def mtSlewBody (r : Nat) (p : List Octet) (s : State) : State :=
  if s.servoOwns then finalReply r St.locked [] s
  else
    let s1 := if par1 p 6 = 0 then s else slewcfgWrite (W (par1 p 6)) s
    started r (slewReplace (ofWord3 p 3) (slew0Write (ofWord3 p 0) s1))

/-- Steps 9 and 10 for MT_SLEW. -/
def checkMtSlew (p : List Octet) (_s : State) : Nat :=
  legalFree (par1 p 6 ≤ 100) true

/-- MT_SLEW (R278, R279). -/
def execMtSlew (t : Transport) (tag : Octet) (s : State) : Host.Outcome State Fault Refusal :=
  command 0x22 checkMtSlew mtSlewBody t tag s

/-- MT_SOURCE's parameters are legal. -/
def sourceLegal (p : List Octet) : Bool :=
  par1 p 0 ≤ 3 && par1 p 1 ≤ 3 && par1 p 2 ≤ 3 && 1 ≤ par1 p 3 && par1 p 3 ≤ 15 && par2 p 4 ≤ 511 &&
    nbrIs p 6 && par1 p 11 < 32

/-- A source qualifies whose run of samples has reached QUAL; one that is not listed any more is no source (R14). -/
def requalify (s : State) : State :=
  s.setMt { s.mt with
    qual := (s.mt.qual.filter (fun e => s.prioList.contains e.1)).map (fun e => (e.1, { e.2 with qual := e.2.qual || s.runOk e.2.recent })) }

/-- MT_SOURCE (R278): the priority list, QUAL, STEPTHR, the parent, the holdover stability and the PTP options. A source in use that
the new list leaves out is lost (R15). In HOLDOVER the new stability goes into XOSTAB at once (R26). -/
def sourceBody (r : Nat) (p : List Octet) (s : State) : State :=
  let n := par2 p 6
  if n ≠ 0x1FFF ∧ !s.pinned n then finalReply r St.badParam [] s
  else
    let src := setBits (setBits (setBits (setBits (setBits (s.reg R.mtSrc) 0 2 (par1 p 0)) 2 2 (par1 p 1)) 4 2 (par1 p 2)) 11 4
      (par1 p 3)) 15 9 (par2 p 4)
    let s1 := s.setReg R.mtSrc src
    let s2 := if n = 0x1FFF then (s1.setBit R.mtParent 13 false).setFld R.mtParent 0 13 0x1FFF
      else (s1.setBit R.mtParent 13 true).setFld R.mtParent 0 13 n
    let hs := min 0xFFF (par3 p 8)
    let s3 := requalify (s2.setMt { s2.mt with holdStab := BitVec.ofNat 12 hs, parentSet := decide (n ≠ 0x1FFF) })
    let s3 := if s3.fld R.mtSrc 8 3 = 3 then s3.setFld R.mtUcfg 0 12 hs else s3
    let s4 := s3.setCmdp { s3.cmdp with ptp := (octAt p 11, octAt p 12) }
    let act_ := s4.fld R.mtSrc 6 2
    let s5 := if s4.fld R.mtSrc 8 3 = 2 ∧ !s4.prioList.contains act_ then sourceLost act_ s4 else s4
    done r [] (stratumShow s5)

/-- Steps 9 and 10 for MT_SOURCE. -/
def checkMtSource (p : List Octet) (_s : State) : Nat :=
  legalFree (sourceLegal p) true

/-- MT_SOURCE (R278). -/
def execMtSource (t : Transport) (tag : Octet) (s : State) : Host.Outcome State Fault Refusal :=
  command 0x23 checkMtSource sourceBody t tag s

/-- The servo's state, the qualified sources, the parent, the uncertainty and the offset. -/
def mtStatusBody (r : Nat) (_p : List Octet) (s : State) : State :=
  done r
    ([O (s.fld R.mtSrc 8 3), O (s.fld R.mtSrc 6 2),
      O ((List.range 4).foldl (fun a c => a + if (s.srcQual c).qual then 2 ^ c else 0) 0), O (s.fld R.mtParent 14 6)] ++
      natLe 2 (if s.bit R.mtParent 13 then s.fld R.mtParent 0 13 else 0x1FFF) ++ word3 (s.reg R.mtUncert) ++
      natLe 6 (s.multi (R.mtOffset 0) 2) ++ [O (s.fld R.mtStatus 16 8), O (s.fld R.mtStatus 0 4)]) s

/-- MT_STATUS (R278). -/
def execMtStatus (t : Transport) (tag : Octet) (s : State) : Host.Outcome State Fault Refusal :=
  command 0x24 anyParams mtStatusBody t tag s

end Sys2Proof.Machine
end

