-- ==== Sys2Proof/Machine/CmdTables.lean ====
section
/-! DEFINITION. The commands over gates and courses (R280), neighbours, routes and tone maps (R281), keys (R282, R283) and remote
windows (R284, R285). -/
namespace Sys2Proof.Machine

open Sys2Proof

/-! ## Overlap of class-0 gates (R72) -/

/-- The lanes and the chains (16 and up) that an activation of an entry holds. -/
def gateRes (w : List Word) : List Nat :=
  if isRx w then [gLane w]
  else if isTx w then (if gAction w = 3 then [16 + gBand w, gLane w] else [16 + gBand w])
  else []

/-- The gate never fires: its phase does not occur (R55). -/
def gateIdle (w : List Word) : Bool := 2 ≤ gMod w && gMod w ≤ gPhase w

/-- The airtime in µs of the beacon or sounding frame that an entry sends, under a bank's tables. -/
def State.gateAir (s : State) (bk : Bool) (w : List Word) : Nat :=
  let ((res, _), dst, _) := actFrame w bk s.now s
  match res with
  | .ok x => s.frameAir bk (s.profFor w) dst x.psdu.length (gAction w == 5)
  | .error _ => 0

/-- How long before and after its offset an activation may hold its resources, in ns: the greatest guard, the longest lead of the two
banks; a TX_BEACON or TX_SOUND frame, which DURATION does not bound, holds the chain for its airtime and ramp-down. -/
def State.gateSpan (s : State) (w : List Word) : Nat × Nat :=
  let g := 1000 * (if gAction w = 1 then gGuard w else if gAction w = 2 ∨ gAction w = 6 then s.fld R.gateGuardmax 0 16 else 0)
  let lead := fun bk => max (bits (s.bw bk (8 * routineOf w)) 0 16) (if isRx w then bits (s.bw bk (8 * routineOf w + 1)) 0 16 else 0)
  let frame := fun bk => if gAction w = 4 ∨ gAction w = 5 then s.gateAir bk w + s.rampOf bk (gBand w) (routineOf w) else gDur w
  (g + 1000 * max (lead false) (lead true), 1000 * max (frame false) (frame true) + g)

/-- Two entries of one course meet in some iteration: iterations i and i + d of the first and the second, with d of the class
that their phases allow. -/
def State.gatesMeet (s : State) (v w : List Word) : Bool :=
  let p : Int := s.period (gCourse v)
  let (vb, va) := s.gateSpan v
  let (wb, wa) := s.gateSpan w
  let lo := (gOffset v : Int) - vb - wa - gOffset w
  let hi := (gOffset v : Int) + va + wb - gOffset w
  let g : Int := Nat.gcd (max 1 (gMod v)) (max 1 (gMod w))
  let r : Int := (if gMod w < 2 then 0 else gPhase w : Nat) - (if gMod v < 2 then 0 else gPhase v : Nat)
  let dHi := (hi - 1) / p
  let d := dHi - (dHi - r) % g
  decide (lo < d * p)

/-- The new contents of an entry overlap another enabled class-0 gate of the same course. -/
def State.gateOverlap (s : State) (i : Nat) (v : List Word) : Bool :=
  gEnable v && gClass v == 0 && !gateIdle v &&
    (List.range 4096).any (fun g =>
      let w := s.gateEntry g
      g != i && gEnable w && gClass w == 0 && gCourse w == gCourse v && !gateIdle w &&
        (gateRes v).any (gateRes w).contains && s.gatesMeet v w)

/-! ## Gates and courses (R280) -/

/-- GATE_WRITE. -/
def gateWriteBody (r : Nat) (p : List Octet) (s : State) : State :=
  let i := par2 p 0
  let v := parWords p 2 6
  if (namesNbr v && !s.pinned (gNbr v)) || s.gateOverlap i v then finalReply r St.badParam [] s
  else done r [] (gateCommitWrite (W (2 ^ 12 + i)) (forAll (List.range 6) (fun j t => t.setReg (R.gateStage j) (gw v j)) s))

/-- Steps 9 and 10 for GATE_WRITE. -/
def checkGateWrite (p : List Octet) (_s : State) : Nat :=
  legalFree (par2 p 0 < 4096) true

/-- GATE_WRITE. -/
def execGateWrite (t : Transport) (tag : Octet) (s : State) : Host.Outcome State Fault Refusal :=
  command 0x30 checkGateWrite gateWriteBody t tag s

/-- Steps 9 and 10 for GATE_READ. -/
def checkGateRead (p : List Octet) (_s : State) : Nat :=
  legalFree (par2 p 0 < 4096) true

/-- The six words of an entry. -/
def gateReadBody (r : Nat) (p : List Octet) (s : State) : State := replyWords r (0x828000 + 6 * par2 p 0) 6 [] s

/-- GATE_READ. -/
def execGateRead (t : Transport) (tag : Octet) (s : State) : Host.Outcome State Fault Refusal :=
  command 0x31 checkGateRead gateReadBody t tag s

/-- COURSE_CONFIG. -/
def courseConfigBody (r : Nat) (p : List Octet) (s : State) : State :=
  let n := par1 p 0
  let s1 := periodFloor n (s.setMulti (R.coursePeriod n 0) 2 (leNat ((p.drop 1).take 5)))
  let s2 := (s1.setMulti (R.courseStart n 0) 3 (par9 p 6)).setFld (R.courseStart n 0) 0 8 0
  done r [] (s2.setFld (R.courseCfg n) 16 8 (par1 p 15))

/-- Steps 9 and 10 for COURSE_CONFIG. -/
def checkCourseConfig (p : List Octet) (s : State) : Nat :=
  legalFree (par1 p 0 < 16) (!s.courseOn (par1 p 0))

/-- COURSE_CONFIG. -/
def execCourseConfig (t : Transport) (tag : Octet) (s : State) : Host.Outcome State Fault Refusal :=
  command 0x32 checkCourseConfig courseConfigBody t tag s

/-- Steps 9 and 10 for COURSE_START. -/
def checkCourseStart (p : List Octet) (s : State) : Nat :=
  legalFree (par1 p 0 < 16) (!s.courseRun (par1 p 0))

/-- The course starts (R49). -/
def courseStartBody (r : Nat) (p : List Octet) (s : State) : State := done r [] (startCourse (par1 p 0) s)

/-- COURSE_START. -/
def execCourseStart (t : Transport) (tag : Octet) (s : State) : Host.Outcome State Fault Refusal :=
  command 0x33 checkCourseStart courseStartBody t tag s

/-- COURSE_STOP. -/
def courseStopBody (r : Nat) (p : List Octet) (s : State) : State :=
  let n := par1 p 0
  let v := s.fld (R.courseCfg n) 16 8 * 2 ^ 16 + (if bitOf (octAt p 1) 0 then 8 else 0)
  let s1 := courseCfgWrite n (W v) s
  done r [O (if s1.stopPend n then 0 else 1)] s1

/-- Steps 9 and 10 for COURSE_STOP. -/
def checkCourseStop (p : List Octet) (_s : State) : Nat :=
  legalFree (par1 p 0 < 16 && par1 p 1 ≤ 1) true

/-- COURSE_STOP. -/
def execCourseStop (t : Transport) (tag : Octet) (s : State) : Host.Outcome State Fault Refusal :=
  command 0x34 checkCourseStop courseStopBody t tag s

/-- N of HOPSEQ_WRITE. -/
def hopCount (p : List Octet) : Nat := if par1 p 3 = 0 then 256 else par1 p 3

/-- HOPSEQ_WRITE's parameters are legal. -/
def hopLegal (p : List Octet) : Bool :=
  par1 p 0 < 16 && par1 p 2 + hopCount p ≤ 256 && (List.range (hopCount p)).all (fun j => chanIs p (4 + 2 * j))

/-- HOPSEQ_WRITE: the words in ascending position, HOPLEN last. -/
def hopseqBody (r : Nat) (p : List Octet) (s : State) : State :=
  let a := 0x861000 + 256 * par1 p 0 + par1 p 2
  let s1 := engWrites a ((List.range (hopCount p)).map (fun j => W (par2 p (4 + 2 * j)))) s
  done r [] (s1.setFld (R.gateHoplen (par1 p 0)) 0 8 (par1 p 1))

/-- Steps 9 and 10 for HOPSEQ_WRITE. -/
def checkHopseqWrite (p : List Octet) (_s : State) : Nat :=
  legalFree (hopLegal p) true

/-- HOPSEQ_WRITE. -/
def execHopseqWrite (t : Transport) (tag : Octet) (s : State) : Host.Outcome State Fault Refusal :=
  command 0x35 checkHopseqWrite hopseqBody t tag s

/-! ## Neighbours (R281) -/

/-- An enabled gate, a VALID route, a VALID window or MT_PARENT names the neighbour (R191, R228). -/
def State.nbrNamed (s : State) (n : Nat) : Bool :=
  (List.range 4096).any (fun g => gEnable (s.gateEntry g) && namesNbr (s.gateEntry g) && gNbr (s.gateEntry g) == n) ||
    (List.range 16384).any (fun i => bitOf (s.mw (routeAddr i)) 16 &&
      (bits (s.mw (routeAddr i + 1)) 0 13 == n || (bits (s.mw (routeAddr i + 2)) 0 13 == n && n != 0x1FFF))) ||
    s.winNames n || (s.bit R.mtParent 13 && s.fld R.mtParent 0 13 == n)

/-- NBR_READ. -/
def nbrReadBody (r : Nat) (p : List Octet) (s : State) : State :=
  let n := if par2 p 0 = 0x1FFF then s.nbrByExt (leNat ((p.drop 2).take 8)) else some (par2 p 0)
  match n with
  | some n => replyWords r (nbrAddr n 0) 12 (natLe 2 n) s
  | none => finalReply r St.badParam [] s

/-- Steps 9 and 10 for NBR_READ. -/
def checkNbrRead (p : List Octet) (_s : State) : Nat :=
  legalFree (nbrIs p 0) true

/-- NBR_READ. -/
def execNbrRead (t : Transport) (tag : Octet) (s : State) : Host.Outcome State Fault Refusal :=
  command 0x40 checkNbrRead nbrReadBody t tag s

/-- The words an NBR_WRITE makes of an entry. -/
def State.nbrMerged (s : State) (p : List Octet) (j : Nat) : Word :=
  let v := ofWord3 p (7 + 3 * j)
  let m0 := ofWord3 p 4
  let old := s.nbr (par2 p 0) j
  if !bitOf (W (par2 p 2)) j then old else if j = 0 then (old &&& ~~~m0) ||| (v &&& m0) else v

/-- The write would give two entries one address (R186). -/
def State.nbrTwin (s : State) (p : List Octet) : Bool :=
  let w := s.nbrMerged p
  let ext := ((w 1).toNat + 2 ^ 24 * (w 2).toNat + 2 ^ 48 * (w 3).toNat) % 2 ^ 64
  bits (w 0) 0 3 != 0 &&
    (List.range 8192).any (fun m => m != par2 p 0 && s.nbrState m != 0 &&
      (s.nbrExt m == ext ||
        (bits (w 4) 0 16 != 0xFFFE && s.nbrShort m == bits (w 4) 0 16 && bits (s.nbr m 4) 16 4 == bits (w 4) 16 4)))

/-- NBR.COMMIT of an entry as link firmware writes it (R200). -/
def firmNbr (n mask : Nat) (m0 : Word) (norec : Bool) (words : List Word) (s : State) : State :=
  let s1 := forAll (List.range 12) (fun j t => t.setReg (R.nbrStage j) (words.getD j 0)) s
  nbrCommitWrite (W (n + 2 ^ 13 + (if norec then 2 ^ 14 else 0))) ((s1.setReg R.nbrWmask (W mask)).setReg R.nbrW0mask m0)

/-- NBR_WRITE: a named entry keeps its PINNED. -/
def nbrWriteBody (r : Nat) (p : List Octet) (s : State) : State :=
  done r [] (firmNbr (par2 p 0) (par2 p 2) (ofWord3 p 4) false (parWords p 7 12) s)

/-- Steps 9 and 10 for NBR_WRITE. -/
def checkNbrWrite (p : List Octet) (s : State) : Nat :=
  legalFree (nbrIs p 0 && par2 p 2 < 4096 && !s.nbrTwin p)
    (!(s.pinned (par2 p 0) && !bitOf (s.nbrMerged p 0) 3 && s.nbrNamed (par2 p 0)))

/-- NBR_WRITE. -/
def execNbrWrite (t : Transport) (tag : Octet) (s : State) : Host.Outcome State Fault Refusal :=
  command 0x41 checkNbrWrite nbrWriteBody t tag s

/-- NBR_EVICT: the entry becomes EMPTY, w0 cleared and w1 to w11 kept; its ring record unless NOREC. -/
def nbrEvictBody (r : Nat) (p : List Octet) (s : State) : State :=
  done r [] (firmNbr (par2 p 0) 1 0xFFFFFF (bitOf (octAt p 2) 0) [] s)

/-- Steps 9 and 10 for NBR_EVICT. -/
def checkNbrEvict (p : List Octet) (s : State) : Nat :=
  legalFree (nbrIs p 0 && par1 p 2 ≤ 1) (!s.nbrNamed (par2 p 0))

/-- NBR_EVICT. -/
def execNbrEvict (t : Transport) (tag : Octet) (s : State) : Host.Outcome State Fault Refusal :=
  command 0x42 checkNbrEvict nbrEvictBody t tag s

/-! ## Routes -/

/-- ROUTE_WRITE. -/
def routeWriteBody (r : Nat) (p : List Octet) (s : State) : State :=
  let i := par2 p 0
  let w := parWords p 2 4
  let next := bits (w.getD 1 0) 0 13
  let alt := bits (w.getD 2 0) 0 13
  let valid := bitOf (w.getD 0 0) 16
  if !s.pinned next || (alt != 0x1FFF && !s.pinned alt) || (valid && bits (w.getD 0 0) 0 16 != i) then
    finalReply r St.badParam [] s
  else
    done r []
      (routeCommitWrite (W (i + 2 ^ 14)) (forAll (List.range 4) (fun j t => t.setReg (R.fwdStage j) (w.getD j 0)) s))

/-- Steps 9 and 10 for ROUTE_WRITE. -/
def checkRouteWrite (p : List Octet) (_s : State) : Nat :=
  legalFree (par2 p 0 < 16384) true

/-- ROUTE_WRITE. -/
def execRouteWrite (t : Transport) (tag : Octet) (s : State) : Host.Outcome State Fault Refusal :=
  command 0x43 checkRouteWrite routeWriteBody t tag s

/-- Steps 9 and 10 for ROUTE_READ. -/
def checkRouteRead (p : List Octet) (_s : State) : Nat :=
  legalFree (par2 p 0 < 16384) true

/-- The four words of a route. -/
def routeReadBody (r : Nat) (p : List Octet) (s : State) : State := replyWords r (routeAddr (par2 p 0)) 4 [] s

/-- ROUTE_READ. -/
def execRouteRead (t : Transport) (tag : Octet) (s : State) : Host.Outcome State Fault Refusal :=
  command 0x44 checkRouteRead routeReadBody t tag s

/-! ## Tone maps -/

/-- The contents of a tone-map entry are legal: a width, and the codes of its tones (R155, R161). -/
def tmLegal (w : List Word) : Bool :=
  let width := bits (w.getD 0 0) 20 2
  width != 3 &&
    codesOk ((List.range (tlTones width)).map (fun k => bits (w.getD (1 + k / 6) 0) (4 * (k % 6)) 4))

/-- TONEMAP_WRITE: w1 to w35 first and w0 last, or VALID cleared; the entry awaits no TMHOLD. -/
def tonemapWriteBody (r : Nat) (p : List Octet) (s : State) : State :=
  let i := par2 p 0
  let t := s.setLink { s.link with old := s.link.old.filter (· != i) }
  if par1 p 2 = 1 then done r [] (engWrite (tmAddr i) (setBits (s.mw (tmAddr i)) 23 1 0) t)
  else
    let w := parWords p 3 36
    done r [] (engWrite (tmAddr i) (w.getD 0 0) (engWrites (tmAddr i + 1) (w.drop 1) t))

/-- Steps 9 and 10 for TONEMAP_WRITE. -/
def checkTonemapWrite (p : List Octet) (s : State) : Nat :=
  legalFree (1 ≤ par2 p 0 && par2 p 0 < 2048 && par1 p 2 ≤ 1 && (par1 p 2 == 1 || tmLegal (parWords p 3 36)))
    (if par1 p 2 = 1 then !s.tmNamed (par2 p 0) && !s.tmHeld (par2 p 0) else !bitOf (s.mw (tmAddr (par2 p 0))) 23)

/-- TONEMAP_WRITE. -/
def execTonemapWrite (t : Transport) (tag : Octet) (s : State) : Host.Outcome State Fault Refusal :=
  command 0x45 checkTonemapWrite tonemapWriteBody t tag s

/-- Steps 9 and 10 for TONEMAP_READ. -/
def checkTonemapRead (p : List Octet) (_s : State) : Nat :=
  legalFree (par2 p 0 < 2048) true

/-- The 36 words of a tone map. -/
def tonemapReadBody (r : Nat) (p : List Octet) (s : State) : State := replyWords r (tmAddr (par2 p 0)) 36 [] s

/-- TONEMAP_READ. -/
def execTonemapRead (t : Transport) (tag : Octet) (s : State) : Host.Outcome State Fault Refusal :=
  command 0x46 checkTonemapRead tonemapReadBody t tag s

/-! ## Keys (R282, R283) -/

/-- The first counter limit of a loaded slot, which link firmware saves and raises TXLIM to: the spec gives no number, so any
that is not 0. -/
def firstLimit (k : Nat) (s : State) : State :=
  (s.setMulti (R.keyTxlim k 0) 2 (Config.freeNat s.draws % (2 ^ 32 - 1) + 1)).drawn

/-- KEY_LOAD; as a takeover replays it, the load has been made where KEYn_SEQ = GUARD + 1 (R299). STARTED only when the walk runs. -/
def keyLoadBody (r : Nat) (p : List Octet) (s : State) : State :=
  let k := par1 p 0
  if bitOf (octAt p 2) 1 then done r (word3 0) (keyCommitWrite (W (k + 2 ^ 10)) s)
  else
    let s1 :=
      if s.cmdp.replay.contains r && s.reg (R.keySeq k) == s.mw (recAddr r + 2) + 1 then s
      else
        let st := forAll (List.range 6) (fun i t => keyStageWrite i (ofWord3 (p ++ [0, 0]) (3 + 3 * i)) t) s
        firstLimit k (keyCommitWrite (W (k + 2 ^ 4 * par1 p 1 + (if bitOf (octAt p 2) 0 then 2 ^ 8 else 0) + 2 ^ 9)) st)
    if s1.bit (R.keyCfg k) 21 then started r s1 else done r (word3 (s1.reg (R.keySeq k))) s1

/-- Steps 9 and 10 for KEY_LOAD. -/
def checkKeyLoad (p : List Octet) (s : State) : Nat :=
  legalFree (par1 p 0 < 16 && par1 p 1 < 16 && par1 p 2 < 4)
    (s.running 0x50 (fun q => octAt q 0 == octAt p 0)).isNone

/-- KEY_LOAD. -/
def execKeyLoad (t : Transport) (tag : Octet) (s : State) : Host.Outcome State Fault Refusal :=
  command 0x50 checkKeyLoad keyLoadBody t tag s

/-- A descriptor's w2 with its KEYSLOT moved, where it is of the network and the slot. -/
def moveKey (a net from_ to_ : Nat) (e : Nat × State) : Nat × State :=
  let w := e.2.mw a
  if bits w 16 4 = net ∧ bits w 8 4 = from_ then (e.1 + 1, engWrite a (setBits w 8 4 to_) e.2) else e

/-- KEY_SELECT: the descriptors of both banks. -/
def keySelectBody (r : Nat) (p : List Octet) (s : State) : State :=
  let k := par1 p 2
  if !s.keyValid k || !s.bit (R.keyCfg k) 22 || s.keyNet k != par1 p 0 then finalReply r St.badParam [] s
  else
    let l := [false, true].flatMap (fun b => (List.range 64).map (fun d => bankAt b + 0x800 + 32 * d + 2))
    let (n, t) := l.foldl (fun e a => moveKey a (par1 p 0) (par1 p 1) k e) (0, s)
    done r [O n] t

/-- Steps 9 and 10 for KEY_SELECT. -/
def checkKeySelect (p : List Octet) (_s : State) : Nat :=
  legalFree (par1 p 0 < 16 && par1 p 1 < 16 && par1 p 2 < 16) true

/-- KEY_SELECT. -/
def execKeySelect (t : Transport) (tag : Octet) (s : State) : Host.Outcome State Fault Refusal :=
  command 0x51 checkKeySelect keySelectBody t tag s

/-- What SEC_STATUS says of a key slot. -/
def secStatusBody (r : Nat) (p : List Octet) (s : State) : State :=
  let k := par1 p 0
  done r ([O (32 * s.fld (R.keyCfg k) 21 1 + 64 * s.fld (R.keyCfg k) 22 1 + 128 * s.fld (R.keyCfg k) 23 1), O (s.keyNet k)] ++
    word3 (s.reg (R.keySeq k)) ++ natLe 4 (s.txctr k) ++ natLe 4 (s.txlim k)) s

/-- Steps 9 and 10 for SEC_STATUS. -/
def checkSecStatus (p : List Octet) (_s : State) : Nat :=
  legalFree (par1 p 0 < 16) true

/-- SEC_STATUS. -/
def execSecStatus (t : Transport) (tag : Octet) (s : State) : Host.Outcome State Fault Refusal :=
  command 0x52 checkSecStatus secStatusBody t tag s

/-! ## Remote windows (R284, R285) -/

/-- A region of 2^n words at `b` is aligned and lies from `lo` up to `hi`, not included. -/
def regionIn (b n lo hi : Nat) : Bool := b % 2 ^ n == 0 && lo ≤ b && b + 2 ^ n ≤ hi

/-- The window satisfies R227. -/
def State.windowOk (s : State) (w : List Word) : Bool :=
  let g := fun i => w.getD i 0
  let n := bits (g 0) 16 5
  let b := (g 1).toNat
  (match bits (g 0) 21 2 with
   | 0 => n ≤ 21 && regionIn b n 0x600000 0x800000
   | 1 => n ≤ 13 && regionIn b n 0xA00000 0xA02000
   | 2 => n == 0
   | _ => false) &&
    bits (g 2) 0 16 ≤ bits (g 3) 0 16 && [4, 5, 6, 7].all (fun j => !bitOf (g j) 23 || s.pinned (bits (g j) 0 13))

/-- RWIN's staged words and commit, as link firmware writes an entry (R229). -/
def firmWindow (i : Nat) (w : List Word) (s : State) : State :=
  windowCommitWrite (W (i + 2 ^ 6)) (forAll (List.range 8) (fun j t => t.setReg (R.rwinStage j) (w.getD j 0)) s)

/-- WINDOW_DEFINE. -/
def windowDefineBody (r : Nat) (p : List Octet) (s : State) : State := done r [] (firmWindow (par1 p 0) (parWords p 1 8) s)

/-- Steps 9 and 10 for WINDOW_DEFINE. -/
def checkWindowDefine (p : List Octet) (s : State) : Nat :=
  legalFree (par1 p 0 < 64 && s.windowOk (parWords p 1 8)) (!s.winValid (par1 p 0))

/-- WINDOW_DEFINE. -/
def execWindowDefine (t : Transport) (tag : Octet) (s : State) : Host.Outcome State Fault Refusal :=
  command 0x58 checkWindowDefine windowDefineBody t tag s

/-- An operation checked against window `i` has not completed. -/
def State.windowBusy (s : State) (i : Nat) : Bool :=
  [s.rwin.busyC0, s.rwin.busyOther].any (fun b => match b with | some x => eWin x.op.elem == i | none => false)

/-- WINDOW_CLOSE: VALID = 0; the reply after the operations that were checked against the old contents (R229). -/
def windowCloseBody (r : Nat) (p : List Octet) (s : State) : State :=
  let i := par1 p 0
  let w := (List.range 8).map (fun j => if j = 0 then setBits (s.win i 0) 23 1 0 else s.win i j)
  let s1 := firmWindow i w s
  if s1.windowBusy i then executing r s1 else done r [] s1

/-- Steps 9 and 10 for WINDOW_CLOSE. -/
def checkWindowClose (p : List Octet) (_s : State) : Nat :=
  legalFree (par1 p 0 < 64) true

/-- WINDOW_CLOSE. -/
def execWindowClose (t : Transport) (tag : Octet) (s : State) : Host.Outcome State Fault Refusal :=
  command 0x59 checkWindowClose windowCloseBody t tag s

/-- A USER that no outstanding operation of link firmware holds, one that ABORT left outstanding among them (R288). -/
def State.windowUser (s : State) : Nat := ((List.range 256).find? (fun u => !s.cmdp.winUsers.contains u)).getD 0

/-- WINDOW_OP: a request record and the element, in buffers of the operation's class, pushed onto CFG.REQQ (R233). With no buffers, or where
the queue refuses the push, it ends BUSY (log 140). -/
def windowOpBody (r : Nat) (p : List Octet) (s : State) : State :=
  let c := bits (octAt p 2) 0 2
  let u := s.windowUser
  let w0 := W (par2 p 0 + c * 2 ^ 16 + (if bitOf (octAt p 2) 2 then 2 ^ 18 else 0))
  let w1 := W (u * 2 ^ 16 + par1 p 3 * 2 ^ 8 + s.windowCq)
  match storeFrame c [w0, w1, 0, 0, 0, 0, 0, 0] (p.drop 4) s with
  | (none, t) => finalReply r St.busy [] t
  | (some d, t) =>
    match hwPush (t.fld R.rwinCfg 0 7) d t with
    | (false, t1) => finalReply r St.busy [] t1
    | (true, t1) => engWrite (recAddr r + 4) (W u) (started r (t1.setCmdp { t1.cmdp with winUsers := t1.cmdp.winUsers ++ [u] }))

/-- Steps 9 and 10 for WINDOW_OP: RWIN has 32 slots (R234). -/
def checkWindowOp (p : List Octet) (s : State) : Nat :=
  legalFree (par2 p 0 < 0x4000 && par1 p 2 < 8 && elemOk (p.drop 4)) (s.windowsHeld < 32)

/-- WINDOW_OP. -/
def execWindowOp (t : Transport) (tag : Octet) (s : State) : Host.Outcome State Fault Refusal :=
  command 0x5A checkWindowOp windowOpBody t tag s

end Sys2Proof.Machine
end

