-- ==== Sys2Proof/Machine/CoreMem.lean ====
section
/-! DEFINITION. Data accesses of the application cores: loads, stores and SWP (R311, R312), the D-cache and its maintenance (R315,
R333), FENCE (R314), and interrupt entry (R335, R370). -/
namespace Sys2Proof.Machine

open Sys2Proof

/-! ## What a watchpoint says of an access (R341) -/

/-- The register at `a` is locked against writes (R51, R257, R258, R339, R352, R401, R415, R418). -/
def State.locked (s : State) (a : Nat) : Bool :=
  match page a with
  | 0x0D => R.mbPost 0 ≤ a && a % 8 == 0 &&
    (s.bit (R.mbStatus ((a - R.mbPost 0) / 8)) 0 || !s.accepts (2 + (a - R.mbPost 0) / 8))
  | 0x10 => a == R.eccB15mode && !s.bit R.eccOffstat 15
  | 0x05 => R.coursePeriod 0 0 ≤ a && 1 ≤ a % 16 && a % 16 ≤ 5 && s.courseOn ((a - R.courseCfg 0) / 16)
  | 0x12 =>
    R.dmaChctrl 0 ≤ a && (a % 16 == 1 || (4 ≤ a % 16 && a % 16 ≤ 7)) && s.dmaBusy ((a - R.dmaChctrl 0) / 16)
  | 0x13 =>
    if a < R.lutIn 0 then s.bit (R.evfCfg ((a - R.evfCfg 0) / 2)) 23
    else a < R.pinlvl && s.bit (R.lutCtl ((a - R.lutIn 0) / 2)) 0
  | 0x14 => a % 8 == 1 && s.gtRun ((a - R.gtCtrl 0) / 8)
  | 0x15 => R.wdCfg 0 ≤ a && a % 4 == 0 && s.bit a 23
  | _ => false

/-- The reason of a register access: 0 honoured, 1 no target, 2 MPU denied, 3 unpowered, 4 locked or write-protected. -/
def State.regReason (s : State) (w : Who) (a : Nat) (write : Bool) : Nat :=
  if (regRow a).isNone then 1
  else if !s.regPowered a then 3
  else if write then (if !s.ownsWrite w a || s.locked a then 4 else 0)
  else if !s.mayRead w a then 4
  else 0

/-- The reason of a data access of core `k`. -/
def State.accReason (s : State) (k : Fin 4) (a : Nat) (write : Bool) : Nat :=
  if !(s.core k).mpuOk a (if write then .wr else .rd) then 2
  else if regRange a then s.regReason (.app k) a write
  else
    match bankOf a with
    | some b => if !s.bankUp b then 3 else if !s.sramUp a then 1 else if write && !s.mayWriteMem (.app k) a then 4 else 0
    | none => if ospiRange a then 0 else if romRange a then (if write then 4 else 0) else 1

/-! ## The D-cache (R333): 256 sets of 2 ways of 8 words, write-back and write-allocate -/

/-- The range is cached: boot ROM, flash, application SRAM and the octal-SPI window. -/
abbrev dataCached (a : Nat) : Bool := codeRange a

/-- The D-cache serves the address: DCEN, a cached range, and the deciding region is not NC. -/
def Core.dcOn (c : Core) (a : Nat) : Bool := bitOf (c.sysReg 0x050) 1 && dataCached a && !c.mpuNc a

/-- The line that holds the address. -/
def Core.dLine (c : Core) (a : Nat) : Option CLine := c.dcache.find? (fun l => l.line == a / 8)

/-- The line that holds `a`, cleaned (DCLEAN), and cleaned and invalidated (DFLUSH). -/
def cleanLine (k : Fin 4) (a : Nat) (s : State) : Option Nat × State :=
  match (s.core k).dLine a with
  | some l => writeBack k l s
  | none => (none, s)
def flushLine (k : Fin 4) (a : Nat) (s : State) : Option Nat × State :=
  let (e, t) := cleanLine k a s
  (e, dropLine k (a / 8) t)

/-- Room in the D-cache for the line of `a`: of a full set a line leaves, written back if it is dirty. The address of a word of it that was
lost. -/
def makeRoom (k : Fin 4) (a : Nat) (s : State) : Option Nat × State :=
  let mine := (s.core k).dcache.filter (fun l => l.line % 256 == a / 8 % 256)
  if mine.length < 2 || mine.any (fun l => l.line == a / 8) then (none, s)
  else
    match mine.find? (fun l => l.way == victim (mine.map (·.way)) s.draws) with
    | some l =>
      let (e, t) := writeBack k l s.drawn
      (e, dropLine k l.line t)
    | none => (none, s.drawn)

/-- Words of a line fill; the address of the first that met an uncorrectable error. -/
def fillWords (k : Fin 4) : Nat → Nat → State → List Word × Option Nat × State
  | _, 0, s => ([], none, s)
  | a, n + 1, s =>
    let (v, err, s1) := memRead k.val a s
    if err then ([], some a, s1)
    else
      let (l, e, s2) := fillWords k (a + 1) n s1
      (v :: l, e, s2)

/-- The line of `a` brought into the D-cache, where there is room first; a failed fill allocates nothing. The address of a word lost on the
way, or of one that could not be read. -/
def fillLine (k : Fin 4) (a : Nat) (s : State) : Option Nat × State :=
  match makeRoom k a s with
  | (some e, t) => (some e, t)
  | (none, t) =>
    match fillWords k (a / 8 * 8) 8 t with
    | (_, some e, s1) => (some e, s1)
    | (ws, none, s1) =>
      let mine := (s1.core k).dcache.filter (fun l => l.line % 256 == a / 8 % 256)
      (none, s1.setCore k { s1.core k with
        dcache := { line := a / 8, way := victim (mine.map (·.way)) s1.draws, dirty := false, words := ws, bad := 0 } ::
          (s1.core k).dcache })

/-- The cached word at `a`, once its line is in. -/
def Core.dWord (c : Core) (a : Nat) : Word :=
  match c.dLine a with
  | some l => l.words.getD (a % 8) 0
  | none => 0

/-- The cached word at `a` replaced, its parity fresh. -/
def dPut (k : Fin 4) (a : Nat) (v : Word) (s : State) : State :=
  s.setCore k { s.core k with
    dcache := (s.core k).dcache.map (fun l =>
      if l.line = a / 8 then { l with dirty := true, words := listSet l.words (a % 8) v, bad := l.bad &&& ~~~(1#8 <<< (a % 8)) } else l) }

/-- The line of `a` is in the cache, or is brought in: the address of an uncorrectable error on the way. A clean line with a word that fails its
parity is brought in anew; of a dirty one that word cannot be read (R332). -/
def dEnsure (k : Fin 4) (a : Nat) (s : State) : Option Nat × State :=
  match (s.core k).dLine a with
  | some l =>
    if l.bad = 0 then (none, s)
    else if l.dirty then (if bitOf l.bad (a % 8) then some a else none, s)
    else fillLine k a (dropLine k l.line s)
  | none => fillLine k a s

/-! ## Data accesses -/

/-- A word read of core `k` without its watchpoints: the value, the address of an uncorrectable error, and the state after. -/
def rawRead (k : Fin 4) (a : Nat) (s : State) : Word × Option Nat × State :=
  if (s.core k).mpuOk a .rd && (s.core k).dcOn a then
    let (e, t) := dEnsure k a s
    ((t.core k).dWord a, e, t)
  else
    let (v, err, t) := busRead (.app k) a s
    (v, if err then some a else none, t)

/-- A word read of core `k` (R311, R327, R333). -/
def dRead (k : Fin 4) (a : Nat) (s : State) : Word × Option Nat × State :=
  let why := s.accReason k a false
  let (v, e, t) := rawRead k a s
  (v, e, watch k a v false why t)

/-- An octet read of core `k`. -/
def dReadOctet (k : Fin 4) (a lane : Nat) (s : State) : Octet × Option Nat × State :=
  let why := s.accReason k a false
  let (o, e, t) :=
    if (s.core k).mpuOk a .rd && (s.core k).dcOn a then
      let (v, e, t) := rawRead k a s
      (laneOf v lane, e, t)
    else
      let (o, err, t) := busReadOctet (.app k) a lane s
      (o, if err then some a else none, t)
  (o, e, watch k a (W o.toNat) false why t)

/-- A store that the D-cache takes: not to the boot ROM or flash, where R342 and R4 ignore it. -/
def Core.dTakes (c : Core) (a : Nat) : Bool := c.dcOn a && !romRange a

/-- A word write of core `k` without its watchpoints: into its line, or past a cache whose fill failed. A line of an offline bank's address is
no exception (log 138). -/
def rawWrite (k : Fin 4) (a : Nat) (v : Word) (s : State) : State :=
  if (s.core k).mpuOk a .wr && (s.core k).dTakes a then
    match dEnsure k a s with
    | (none, t) => dPut k a v t
    | (some _, t) => memWrite (.app k) a v t
  else busWrite (.app k) a v s

/-- The watchpoints of a write of core `k`. -/
def watchWrite (k : Fin 4) (a : Nat) (v : Word) (s : State) : State := watch k a v true (s.accReason k a true) s

/-- A word write of core `k` (R311, R327, R333). -/
def dWrite (k : Fin 4) (a : Nat) (v : Word) (s : State) : State := rawWrite k a v (watchWrite k a v s)

/-- An octet write of core `k` without its watchpoints. -/
def rawWriteOctet (k : Fin 4) (a lane : Nat) (o : Octet) (s : State) : State :=
  if (s.core k).mpuOk a .wr && (s.core k).dTakes a then
    match dEnsure k a s with
    | (none, t) => dPut k a (setLane ((t.core k).dWord a) lane o) t
    | (some _, t) => memWriteOctet (.app k) a lane o t
  else busWriteOctet (.app k) a lane o s

/-- Words read from `a` up: their values, or the address of the first uncorrectable error. -/
def dReads (k : Fin 4) : Nat → Nat → State → List Word × Option Nat × State
  | _, 0, s => ([], none, s)
  | a, n + 1, s =>
    match dRead k (a % 2 ^ 24) s with
    | (_, some e, s1) => ([], some e, s1)
    | (v, none, s1) =>
      let (l, e, s2) := dReads k (a + 1) n s1
      (v :: l, e, s2)

/-- Words written from `a` up, past the watchpoints. -/
def rawWrites (k : Fin 4) : Nat → List Word → State → State
  | _, [], s => s
  | a, v :: l, s => rawWrites k (a + 1) l (rawWrite k (a % 2 ^ 24) v s)

/-- The watchpoints of a run of writes. -/
def watchWrites (k : Fin 4) : Nat → List Word → State → State
  | _, [], s => s
  | a, v :: l, s => watchWrites k (a + 1) l (watchWrite k (a % 2 ^ 24) v s)

/-- Room for the lines that stores to `n` words from `a` up bring into the D-cache: the address of a word of a line that was lost (R332). -/
def makeRooms (k : Fin 4) (a : Nat) : Nat → State → Option Nat × State
  | 0, s => (none, s)
  | n + 1, s =>
    if (s.core k).mpuOk (a % 2 ^ 24) .wr && (s.core k).dTakes (a % 2 ^ 24) then
      match makeRoom k (a % 2 ^ 24) s with
      | (some e, t) => (some e, t)
      | (none, t) => makeRooms k (a + 1) n t
    else makeRooms k (a + 1) n s

/-- ECC_DATA on data: no register, memory word or ACC of the instruction changes (R330, R332). -/
abbrev eccData (k : Fin 4) (a : Nat) (s : State) : State := raise k 5 0 false (W a) s

/-- ECC_DATA where a word was lost, else on to what follows. -/
def eccOr (k : Fin 4) (f : State → State) (r : Option Nat × State) : State :=
  match r with
  | (some e, t) => eccData k e t
  | (none, t) => f t

/-- An instruction stores words from `a` up and is over, unless the line that its store pushes out of the D-cache is lost. The core's own state
moves on first, so that a store that restarts the core leaves it as restarted. -/
def storeWords (k : Fin 4) (a : Nat) (l : List Word) (s : State) : State :=
  eccOr k (fun t => rawWrites k a l (nextPc k t)) (makeRooms k a l.length (watchWrites k a l s))

/-- A read of `n` words from `a` up waits for the flash controller (R368). -/
def State.dataWaits (s : State) (k : Fin 4) (a n : Nat) : Bool :=
  (List.range n).any (fun i =>
    let x := (a + i) % 2 ^ 24
    s.flashWaits x && (s.core k).mpuOk x .rd && !((s.core k).dcOn x && ((s.core k).dLine x).isSome) && !s.fcHit x)

/-- An instruction that reads memory, `spans` giving the words it reads: as `coreInstr`, once none of them waits. An instruction that
raises an exception before it reads does not wait. -/
def memInstr (k : Fin 4) (word : Word) (legal priv : Bool) (spans : State → List (Nat × Nat)) (body : State → State) (s : State) :
    Host.Outcome State Fault Refusal :=
  if legal && (fetch k (resume k s)).1 == 0 && (spans s).any (fun e => s.dataWaits k e.1 e.2) then .next s else coreInstr k word legal priv body s

/-- Effective address of a word form and of an octet form (R311). -/
def ea (c : Core) (a : BitVec 4) (imm : BitVec 10) : Nat := (c.reg a.toNat + sext imm).toNat
def eaOctet (c : Core) (a : BitVec 4) (imm : BitVec 10) : Nat :=
  (c.reg a.toNat + sext (BitVec.ofNat 8 imm.toNat)).toNat

/-! ## The commands: loads and stores -/

/-- LDW (R311). -/
def execLdw (k : Fin 4) (d a : BitVec 4) (imm : BitVec 10) (s : State) : Host.Outcome State Fault Refusal :=
  memInstr k (fmtI 0x10 d a imm) true false (fun s => [(ea (s.core k) a imm, 1)])
    (fun s =>
      match dRead k (ea (s.core k) a imm) s with
      | (_, some e, t) => eccData k e t
      | (v, none, t) => putReg k d v t) s

/-- STW (R311). -/
def execStw (k : Fin 4) (d a : BitVec 4) (imm : BitVec 10) (s : State) : Host.Outcome State Fault Refusal :=
  coreInstr k (fmtI 0x11 d a imm) true false
    (fun s => storeWords k (ea (s.core k) a imm) [(s.core k).reg d.toNat] s) s

/-- A load of an octet, extended by `f`. -/
def loadOctet (k : Fin 4) (d a : BitVec 4) (imm : BitVec 10) (f : Octet → Word) (s : State) : State :=
  match dReadOctet k (eaOctet (s.core k) a imm) (bits imm 8 2) s with
  | (_, some e, t) => eccData k e t
  | (o, none, t) => putReg k d (f o) t

/-- LDO (R311). -/
def execLdo (k : Fin 4) (d a : BitVec 4) (imm : BitVec 10) (s : State) : Host.Outcome State Fault Refusal :=
  memInstr k (fmtI 0x12 d a imm) (laneOk imm) false (fun s => [(eaOctet (s.core k) a imm, 1)])
    (loadOctet k d a imm (fun o => W o.toNat)) s

/-- LDOS (R311). -/
def execLdos (k : Fin 4) (d a : BitVec 4) (imm : BitVec 10) (s : State) : Host.Outcome State Fault Refusal :=
  memInstr k (fmtI 0x13 d a imm) (laneOk imm) false (fun s => [(eaOctet (s.core k) a imm, 1)])
    (loadOctet k d a imm sext) s

/-- STO (R311). -/
def execSto (k : Fin 4) (d a : BitVec 4) (imm : BitVec 10) (s : State) : Host.Outcome State Fault Refusal :=
  coreInstr k (fmtI 0x14 d a imm) (laneOk imm) false
    (fun s =>
      let x := eaOctet (s.core k) a imm
      let o := laneOf ((s.core k).reg d.toNat) 0
      eccOr k (fun t => rawWriteOctet k x (bits imm 8 2) o (nextPc k t)) (makeRooms k x 1 (watchWrite k x (W o.toNat) s))) s

/-- LDP (R311). -/
def execLdp (k : Fin 4) (d a : BitVec 4) (imm : BitVec 10) (s : State) : Host.Outcome State Fault Refusal :=
  memInstr k (fmtI 0x15 d a imm) (pairOk d) false (fun s => [(ea (s.core k) a imm, 2)])
    (fun s =>
      match dReads k (ea (s.core k) a imm) 2 s with
      | (_, some e, t) => eccData k e t
      | (l, none, t) => nextPc k (t.setCore k ((t.core k).setPair d.toNat (l.getD 0 0) (l.getD 1 0)))) s

/-- STP (R311). -/
def execStp (k : Fin 4) (d a : BitVec 4) (imm : BitVec 10) (s : State) : Host.Outcome State Fault Refusal :=
  coreInstr k (fmtI 0x16 d a imm) (pairOk d) false
    (fun s =>
      let c := s.core k
      storeWords k (ea c a imm) [c.reg d.toNat, c.reg (d.toNat + 1)] s) s

/-- SWP's exchange once its line has left the D-cache (R312, R327): past the cache, needing both permissions. -/
def swapPast (k : Fin 4) (d : BitVec 4) (a : Nat) (s : State) : State :=
  let c := s.core k
  let v := c.reg d.toNat
  if c.mpuOk a .rd && c.mpuOk a .wr then
    let (t, err, s1) := busRead (.app k) a s
    let s2 := watch k a t false (s.accReason k a false) s1
    if err then eccData k a s2 else busWrite (.app k) a v (putReg k d t (watchWrite k a v s2))
  else putReg k d 0 (watch k a v true 2 (watch k a 0 false 2 s))

/-- SWP's exchange. -/
def swap (k : Fin 4) (d : BitVec 4) (a : Nat) (s : State) : State := eccOr k (swapPast k d a) (flushLine k a s)

/-- SWP (R312). -/
def execSwp (k : Fin 4) (d a : BitVec 4) (imm : BitVec 10) (s : State) : Host.Outcome State Fault Refusal :=
  memInstr k (fmtI 0x17 d a imm) true false (fun s => [(ea (s.core k) a imm, 1)])
    (fun s => swap k d (ea (s.core k) a imm) s) s

/-! ## FENCE and cache maintenance (R314, R315) -/

/-- FENCE (R314): every merge buffer drains (R351). -/
def execFence (k : Fin 4) (rest : BitVec 12) (s : State) : Host.Outcome State Fault Refusal :=
  coreInstr k (fmtSys rest 0x05) (rest == 0) false (fun s => nextPc k (drainAll s)) s

/-- A line operation: nothing on an address that the MPU denies. -/
def lineOp (k : Fin 4) (op : BitVec 4) (priv : Bool) (kd : AccKind) (a : BitVec 4) (imm : BitVec 10) (f : Nat → State → State)
    (s : State) : Host.Outcome State Fault Refusal :=
  coreInstr k (fmtI 0x25 op a imm) true priv
    (fun s =>
      let x := ea (s.core k) a imm
      nextPc k (if (s.core k).mpuOk x kd then f x s else s)) s

/-- A whole-cache operation. -/
def cacheOp (k : Fin 4) (op : BitVec 4) (priv : Bool) (a : BitVec 4) (imm : BitVec 10) (f : State → State) (s : State) :
    Host.Outcome State Fault Refusal :=
  coreInstr k (fmtI 0x25 op a imm) true priv (fun s => nextPc k (f s)) s

/-- ILINE (R315). -/
def execIline (k : Fin 4) (a : BitVec 4) (imm : BitVec 10) (s : State) : Host.Outcome State Fault Refusal :=
  lineOp k 0 false .ex a imm
    (fun x s => s.setCore k { s.core k with icache := (s.core k).icache.filter (fun e => e.1 != x / 8) }) s

/-- A line operation that writes back: ECC_DATA where the line is lost (R332). -/
def cleanOp (k : Fin 4) (op a : BitVec 4) (imm : BitVec 10) (f : Nat → State → Option Nat × State) (s : State) :
    Host.Outcome State Fault Refusal :=
  coreInstr k (fmtI 0x25 op a imm) true false
    (fun s =>
      let x := ea (s.core k) a imm
      eccOr k (nextPc k) (if (s.core k).mpuOk x .rd then f x s else (none, s))) s

/-- DCLEAN (R315). -/
def execDclean (k : Fin 4) (a : BitVec 4) (imm : BitVec 10) (s : State) : Host.Outcome State Fault Refusal :=
  cleanOp k 1 a imm (cleanLine k) s

/-- DFLUSH (R315). -/
def execDflush (k : Fin 4) (a : BitVec 4) (imm : BitVec 10) (s : State) : Host.Outcome State Fault Refusal :=
  cleanOp k 2 a imm (flushLine k) s

/-- DINV (R315). -/
def execDinv (k : Fin 4) (a : BitVec 4) (imm : BitVec 10) (s : State) : Host.Outcome State Fault Refusal :=
  lineOp k 3 true .rd a imm (fun x s => dropLine k (x / 8) s) s

/-- IALL (R315). -/
def execIall (k : Fin 4) (a : BitVec 4) (imm : BitVec 10) (s : State) : Host.Outcome State Fault Refusal :=
  cacheOp k 4 true a imm (fun s => s.setCore k { s.core k with icache := [] }) s

/-- DCLEANALL (R315). -/
def execDcleanall (k : Fin 4) (a : BitVec 4) (imm : BitVec 10) (s : State) : Host.Outcome State Fault Refusal :=
  coreInstr k (fmtI 0x25 5 a imm) true false (fun s => eccOr k (nextPc k) (cleanCore k s)) s

/-- Every line of the D-cache leaves it. -/
def dropAll (k : Fin 4) (s : State) : State := s.setCore k { s.core k with dcache := [] }

/-- DFLUSHALL (R315): a line that is lost stops it there. -/
def execDflushall (k : Fin 4) (a : BitVec 4) (imm : BitVec 10) (s : State) : Host.Outcome State Fault Refusal :=
  coreInstr k (fmtI 0x25 6 a imm) true false (fun s => eccOr k (fun t => nextPc k (dropAll k t)) (cleanCore k s)) s

/-- DINVALL (R315). -/
def execDinvall (k : Fin 4) (a : BitVec 4) (imm : BitVec 10) (s : State) : Host.Outcome State Fault Refusal :=
  cacheOp k 7 true a imm (dropAll k) s

/-- FCINV (R315): the shared flash cache holds no line. -/
def execFcinv (k : Fin 4) (a : BitVec 4) (imm : BitVec 10) (s : State) : Host.Outcome State Fault Refusal :=
  cacheOp k 8 true a imm (fun s => s.setFlash { s.flash with cache := [] }) s

/-! ## Interrupts -/

/-- While the core waits in the flash service, its vectors lie in the bank that is being operated on (R370). -/
def State.vectorsBusy (s : State) (k : Fin 4) : Bool :=
  (s.core k).inService &&
    (match s.flash.op with
     | some o =>
       let x := ((s.core k).sysReg 0x015).toNat
       o.result.isNone && 0x100000 ≤ x && x < 0x500000 && ((x < 0x300000) == (o.addr < 0x300000))
     | none => false)

/-- INTERRUPT_TAKE (R335): IE = 1, and the pending enabled input of highest priority stands above IPL. -/
def execInterruptTake (k : Fin 4) (s : State) : Host.Outcome State Fault Refusal :=
  match s.takeable k with
  | some n =>
    act (s.coreOnline k && !s.halted k.val && (s.core k).ie && !s.vectorsBusy k) (takeInput k n) s
  | none => .next s

end Sys2Proof.Machine
end

