-- ==== Sys2Proof/Machine/CoreCp.lean ====
section
/-! DEFINITION. The coprocessors of the application cores (R321 to R324): CP0, which computes AES, SHA-256, P-256 field arithmetic and
random words, and CP1, which works on vectors of packed complex words. -/
namespace Sys2Proof.Machine

open Sys2Proof

/-- The word of a coprocessor instruction: major 0x3C (CP0) or 0x3D (CP1). -/
abbrev cpWord (cp : Nat) (d a b : BitVec 4) (func : Nat) : Word := fmtA (0x3C + cp) d a b func

/-- Octets held in a run of words, three to a word; those of unused lanes are dropped (R321). -/
def octetsOf (n : Nat) (l : List Word) : List Octet := (wordsToOctets l).take n

/-- Words that `n` octets fill. -/
abbrev wordsFor (n : Nat) : Nat := (n + 2) / 3

/-- The address in a register, as a number. -/
abbrev Core.at_ (c : Core) (r : BitVec 4) : Nat := (c.reg r.toNat).toNat

/-- A function that reads `n` octets at [ga] and goes on with them; ECC_DATA where a read failed. -/
def withOctets (k : Fin 4) (x n : Nat) (f : List Octet → State → State) (s : State) : State :=
  match dReads k x (wordsFor n) s with
  | (_, some e, t) => eccData k e t
  | (l, none, t) => f (octetsOf n l) t

/-! ## CP0 (R322) -/

/-- AESKEY. -/
def execAeskey (k : Fin 4) (d a b : BitVec 4) (s : State) : Host.Outcome State Fault Refusal :=
  memInstr k (cpWord 0 d a b 0x01) (d == 0 && b == 0) false (fun s => [((s.core k).at_ a, 6)])
    (fun s => withOctets k ((s.core k).at_ a) 16
      (fun l t => nextPc k (t.setCore k { t.core k with aesKey := BitVec.ofNat 128 (leNat l) })) s) s

/-- The key as octets. -/
def Core.keyOctets (c : Core) : List Octet := natLe 16 c.aesKey.toNat

/-- AESENC. -/
def execAesenc (k : Fin 4) (d a b : BitVec 4) (s : State) : Host.Outcome State Fault Refusal :=
  memInstr k (cpWord 0 d a b 0x02) (b == 0) false (fun s => [((s.core k).at_ a, 6)])
    (fun s => withOctets k ((s.core k).at_ a) 16
      (fun l t => storeWords k ((t.core k).at_ d) (octetsToWords (aesEnc (t.core k).keyOctets l)) t) s) s

/-- AESDEC. -/
def execAesdec (k : Fin 4) (d a b : BitVec 4) (s : State) : Host.Outcome State Fault Refusal :=
  memInstr k (cpWord 0 d a b 0x03) (b == 0) false (fun s => [((s.core k).at_ a, 6)])
    (fun s => withOctets k ((s.core k).at_ a) 16
      (fun l t => storeWords k ((t.core k).at_ d) (octetsToWords (aesDec (t.core k).keyOctets l)) t) s) s

/-- SHAINIT. -/
def execShainit (k : Fin 4) (d a b : BitVec 4) (s : State) : Host.Outcome State Fault Refusal :=
  coreInstr k (cpWord 0 d a b 0x04) (d == 0 && a == 0 && b == 0) false
    (fun s => nextPc k (s.setCore k { s.core k with sha := shaInit })) s

/-- The SHA-256 state as eight words. -/
def Core.shaState (c : Core) : List (BitVec 32) := (List.range 8).map (fun i => c.sha.getD i 0)

/-- SHABLK. -/
def execShablk (k : Fin 4) (d a b : BitVec 4) (s : State) : Host.Outcome State Fault Refusal :=
  memInstr k (cpWord 0 d a b 0x05) (d == 0 && b == 0) false (fun s => [((s.core k).at_ a, 22)])
    (fun s => withOctets k ((s.core k).at_ a) 64
      (fun l t => nextPc k (t.setCore k { t.core k with sha := shaBlock (t.core k).shaState (shaWords 16 l) })) s) s

/-- SHAOUT. -/
def execShaout (k : Fin 4) (d a b : BitVec 4) (s : State) : Host.Outcome State Fault Refusal :=
  coreInstr k (cpWord 0 d a b 0x06) (a == 0 && b == 0) false
    (fun s => storeWords k ((s.core k).at_ d)
      (octetsToWords ((s.core k).shaState.flatMap (fun w => natBe 4 w.toNat))) s) s

/-- MODSEL. -/
def execModsel (k : Fin 4) (d a b : BitVec 4) (s : State) : Host.Outcome State Fault Refusal :=
  coreInstr k (cpWord 0 d a b 0x07) (d == 0 && b == 0) false
    (fun s => nextPc k (s.setCore k { s.core k with modN := bitOf ((s.core k).reg a.toNat) 0 })) s

/-- The modulus selected. -/
def Core.modulus (c : Core) : Nat := if c.modN then p256N else p256P

/-- A function of two 256-bit integers modulo the modulus. -/
def modOp (k : Fin 4) (d a b : BitVec 4) (f : Nat → Nat → Nat → Nat) (s : State) : State :=
  let c := s.core k
  withOctets k (c.at_ a) 32
    (fun x t => withOctets k (c.at_ b) 32
      (fun y u => storeWords k (c.at_ d) (octetsToWords (natLe 32 (f c.modulus (leNat x) (leNat y)))) u) t) s

/-- MODMUL. -/
def execModmul (k : Fin 4) (d a b : BitVec 4) (s : State) : Host.Outcome State Fault Refusal :=
  memInstr k (cpWord 0 d a b 0x08) true false (fun s => [((s.core k).at_ a, 11), ((s.core k).at_ b, 11)])
    (modOp k d a b (fun m x y => x * y % m)) s

/-- MODADD. -/
def execModadd (k : Fin 4) (d a b : BitVec 4) (s : State) : Host.Outcome State Fault Refusal :=
  memInstr k (cpWord 0 d a b 0x09) true false (fun s => [((s.core k).at_ a, 11), ((s.core k).at_ b, 11)])
    (modOp k d a b (fun m x y => (x + y) % m)) s

/-- MODSUB. -/
def execModsub (k : Fin 4) (d a b : BitVec 4) (s : State) : Host.Outcome State Fault Refusal :=
  memInstr k (cpWord 0 d a b 0x0A) true false (fun s => [((s.core k).at_ a, 11), ((s.core k).at_ b, 11)])
    (modOp k d a b subMod) s

/-- RAND: gd takes an open word. An interrupt taken in its wait is INTERRUPT_TAKE before this command. -/
def execRand (k : Fin 4) (d a b : BitVec 4) (s : State) : Host.Outcome State Fault Refusal :=
  coreInstr k (cpWord 0 d a b 0x0B) (a == 0 && b == 0) false
    (fun s => putReg k d (Config.freeWord s.draws) s.drawn) s

/-! ## CP1 (R323, R324) -/

/-- VL in force: 0 acts as 1, above 1,024 as 1,024. -/
def Core.vl (c : Core) : Nat := max 1 (min 1024 (c.sysReg 0x054).toNat)

/-- VPOS replaced. -/
def setVpos (k : Fin 4) (v : Word) (s : State) : State := s.setCore k ((s.core k).setSys 0x055 v)

/-- VSETL. -/
def execVsetl (k : Fin 4) (d a b : BitVec 4) (s : State) : Host.Outcome State Fault Refusal :=
  coreInstr k (cpWord 1 d a b 0x01) (d == 0 && b == 0) false
    (fun s => nextPc k (s.setCore k ((s.core k).setSys 0x054 (W (bits ((s.core k).reg a.toNat) 0 11))))) s

/-- A vector function ends: VPOS reads 0 and the core goes on, unless a store of its own has restarted it. -/
def vecDone (k : Fin 4) (pc : Word) (s : State) : State :=
  if (s.core k).pc = pc then nextPc k (setVpos k 0 s) else s

/-- An input that could be taken with IE = 1: one that comes while a vector function is under way, which then yields after an open number of
its elements or butterflies (R324, log 147). -/
def State.vecYields (s : State) (k : Fin 4) : Bool := (s.takeable k).isSome && (s.core k).ie

/-- How many of `n` elements a vector function gets through before it yields. -/
def vecShare (k : Fin 4) (n : Nat) (s : State) : Nat × State :=
  if s.vecYields k then (Config.freeNat s.draws % (n + 1), s.drawn) else (n, s)

/-- Elements `i` to `i + n - 1` of an element function: one or two operands read, the result written. An uncorrectable error
raises ECC_DATA and leaves VPOS at its element; the end of VL's elements ends the function, and one that yields leaves VPOS too. -/
def vecElems (k : Fin 4) (pc : Word) (dst x : Nat) (y : Option Nat) (f : Word → Word → Word) : Nat → Nat → State → State
  | 0, i, s => if (s.core k).vl ≤ i then vecDone k pc s else setVpos k (W i) s
  | n + 1, i, s =>
    let lost := fun e (t : State) => eccData k e (setVpos k (W i) t)
    let put := fun v (t : State) =>
      match makeRooms k (dst + i) 1 t with
      | (some e, u) => lost e u
      | (none, u) => vecElems k pc dst x y f n (i + 1) (dWrite k ((dst + i) % 2 ^ 24) v u)
    match dRead k ((x + i) % 2 ^ 24) s with
    | (_, some e, s1) => lost e s1
    | (v, none, s1) =>
      match y with
      | none => put (f v 0) s1
      | some b =>
        match dRead k ((b + i) % 2 ^ 24) s1 with
        | (_, some e, s2) => lost e s2
        | (u, none, s2) => put (f v u) s2

/-- An element function from VPOS to VL, or to where it yields. -/
def vecOp (k : Fin 4) (d a : BitVec 4) (y : Option Nat) (f : Word → Word → Word) (s : State) : State :=
  let c := s.core k
  let i := (c.sysReg 0x055).toNat
  let (n, t) := vecShare k (c.vl - i) s
  vecElems k c.pc (c.at_ d) (c.at_ a) y f n i t

/-- The words that an element function of one or of two vectors reads. -/
def vecSpan (k : Fin 4) (a : BitVec 4) (s : State) : Nat × Nat := ((s.core k).at_ a, (s.core k).vl)

/-- VADD. -/
def execVadd (k : Fin 4) (d a b : BitVec 4) (s : State) : Host.Outcome State Fault Refusal :=
  memInstr k (cpWord 1 d a b 0x02) true false (fun s => [vecSpan k a s, vecSpan k b s])
    (fun s => vecOp k d a (some ((s.core k).at_ b)) (fun u v => cPackSat (cI u + cI v) (cQ u + cQ v)) s) s

/-- VSUB. -/
def execVsub (k : Fin 4) (d a b : BitVec 4) (s : State) : Host.Outcome State Fault Refusal :=
  memInstr k (cpWord 1 d a b 0x03) true false (fun s => [vecSpan k a s, vecSpan k b s])
    (fun s => vecOp k d a (some ((s.core k).at_ b)) (fun u v => cPackSat (cI u - cI v) (cQ u - cQ v)) s) s

/-- VMUL. -/
def execVmul (k : Fin 4) (d a b : BitVec 4) (s : State) : Host.Outcome State Fault Refusal :=
  memInstr k (cpWord 1 d a b 0x04) true false (fun s => [vecSpan k a s, vecSpan k b s])
    (fun s => vecOp k d a (some ((s.core k).at_ b)) cMul s) s

/-- VMULC. -/
def execVmulc (k : Fin 4) (d a b : BitVec 4) (s : State) : Host.Outcome State Fault Refusal :=
  memInstr k (cpWord 1 d a b 0x05) true false (fun s => [vecSpan k a s, vecSpan k b s])
    (fun s => vecOp k d a (some ((s.core k).at_ b)) cMulConj s) s

/-- VSCALE. -/
def execVscale (k : Fin 4) (d a b : BitVec 4) (s : State) : Host.Outcome State Fault Refusal :=
  memInstr k (cpWord 1 d a b 0x06) true false (fun s => [vecSpan k a s])
    (fun s =>
      let g := (s.core k).reg b.toNat
      vecOp k d a none (fun u _ => cMul u g) s) s

/-- VPOW. -/
def execVpow (k : Fin 4) (d a b : BitVec 4) (s : State) : Host.Outcome State Fault Refusal :=
  memInstr k (cpWord 1 d a b 0x07) (b == 0) false (fun s => [vecSpan k a s])
    (vecOp k d a none (fun u _ => W (cI u * cI u + cQ u * cQ u).toNat)) s

/-- ceil(log2 n) for n up to 1,024. -/
def clog2 (n : Nat) : Nat := ((List.range 11).find? (fun s => n ≤ 2 ^ s)).getD 11

/-- The halves of a VDOT over `n` elements from `i` on, added up: the address of an uncorrectable error, the sums so far and the position. -/
def dotElems (k : Fin 4) (x y : Nat) : Nat → Nat → Int → Int → State → Option Nat × Int × Int × Nat × State
  | 0, i, re, im, s => (none, re, im, i, s)
  | n + 1, i, re, im, s =>
    match dRead k ((x + i) % 2 ^ 24) s with
    | (_, some e, s1) => (some e, re, im, i, s1)
    | (u, none, s1) =>
      match dRead k ((y + i) % 2 ^ 24) s1 with
      | (_, some e, s2) => (some e, re, im, i, s2)
      | (v, none, s2) =>
        dotElems k x y n (i + 1) (re + (cI u * cI v + cQ u * cQ v)) (im + (cQ u * cI v - cI u * cQ v)) s2

/-- What a CP1 function must find unchanged to go on (R324): its word's operands, their registers and VL, and its position. -/
def Core.vecKey (c : Core) (func : Nat) (d a b : BitVec 4) (pos : Nat) : List Nat :=
  [func, d.toNat, c.at_ a, c.at_ b, c.vl, pos]

/-- The core's record of an interrupted function replaced. -/
def setVec (k : Fin 4) (p : Option VecPart) (s : State) : State := s.setCore k { s.core k with vec := p }

/-- The record of the function that stands at its position, if it is this one's. -/
def Core.vecFind (c : Core) (key : List Nat) : Option VecPart := c.vec.filter (fun p => p.key == key)

/-- VDOT from VPOS to VL, or to where it yields. The sums of its first part are kept; where the core has none that are this function's, they are
open. -/
def vecDot (k : Fin 4) (d a b : BitVec 4) (s : State) : State :=
  let c := s.core k
  let i := (c.sysReg 0x055).toNat
  let (re, im, s0) := if i = 0 then ((0 : Int), (0 : Int), s)
    else
      match c.vecFind (c.vecKey 8 d a b i) with
      | some p => (p.re, p.im, s)
      | none => (Config.freeInt s.draws, Config.freeInt (s.draws + 1), s.drawn.drawn)
  let keep := fun (j : Nat) (x y : Int) (t : State) =>
    setVpos k (W j) (setVec k (some { key := c.vecKey 8 d a b j, re := x, im := y, input := [] }) t)
  let (n, s1) := vecShare k (c.vl - i) s0
  match dotElems k (c.at_ a) (c.at_ b) n i re im s1 with
  | (some e, x, y, j, t) => eccData k e (keep j x y t)
  | (none, x, y, j, t) =>
    if j < c.vl then keep j x y t
    else
      let m := 11 + clog2 c.vl
      putReg k d (cPackSat (roundShift x m) (roundShift y m)) (setVpos k 0 t)

/-- VDOT. -/
def execVdot (k : Fin 4) (d a b : BitVec 4) (s : State) : Host.Outcome State Fault Refusal :=
  memInstr k (cpWord 1 d a b 0x08) true false (fun s => [vecSpan k a s, vecSpan k b s]) (vecDot k d a b) s

/-- Open words, one per draw. -/
def freeWords : Nat → State → List Word × State
  | 0, s => ([], s)
  | n + 1, s =>
    let (l, t) := freeWords n s.drawn
    (Config.freeWord s.draws :: l, t)

/-- A complex number of two integers. -/
abbrev CInt := Int × Int

/-- Half of a half's value, as one stage scales it; how an odd one is rounded is open. -/
def halfOf (x : Int) : Int := if x % 2 = 0 then x / 2 else if Config.roundUp x then x / 2 + 1 else x / 2

/-- A value times the twiddle factor exp(-2πi·j/n) of a stage of `n`, conjugated for the inverse: exact for the factors 1 and -i (i for the
inverse) and for 0; the rounding of the others' products is open. -/
def twist (inverse : Bool) (n j : Nat) (o : CInt) : CInt :=
  if j = 0 ∨ o = (0, 0) then o
  else if 4 * j = n then (if inverse then (-o.2, o.1) else (o.2, -o.1))
  else Config.twiddle inverse n j o

/-- A radix-2 transform of 2^m values in natural order, scaled by 1/2 at each stage (R323): output j and j + n/2 are half the sum and half the
difference of the even values' transform and the odd values' one times the twiddle factor. -/
def fftOf (inverse : Bool) : Nat → List CInt → List CInt
  | 0, l => l
  | m + 1, l =>
    let h := 2 ^ m
    let e := fftOf inverse m ((List.range h).map (fun j => l.getD (2 * j) (0, 0)))
    let o := fftOf inverse m ((List.range h).map (fun j => l.getD (2 * j + 1) (0, 0)))
    let t := fun j => twist inverse (2 * h) j (o.getD j (0, 0))
    let a := fun j => e.getD j (0, 0)
    (List.range h).map (fun j => (halfOf ((a j).1 + (t j).1), halfOf ((a j).2 + (t j).2))) ++
      (List.range h).map (fun j => (halfOf ((a j).1 - (t j).1), halfOf ((a j).2 - (t j).2)))

/-- The transform of packed words; a half beyond its range saturates. -/
def fftWords (inverse : Bool) (l : List Word) : List Word :=
  (fftOf inverse (clog2 l.length) (l.map (fun v => (cI v, cQ v)))).map (fun z => cPackSat z.1 z.2)

/-- Butterflies of a transform of `n` values. -/
def butterflies (n : Nat) : Nat := n / 2 * clog2 n

/-- A transform of VL a power of two from 16 to 1,024, else nothing. One that yields after a butterfly leaves the vector's words open, since the
spec gives no order of the butterflies, and goes on to the transform of what it began with. An uncorrectable error leaves a position in
VPOS that the spec does not state, and what goes on from a position that is not this function's has open results. -/
def vecFft (inverse : Bool) (k : Fin 4) (a : BitVec 4) (s : State) : State :=
  let c := s.core k
  let n := c.vl
  let key := c.vecKey (if inverse then 10 else 9) 0 a 0
  let pos := (c.sysReg 0x055).toNat
  if ([16, 32, 64, 128, 256, 512, 1024].contains n) = false then nextPc k s
  else
    match dReads k (c.at_ a) n s with
    | (_, some e, t) => eccData k e (setVpos k (Config.freeWord t.draws) t.drawn)
    | (l, none, t) =>
      let from_ := if pos = 0 then some l else (c.vecFind (key pos)).map (·.input)
      let (m, u) := vecShare k (butterflies n - pos) t
      if pos + m < butterflies n then
        let (r, v) := freeWords n u
        let w := setVpos k (W (pos + m)) (setVec k (some { key := key (pos + m), re := 0, im := 0, input := from_.getD r }) v)
        if m = 0 then (if pos = 0 then t else u) else rawWrites k (c.at_ a) r (watchWrites k (c.at_ a) r w)
      else
        let (r, v) := match from_ with
          | some x => (fftWords inverse x, u)
          | none => freeWords n u
        storeWords k (c.at_ a) r (setVpos k 0 v)

/-- VFFT. -/
def execVfft (k : Fin 4) (d a b : BitVec 4) (s : State) : Host.Outcome State Fault Refusal :=
  memInstr k (cpWord 1 d a b 0x09) (d == 0 && b == 0) false (fun s => [vecSpan k a s]) (vecFft false k a) s

/-- VIFFT. -/
def execVifft (k : Fin 4) (d a b : BitVec 4) (s : State) : Host.Outcome State Fault Refusal :=
  memInstr k (cpWord 1 d a b 0x0A) (d == 0 && b == 0) false (fun s => [vecSpan k a s]) (vecFft true k a) s

end Sys2Proof.Machine
end

