-- ==== Sys2Proof/Machine/CoreMul.lean ====
section
/-! DEFINITION. Multiply, divide, fixed point, the accumulator and packed complex arithmetic (R317 to R319). -/
namespace Sys2Proof.Machine

open Sys2Proof

/-- A format-A instruction whose result is one register: gd := f ga gb. -/
def mulR (k : Fin 4) (major : Nat) (d a b : BitVec 4) (func : Nat) (legal : Bool) (f : Word → Word → Word) (s : State) :
    Host.Outcome State Fault Refusal :=
  coreInstr k (fmtA major d a b func) legal false
    (fun s => putReg k d (f ((s.core k).reg a.toNat) ((s.core k).reg b.toNat)) s) s

/-- A format-A instruction whose result is the pair gd:gd+1 (low word first), computed from the core. -/
def mulPair (k : Fin 4) (major : Nat) (d a b : BitVec 4) (func : Nat) (legal : Bool) (f : Core → Word × Word) (s : State) :
    Host.Outcome State Fault Refusal :=
  coreInstr k (fmtA major d a b func) (legal && pairOk d) false
    (fun s => nextPc k (s.setCore k ((s.core k).setPair d.toNat (f (s.core k)).1 (f (s.core k)).2))) s

/-- An accumulator instruction (majors 0x2D, 0x2E): ACC := f ACC ga gb, and SAT where it saturates. -/
def accI (k : Fin 4) (major : Nat) (d a b : BitVec 4) (func : Nat) (legal : Bool) (f : Int → Word → Word → Int)
    (s : State) : Host.Outcome State Fault Refusal :=
  coreInstr k (fmtA major d a b func) legal false
    (fun s =>
      let c := s.core k
      let r := satAcc (f c.acc.toInt (c.reg a.toNat) (c.reg b.toNat))
      nextPc k (s.setCore k { c with acc := r.1, sat := c.sat || r.2 })) s

/-- MUL (R317). -/
def execMul (k : Fin 4) (d a b : BitVec 4) (s : State) : Host.Outcome State Fault Refusal :=
  mulR k 0x28 d a b 0x01 true (fun x y => BitVec.ofNat 24 (x.toNat * y.toNat)) s

/-- MULH (R317). -/
def execMulh (k : Fin 4) (d a b : BitVec 4) (s : State) : Host.Outcome State Fault Refusal :=
  mulR k 0x28 d a b 0x02 true (fun x y => BitVec.ofInt 24 (x.toInt * y.toInt / 2 ^ 24)) s

/-- MULHU (R317). -/
def execMulhu (k : Fin 4) (d a b : BitVec 4) (s : State) : Host.Outcome State Fault Refusal :=
  mulR k 0x28 d a b 0x03 true (fun x y => W (x.toNat * y.toNat / 2 ^ 24)) s

/-- DIV (R318). -/
def execDiv (k : Fin 4) (d a b : BitVec 4) (s : State) : Host.Outcome State Fault Refusal :=
  mulR k 0x29 d a b 0x01 true (fun x y => (divS x y).1) s

/-- DIVU (R318). -/
def execDivu (k : Fin 4) (d a b : BitVec 4) (s : State) : Host.Outcome State Fault Refusal :=
  mulR k 0x29 d a b 0x02 true (fun x y => (divU x y).1) s

/-- REM (R318). -/
def execRem (k : Fin 4) (d a b : BitVec 4) (s : State) : Host.Outcome State Fault Refusal :=
  mulR k 0x29 d a b 0x03 true (fun x y => (divS x y).2) s

/-- REMU (R318). -/
def execRemu (k : Fin 4) (d a b : BitVec 4) (s : State) : Host.Outcome State Fault Refusal :=
  mulR k 0x29 d a b 0x04 true (fun x y => (divU x y).2) s

/-- FMUL (R319). -/
def execFmul (k : Fin 4) (d a b : BitVec 4) (s : State) : Host.Outcome State Fault Refusal :=
  mulR k 0x2C d a b 0x01 true (fun x y => satWord (roundShift (x.toInt * y.toInt) 23)) s

/-- FMULT (R319). -/
def execFmult (k : Fin 4) (d a b : BitVec 4) (s : State) : Host.Outcome State Fault Refusal :=
  mulR k 0x2C d a b 0x02 true (fun x y => satWord (x.toInt * y.toInt / 2 ^ 23)) s

/-- CADD (R319). -/
def execCadd (k : Fin 4) (d a b : BitVec 4) (s : State) : Host.Outcome State Fault Refusal :=
  mulR k 0x2F d a b 0x01 true (fun x y => cPack (cI x + cI y) (cQ x + cQ y)) s

/-- CADDS (R319). -/
def execCadds (k : Fin 4) (d a b : BitVec 4) (s : State) : Host.Outcome State Fault Refusal :=
  mulR k 0x2F d a b 0x02 true (fun x y => cPackSat (cI x + cI y) (cQ x + cQ y)) s

/-- CSUB (R319). -/
def execCsub (k : Fin 4) (d a b : BitVec 4) (s : State) : Host.Outcome State Fault Refusal :=
  mulR k 0x2F d a b 0x03 true (fun x y => cPack (cI x - cI y) (cQ x - cQ y)) s

/-- CSUBS (R319). -/
def execCsubs (k : Fin 4) (d a b : BitVec 4) (s : State) : Host.Outcome State Fault Refusal :=
  mulR k 0x2F d a b 0x04 true (fun x y => cPackSat (cI x - cI y) (cQ x - cQ y)) s

/-- CCONJ (R319). -/
def execCconj (k : Fin 4) (d a b : BitVec 4) (s : State) : Host.Outcome State Fault Refusal :=
  mulR k 0x2F d a b 0x05 (b == 0) (fun x _ => cPackSat (cI x) (-(cQ x))) s

/-- CMUL (R319). -/
def execCmul (k : Fin 4) (d a b : BitVec 4) (s : State) : Host.Outcome State Fault Refusal :=
  mulR k 0x2F d a b 0x06 true (fun x y => cMul x y) s

/-- MULL: the signed 48-bit product (R317). -/
def execMull (k : Fin 4) (d a b : BitVec 4) (s : State) : Host.Outcome State Fault Refusal :=
  mulPair k 0x28 d a b 0x04 true
    (fun c =>
      let p := BitVec.ofInt 48 ((c.reg a.toNat).toInt * (c.reg b.toNat).toInt)
      (wordOf p 0, wordOf p 1)) s

/-- MULLU: the unsigned 48-bit product (R317). -/
def execMullu (k : Fin 4) (d a b : BitVec 4) (s : State) : Host.Outcome State Fault Refusal :=
  mulPair k 0x28 d a b 0x05 true
    (fun c =>
      let p := BitVec.ofNat 48 ((c.reg a.toNat).toNat * (c.reg b.toNat).toNat)
      (wordOf p 0, wordOf p 1)) s

/-- MUL.K: low 24 bits of a × sext(imm) (R317). -/
def execMulK (k : Fin 4) (d a : BitVec 4) (imm : BitVec 10) (s : State) : Host.Outcome State Fault Refusal :=
  aluI k 0x2A d a imm true (fun x => BitVec.ofInt 24 (x.toInt * (sext imm).toInt)) s

/-- DIVL: the pair a ÷ gb, quotient to gd, remainder to gd+1 (R317, R318). -/
def execDivl (k : Fin 4) (d a b : BitVec 4) (s : State) : Host.Outcome State Fault Refusal :=
  mulPair k 0x2B d a b 0x01 (pairOk a) (fun c => divPair true (c.pair a.toNat) (c.reg b.toNat)) s

/-- DIVLU: as DIVL, unsigned. -/
def execDivlu (k : Fin 4) (d a b : BitVec 4) (s : State) : Host.Outcome State Fault Refusal :=
  mulPair k 0x2B d a b 0x02 (pairOk a) (fun c => divPair false (c.pair a.toNat) (c.reg b.toNat)) s

/-- MAC: ACC := ACC + a × b (R319). -/
def execMac (k : Fin 4) (d a b : BitVec 4) (s : State) : Host.Outcome State Fault Refusal :=
  accI k 0x2D d a b 0x01 true (fun c x y => c + x.toInt * y.toInt) s

/-- MSU: ACC := ACC − a × b. -/
def execMsu (k : Fin 4) (d a b : BitVec 4) (s : State) : Host.Outcome State Fault Refusal :=
  accI k 0x2D d a b 0x02 true (fun c x y => c - x.toInt * y.toInt) s

/-- MACZ: ACC := a × b. -/
def execMacz (k : Fin 4) (d a b : BitVec 4) (s : State) : Host.Outcome State Fault Refusal :=
  accI k 0x2D d a b 0x03 (d == 0) (fun _ x y => x.toInt * y.toInt) s

/-- ACCR: gd := ACC rounded and saturated to Q0.23 (R319). -/
def execAccr (k : Fin 4) (d a b : BitVec 4) (s : State) : Host.Outcome State Fault Refusal :=
  coreInstr k (fmtA 0x2E d a b 0x01) (a == 0 && b == 0) false
    (fun s => putReg k d (satWord (roundShift (s.core k).acc.toInt 23)) s) s

/-- ACCW: ACC := sext(ga) × 2^23. -/
def execAccw (k : Fin 4) (d a b : BitVec 4) (s : State) : Host.Outcome State Fault Refusal :=
  accI k 0x2E d a b 0x02 (d == 0 && b == 0) (fun _ x _ => x.toInt * 2 ^ 23) s

/-- ACCSH: ACC shifted right arithmetically by gb[5:0]. -/
def execAccsh (k : Fin 4) (d a b : BitVec 4) (s : State) : Host.Outcome State Fault Refusal :=
  accI k 0x2E d a b 0x03 (d == 0 && a == 0) (fun c _ y => c / 2 ^ min 55 (bits y 0 6)) s

end Sys2Proof.Machine
end

