-- ==== Sys2Proof/Machine/DmaEng.lean ====
section
/-! DEFINITION. The DMA channels' programs (R388 to R402): instructions, transfers and faults. -/
namespace Sys2Proof.Machine

open Sys2Proof

/-- ILLEGAL at the instruction. -/
def dmaIllegal (n : Nat) (s : State) : State := dmaFault n 2 (s.dmaPcOf n) s

/-! ## Fetch (R388, R389) -/

/-- The ranges a program runs from. -/
def dmaCodeRange (a : Nat) : Bool :=
  (0x600000 ≤ a && a < 0x800000) || (0x800000 ≤ a && a < 0x880000) || (0xA00000 ≤ a && a < 0xA02000)

/-- A program word; 0 from any other range. -/
def dmaFetch (a : Nat) (s : State) : Word × Bool × State := if dmaCodeRange a then memRead 6 a s else (0, false, s)

/-- Program words from `a` up, with the address of the first that failed. -/
def dmaFetches : Nat → Nat → State → List Word × Option Nat × State
  | _, 0, s => ([], none, s)
  | a, k + 1, s =>
    let (v, err, s1) := dmaFetch (a % 2 ^ 24) s
    if err then ([], some (a % 2 ^ 24), s1)
    else
      let (l, e, s2) := dmaFetches (a + 1) k s1
      (v :: l, e, s2)

/-- OP of a first word, and whether it is reserved. -/
abbrev dmaOp (w0 : Word) : Nat := bits w0 20 4
abbrev dmaOpReserved (w0 : Word) : Bool := dmaOp w0 == 0 || 9 ≤ dmaOp w0

/-- The channel is about to execute an instruction. -/
def State.dmaReady (s : State) (n : Nat) : Bool :=
  s.chipRuns && s.dmaSt n == 1 && !(s.dmaCh n).moving && !(s.dmaCh n).sync

/-- Channel `n` executes its next instruction, which is OP `op` of `words` words: nothing where another instruction stands there; a
reserved OP stops the channel. -/
def dmaInstr (n op words : Nat) (body : List Word → State → State) (s : State) : State :=
  let pc := s.dmaPcOf n
  let (w0, err, s1) := dmaFetch pc s
  if err then dmaEcc n pc pc s1
  else if dmaOpReserved w0 then dmaIllegal n s1
  else if dmaOp w0 ≠ op then s
  else
    match dmaFetches (pc + 1) (words - 1) s1 with
    | (_, some a, s2) => dmaEcc n pc a s2
    | (l, none, s2) => body (w0 :: l) s2

/-! ## MOVE (R390 to R393) -/

/-- A MOVE is set up: pointers and REMAIN; one of no units is over. -/
def dmaMove (n : Nat) (l : List Word) (s : State) : State :=
  let w0 := l.getD 0 0
  if !mvOk w0 then dmaIllegal n s
  else
    let dreg := s.reg (R.dmaPtrs n 3)
    let src := if mvFrame w0 false then frameStart dreg else if bitOf w0 3 then s.reg (R.dmaPtrs n 0) else l.getD 1 0
    let dst := if mvFrame w0 true then frameStart dreg else if bitOf w0 2 then s.reg (R.dmaPtrs n 1) else l.getD 2 0
    let cnt := if mvFrame w0 false then W (bits dreg 12 12) else l.getD 3 0
    let s1 := ((s.setReg (R.dmaPtrs n 0) src).setReg (R.dmaPtrs n 1) dst).setReg (R.dmaPtrs n 2) cnt
    if cnt = 0 then dmaNext n 4 s1 else s1.setDma n { s1.dmaCh n with moving := true, insn := w0 }

/-- A unit read: its value and whether it met an uncorrectable error. -/
def unitRead (n : Fin 32) (w0 : Word) (a : Nat) (s : State) : Word × Bool × State :=
  if mvOct w0 false then
    if octNamed a then
      let (o, err, t) := busReadOctet (.dma n) (octWord a) (a % 3) s
      (W o.toNat, err, t)
    else (0, false, s)
  else
    let (v, err, t) := busRead (.dma n) a s
    (if mvOctets w0 then W (bits v 0 8) else v, err, t)

/-- A unit written: to memory as a port accepts it, to a register at once. -/
def unitPut (n : Nat) (w0 : Word) (x : Nat) (v : Word) (s : State) : State :=
  if (bankOf (unitWord w0 true x)).isSome then memPut n w0 x v s
  else if mvOct w0 true then
    if octNamed x then busWriteOctet (.dma (Fin.ofNat 32 n)) (octWord x) (x % 3) (laneOf v 0) s else s
  else busWrite (.dma (Fin.ofNat 32 n)) x v s

/-- Up to `k` units read from pointer `a`: the values, the pointer after them, and an early end. -/
def readUnits (n : Fin 32) (w0 : Word) : Nat → Nat → State → List Word × Nat × Option BurstEnd × State
  | 0, a, s => ([], a, none, s)
  | k + 1, a, s =>
    match unitAddr w0 false a s with
    | (.error (some lw), s1) => ([], a, some (.ecc a lw), s1)
    | (.error none, s1) => ([], a, some (.chain a), s1)
    | (.ok x, s1) =>
      let (v, err, s2) := unitRead n w0 x s1
      if err then ([], x, some (.ecc x (unitWord w0 false x)), s2)
      else
        let (l, p, e, s3) := readUnits n w0 k (mvStep w0 false x) s2
        (v :: l, p, e, s3)

/-- A burst of `k` units is read into the shared buffer: SPTR follows. An uncorrectable error stops the channel once the units before the
failing one, and every earlier burst of it, are written (R402); the end of a chain likewise. -/
def readBurst (n : Fin 32) (k : Nat) (s : State) : State :=
  let (l, sp, e, s1) := readUnits n (s.dmaCh n).insn k (s.reg (R.dmaPtrs n 0)).toNat s
  let s2 := s1.setReg (R.dmaPtrs n 0) (W sp)
  let s3 := if l.isEmpty then s2 else { s2 with dmaBuf := s2.dmaBuf ++ [{ ch := n, units := l }] }
  match e with
  | some x =>
    let s4 := flushCh unitPut n s3
    if s4.dmaSt n = 6 then s4 else burstFault n x s4
  | none => s3

/-! ## Which burst is next (R399, R400) -/

/-- The channel has a burst to read. -/
def State.wantsBurst (s : State) (n : Nat) : Bool := s.dmaSt n == 1 && (s.dmaCh n).moving && s.toRead n != 0

/-- The budget that SHARE leaves channel `n` in the present window: no limit where SHARE = 0 (R400). -/
def State.budget (s : State) (n : Nat) : Nat :=
  let share := s.fld (R.dmaRate n) 0 8
  if share = 0 then 16 else share - tabLook 0 s.dmaUsed n

/-- Units of the next burst: at most 16, to the end of the MOVE, within the budget. -/
def State.burstUnits (s : State) (n : Nat) : Nat := min (min 16 (s.toRead n)) (s.budget n)

/-- Eight channels are in flight, and channel `n` is not one of them (R399). -/
def State.slotsFull (s : State) (n : Nat) : Bool := decide (8 ≤ s.inFlight.length) && !s.inFlight.contains n

/-- A new window of the bus clock: every budget is whole. -/
def newWindow (fresh : Bool) (s : State) : State := if fresh then { s with dmaUsed := [] } else s

/-- Pointers of the next `k` units of a word source. -/
def mvAddrs (w0 : Word) : Nat → Nat → List Nat
  | 0, _ => []
  | k + 1, a => a :: mvAddrs w0 k (mvStep w0 false a)

/-- A unit of the burst waits for the flash controller (R368). -/
def State.burstWaits (s : State) (n k : Nat) : Bool :=
  let w0 := (s.dmaCh n).insn
  !mvOct w0 false && (mvAddrs w0 k (s.reg (R.dmaPtrs n 0)).toNat).any s.flashWaits

/-- A channel has a burst that no budget, no slot and no flash controller holds back. -/
def State.burstReady (s : State) (n : Nat) : Bool :=
  s.chipRuns && s.bit R.dmaCtrl 0 && s.wantsBurst n && s.burstUnits n != 0 && !s.slotsFull n && !s.burstWaits n (s.burstUnits n)

/-- An operation waits at the head of a pipeline of RWIN. -/
def State.rwinReady (s : State) (c0 : Bool) : Bool := s.rwinOn && (s.rwinBusy c0).isNone && !(s.rwinPipe c0).isEmpty

/-- Of a ring of `m` places, `x` comes after the last one served and before `n`. -/
def ringBefore (m last x n : Nat) : Bool := decide ((x + m - last - 1) % m < (n + m - last - 1) % m)

/-- Something is served before a burst of channel `n` (R399): an operation of class 0, a channel of higher level, or what stands before it
in the turn of its level, RWIN's other operations at place 32 of the lower one. -/
def State.outranked (s : State) (n : Nat) : Bool :=
  let pri := fun m => s.bit (R.dmaChctrl m) 2
  s.rwinReady true ||
    (if pri n then (List.range 32).any (fun m => pri m && s.burstReady m && ringBefore 32 s.dmaTurn.1 m n)
     else (List.range 32).any (fun m => s.burstReady m && (pri m || ringBefore 33 s.dmaTurn.2 m n)) ||
      (s.rwinReady false && ringBefore 33 s.dmaTurn.2 32 n))

/-- Something is served before an operation of RWIN: for one of class 1 to 3 one of class 0, a channel with PRI = 1, or a channel before it
in the turn. -/
def State.rwinWaits (s : State) (c0 : Bool) : Bool :=
  !c0 && (s.rwinReady true ||
    (List.range 32).any (fun m => s.burstReady m && (s.bit (R.dmaChctrl m) 2 || ringBefore 33 s.dmaTurn.2 m 32)))

/-- Channel `n` has had its turn. -/
def turnTaken (n : Nat) (s : State) : State :=
  { s with dmaTurn := if s.bit (R.dmaChctrl n) 2 then (n, s.dmaTurn.2) else (s.dmaTurn.1, n) }

/-- An operation of RWIN has had its turn. -/
def rwinTurn (c0 : Bool) (s : State) : State := if c0 then s else { s with dmaTurn := (s.dmaTurn.1, 32) }

/-- The engines act for channel `n`: it has a burst to read and its turn has come; or its MOVE is read and its bursts leave; or it waits for a
slot, and the oldest burst leaves. -/
def State.burstOk (s : State) (n : Nat) (at_ : BurstTime) : Bool :=
  let t := newWindow at_.fresh s
  s.chipRuns && s.dmaSt n == 1 && (s.dmaCh n).moving && (s.toRead n == 0 || s.slotsFull n || (t.burstReady n && !t.outranked n))

/-- The read engine turns to channel `n` (R399): a burst into the buffer, counted against its budget; and as many of the oldest bursts as the
time allows leave the write engine. -/
def dmaBurst (n : Fin 32) (at_ : BurstTime) (s : State) : State :=
  let t := newWindow at_.fresh s
  if t.toRead n = 0 then flushCh unitPut n t
  else if t.slotsFull n then writeOldest unitPut t
  else
    let k := t.burstUnits n
    let u := readBurst n k (turnTaken n { t with dmaUsed := tabPut 0 t.dmaUsed n (tabLook 0 t.dmaUsed n + k) })
    writeSome unitPut (min at_.leave u.dmaBuf.length) u

/-! ## LOOP, WAIT, SIGNAL, queues, SYNC, END (R394 to R398) -/

/-- ACTIVE of loop counter `l`. -/
def DmaCh.on (x : DmaCh) (l : Nat) : Bool := if l = 0 then x.on0 else x.on1

/-- ACTIVE of loop counter `l` replaced. -/
def DmaCh.setOn (x : DmaCh) (l : Nat) (b : Bool) : DmaCh := if l = 0 then { x with on0 := b } else { x with on1 := b }

/-- LOOP (R394). -/
def dmaLoop (n : Nat) (l : List Word) (s : State) : State :=
  let w0 := l.getD 0 0
  let count := l.getD 1 0
  let j := bits w0 19 1
  let back := bits w0 0 18
  if bitOf w0 18 || back == 0 then dmaIllegal n s
  else
    let s1 := if (s.dmaCh n).on j then s else (s.setReg (R.dmaLc n j) count).setDma n ((s.dmaCh n).setOn j true)
    if s1.reg (R.dmaLc n j) = 0 then dmaNext n 2 (s1.setDma n ((s1.dmaCh n).setOn j false))
    else
      let s2 := if count = 0xFFFFFF then s1 else s1.setReg (R.dmaLc n j) (s1.reg (R.dmaLc n j) - 1)
      s2.setReg (R.dmaPc n) (s2.reg (R.dmaPc n) - W back)

/-- The channel waits in its WAIT or QPOP. -/
def dmaHold (n : Nat) (w0 w1 : Word) (s : State) : State :=
  (s.setDma n { s.dmaCh n with insn := w0, arg := w1 }).setDmaSt n 2

/-- One trigger is taken (R395). -/
def takeTrig (n : Nat) (s : State) : State :=
  s.setFld (R.dmaChstatus n) 4 4 (s.fld (R.dmaChstatus n) 4 4 - 1)

/-- A pop into DREG. -/
def popDreg (n q : Nat) (s : State) : State :=
  let (v, t) := qPop q s
  t.setReg (R.dmaPtrs n 3) v

/-- What the WAIT or QPOP waits for is there now; a delay has no such sign. -/
def State.dmaMet (s : State) (n : Nat) (w0 : Word) : Bool :=
  if dmaOp w0 = 5 then s.qCount (bits w0 0 7) != 0
  else
    match bits w0 18 2 with
    | 0 => s.fld (R.dmaChstatus n) 4 4 != 0
    | 1 => s.qCount (bits w0 0 7) != 0
    | _ => false

/-- The wait ends: a trigger is taken, a word popped, and the channel goes on. -/
def dmaGoOn (n : Nat) (w0 : Word) (s : State) : State :=
  if dmaOp w0 = 5 then dmaNext n 2 (popDreg n (bits w0 0 7) s)
  else if bits w0 18 2 = 0 then dmaNext n 2 (takeTrig n s)
  else dmaNext n 2 s

/-- WAIT (R395). -/
def dmaWait (n : Nat) (l : List Word) (s : State) : State :=
  let w0 := l.getD 0 0
  let w1 := l.getD 1 0
  if bits w0 7 11 != 0 || bits w0 18 2 == 3 then dmaIllegal n s
  else if s.dmaMet n w0 || (bits w0 18 2 == 2 && w1 == 0) then dmaGoOn n w0 s
  else dmaHold n w0 w1 s

/-- The wait is for a time that passes, not for a sign. -/
def isDelay (w0 : Word) : Bool := dmaOp w0 == 3 && bits w0 18 2 == 2

/-- TMO has passed: the channel stops with TIMEOUT (R395, R397). -/
def dmaTimeout (n : Nat) (s : State) : State := dmaFault n 3 (s.dmaPcOf n) s

/-- A push by channel `n` (R218, R397): one that QM refuses sets PUSHFAIL, and frees the buffers of a queue of frames. -/
def dmaPush (n : Fin 32) (q : Nat) (v : Word) (s : State) : State :=
  if s.mayWrite (.dma n) (R.qPush q) then
    let (ok, t) := qPush q v s
    if ok then t else (when (s.bit (R.qCfg q) 21 && v != 0xFFFFFF) (freeChain v) t).setBit (R.dmaChstatus n) 9 true
  else s

/-- Bit n of IFLAG. -/
def dmaFlag (n : Nat) (s : State) : State :=
  let a := if n < 24 then R.dmaIflag0 else R.dmaIflag1
  let t := s.setBit a (n % 24) true
  if s.bit a (n % 24) then t else fire 0x2B t

/-- SIGNAL (R396). -/
def dmaSignal (n : Fin 32) (l : List Word) (s : State) : State :=
  let w0 := l.getD 0 0
  if bits w0 7 11 ≠ 0 then dmaIllegal n s
  else
    match bits w0 18 2 with
    | 0 => dmaNext n 2 (fire (0x2D + bits w0 0 3) s)
    | 1 => dmaNext n 2 (dmaFlag n s)
    | 2 => dmaNext n 2 (dmaPush n (bits w0 0 7) (l.getD 1 0) s)
    | _ => dmaIllegal n s

/-- QPOP (R397): a refused pop yields 0. -/
def dmaQpop (n : Fin 32) (l : List Word) (s : State) : State :=
  let w0 := l.getD 0 0
  let q := bits w0 0 7
  if bits w0 7 13 ≠ 0 then dmaIllegal n s
  else if !s.mayRead (.dma n) (R.qPop q) then dmaNext n 2 (s.setReg (R.dmaPtrs n 3) 0)
  else if s.dmaMet n w0 then dmaGoOn n w0 s
  else dmaHold n w0 (l.getD 1 0) s

/-- QPUSH (R397). -/
def dmaQpush (n : Fin 32) (l : List Word) (s : State) : State :=
  let w0 := l.getD 0 0
  if bits w0 7 13 ≠ 0 then dmaIllegal n s
  else dmaNext n 1 (dmaPush n (bits w0 0 7) (s.reg (R.dmaPtrs n 3)) s)

/-- SYNC (R398): at once before any write; else its read-back is out. -/
def dmaSync (n : Nat) (l : List Word) (s : State) : State :=
  if bits (l.getD 0 0) 0 20 ≠ 0 then dmaIllegal n s
  else
    match (s.dmaCh n).last with
    | none => dmaNext n 1 s
    | some _ => s.setDma n { s.dmaCh n with sync := true }

/-- The read-back returns (R351, R398): what the port had accepted has landed. -/
def dmaSyncDone (n : Fin 32) (s : State) : State :=
  let a := (s.dmaCh n).last.getD 0
  let (_, err, s2) := busRead (.dma n) a (syncLand n s)
  let s3 := s2.setDma n { s2.dmaCh n with sync := false }
  if err then dmaEcc n a a s3 else s3.setReg (R.dmaPc n) (W (s3.dmaPcOf n + 1))

/-- END (R389): DONE. Whether PC then names the END or the word after it is open. -/
def dmaEnd (n : Nat) (l : List Word) (s : State) : State :=
  if bits (l.getD 0 0) 0 20 ≠ 0 then dmaIllegal n s
  else (dmaNext n (if Config.freeBool s.draws then 1 else 0) s.drawn).setDmaSt n 5

/-! ## The commands -/

/-- DMA_MOVE (R390). -/
def execDmaMove (n : Fin 32) (s : State) : Host.Outcome State Fault Refusal :=
  act (s.dmaReady n) (dmaInstr n 1 4 (dmaMove n)) s

/-- DMA_LOOP (R394). -/
def execDmaLoop (n : Fin 32) (s : State) : Host.Outcome State Fault Refusal :=
  act (s.dmaReady n) (dmaInstr n 2 2 (dmaLoop n)) s

/-- DMA_WAIT (R395). -/
def execDmaWait (n : Fin 32) (s : State) : Host.Outcome State Fault Refusal :=
  act (s.dmaReady n) (dmaInstr n 3 2 (dmaWait n)) s

/-- DMA_WAIT_END (R395, R397). -/
def execDmaWaitEnd (n : Fin 32) (s : State) : Host.Outcome State Fault Refusal :=
  act (s.chipRuns && s.dmaSt n == 2 && (s.dmaMet n (s.dmaCh n).insn || isDelay (s.dmaCh n).insn))
    (fun s => dmaGoOn n (s.dmaCh n).insn s) s

/-- DMA_TIMEOUT (R395, R397). -/
def execDmaTimeout (n : Fin 32) (s : State) : Host.Outcome State Fault Refusal :=
  act (s.chipRuns && s.dmaSt n == 2 && !isDelay (s.dmaCh n).insn && (s.dmaCh n).arg != 0 && !s.dmaMet n (s.dmaCh n).insn)
    (dmaTimeout n) s

/-- DMA_SIGNAL (R396). -/
def execDmaSignal (n : Fin 32) (s : State) : Host.Outcome State Fault Refusal :=
  act (s.dmaReady n) (dmaInstr n 4 2 (dmaSignal n)) s

/-- DMA_QPOP (R397). -/
def execDmaQpop (n : Fin 32) (s : State) : Host.Outcome State Fault Refusal :=
  act (s.dmaReady n) (dmaInstr n 5 2 (dmaQpop n)) s

/-- DMA_QPUSH (R397). -/
def execDmaQpush (n : Fin 32) (s : State) : Host.Outcome State Fault Refusal :=
  act (s.dmaReady n) (dmaInstr n 6 1 (dmaQpush n)) s

/-- DMA_SYNC (R398). -/
def execDmaSync (n : Fin 32) (s : State) : Host.Outcome State Fault Refusal :=
  act (s.dmaReady n) (dmaInstr n 7 1 (dmaSync n)) s

/-- DMA_SYNC_DONE (R398). -/
def execDmaSyncDone (n : Fin 32) (s : State) : Host.Outcome State Fault Refusal :=
  act (s.chipRuns && (s.dmaCh n).sync) (dmaSyncDone n) s

/-- A stopping channel's bursts finish, their reads and their writes; it reads STOPPED, and a start that was held acts (R401). -/
def dmaStopped (n : Nat) (s0 : State) : State :=
  let s := flushCh unitPut n s0
  let x := s.dmaCh n
  let s1 := when (s.dmaSt n == 3) (·.setDmaSt n 4) (s.setDma n { x with held := none })
  match x.held with
  | some v => dmaStart n (bitOf v 1) s1
  | none => s1

/-- CHANNEL_STOPPED (R401): not while a SYNC's read-back is out. -/
def execChannelStopped (n : Fin 32) (s : State) : Host.Outcome State Fault Refusal :=
  act (s.alive && s.dmaSt n.val == 3 && !(s.dmaCh n.val).sync) (dmaStopped n.val) s

/-- DMA_END (R389). -/
def execDmaEnd (n : Fin 32) (s : State) : Host.Outcome State Fault Refusal :=
  act (s.dmaReady n) (dmaInstr n 8 1 (dmaEnd n)) s

/-- DMA_BURST (R399, R400). -/
def execDmaBurst (n : Fin 32) (at_ : BurstTime) (s : State) : Host.Outcome State Fault Refusal :=
  act (s.burstOk n at_) (dmaBurst n at_) s

/-- RW_READ (R239, R240). -/
def execRwRead (c0 : Bool) (s : State) : Host.Outcome State Fault Refusal :=
  act (s.rwinHead c0 1 && !s.rwinWaits c0) (fun s => serve c0 goRead (rwinTurn c0 s)) s

/-- RW_WRITE (R239, R240). -/
def execRwWrite (c0 : Bool) (s : State) : Host.Outcome State Fault Refusal :=
  act (s.rwinHead c0 2 && !s.rwinWaits c0) (fun s => serve c0 (goWrite c0) (rwinTurn c0 s)) s

/-- RW_ADD (R239, R240). -/
def execRwAdd (c0 : Bool) (s : State) : Host.Outcome State Fault Refusal :=
  act (s.rwinHead c0 3 && !s.rwinWaits c0) (fun s => serve c0 (goAdd c0) (rwinTurn c0 s)) s

/-- RW_SWAP (R239, R240). -/
def execRwSwap (c0 : Bool) (s : State) : Host.Outcome State Fault Refusal :=
  act (s.rwinHead c0 4 && !s.rwinWaits c0) (fun s => serve c0 (goSwap c0) (rwinTurn c0 s)) s

end Sys2Proof.Machine
end

