-- ==== Sys2Proof/Machine/Ports.lean ====
section
/-! DEFINITION. The acceptance of packets (R260, R262), the transports (R252 to R259), and the resumption of service after a takeover
(R298). -/
namespace Sys2Proof.Machine

open Sys2Proof

/-! ## Acceptance (R260) -/

/-- Steps 9 and 10 and the execution of a host command, by its opcode (Command Reference). -/
def hostCommand (opc : Nat) : Option ((List Octet → State → Nat) × (Nat → List Octet → State → State)) :=
  match opc with
  | 0x00 => some (anyParams, pingBody)
  | 0x01 => some (anyParams, getInfoBody)
  | 0x02 => some (checkResetDomain, resetDomainBody)
  | 0x03 => some (anyParams, getCauseBody)
  | 0x04 => some (checkSetMode, setModeBody)
  | 0x05 => some (anyParams, getModeBody)
  | 0x06 => some (anyParams, wakeRecordBody)
  | 0x10 => some (checkRadioConfig, radioConfigBody)
  | 0x11 => some (checkTune, tuneBody)
  | 0x12 => some (checkCalibrate, calibrateBody)
  | 0x13 => some (checkSetCalPolicy, calPolicyBody)
  | 0x14 => some (checkSetTxPower, setTxPowerBody)
  | 0x15 => some (checkLoadPowerCurve, powerCurveBody)
  | 0x16 => some (checkLaneAssign, laneAssignBody)
  | 0x17 => some (checkLaneRelease, laneReleaseBody)
  | 0x18 => some (checkTxFrame, txFrameBody)
  | 0x19 => some (checkMeasureChannel, measureBody)
  | 0x1A => some (checkSound, soundBody)
  | 0x20 => some (anyParams, mtGetBody)
  | 0x21 => some (anyParams, mtStepBody)
  | 0x22 => some (checkMtSlew, mtSlewBody)
  | 0x23 => some (checkMtSource, sourceBody)
  | 0x24 => some (anyParams, mtStatusBody)
  | 0x30 => some (checkGateWrite, gateWriteBody)
  | 0x31 => some (checkGateRead, gateReadBody)
  | 0x32 => some (checkCourseConfig, courseConfigBody)
  | 0x33 => some (checkCourseStart, courseStartBody)
  | 0x34 => some (checkCourseStop, courseStopBody)
  | 0x35 => some (checkHopseqWrite, hopseqBody)
  | 0x40 => some (checkNbrRead, nbrReadBody)
  | 0x41 => some (checkNbrWrite, nbrWriteBody)
  | 0x42 => some (checkNbrEvict, nbrEvictBody)
  | 0x43 => some (checkRouteWrite, routeWriteBody)
  | 0x44 => some (checkRouteRead, routeReadBody)
  | 0x45 => some (checkTonemapWrite, tonemapWriteBody)
  | 0x46 => some (checkTonemapRead, tonemapReadBody)
  | 0x50 => some (checkKeyLoad, keyLoadBody)
  | 0x51 => some (checkKeySelect, keySelectBody)
  | 0x52 => some (checkSecStatus, secStatusBody)
  | 0x58 => some (checkWindowDefine, windowDefineBody)
  | 0x59 => some (checkWindowClose, windowCloseBody)
  | 0x5A => some (checkWindowOp, windowOpBody)
  | 0x60 => some (checkStageBegin, stageBeginBody)
  | 0x61 => some (checkStageWrite, stageWriteBody)
  | 0x62 => some (checkStageCommit, stageCommitBody)
  | 0x63 => some (anyParams, stageStatusBody)
  | 0x64 => some (checkLinkfwLoad, linkfwLoadBody)
  | 0x65 => some (checkLinkfwSwap, linkfwSwapBody)
  | 0x66 => some (checkTableBankSwap, tableSwapBody)
  | 0x70 => some (checkSelftest, selftestBody)
  | 0x71 => some (checkGetCounters, getCountersBody)
  | 0x72 => some (checkClearCounters, clearCountersBody)
  | 0x73 => some (anyParams, echoBody)
  | _ => none

/-- Steps 9 and 10 of R260 for a command of transport `t`; a command accepted before it may hold what it needs (R262). One that reads an
uncorrectable word is accepted, and ends with HW_FAULT as it starts (R270). -/
def State.cmdStatus (s : State) (t opc : Nat) (p : List Octet) : Nat :=
  if (fwTouch (cmdReads opc p s) s).1 then St.done
  else
    let st := if opc = 0x7F then abortCheck t p s else match hostCommand opc with | some (check, _) => check p s | none => St.done
    if st == St.done && s.cmdQueued opc p then St.busy else st

/-- Link firmware checks a packet: it is journaled, or gets its final reply with the counts of R260. -/
def judgePacket (p : Packet) (s : State) : State :=
  let st1 := s.packetStatus p
  let st := if st1 = St.done then s.cmdStatus p.t (pOpc p) (pParams p) else st1
  if st = St.done then
    match s.freeRec p.t with
    | some r => journal p r s
    | none => s
  else
    let dup := st1 == St.busy && (s.recOf p.t (pTag p)).isSome
    let s1 := when (st == St.badCrc) (tCount p.t 1) (when (st == St.badLength) (tCount p.t 2) (when dup (tCount p.t 5) s))
    plainReply p.t (octAt p.octets 2) (pTag p) st s1

/-- Link firmware takes the packets in the slots, in the order they were framed (R262), while it serves. -/
def takeSlots (s : State) : State :=
  if s.serves then
    let l := s.cmdp.slots
    forAll l judgePacket (s.setCmdp { s.cmdp with slots := [] })
  else s

/-- A packet is framed into a slot. -/
def framePacket (p : Packet) (s : State) : State :=
  takeSlots (s.setCmdp { s.cmdp with slots := s.cmdp.slots ++ [p] })

/-! ## Host SPI port (R252 to R254) -/

/-- The status octet (R252). -/
def State.spiOctet (s : State) : Octet :=
  O (0xA0 + (if s.accepts 0 then 4 else 0) + (if (s.nextOut 0).isEmpty then 0 else 2) +
    (if s.accepts 0 && 0 < s.slotsFree 0 then 1 else 0))

/-- The port is powered: DOZE and above (R423). -/
def State.spiPowered (s : State) : Bool := s.alive && 2 ≤ s.domainMode

/-- What the part shifted out in a transaction. -/
def spiSays (l : List Octet) (s : State) : State := s.setCmdp { s.cmdp with spiOut := l }

/-- A WRITE. -/
def spiWrite (p : List Octet) (s : State) : State :=
  let s1 := spiSays (s.spiOctet :: p.map (fun _ => 0x00)) s
  if !s.accepts 0 then s1
  else if s.slotsFree 0 = 0 then tCount 0 4 s1
  else if p.length < 4 then tCount 0 3 s1
  else framePacket { t := 0, octets := p, whole := p.length == leNat (p.take 2) + 2 } s1

/-- The octets of a READ or REPEAT after its dummy octet: the packet, or LEN 0; then 0x00. -/
def spiReadOut (pkt : List Octet) (n : Nat) : List Octet :=
  let l := if pkt.isEmpty then [0x00, 0x00] else pkt
  l.take n ++ List.replicate (n - l.length) 0x00

/-- A READ in which the host clocks `n` octets after the operation octet: one that clocks every octet of the packet removes it. -/
def spiRead (n : Nat) (s : State) : State :=
  let pkt := s.nextOut 0
  let dummy := (List.replicate 1 (Config.freeOctet s.draws)).take n
  let s1 := spiSays (s.spiOctet :: dummy ++ spiReadOut pkt (n - 1)) s.drawn
  if pkt.isEmpty || n < 1 + pkt.length then s1
  else sentOut 0 (s1.setCmdp { s1.cmdp with lastOut := pkt })

/-- A REPEAT. -/
def spiRepeat (n : Nat) (s : State) : State :=
  spiSays (s.spiOctet :: (List.replicate 1 (Config.freeOctet s.draws)).take n ++ spiReadOut s.cmdp.lastOut (n - 1)) s.drawn

/-- A STATUS operation, or an undefined operation octet, which counts in FRAMERR. -/
def spiStatus (op : Octet) (n : Nat) (s : State) : State :=
  if op = 0x03 then spiSays (List.replicate (n + 1) s.spiOctet) s else tCount 0 3 (spiSays [s.spiOctet] s)

/-- A transaction of `n` octets after the operation octet where the transports do not run: the status octet, repeated for STATUS, and
nothing is taken or removed (R257); what an unpowered port shows is 0x00 or 0xFF (R252), and what a powered one shifts out for READ is
open. -/
def spiAsleep (op : Octet) (n : Nat) (s : State) : State :=
  if s.spiPowered then
    s.drawn.setCmdp { s.cmdp with spiOut := s.spiOctet :: (List.range n).map (fun i =>
      if op = 0x01 then 0x00 else if op = 0x03 then s.spiOctet else Config.freeOctet (s.draws + i)) }
  else s.drawn.setCmdp { s.cmdp with spiOut := List.replicate (n + 1) (if Config.freeBool s.draws then 0xFF else 0x00) }

/-- A transaction, where the transports run and where they do not. -/
def spiTalk (op : Octet) (n : Nat) (f : State → State) (s : State) : State := if s.linkRuns then f (sayReset 0 s) else spiAsleep op n s

/-! ## Host UART (R255, R256) -/

/-- HOST_RTS_N is inactive: no free slot, or no packets accepted, with RTSEN. -/
def State.rtsInactive (s : State) : Bool := s.bit R.cmdpUartcfg 16 && (s.slotsFree 1 == 0 || !s.accepts 1)

/-- The sync octet of a packet takes a slot; without one the packet is discarded and counted. -/
def uartSync (s : State) : State :=
  if !s.accepts 1 || s.cmdp.uartIn || s.cmdp.uartDrop then s
  else if s.slotsFree 1 = 0 then tCount 1 4 (s.setCmdp { s.cmdp with uartDrop := true })
  else s.setCmdp { s.cmdp with uartIn := true }

/-- The receiver hunts again. -/
def uartHunt (s : State) : State := s.setCmdp { s.cmdp with uartIn := false, uartDrop := false }

/-- The octets after a sync octet: a packet is framed once it is whole, and the receiver hunts for the next sync octet behind it; behind a bad
LEN it hunts from the octet after the sync octet (R255). `fuel` bounds the sync octets. -/
def uartOctets : Nat → List Octet → State → State
  | 0, _, s => s
  | fuel + 1, l, s0 =>
    let s := uartSync s0
    let len := leNat (l.take 2)
    let hunt := fun (l : List Octet) (s : State) =>
      match l.dropWhile (· != 0x5A) with
      | [] => s
      | _ :: rest => uartOctets fuel rest s
    if !s.accepts 1 then uartHunt s
    else if l.length < 2 then s
    else if len < 4 ∨ 1024 < len then hunt l (tCount 1 3 (uartHunt s))
    else if l.length < len + 2 then s
    else if s.cmdp.uartIn then hunt (l.drop (len + 2)) (framePacket { t := 1, octets := l.take (len + 2), whole := true } (uartHunt s))
    else hunt (l.drop (len + 2)) (uartHunt s)

/-- The octets that arrive after a sync octet. -/
def uartPacket (l : List Octet) (s : State) : State := uartOctets (l.length + 1) l s

/-- A reply or notice has left the UART. -/
def uartReply (s : State) : State :=
  sentOut 1 (s.setCmdp { s.cmdp with uartOut := 0x5A :: s.nextOut 1, uartTail := false })

/-- HOST_CTS_N lets the UART start an octet (R256). -/
def State.ctsOk (s : State) : Bool := !s.bit R.cmdpUartcfg 17 || s.pins.cts

/-- The UART has a packet whose last octet has been started: while HOST_CTS_N was active, or before it went inactive. -/
def State.uartMaySend (s : State) : Bool := s.linkRuns && !(s.nextOut 1).isEmpty && (s.ctsOk || s.cmdp.uartTail)

/-- HOST_CTS_N changes: as it goes inactive the last octet of the packet under way may have started already (an open value). -/
def ctsChange (low : Bool) (s : State) : State :=
  let s1 := { s with pins := { s.pins with cts := low } }
  if low then s1.setCmdp { s1.cmdp with uartTail := false }
  else if s.linkRuns && !(s.nextOut 1).isEmpty && s.ctsOk then
    s1.drawn.setCmdp { s1.cmdp with uartTail := Config.freeBool s1.draws }
  else s1

/-! ## Mailboxes (R258, R259) -/

/-- The copy ends. -/
def mailboxCopy (k a : Nat) (s : State) : State :=
  let (h, s1) := portWords a 1 s
  let len := leNat ((wordsToOctets h).take 2)
  let (l, s2) := portWords a ((len + 4) / 3) s1
  let s3 := (s2.setBit (R.mbStatus k) 0 false).setCmdp { s2.cmdp with mbCopy := tabDel s2.cmdp.mbCopy k }
  if !s3.accepts (2 + k) then s3
  else if len < 4 ∨ 1024 < len then tCount (2 + k) 3 s3
  else framePacket { t := 2 + k, octets := (wordsToOctets l).take (len + 2), whole := true } s3

/-- Ring size in words: below 343 acts as 343. -/
def State.ringSize (s : State) (k : Nat) : Nat := max 343 (s.fld (R.mbRsize k) 0 12)

/-- Where a packet of `n` words goes in the ring: its first word, and whether the jump must be marked; none while it does not fit
with one word left free. -/
def State.ringPlace (s : State) (k n : Nat) : Option (Nat × Bool) :=
  let size := s.ringSize k
  let head := s.fld (R.mbRhead k) 0 12 % size
  let tail := s.fld (R.mbRtail k) 0 12 % size
  let used := (head + size - tail) % size
  if head + n ≤ size then (if used + n + 1 ≤ size then some (head, false) else none)
  else if tail ≤ head ∧ n + 1 ≤ tail then some (0, true)
  else none

/-- A word written into a ring, which must lie in application SRAM or link memory's window w:600_000 to w:7FF_FFF. -/
def ringWord (a : Nat) (v : Word) (s : State) : State :=
  if 0x600000 ≤ a && a < 0x800000 && s.sramUp a then portWrite a v s else s

/-- The words of a packet written into a ring. -/
def ringWords : Nat → List Word → State → State
  | _, [], s => s
  | a, v :: l, s => ringWords (a + 1) l (ringWord a v s)

/-- A reply or notice is written into the ring: CMDP_MBk fires. -/
def mailboxReply (k : Nat) (s : State) : State :=
  let l := octetsToWords (s.nextOut (2 + k))
  match s.ringPlace k l.length with
  | none => s
  | some (at_, jump) =>
    let base := (s.reg (R.mbRbase k)).toNat
    let head := s.fld (R.mbRhead k) 0 12 % s.ringSize k
    let s1 := if jump then ringWord (base + head) 0 s else s
    let s2 := ringWords (base + at_) l s1
    let s3 := s2.setFld (R.mbRhead k) 0 12 ((at_ + l.length) % s.ringSize k)
    fire (0x20 + k) (sentOut (2 + k) s3)

/-! ## Deferred starts (R274) -/

/-- The RESET_DOMAIN whose reset starts next: the first whose reply has left its transport, or else the first. -/
def State.nextDeferred (s : State) : Option (Nat × Nat) :=
  match s.cmdp.deferred.find? (fun e => !(s.replies (e.2 / 17)).any (fun x => x.rcd == e.2)) with
  | some e => some e
  | none => s.cmdp.deferred.head?

/-- The reply of a RESET_DOMAIN, or of a SET_MODE to HIBERNATE or DOZE, has left, or 2,000 µs have passed: the reset or the commit
may start. -/
def deferredStart (s : State) : State :=
  match s.nextDeferred with
  | some e => domainReset e.1 9 (s.setCmdp { s.cmdp with deferred := s.cmdp.deferred.erase e })
  | none => setChange (fun c => { c with replyHold := false }) s

/-! ## The commands -/

/-- SPI_WRITE (R253). The host ports' balls read 0 and drive nothing while VIO1 is absent (R455). -/
def execSpiWrite (p : List Octet) (s : State) : Host.Outcome State Fault Refusal :=
  act s.pwr.vio1 (spiTalk 0x01 p.length (spiWrite p)) s

/-- SPI_READ (R253). -/
def execSpiRead (n : Nat) (s : State) : Host.Outcome State Fault Refusal :=
  act s.pwr.vio1 (spiTalk 0x02 n (spiRead n)) s

/-- SPI_STATUS (R253), and an undefined operation octet. -/
def execSpiStatus (op : Octet) (n : Nat) (s : State) : Host.Outcome State Fault Refusal :=
  act (s.pwr.vio1 && op != 0x01 && op != 0x02 && op != 0x04) (spiTalk op n (spiStatus op n)) s

/-- SPI_REPEAT (R253). -/
def execSpiRepeat (n : Nat) (s : State) : Host.Outcome State Fault Refusal :=
  act s.pwr.vio1 (spiTalk 0x04 n (spiRepeat n)) s

/-- UART_SYNC_OCTET (R256). -/
def execUartSyncOctet (s : State) : Host.Outcome State Fault Refusal := act (s.linkRuns && s.pwr.vio1) (fun s => uartSync (sayReset 1 s)) s

/-- UART_PACKET (R255). -/
def execUartPacket (p : List Octet) (s : State) : Host.Outcome State Fault Refusal :=
  act (s.linkRuns && s.pwr.vio1) (fun s => uartPacket p (sayReset 1 s)) s

/-- UART_GAP_TIMEOUT (R255). -/
def execUartGapTimeout (s : State) : Host.Outcome State Fault Refusal :=
  act (s.linkRuns && (s.cmdp.uartIn || s.cmdp.uartDrop)) (fun s => tCount 1 3 (uartHunt s)) s

/-- UART_REPLY_SENT (R261). -/
def execUartReplySent (s : State) : Host.Outcome State Fault Refusal :=
  act (sayReset 1 s).uartMaySend (fun s => uartReply (sayReset 1 s)) s

/-- HOST_CTS_N_CHANGE (R256). -/
def execHostCtsNChange (low : Bool) (s : State) : Host.Outcome State Fault Refusal :=
  act s.pwr.vio1 (ctsChange low) s

/-- MAILBOX_POST (R258). -/
def execMailboxPost (w : Who) (k : Fin 4) (v : Word) (s : State) : Host.Outcome State Fault Refusal :=
  act (s.mayWrite w (R.mbPost k.val) && s.accepts (2 + k.val) && !s.bit (R.mbStatus k.val) 0)
    (fun s => mailboxPost k.val v (sayReset (2 + k.val) s)) s

/-- MAILBOX_COPY_DONE (R258): the copy waits for a free slot. -/
def execMailboxCopyDone (k : Fin 4) (s : State) : Host.Outcome State Fault Refusal :=
  match s.cmdp.mbCopy.find? (fun e => e.1 == k.val) with
  | some e => act (s.linkRuns && 0 < s.slotsFree (2 + k.val)) (mailboxCopy k.val e.2) s
  | none => .next s

/-- MAILBOX_REPLY_WRITE (R259). -/
def execMailboxReplyWrite (k : Fin 4) (s : State) : Host.Outcome State Fault Refusal :=
  act (s.linkRuns && !((sayReset (2 + k.val) s).nextOut (2 + k.val)).isEmpty)
    (fun s => mailboxReply k.val (sayReset (2 + k.val) s)) s

/-- DEFERRED_RESET_START (R274). -/
def execDeferredResetStart (s : State) : Host.Outcome State Fault Refusal :=
  act (s.alive && (!s.cmdp.deferred.isEmpty || s.pwr.change.any (fun c => c.replyHold))) deferredStart s

/-! ## Resumption after a takeover (R298) -/

/-- What was to be queued while the service was interrupted is queued: replies, then notices. -/
def lateOut (s : State) : State :=
  let c := s.cmdp
  forAll c.lateNotices noticeFor
    (forAll c.lateReplies (fun e t => finalReply e.1 e.2.1 e.2.2 t) (s.setCmdp { c with lateReplies := [], lateNotices := [] }))

/-- The outcome of a staging operation that ended meanwhile is read, staging goes on, and completions that wait are taken (R299). -/
def takeUp (s : State) : State :=
  let s1 := match s.stage.outcome with
    | some res => stageDone res (s.setStage { s.stage with outcome := none })
    | none => stageGo 64 s
  forAll (List.range (s1.qCount s1.windowCq)) (fun _ t => firmTakes t.windowCq t) s1

/-- An accepted command starts as its turn comes. -/
def runRec (r : Nat) (s : State) : State :=
  if s.recOpc r = 0x7F then abortBody r (s.recParams r) s
  else
    match hostCommand (s.recOpc r) with
    | some (check, body) => startCmd (s.recOpc r) check body r s
    | none => s

/-- `n` open octets. -/
def openOctets (n : Nat) (s : State) : List Octet × State :=
  ((List.range n).map (fun i => Config.freeOctet (s.draws + i)), { s with draws := s.draws + n })

/-- The opcode is of a command that reads. -/
def readsOnly (opc : Nat) : Bool :=
  [0x00, 0x01, 0x03, 0x05, 0x06, 0x20, 0x24, 0x31, 0x40, 0x44, 0x46, 0x52, 0x63, 0x71, 0x73].contains opc

/-- The result of a command whose effect is complete, as a new owner that finds EFFECT builds it; what the journal does not keep is open (log
141). -/
def effectResult (r : Nat) (s : State) : List Octet × State :=
  let p := s.recParams r
  match s.recOpc r with
  | 0x04 => ([O s.mode], s)
  | 0x14 => ([O (s.fld (R.txcCfg (par1 p 0)) 16 8)], s)
  | 0x21 => ([O (s.fld R.mtStatus 16 8)], s)
  | 0x22 => (s.slewOctets, s)
  | 0x34 => ([O (if s.stopPend (par1 p 0) then 0 else 1)], s)
  | 0x50 => (word3 (if bitOf (octAt p 2) 1 then 0 else s.reg (R.keySeq (par1 p 0))), s)
  | 0x61 => (countedWords (s.mw (recAddr r + 3)).toNat, s)
  | 0x64 => (word3 (s.reg R.lsupStbyver), s)
  | 0x66 => ([O (if s.bank then 1 else 0)], s)
  | 0x51 | 0x7F => openOctets 1 s
  | 0x12 => openOctets 2 s
  | 0x11 | 0x19 => openOctets 3 s
  | 0x70 => openOctets 4 s
  | 0x18 => openOctets 10 s
  | 0x1A => if par1 p 5 = 0 then openOctets 9 s else ([], s)
  | 0x5A => openOctets 12 s
  | _ => ([], s)

/-- A record as the new owner treats it (R298, R299): an ACCEPTED command executes again once nothing that executes is before it, a STARTED
one goes on, of one at EFFECT the final reply is built, a read command reading again; LINKFW_SWAP is complete. -/
def resumeRec (r : Nat) (s : State) : State :=
  match s.recState r with
  | 1 =>
    if s.recOpc r = 0x65 then finalReply r St.done (O (if s.ownerB then 1 else 0) :: word3 (s.linkVer s.ownerB)) s
    else
      let t := s.setCmdp { s.cmdp with replay := r :: s.cmdp.replay.filter (· != r) }
      if t.cmdp.exec.isNone then runRec r t else t
  | 3 =>
    if readsOnly (s.recOpc r) then runRec r s
    else
      let (res, t) := effectResult r s
      finalReply r St.done res t
  | _ => s

/-- The new owner resumes service: the records are walked, what waited is queued, and it writes its first heartbeat; then TAKING ends, LAST and
MAXDUR take the interruption, in 0.1 µs, the notice is queued, and the packets in the slots are taken. -/
def takeoverResume (cause dur : Nat) (s : State) : State :=
  let l := allRecs.filter (fun r => 1 ≤ s.recState r && s.recState r ≤ 3)
  let s1 := (s.setCmdp { s.cmdp with exec := none }).setLsup { s.lsup with move := none }
  let s2 := lateOut (parentLookAll (takeUp (forAll (s1.recOrder l) resumeRec s1)))
  let s3 := beat s2.ownerB (s2.countBy (R.lsupCounters 2) l.length)
  let s4 := (s3.setBit R.lsupStatus 1 false).setReg R.lsupLast (W (cause * 2 ^ 22 + dur))
  let s5 := (s4.setReg R.lsupMaxdur (W (max dur (s4.fld R.lsupMaxdur 0 16)))).count (R.lsupCounters (if cause = 2 then 0 else 1))
  takeSlots (notice 7 0x70 [O (if s5.ownerB then 1 else 0), O (cause - 1), O l.length] s5)

/-- TAKEOVER_RESUME. -/
def execTakeoverResume (dur : BitVec 16) (s : State) : Host.Outcome State Fault Refusal :=
  match s.lsup.move with
  | some c => act s.linkRuns (takeoverResume c dur.toNat) s
  | none => .next s

end Sys2Proof.Machine
end

