-- ==== Sys2Proof/Machine/Dispatch.lean ====
section
/-! DEFINITION. The one match over the commands: each arm calls its meaning. -/
namespace Sys2Proof.Machine
open Sys2Proof

def exec (i : Instr) (s : State) : Host.Outcome State Fault Refusal :=
  match i with
  | .mtTick => Sys2Proof.Machine.execMtTick s
  | .lfTick => Sys2Proof.Machine.execLfTick s
  | .readMtNow0 w => Sys2Proof.Machine.execReadMtNow0 w s
  | .mtCtrlStep w v => Sys2Proof.Machine.execMtCtrlStep w v s
  | .mtStepApply => Sys2Proof.Machine.execMtStepApply s
  | .slewStart w v => Sys2Proof.Machine.execSlewStart w v s
  | .slewstop w v => Sys2Proof.Machine.execSlewstop w v s
  | .mtSlewDone => Sys2Proof.Machine.execMtSlewDone s
  | .mtRateCommit w v => Sys2Proof.Machine.execMtRateCommit w v s
  | .mtUsetWrite w v => Sys2Proof.Machine.execMtUsetWrite w v s
  | .mtUalarmWrite w v => Sys2Proof.Machine.execMtUalarmWrite w v s
  | .lfWindowEnd => Sys2Proof.Machine.execLfWindowEnd s
  | .bridgeEnter => Sys2Proof.Machine.execBridgeEnter s
  | .bridgeExit => Sys2Proof.Machine.execBridgeExit s
  | .armCompare w n v => Sys2Proof.Machine.execArmCompare w n v s
  | .compareDisarm w n v => Sys2Proof.Machine.execCompareDisarm w n v s
  | .compareMatch n => Sys2Proof.Machine.execCompareMatch n s
  | .ppsPulseEnd => Sys2Proof.Machine.execPpsPulseEnd s
  | .captureEvent n e => Sys2Proof.Machine.execCaptureEvent n e s
  | .readCapture w n => Sys2Proof.Machine.execReadCapture w n s
  | .disciplineSample m => Sys2Proof.Machine.execDisciplineSample m s
  | .sourceLost src => Sys2Proof.Machine.execSourceLost src s
  | .ptpEventStamp => Sys2Proof.Machine.execPtpEventStamp s
  | .courseRunWrite w n v => Sys2Proof.Machine.execCourseRunWrite w n v s
  | .courseStopWrite w n v => Sys2Proof.Machine.execCourseStopWrite w n v s
  | .courseStopnow w n v => Sys2Proof.Machine.execCourseStopnow w n v s
  | .courseBoundary n => Sys2Proof.Machine.execCourseBoundary n s
  | .gateCommit w v => Sys2Proof.Machine.execGateCommit w v s
  | .guardEvaluation g it => Sys2Proof.Machine.execGuardEvaluation g it s
  | .gatePretune g it => Sys2Proof.Machine.execGatePretune g it s
  | .rxListen g it => Sys2Proof.Machine.execRxListen g it s
  | .rxExpect g it => Sys2Proof.Machine.execRxExpect g it s
  | .rxSound g it => Sys2Proof.Machine.execRxSound g it s
  | .txQueue g it => Sys2Proof.Machine.execTxQueue g it s
  | .txBeacon g it => Sys2Proof.Machine.execTxBeacon g it s
  | .txSound g it => Sys2Proof.Machine.execTxSound g it s
  | .emitEvent g it => Sys2Proof.Machine.execEmitEvent g it s
  | .gateWinEnd g it => Sys2Proof.Machine.execGateWinEnd g it s
  | .gateTune g it => Sys2Proof.Machine.execGateTune g it s
  | .gateCalibrate g it => Sys2Proof.Machine.execGateCalibrate g it s
  | .wakeApp g it => Sys2Proof.Machine.execWakeApp g it s
  | .rxWindowClose g it => Sys2Proof.Machine.execRxWindowClose g it s
  | .ackWaitEnd band => Sys2Proof.Machine.execAckWaitEnd band s
  | .synthLock band syn => Sys2Proof.Machine.execSynthLock band syn s
  | .synthColdFallback band syn => Sys2Proof.Machine.execSynthColdFallback band syn s
  | .calCommit w band v => Sys2Proof.Machine.execCalCommit w band v s
  | .calSliceStart band => Sys2Proof.Machine.execCalSliceStart band s
  | .calSliceDone band res w1 w2 w3 => Sys2Proof.Machine.execCalSliceDone band res w1 w2 w3 s
  | .fullCalStart w band v => Sys2Proof.Machine.execFullCalStart w band v s
  | .fullCalDone band e results => Sys2Proof.Machine.execFullCalDone band e results s
  | .calstop w band v => Sys2Proof.Machine.execCalstop w band v s
  | .calageTick band => Sys2Proof.Machine.execCalageTick band s
  | .sensorRefresh band temp vmain => Sys2Proof.Machine.execSensorRefresh band temp vmain s
  | .txRampUp band => Sys2Proof.Machine.execTxRampUp band s
  | .txLate band => Sys2Proof.Machine.execTxLate band s
  | .txEnd band paDev => Sys2Proof.Machine.execTxEnd band paDev s
  | .blankEnd band => Sys2Proof.Machine.execBlankEnd band s
  | .txHalt w band v => Sys2Proof.Machine.execTxHalt w band v s
  | .ccaDone band mean => Sys2Proof.Machine.execCcaDone band mean s
  | .offminEnd band rule => Sys2Proof.Machine.execOffminEnd band rule s
  | .bucketEntry band rule => Sys2Proof.Machine.execBucketEntry band rule s
  | .pathAgcWindow band path power ovl => Sys2Proof.Machine.execPathAgcWindow band path power ovl s
  | .gainApply p => Sys2Proof.Machine.execGainApply p s
  | .preambleDetect n m peak rssi1 rssi2 snr => Sys2Proof.Machine.execPreambleDetect n m peak rssi1 rssi2 snr s
  | .headerDecode n hdr phrOk => Sys2Proof.Machine.execHeaderDecode n hdr phrOk s
  | .codewordDecode arrived e its => Sys2Proof.Machine.execCodewordDecode arrived e its s
  | .frameEnd n psdu fcsOk spread tones => Sys2Proof.Machine.execFrameEnd n psdu fcsOk spread tones s
  | .laneOosWrite w v => Sys2Proof.Machine.execLaneOosWrite w v s
  | .spanApply band => Sys2Proof.Machine.execSpanApply band s
  | .frameAccept => Sys2Proof.Machine.execFrameAccept s
  | .ackTransmit band => Sys2Proof.Machine.execAckTransmit band s
  | .keyLoadCommit w v => Sys2Proof.Machine.execKeyLoadCommit w v s
  | .keyClear w v => Sys2Proof.Machine.execKeyClear w v s
  | .keyWalkDone slot => Sys2Proof.Machine.execKeyWalkDone slot s
  | .txctrCommit w slot v => Sys2Proof.Machine.execTxctrCommit w slot v s
  | .txlimCommit w slot v => Sys2Proof.Machine.execTxlimCommit w slot v s
  | .nbrCommit w v => Sys2Proof.Machine.execNbrCommit w v s
  | .heardRefresh => Sys2Proof.Machine.execHeardRefresh s
  | .tonemapCompute => Sys2Proof.Machine.execTonemapCompute s
  | .tonemapFeedback nbr elem => Sys2Proof.Machine.execTonemapFeedback nbr elem s
  | .soundingPolicyTick nbr => Sys2Proof.Machine.execSoundingPolicyTick nbr s
  | .fwdProcess c0 => Sys2Proof.Machine.execFwdProcess c0 s
  | .routeCommit w v => Sys2Proof.Machine.execRouteCommit w v s
  | .queuePush w n v => Sys2Proof.Machine.execQueuePush w n v s
  | .queuePushhead w n v => Sys2Proof.Machine.execQueuePushhead w n v s
  | .queuePop w n => Sys2Proof.Machine.execQueuePop w n s
  | .queuePeek w n => Sys2Proof.Machine.execQueuePeek w n s
  | .queueClassWrite w n v => Sys2Proof.Machine.execQueueClassWrite w n v s
  | .freebuf w v => Sys2Proof.Machine.execFreebuf w v s
  | .alloc w => Sys2Proof.Machine.execAlloc w s
  | .qmTimeout n => Sys2Proof.Machine.execQmTimeout n s
  | .rwinRequest => Sys2Proof.Machine.execRwinRequest s
  | .rwRead c0 => Sys2Proof.Machine.execRwRead c0 s
  | .rwWrite c0 => Sys2Proof.Machine.execRwWrite c0 s
  | .rwAdd c0 => Sys2Proof.Machine.execRwAdd c0 s
  | .rwSwap c0 => Sys2Proof.Machine.execRwSwap c0 s
  | .rwinReadbackDone c0 => Sys2Proof.Machine.execRwinReadbackDone c0 s
  | .rwinResponse => Sys2Proof.Machine.execRwinResponse s
  | .rwinTimeout opid => Sys2Proof.Machine.execRwinTimeout opid s
  | .windowCommit w v => Sys2Proof.Machine.execWindowCommit w v s
  | .spiWrite p => Sys2Proof.Machine.execSpiWrite p s
  | .spiRead n => Sys2Proof.Machine.execSpiRead n s
  | .spiStatus op n => Sys2Proof.Machine.execSpiStatus op n s
  | .spiRepeat n => Sys2Proof.Machine.execSpiRepeat n s
  | .uartPacket p => Sys2Proof.Machine.execUartPacket p s
  | .uartGapTimeout => Sys2Proof.Machine.execUartGapTimeout s
  | .uartReplySent => Sys2Proof.Machine.execUartReplySent s
  | .mailboxPost w k v => Sys2Proof.Machine.execMailboxPost w k v s
  | .mailboxCopyDone k => Sys2Proof.Machine.execMailboxCopyDone k s
  | .mailboxReplyWrite k => Sys2Proof.Machine.execMailboxReplyWrite k s
  | .ping t tag => Sys2Proof.Machine.execPing t tag s
  | .getInfo t tag => Sys2Proof.Machine.execGetInfo t tag s
  | .resetDomain t tag => Sys2Proof.Machine.execResetDomain t tag s
  | .deferredResetStart => Sys2Proof.Machine.execDeferredResetStart s
  | .getResetCause t tag => Sys2Proof.Machine.execGetResetCause t tag s
  | .setMode t tag => Sys2Proof.Machine.execSetMode t tag s
  | .getMode t tag => Sys2Proof.Machine.execGetMode t tag s
  | .getWakeRecord t tag => Sys2Proof.Machine.execGetWakeRecord t tag s
  | .radioConfig t tag => Sys2Proof.Machine.execRadioConfig t tag s
  | .tune t tag => Sys2Proof.Machine.execTune t tag s
  | .calibrate t tag => Sys2Proof.Machine.execCalibrate t tag s
  | .setCalPolicy t tag => Sys2Proof.Machine.execSetCalPolicy t tag s
  | .setTxPower t tag => Sys2Proof.Machine.execSetTxPower t tag s
  | .loadPowerCurve t tag => Sys2Proof.Machine.execLoadPowerCurve t tag s
  | .laneAssign t tag => Sys2Proof.Machine.execLaneAssign t tag s
  | .laneRelease t tag => Sys2Proof.Machine.execLaneRelease t tag s
  | .txFrame t tag => Sys2Proof.Machine.execTxFrame t tag s
  | .txFrameRetry t tag => Sys2Proof.Machine.execTxFrameRetry t tag s
  | .measureChannel t tag => Sys2Proof.Machine.execMeasureChannel t tag s
  | .measureDone t tag mean peak share => Sys2Proof.Machine.execMeasureDone t tag mean peak share s
  | .sound t tag => Sys2Proof.Machine.execSound t tag s
  | .mtGet t tag => Sys2Proof.Machine.execMtGet t tag s
  | .mtStep t tag => Sys2Proof.Machine.execMtStep t tag s
  | .mtSlew t tag => Sys2Proof.Machine.execMtSlew t tag s
  | .mtSource t tag => Sys2Proof.Machine.execMtSource t tag s
  | .mtStatus t tag => Sys2Proof.Machine.execMtStatus t tag s
  | .gateWrite t tag => Sys2Proof.Machine.execGateWrite t tag s
  | .gateRead t tag => Sys2Proof.Machine.execGateRead t tag s
  | .courseConfig t tag => Sys2Proof.Machine.execCourseConfig t tag s
  | .courseStart t tag => Sys2Proof.Machine.execCourseStart t tag s
  | .courseStop t tag => Sys2Proof.Machine.execCourseStop t tag s
  | .hopseqWrite t tag => Sys2Proof.Machine.execHopseqWrite t tag s
  | .nbrRead t tag => Sys2Proof.Machine.execNbrRead t tag s
  | .nbrWrite t tag => Sys2Proof.Machine.execNbrWrite t tag s
  | .nbrEvict t tag => Sys2Proof.Machine.execNbrEvict t tag s
  | .routeWrite t tag => Sys2Proof.Machine.execRouteWrite t tag s
  | .routeRead t tag => Sys2Proof.Machine.execRouteRead t tag s
  | .tonemapWrite t tag => Sys2Proof.Machine.execTonemapWrite t tag s
  | .tonemapRead t tag => Sys2Proof.Machine.execTonemapRead t tag s
  | .keyLoad t tag => Sys2Proof.Machine.execKeyLoad t tag s
  | .keySelect t tag => Sys2Proof.Machine.execKeySelect t tag s
  | .secStatus t tag => Sys2Proof.Machine.execSecStatus t tag s
  | .windowDefine t tag => Sys2Proof.Machine.execWindowDefine t tag s
  | .windowClose t tag => Sys2Proof.Machine.execWindowClose t tag s
  | .windowOp t tag => Sys2Proof.Machine.execWindowOp t tag s
  | .stageBegin t tag => Sys2Proof.Machine.execStageBegin t tag s
  | .stageWrite t tag => Sys2Proof.Machine.execStageWrite t tag s
  | .stageCommit t tag => Sys2Proof.Machine.execStageCommit t tag s
  | .stageStatus t tag => Sys2Proof.Machine.execStageStatus t tag s
  | .linkfwLoad t tag => Sys2Proof.Machine.execLinkfwLoad t tag s
  | .linkfwSwap t tag => Sys2Proof.Machine.execLinkfwSwap t tag s
  | .tableBankSwap t tag => Sys2Proof.Machine.execTableBankSwap t tag s
  | .selftest t tag => Sys2Proof.Machine.execSelftest t tag s
  | .getCounters t tag => Sys2Proof.Machine.execGetCounters t tag s
  | .clearCounters t tag => Sys2Proof.Machine.execClearCounters t tag s
  | .echo t tag => Sys2Proof.Machine.execEcho t tag s
  | .abort t tag => Sys2Proof.Machine.execAbort t tag s
  | .heartbeat c v => Sys2Proof.Machine.execHeartbeat c v s
  | .supervisorTimeout c => Sys2Proof.Machine.execSupervisorTimeout c s
  | .takeoverResume dur => Sys2Proof.Machine.execTakeoverResume dur s
  | .swapgo w v => Sys2Proof.Machine.execSwapgo w v s
  | .standbyLoad w v => Sys2Proof.Machine.execStandbyLoad w v s
  | .standbyReady => Sys2Proof.Machine.execStandbyReady s
  | .bankswapGo w v => Sys2Proof.Machine.execBankswapGo w v s
  | .bankswapCancel w v => Sys2Proof.Machine.execBankswapCancel w v s
  | .interruptTake k => Sys2Proof.Machine.execInterruptTake k s
  | .add k d a b => Sys2Proof.Machine.execAdd k d a b s
  | .sub k d a b => Sys2Proof.Machine.execSub k d a b s
  | .andR k d a b => Sys2Proof.Machine.execAndR k d a b s
  | .orR k d a b => Sys2Proof.Machine.execOrR k d a b s
  | .xorR k d a b => Sys2Proof.Machine.execXorR k d a b s
  | .nor k d a b => Sys2Proof.Machine.execNor k d a b s
  | .lts k d a b => Sys2Proof.Machine.execLts k d a b s
  | .ltu k d a b => Sys2Proof.Machine.execLtu k d a b s
  | .shl k d a b => Sys2Proof.Machine.execShl k d a b s
  | .shr k d a b => Sys2Proof.Machine.execShr k d a b s
  | .sar k d a b => Sys2Proof.Machine.execSar k d a b s
  | .ror k d a b => Sys2Proof.Machine.execRor k d a b s
  | .minS k d a b => Sys2Proof.Machine.execMinS k d a b s
  | .maxS k d a b => Sys2Proof.Machine.execMaxS k d a b s
  | .minu k d a b => Sys2Proof.Machine.execMinu k d a b s
  | .maxu k d a b => Sys2Proof.Machine.execMaxu k d a b s
  | .adds k d a b => Sys2Proof.Machine.execAdds k d a b s
  | .subs k d a b => Sys2Proof.Machine.execSubs k d a b s
  | .abs k d a b => Sys2Proof.Machine.execAbs k d a b s
  | .clz k d a b => Sys2Proof.Machine.execClz k d a b s
  | .popc k d a b => Sys2Proof.Machine.execPopc k d a b s
  | .revo k d a b => Sys2Proof.Machine.execRevo k d a b s
  | .sexo k d a b => Sys2Proof.Machine.execSexo k d a b s
  | .sex12 k d a b => Sys2Proof.Machine.execSex12 k d a b s
  | .addK k d a imm => Sys2Proof.Machine.execAddK k d a imm s
  | .andK k d a imm => Sys2Proof.Machine.execAndK k d a imm s
  | .orK k d a imm => Sys2Proof.Machine.execOrK k d a imm s
  | .xorK k d a imm => Sys2Proof.Machine.execXorK k d a imm s
  | .ltsK k d a imm => Sys2Proof.Machine.execLtsK k d a imm s
  | .ltuK k d a imm => Sys2Proof.Machine.execLtuK k d a imm s
  | .shlK k d a imm => Sys2Proof.Machine.execShlK k d a imm s
  | .shrK k d a imm => Sys2Proof.Machine.execShrK k d a imm s
  | .sarK k d a imm => Sys2Proof.Machine.execSarK k d a imm s
  | .rorK k d a imm => Sys2Proof.Machine.execRorK k d a imm s
  | .whi k d imm => Sys2Proof.Machine.execWhi k d imm s
  | .adh k d imm => Sys2Proof.Machine.execAdh k d imm s
  | .addsK k d a imm => Sys2Proof.Machine.execAddsK k d a imm s
  | .rsbK k d a imm => Sys2Proof.Machine.execRsbK k d a imm s
  | .extK k d a imm => Sys2Proof.Machine.execExtK k d a imm s
  | .ldw k d a imm => Sys2Proof.Machine.execLdw k d a imm s
  | .stw k d a imm => Sys2Proof.Machine.execStw k d a imm s
  | .ldo k d a imm => Sys2Proof.Machine.execLdo k d a imm s
  | .ldos k d a imm => Sys2Proof.Machine.execLdos k d a imm s
  | .sto k d a imm => Sys2Proof.Machine.execSto k d a imm s
  | .ldp k d a imm => Sys2Proof.Machine.execLdp k d a imm s
  | .stp k d a imm => Sys2Proof.Machine.execStp k d a imm s
  | .swp k d a imm => Sys2Proof.Machine.execSwp k d a imm s
  | .cbEq k a b off => Sys2Proof.Machine.execCbEq k a b off s
  | .cbNe k a b off => Sys2Proof.Machine.execCbNe k a b off s
  | .cbLt k a b off => Sys2Proof.Machine.execCbLt k a b off s
  | .cbGe k a b off => Sys2Proof.Machine.execCbGe k a b off s
  | .cbLtu k a b off => Sys2Proof.Machine.execCbLtu k a b off s
  | .cbGeu k a b off => Sys2Proof.Machine.execCbGeu k a b off s
  | .cbDec k a b off => Sys2Proof.Machine.execCbDec k a b off s
  | .cbAny k a b off => Sys2Proof.Machine.execCbAny k a b off s
  | .jmp k off => Sys2Proof.Machine.execJmp k off s
  | .call k off => Sys2Proof.Machine.execCall k off s
  | .jmpr k d a imm => Sys2Proof.Machine.execJmpr k d a imm s
  | .callr k d a imm => Sys2Proof.Machine.execCallr k d a imm s
  | .trap k code => Sys2Proof.Machine.execTrap k code s
  | .bkpt k code => Sys2Proof.Machine.execBkpt k code s
  | .xret k rest => Sys2Proof.Machine.execXret k rest s
  | .wait k rest => Sys2Proof.Machine.execWait k rest s
  | .fence k rest => Sys2Proof.Machine.execFence k rest s
  | .ei k rest => Sys2Proof.Machine.execEi k rest s
  | .di k d rest => Sys2Proof.Machine.execDi k d rest s
  | .iline k a imm => Sys2Proof.Machine.execIline k a imm s
  | .dclean k a imm => Sys2Proof.Machine.execDclean k a imm s
  | .dflush k a imm => Sys2Proof.Machine.execDflush k a imm s
  | .dinv k a imm => Sys2Proof.Machine.execDinv k a imm s
  | .iall k a imm => Sys2Proof.Machine.execIall k a imm s
  | .dcleanall k a imm => Sys2Proof.Machine.execDcleanall k a imm s
  | .dflushall k a imm => Sys2Proof.Machine.execDflushall k a imm s
  | .dinvall k a imm => Sys2Proof.Machine.execDinvall k a imm s
  | .fcinv k a imm => Sys2Proof.Machine.execFcinv k a imm s
  | .mfs k d a imm => Sys2Proof.Machine.execMfs k d a imm s
  | .mts k d a imm => Sys2Proof.Machine.execMts k d a imm s
  | .mul k d a b => Sys2Proof.Machine.execMul k d a b s
  | .mulh k d a b => Sys2Proof.Machine.execMulh k d a b s
  | .mulhu k d a b => Sys2Proof.Machine.execMulhu k d a b s
  | .mull k d a b => Sys2Proof.Machine.execMull k d a b s
  | .mullu k d a b => Sys2Proof.Machine.execMullu k d a b s
  | .div k d a b => Sys2Proof.Machine.execDiv k d a b s
  | .divu k d a b => Sys2Proof.Machine.execDivu k d a b s
  | .rem k d a b => Sys2Proof.Machine.execRem k d a b s
  | .remu k d a b => Sys2Proof.Machine.execRemu k d a b s
  | .mulK k d a imm => Sys2Proof.Machine.execMulK k d a imm s
  | .divl k d a b => Sys2Proof.Machine.execDivl k d a b s
  | .divlu k d a b => Sys2Proof.Machine.execDivlu k d a b s
  | .fmul k d a b => Sys2Proof.Machine.execFmul k d a b s
  | .fmult k d a b => Sys2Proof.Machine.execFmult k d a b s
  | .mac k d a b => Sys2Proof.Machine.execMac k d a b s
  | .msu k d a b => Sys2Proof.Machine.execMsu k d a b s
  | .macz k d a b => Sys2Proof.Machine.execMacz k d a b s
  | .accr k d a b => Sys2Proof.Machine.execAccr k d a b s
  | .accw k d a b => Sys2Proof.Machine.execAccw k d a b s
  | .accsh k d a b => Sys2Proof.Machine.execAccsh k d a b s
  | .cadd k d a b => Sys2Proof.Machine.execCadd k d a b s
  | .cadds k d a b => Sys2Proof.Machine.execCadds k d a b s
  | .csub k d a b => Sys2Proof.Machine.execCsub k d a b s
  | .csubs k d a b => Sys2Proof.Machine.execCsubs k d a b s
  | .cconj k d a b => Sys2Proof.Machine.execCconj k d a b s
  | .cmul k d a b => Sys2Proof.Machine.execCmul k d a b s
  | .hint k rest => Sys2Proof.Machine.execHint k rest s
  | .aeskey k d a b => Sys2Proof.Machine.execAeskey k d a b s
  | .aesenc k d a b => Sys2Proof.Machine.execAesenc k d a b s
  | .aesdec k d a b => Sys2Proof.Machine.execAesdec k d a b s
  | .shainit k d a b => Sys2Proof.Machine.execShainit k d a b s
  | .shablk k d a b => Sys2Proof.Machine.execShablk k d a b s
  | .shaout k d a b => Sys2Proof.Machine.execShaout k d a b s
  | .modsel k d a b => Sys2Proof.Machine.execModsel k d a b s
  | .modmul k d a b => Sys2Proof.Machine.execModmul k d a b s
  | .modadd k d a b => Sys2Proof.Machine.execModadd k d a b s
  | .modsub k d a b => Sys2Proof.Machine.execModsub k d a b s
  | .rand k d a b => Sys2Proof.Machine.execRand k d a b s
  | .vsetl k d a b => Sys2Proof.Machine.execVsetl k d a b s
  | .vadd k d a b => Sys2Proof.Machine.execVadd k d a b s
  | .vsub k d a b => Sys2Proof.Machine.execVsub k d a b s
  | .vmul k d a b => Sys2Proof.Machine.execVmul k d a b s
  | .vmulc k d a b => Sys2Proof.Machine.execVmulc k d a b s
  | .vscale k d a b => Sys2Proof.Machine.execVscale k d a b s
  | .vpow k d a b => Sys2Proof.Machine.execVpow k d a b s
  | .vdot k d a b => Sys2Proof.Machine.execVdot k d a b s
  | .vfft k d a b => Sys2Proof.Machine.execVfft k d a b s
  | .vifft k d a b => Sys2Proof.Machine.execVifft k d a b s
  | .setpend w k v => Sys2Proof.Machine.execSetpend w k v s
  | .coreOffline w k => Sys2Proof.Machine.execCoreOffline w k s
  | .coreRestart w k => Sys2Proof.Machine.execCoreRestart w k s
  | .watchdogKick w k v => Sys2Proof.Machine.execWatchdogKick w k v s
  | .watchdogWarn k => Sys2Proof.Machine.execWatchdogWarn k s
  | .watchdogExpire k => Sys2Proof.Machine.execWatchdogExpire k s
  | .debugHalt v => Sys2Proof.Machine.execDebugHalt v s
  | .debugStep v => Sys2Proof.Machine.execDebugStep v s
  | .debugResume v => Sys2Proof.Machine.execDebugResume v s
  | .lhalt c => Sys2Proof.Machine.execLhalt c s
  | .dbgaccUpdate dr => Sys2Proof.Machine.execDbgaccUpdate dr s
  | .debugLevelWrite v => Sys2Proof.Machine.execDebugLevelWrite v s
  | .mergeDrain word => Sys2Proof.Machine.execMergeDrain word s
  | .groomRead => Sys2Proof.Machine.execGroomRead s
  | .bankOffline w k => Sys2Proof.Machine.execBankOffline w k s
  | .bankIsolated k => Sys2Proof.Machine.execBankIsolated k s
  | .bankOnline w k => Sys2Proof.Machine.execBankOnline w k s
  | .bankInitDone k => Sys2Proof.Machine.execBankInitDone k s
  | .repairRow w bank row verified => Sys2Proof.Machine.execRepairRow w bank row verified s
  | .fsInfo w g2 => Sys2Proof.Machine.execFsInfo w g2 s
  | .fsErase w g2 g3 => Sys2Proof.Machine.execFsErase w g2 g3 s
  | .fsProgram w g2 g3 g4 => Sys2Proof.Machine.execFsProgram w g2 g3 g4 s
  | .fsStatus w => Sys2Proof.Machine.execFsStatus w s
  | .fsSuspend w => Sys2Proof.Machine.execFsSuspend w s
  | .fsResume w => Sys2Proof.Machine.execFsResume w s
  | .fsAbandon w => Sys2Proof.Machine.execFsAbandon w s
  | .fsRefresh w g2 => Sys2Proof.Machine.execFsRefresh w g2 s
  | .flashDone => Sys2Proof.Machine.execFlashDone s
  | .autoSuspend => Sys2Proof.Machine.execAutoSuspend s
  | .autoResume => Sys2Proof.Machine.execAutoResume s
  | .startHouseCopy => Sys2Proof.Machine.execStartHouseCopy s
  | .copyComplete => Sys2Proof.Machine.execCopyComplete s
  | .dmaMove n => Sys2Proof.Machine.execDmaMove n s
  | .dmaLoop n => Sys2Proof.Machine.execDmaLoop n s
  | .dmaWait n => Sys2Proof.Machine.execDmaWait n s
  | .dmaWaitEnd n => Sys2Proof.Machine.execDmaWaitEnd n s
  | .dmaTimeout n => Sys2Proof.Machine.execDmaTimeout n s
  | .dmaSignal n => Sys2Proof.Machine.execDmaSignal n s
  | .dmaQpop n => Sys2Proof.Machine.execDmaQpop n s
  | .dmaQpush n => Sys2Proof.Machine.execDmaQpush n s
  | .dmaSync n => Sys2Proof.Machine.execDmaSync n s
  | .dmaSyncDone n => Sys2Proof.Machine.execDmaSyncDone n s
  | .dmaEnd n => Sys2Proof.Machine.execDmaEnd n s
  | .dmaBurst n at_ => Sys2Proof.Machine.execDmaBurst n at_ s
  | .channelStart w n v => Sys2Proof.Machine.execChannelStart w n v s
  | .channelStop w n v => Sys2Proof.Machine.execChannelStop w n v s
  | .channelStopped n => Sys2Proof.Machine.execChannelStopped n s
  | .swtrig w n v => Sys2Proof.Machine.execSwtrig w n v s
  | .clrpend w n v => Sys2Proof.Machine.execClrpend w n v s
  | .fabricChannelEvent c => Sys2Proof.Machine.execFabricChannelEvent c s
  | .fabricHeldEmit c => Sys2Proof.Machine.execFabricHeldEmit c s
  | .taskDeliver c => Sys2Proof.Machine.execTaskDeliver c s
  | .lutUpdate => Sys2Proof.Machine.execLutUpdate s
  | .lutCtlWrite w j v => Sys2Proof.Machine.execLutCtlWrite w j v s
  | .fabricLock w c v => Sys2Proof.Machine.execFabricLock w c v s
  | .pinEvent pin rising => Sys2Proof.Machine.execPinEvent pin rising s
  | .gtArm w n => Sys2Proof.Machine.execGtArm w n s
  | .gtAdvance n => Sys2Proof.Machine.execGtAdvance n s
  | .gtEnd n => Sys2Proof.Machine.execGtEnd n s
  | .gtCascadeWrap n => Sys2Proof.Machine.execGtCascadeWrap n s
  | .gtTopWrite w n v => Sys2Proof.Machine.execGtTopWrite w n v s
  | .gtCapture n => Sys2Proof.Machine.execGtCapture n s
  | .gtCapRead w n => Sys2Proof.Machine.execGtCapRead w n s
  | .modeRequest w v => Sys2Proof.Machine.execModeRequest w v s
  | .agentAnswer agent ans load => Sys2Proof.Machine.execAgentAnswer agent ans load s
  | .agentDelayExpiry agent => Sys2Proof.Machine.execAgentDelayExpiry agent s
  | .modeChangeTimeout => Sys2Proof.Machine.execModeChangeTimeout s
  | .modeCommit => Sys2Proof.Machine.execModeCommit s
  | .domainIsolate => Sys2Proof.Machine.execDomainIsolate s
  | .modeChangeComplete => Sys2Proof.Machine.execModeChangeComplete s
  | .wakeSource code => Sys2Proof.Machine.execWakeSource code s
  | .wakePinEdge pin rising => Sys2Proof.Machine.execWakePinEdge pin rising s
  | .regulatorReady => Sys2Proof.Machine.execRegulatorReady s
  | .regulatorTimeout => Sys2Proof.Machine.execRegulatorTimeout s
  | .regRetry => Sys2Proof.Machine.execRegRetry s
  | .xoReady => Sys2Proof.Machine.execXoReady s
  | .xoTimeout => Sys2Proof.Machine.execXoTimeout s
  | .xoRetry => Sys2Proof.Machine.execXoRetry s
  | .pllLock => Sys2Proof.Machine.execPllLock s
  | .tclkTrimWindow count => Sys2Proof.Machine.execTclkTrimWindow count s
  | .por => Sys2Proof.Machine.execPor s
  | .brownoutMain => Sys2Proof.Machine.execBrownoutMain s
  | .brownoutLp => Sys2Proof.Machine.execBrownoutLp s
  | .resetPinAssert => Sys2Proof.Machine.execResetPinAssert s
  | .resetPinRelease => Sys2Proof.Machine.execResetPinRelease s
  | .rstctrlGo w v => Sys2Proof.Machine.execRstctrlGo w v s
  | .vmainLoss => Sys2Proof.Machine.execVmainLoss s
  | .supplySwitch cell => Sys2Proof.Machine.execSupplySwitch cell s
  | .backupReset => Sys2Proof.Machine.execBackupReset s
  | .rtcTick => Sys2Proof.Machine.execRtcTick s
  | .rtcAlarm k => Sys2Proof.Machine.execRtcAlarm k s
  | .adjgo w v => Sys2Proof.Machine.execAdjgo w v s
  | .rtcTrimWindow => Sys2Proof.Machine.execRtcTrimWindow s
  | .tapInstructionLoad ir => Sys2Proof.Machine.execTapInstructionLoad ir s
  | .tapReset => Sys2Proof.Machine.execTapReset s
  | .registerWrite w a v => Sys2Proof.Machine.execRegisterWrite w a v s
  | .tuneHoldEnd g it => Sys2Proof.Machine.execTuneHoldEnd g it s
  | .femLeadSwitch band => Sys2Proof.Machine.execFemLeadSwitch band s
  | .femLagReturn band => Sys2Proof.Machine.execFemLagReturn band s
  | .tmholdExpiry idx => Sys2Proof.Machine.execTmholdExpiry idx s
  | .flashPulseEnd ok => Sys2Proof.Machine.execFlashPulseEnd ok s
  | .uartSyncOctet => Sys2Proof.Machine.execUartSyncOctet s
  | .hostCtsNChange low => Sys2Proof.Machine.execHostCtsNChange low s
  | .vioLoss second => Sys2Proof.Machine.execVioLoss second s
  | .vioReturn second => Sys2Proof.Machine.execVioReturn second s
  | .referenceFailure => Sys2Proof.Machine.execReferenceFailure s
  | .lfOscillatorReady => Sys2Proof.Machine.execLfOscillatorReady s
  | .madcSequenceEnd limit => Sys2Proof.Machine.execMadcSequenceEnd limit s
  | .peripheralServiceRequest src => Sys2Proof.Machine.execPeripheralServiceRequest src s

end Sys2Proof.Machine
end

