-- ==== Sys2Proof/Machine/Step.lean ====
section
/-! DEFINITION. The step: the block takes the command at the front of its queue. -/
namespace Sys2Proof.Machine

open Sys2Proof

/-- The state with these commands waiting. -/
def State.withPending (s : State) (l : List Instr) : State := { s with pending := l }

/-- One step: the command at the front of the queue takes effect with the queue's rest; on an empty queue the block idles
(log 15). -/
def step (s : State) : Host.Outcome State Fault Refusal :=
  match s.pending with
  | [] => .next s
  | c :: rest => exec c (s.withPending rest)

/-- The state with the command that the word spells put at the front of the queue; unchanged where it spells none. -/
def State.withFetchWord (s : State) (nbits w : Nat) : State :=
  match decodeTableWord nbits w with
  | some c => s.withPending (c :: s.pending)
  | none => s

end Sys2Proof.Machine
end

