-- ==== Sys2Proof/Safety.lean ====
section
/-! DEFINITION. The terms in which the obligations speak: when a command's own effect happens, what an application core's
instruction leaves, the invariants of a state, and clamped arithmetic. -/
namespace Sys2Proof.Machine

open Sys2Proof

/-! ## Commands -/

/-- The command answers a next state that satisfies `P`. -/
def Answers (i : Instr) (s : State) (P : State → Prop) : Prop := ∃ t, exec i s = .next t ∧ P t

/-- Where `g` holds the command completes with the state `t`; where it does not, nothing changes. -/
def Acts (i : Instr) (s : State) (g : Bool) (t : State) : Prop :=
  (g = true → exec i s = .next t) ∧ (g = false → exec i s = .next s)

/-- A commanded read: where it is honoured it completes with the value and the state of `r`; where it is not it reads zero
and nothing else changes (R4). -/
def Reads (i : Instr) (s : State) (g : Bool) (r : Word × State) : Prop :=
  (g = true → exec i s = .next { r.2 with rdata := r.1 }) ∧ (g = false → exec i s = .next { s with rdata := 0 })

/-- Record `r` holds the accepted command of transport `t` and tag `tag`, of opcode `opc`, and link firmware starts it next
(R262), once what it reads of flash does not wait for the controller (R368). -/
def State.startsNext (s : State) (t : Transport) (tag : Octet) (opc r : Nat) : Prop :=
  s.recOf (tNum t) tag = some r ∧ (s.serves && s.recOpc r == opc && s.recState r == 1 && s.nextCmd == some r && !s.cmdWaits opc r) = true

/-- Link firmware starts the command of opcode `opc` (R262): an uncorrectable word among those it reads ends it with HW_FAULT (R270);
otherwise it completes with `body` of its record and parameters where it passes the checks of steps 9 and 10 as they stand, and where
it does not it ends with the status of the check that failed, and nothing is executed (R260). -/
def Starts (i : Instr) (s : State) (t : Transport) (tag : Octet) (opc : Nat) (check : List Octet → State → Nat)
    (body : Nat → List Octet → State → State) : Prop :=
  ∀ r bad u, s.startsNext t tag opc r → fwTouch (cmdReads opc (s.recParams r) s) s = (bad, u) →
    (bad = true → exec i s = .next (finalReply r St.hwFault [] u)) ∧
    (bad = false → check (s.recParams r) u = St.done → exec i s = .next (body r (s.recParams r) u)) ∧
    (bad = false → check (s.recParams r) u ≠ St.done → exec i s = .next (finalReply r (check (s.recParams r) u) [] u))

/-! ## The application cores -/

/-- Core `k` executes the instruction at its program counter: the core runs, the fetch does not wait for flash (R368) and is
honoured without an error (R328, R332). -/
def State.ready (s : State) (k : Fin 4) : Prop :=
  s.coreRuns k = true ∧ s.fetchWaits k = false ∧ (fetch k (resume k s)).1 = 0

/-- The state once core `k` has fetched the instruction at its program counter. -/
def State.fetched (s : State) (k : Fin 4) : State := (fetch k (resume k s)).2

/-- The general registers after `gd := v`; a write to g0 is discarded (R305). -/
def Core.upd (c : Core) (d : Nat) (v : Word) (r : Nat) : Word := if r = d ∧ r ≠ 0 then v else c.reg r

/-- The general registers after a pair d is written, the low word in gd (R305). -/
def Core.updPair (c : Core) (d : Nat) (lo hi : Word) (r : Nat) : Word :=
  if r = d then lo else if r = d + 1 then hi else c.reg r

/-- From `u` to `t` core `k` goes to `npc` and its general registers become `f`; nothing else changes. -/
def OnlyRegs (k : Fin 4) (u t : State) (npc : Word) (f : Nat → Word) : Prop :=
  t = u.setCore k { u.core k with g := (t.core k).g, pc := npc } ∧ ∀ r, r < 16 → (t.core k).reg r = f r

/-- The instruction completes with `gd := v` and goes on to the next one; nothing else changes. -/
def PutsReg (k : Fin 4) (i : Instr) (s : State) (d : BitVec 4) (v : Word) : Prop :=
  Answers i s (fun t => OnlyRegs k (s.fetched k) t (((s.fetched k).core k).pc + 1) (((s.fetched k).core k).upd d.toNat v))

/-- The instruction completes with the pair d holding `lo` and `hi`. -/
def PutsPair (k : Fin 4) (i : Instr) (s : State) (d : BitVec 4) (lo hi : Word) : Prop :=
  Answers i s (fun t =>
    OnlyRegs k (s.fetched k) t (((s.fetched k).core k).pc + 1) (((s.fetched k).core k).updPair d.toNat lo hi))

/-- The instruction completes at `npc`; nothing else changes. -/
def Goes (k : Fin 4) (i : Instr) (s : State) (npc : Word) : Prop :=
  exec i s = .next ((s.fetched k).setCore k { (s.fetched k).core k with pc := npc })

/-- The instruction completes at `npc` with `gd := v`. -/
def GoesWith (k : Fin 4) (i : Instr) (s : State) (npc : Word) (d : Nat) (v : Word) : Prop :=
  Answers i s (fun t => OnlyRegs k (s.fetched k) t npc (((s.fetched k).core k).upd d v))

/-- The instruction completes with core `k` holding `c`, which is at the next instruction; nothing else changes. -/
def PutsCore (k : Fin 4) (i : Instr) (s : State) (c : Core) : Prop :=
  exec i s = .next ((s.fetched k).setCore k { c with pc := ((s.fetched k).core k).pc + 1 })

/-- The core with ACC := `x` clamped to its limits, and SAT set where it was clamped (R319). -/
def Core.accSat (c : Core) (x : Int) : Core :=
  { c with acc := BitVec.ofInt 56 (max (-(2 ^ 55)) (min (2 ^ 55 - 1) x)),
           sat := c.sat || decide (x < -(2 ^ 55)) || decide (2 ^ 55 ≤ x) }

/-- An integer clamped to a signed word, as a word (R306). -/
def clamp24 (x : Int) : Word := BitVec.ofInt 24 (max (-(2 ^ 23)) (min (2 ^ 23 - 1) x))

/-- An integer clamped to a half of a packed complex word (R306). -/
def clamp12 (x : Int) : Int := max (-(2 ^ 11)) (min (2 ^ 11 - 1) x)

/-- The halves I [23:12] and Q [11:0] of a packed complex word (R306). -/
def halfI (v : Word) : Int := (v.extractLsb' 12 12).toInt
def halfQ (v : Word) : Int := (v.extractLsb' 0 12).toInt

/-- A packed complex word from two integers, each modulo 2^12. -/
def packed (i q : Int) : Word := BitVec.ofInt 12 i ++ BitVec.ofInt 12 q

/-- What exception entry leaves of core `c` (R330): the saved status, the saved program counter, XVAL and XCAUSE; the exchange of
g15 and XSP out of user mode; the new status; and the entry address. The accumulator, the other general and system registers and
the caches stay; a core that is in a boot-ROM service is in a handler of it from then on (R370). -/
def Entered (c c' : Core) (code arg : Nat) (onFetch : Bool) (xval : Word) (entry : Nat) : Prop :=
  c'.sysReg 0x011 = c.sysReg 0x010 ∧ c'.sysReg 0x012 = c.pc ∧ c'.sysReg 0x014 = xval ∧
  c'.sysReg 0x013 = W (arg * 2 ^ 12 + (if onFetch then 2 ^ 5 else 0) + bits (c.sysReg 0x010) 2 1 * 2 ^ 4 + code) ∧
  c'.sup = true ∧ c'.ie = false ∧ bitOf (c'.sysReg 0x010) 2 = true ∧ c'.ipl = c.ipl ∧
  c'.pc = W ((c.sysReg 0x015).toNat / 512 * 512 + entry) ∧
  (if c.sup then c'.reg 15 = c.reg 15 ∧ c'.sysReg 0x018 = c.sysReg 0x018
   else c'.reg 15 = c.sysReg 0x018 ∧ c'.sysReg 0x018 = c.reg 15) ∧
  (∀ r, r < 15 → c'.reg r = c.reg r) ∧
  (∀ n, n < 0x010 ∨ (0x014 < n ∧ n ≠ 0x018) → c'.sysReg n = c.sysReg n) ∧
  c' = { c with g := c'.g, pc := c'.pc, sys := c'.sys, waiting := false, away := !c.svc.isEmpty }

/-- The instruction takes the synchronous exception: core `k` enters it and nothing else changes. -/
def Traps (k : Fin 4) (i : Instr) (s : State) (code arg : Nat) (onFetch : Bool) (xval : Word) : Prop :=
  Answers i s (fun t => t = (s.fetched k).setCore k (t.core k) ∧
    Entered ((s.fetched k).core k) (t.core k) code arg onFetch xval (8 * code))

/-- Word `a` of application SRAM, as core `k` sees it without its MPU, its D-cache (off, and holding no line of the word) and its
watchpoints: the bank is in service and the word carries no error, no octet waits in a merge buffer and no posted write at a port, no flip
is armed, and octet-check mode is off. -/
def State.plainRam (s : State) (k : Fin 4) (a : Nat) : Prop :=
  0x600000 ≤ a ∧ a < 0x800000 ∧ s.sramUp a = true ∧ s.octMode a = false ∧ tabLook 0 s.ecc.flips a = 0 ∧ s.ecc.merge = [] ∧ s.dmaPost = [] ∧
  s.bit R.eccFlipsel 8 = false ∧ bitOf ((s.core k).sysReg 0x020) 0 = false ∧ bitOf ((s.core k).sysReg 0x050) 1 = false ∧
  (s.core k).dLine a = none ∧
  ∀ j, j < 4 → s.bit (R.wpCfg k.val j) 3 = false

/-! ## Invariants -/

/-- The memory and the registers are in their canonical form. -/
def State.canonical (s : State) : Prop := s.mem.wf = true ∧ tabWf regReset s.regs = true

end Sys2Proof.Machine
end

