-- ==== Sys2Proof/Certificates/Slice0/Obligations.lean ====
section
/-! DEFINITION. The obligations: what the model is held to. Each docstring names the rule of spec/ that the statement formalises. -/

open Sys2Proof Sys2Proof.Machine

/-! ## The machine -/

/-- One step takes the command at the front of the queue: it is `exec` of that command on the state with the queue's rest. -/
def Obligations.StepRunsFrontCommand : Prop :=
  ∀ (c : Instr) (rest : List Instr) (s : State), step (s.withPending (c :: rest)) = exec c (s.withPending rest)

/-- On an empty queue the block idles (the model's choice, log 15). -/
def Obligations.IdleStepChangesNothing : Prop := ∀ s : State, s.pending = [] → step s = .next s

/-- No command stops the block: each answers a next state in every state. -/
def Obligations.EveryCommandCompletes : Prop := ∀ (c : Instr) (s : State), ∃ t, exec c s = .next t

/-- A command's meaning leaves the queue of waiting commands alone. -/
def Obligations.CommandsKeepTheQueue : Prop := ∀ (c : Instr) (s t : State), exec c s = .next t → t.pending = s.pending

/-- Every step keeps the memory and the registers in their canonical form. -/
def Obligations.StepKeepsCanonicalForm : Prop := ∀ s t : State, s.canonical → step s = .next t → t.canonical

/-- The state after reset is in canonical form. -/
def Obligations.ResetIsCanonical : Prop := State.reset.canonical

/-- The debug level can only rise, whatever step is taken (R467). -/
def Obligations.DebugLevelNeverFalls : Prop :=
  ∀ s t : State, step s = .next t → s.otp.debugLevel.toNat ≤ t.otp.debugLevel.toNat

/-- After a chip-domain reset and at power-on the mesh-time counter is 0, MT_UNCERT is 0xFFF_FFF, the source state is FREE (R11);
the cores are in supervisor mode with interrupts off, VL is 1, and the caches are empty and off (R326, R333, the system
registers of 12_qoris24_cores.md). -/
def Obligations.ResetValues : Prop :=
  State.reset.mt.ctr = 0 ∧ State.reset.reg R.mtUncert = 0xFFFFFF ∧ State.reset.fld R.mtSrc 8 3 = 0 ∧
  ∀ k : Fin 4,
    (State.reset.core k).sup = true ∧ (State.reset.core k).ie = false ∧ (State.reset.core k).ipl = 0 ∧
    (State.reset.core k).sysReg 0x054 = 1 ∧ (State.reset.core k).sysReg 0x050 = 0 ∧
    (State.reset.core k).dcache = [] ∧ (State.reset.core k).icache = []

/-- A word write to memory leaves every octet of other words as it was, and the word reads back as written (R1). -/
def Obligations.WordWriteReadsBack : Prop :=
  ∀ (m : Memory) (w : Nat) (v : Word),
    (m.setWord w v).word w = v ∧
    (∀ lane, lane < 3 → (m.setWord w v).octet (3 * w + lane) = v.extractLsb' (8 * lane) 8) ∧
    ∀ a, a / 3 ≠ w → (m.setWord w v).octet a = m.octet a

/-- An instruction fetch changes no other core, neither mesh time nor the queue; the core that fetches leaves WAIT and may gain a line
of its I-cache, and keeps everything else: its general registers, program counter, system registers and accumulator. -/
def Obligations.FetchKeepsTheCores : Prop :=
  ∀ (k : Fin 4) (s : State),
    (∀ j : Fin 4, j ≠ k → (s.fetched k).core j = s.core j) ∧
    (s.fetched k).core k = { s.core k with waiting := false, icache := ((s.fetched k).core k).icache } ∧
    (s.fetched k).mt = s.mt ∧ (s.fetched k).pending = s.pending

/-! ## The application cores: results

Each statement is about every core, every operand register and every state in which the core executes the instruction at its
program counter. `c` is the core once the instruction is fetched; the fetch changes no general register. -/

/-- R309: the 24 functions of major 0x00 compute gd from ga and gb; a shift amount of 24 to 31 gives 0, or 24 copies of the sign.
Writes to g0 are discarded (R305); saturation is that of R306. -/
def Obligations.RegisterAluResults : Prop :=
  ∀ (k : Fin 4) (d a b : BitVec 4) (s : State), s.ready k →
    let c := (s.fetched k).core k
    let x := c.reg a.toNat
    let y := c.reg b.toNat
    let n := y.toNat % 32
    PutsReg k (.add k d a b) s d (BitVec.ofNat 24 (x.toNat + y.toNat)) ∧
    PutsReg k (.sub k d a b) s d (BitVec.ofInt 24 (x.toInt - y.toInt)) ∧
    PutsReg k (.andR k d a b) s d (x &&& y) ∧
    PutsReg k (.orR k d a b) s d (x ||| y) ∧
    PutsReg k (.xorR k d a b) s d (x ^^^ y) ∧
    PutsReg k (.nor k d a b) s d (~~~(x ||| y)) ∧
    PutsReg k (.lts k d a b) s d (if x.toInt < y.toInt then 1 else 0) ∧
    PutsReg k (.ltu k d a b) s d (if x.toNat < y.toNat then 1 else 0) ∧
    PutsReg k (.shl k d a b) s d (BitVec.ofNat 24 (x.toNat * 2 ^ n)) ∧
    PutsReg k (.shr k d a b) s d (BitVec.ofNat 24 (x.toNat / 2 ^ n)) ∧
    PutsReg k (.sar k d a b) s d (BitVec.ofInt 24 (x.toInt / 2 ^ n)) ∧
    PutsReg k (.ror k d a b) s d (x.rotateRight (n % 24)) ∧
    PutsReg k (.minS k d a b) s d (BitVec.ofInt 24 (min x.toInt y.toInt)) ∧
    PutsReg k (.maxS k d a b) s d (BitVec.ofInt 24 (max x.toInt y.toInt)) ∧
    PutsReg k (.minu k d a b) s d (BitVec.ofNat 24 (min x.toNat y.toNat)) ∧
    PutsReg k (.maxu k d a b) s d (BitVec.ofNat 24 (max x.toNat y.toNat)) ∧
    PutsReg k (.adds k d a b) s d (clamp24 (x.toInt + y.toInt)) ∧
    PutsReg k (.subs k d a b) s d (clamp24 (x.toInt - y.toInt)) ∧
    PutsReg k (.abs k d a 0) s d (clamp24 x.toInt.natAbs) ∧
    PutsReg k (.clz k d a 0) s d (if x = 0 then 24 else BitVec.ofNat 24 (23 - Nat.log2 x.toNat)) ∧
    PutsReg k (.popc k d a 0) s d (BitVec.ofNat 24 ((List.range 24).countP x.getLsbD)) ∧
    PutsReg k (.revo k d a 0) s d (x.extractLsb' 0 8 ++ x.extractLsb' 8 8 ++ x.extractLsb' 16 8) ∧
    PutsReg k (.sexo k d a 0) s d ((x.extractLsb' 0 8).signExtend 24) ∧
    PutsReg k (.sex12 k d a 0) s d ((x.extractLsb' 0 12).signExtend 24)

/-- R310: the immediate forms compute gd from ga and the immediate, WHI and ADH from gd alone; the immediate shifts take imm[4:0]
with imm[9:5] = 0, and EXT.K an lsb below 24. -/
def Obligations.ImmediateAluResults : Prop :=
  ∀ (k : Fin 4) (d a : BitVec 4) (imm : BitVec 10) (top : BitVec 14) (s : State), s.ready k →
    let c := (s.fetched k).core k
    let x := c.reg a.toNat
    let i := imm.signExtend 24
    let n := imm.toNat % 32
    PutsReg k (.addK k d a imm) s d (BitVec.ofInt 24 (x.toInt + i.toInt)) ∧
    PutsReg k (.andK k d a imm) s d (x &&& imm.setWidth 24) ∧
    PutsReg k (.orK k d a imm) s d (x ||| imm.setWidth 24) ∧
    PutsReg k (.xorK k d a imm) s d (x ^^^ imm.setWidth 24) ∧
    PutsReg k (.ltsK k d a imm) s d (if x.toInt < i.toInt then 1 else 0) ∧
    PutsReg k (.ltuK k d a imm) s d (if x.toNat < i.toNat then 1 else 0) ∧
    (imm.toNat < 32 →
      PutsReg k (.shlK k d a imm) s d (BitVec.ofNat 24 (x.toNat * 2 ^ n)) ∧
      PutsReg k (.shrK k d a imm) s d (BitVec.ofNat 24 (x.toNat / 2 ^ n)) ∧
      PutsReg k (.sarK k d a imm) s d (BitVec.ofInt 24 (x.toInt / 2 ^ n)) ∧
      PutsReg k (.rorK k d a imm) s d (x.rotateRight (n % 24))) ∧
    PutsReg k (.whi k d top) s d (BitVec.ofNat 24 (top.toNat * 2 ^ 10)) ∧
    PutsReg k (.adh k d top) s d (BitVec.ofNat 24 ((c.reg d.toNat).toNat + top.toNat * 2 ^ 10)) ∧
    PutsReg k (.addsK k d a imm) s d (clamp24 (x.toInt + i.toInt)) ∧
    PutsReg k (.rsbK k d a imm) s d (BitVec.ofInt 24 (i.toInt - x.toInt)) ∧
    (n < 24 → PutsReg k (.extK k d a imm) s d (BitVec.ofNat 24 (x.toNat / 2 ^ n % 2 ^ (imm.toNat / 32 + 1))))

/-- R313: a compare-branch goes to its own address plus the sign-extended offset (R307) when its condition holds and to the next
word otherwise; CB.DEC writes its count back; CALL and CALLR leave the next address in g14, CALLR's target computed first. -/
def Obligations.BranchAndJumpResults : Prop :=
  ∀ (k : Fin 4) (a b : BitVec 4) (off : BitVec 10) (far : BitVec 18) (s : State), s.ready k →
    let c := (s.fetched k).core k
    let x := c.reg a.toNat
    let y := c.reg b.toNat
    let there := c.pc + off.signExtend 24
    let next := c.pc + 1
    Goes k (.cbEq k a b off) s (if x = y then there else next) ∧
    Goes k (.cbNe k a b off) s (if x ≠ y then there else next) ∧
    Goes k (.cbLt k a b off) s (if x.toInt < y.toInt then there else next) ∧
    Goes k (.cbGe k a b off) s (if y.toInt ≤ x.toInt then there else next) ∧
    Goes k (.cbLtu k a b off) s (if x.toNat < y.toNat then there else next) ∧
    Goes k (.cbGeu k a b off) s (if y.toNat ≤ x.toNat then there else next) ∧
    GoesWith k (.cbDec k a 0 off) s (if x - 1 ≠ 0 then there else next) a.toNat (x - 1) ∧
    Goes k (.cbAny k a b off) s (if x &&& y ≠ 0 then there else next) ∧
    Goes k (.jmp k far) s (c.pc + far.signExtend 24) ∧
    GoesWith k (.call k far) s (c.pc + far.signExtend 24) 14 next ∧
    Goes k (.jmpr k 0 a off) s (x + off.signExtend 24) ∧
    GoesWith k (.callr k 0 a off) s (x + off.signExtend 24) 14 next

/-- R317 and R318: products modulo 2^24, their high words, their pairs; quotients and remainders rounded towards zero. A divisor of
zero gives 0xFFF_FFF and the dividend, DIVL and DIVLU the low word of theirs, and likewise a quotient that does not fit. -/
def Obligations.MultiplyDivideResults : Prop :=
  ∀ (k : Fin 4) (d a b : BitVec 4) (imm : BitVec 10) (s : State), s.ready k →
    let c := (s.fetched k).core k
    let x := c.reg a.toNat
    let y := c.reg b.toNat
    let m : Word := 0xFFFFFF
    PutsReg k (.mul k d a b) s d (BitVec.ofInt 24 (x.toInt * y.toInt)) ∧
    PutsReg k (.mulh k d a b) s d (BitVec.ofInt 24 (x.toInt * y.toInt / 2 ^ 24)) ∧
    PutsReg k (.mulhu k d a b) s d (BitVec.ofNat 24 (x.toNat * y.toNat / 2 ^ 24)) ∧
    PutsReg k (.mulK k d a imm) s d (BitVec.ofInt 24 (x.toInt * (imm.signExtend 24).toInt)) ∧
    PutsReg k (.div k d a b) s d (if y = 0 then m else BitVec.ofInt 24 (x.toInt.tdiv y.toInt)) ∧
    PutsReg k (.divu k d a b) s d (if y = 0 then m else BitVec.ofNat 24 (x.toNat / y.toNat)) ∧
    PutsReg k (.rem k d a b) s d (if y = 0 then x else BitVec.ofInt 24 (x.toInt.tmod y.toInt)) ∧
    PutsReg k (.remu k d a b) s d (if y = 0 then x else BitVec.ofNat 24 (x.toNat % y.toNat)) ∧
    (pairOk d = true →
      PutsPair k (.mull k d a b) s d (BitVec.ofInt 24 (x.toInt * y.toInt)) (BitVec.ofInt 24 (x.toInt * y.toInt / 2 ^ 24)) ∧
      PutsPair k (.mullu k d a b) s d (BitVec.ofNat 24 (x.toNat * y.toNat)) (BitVec.ofNat 24 (x.toNat * y.toNat / 2 ^ 24))) ∧
    (pairOk d = true → pairOk a = true →
      let p : BitVec 48 := c.reg (a.toNat + 1) ++ x
      let q := p.toInt.tdiv y.toInt
      PutsPair k (.divl k d a b) s d
        (if y = 0 ∨ q < -(2 ^ 23) ∨ 2 ^ 23 ≤ q then m else BitVec.ofInt 24 q)
        (if y = 0 ∨ q < -(2 ^ 23) ∨ 2 ^ 23 ≤ q then x else BitVec.ofInt 24 (p.toInt.tmod y.toInt)) ∧
      PutsPair k (.divlu k d a b) s d
        (if y = 0 ∨ 2 ^ 24 ≤ p.toNat / y.toNat then m else BitVec.ofNat 24 (p.toNat / y.toNat))
        (if y = 0 ∨ 2 ^ 24 ≤ p.toNat / y.toNat then x else BitVec.ofNat 24 (p.toNat % y.toNat)))

/-- R319: FMUL rounds to nearest with ties upward and FMULT truncates, both saturating; MAC, MSU and MACZ saturate ACC and set SAT;
ACCR rounds and saturates ACC; ACCW loads it; ACCSH shifts it; the packed complex forms work per half (R306). -/
def Obligations.FixedPointResults : Prop :=
  ∀ (k : Fin 4) (d a b : BitVec 4) (s : State), s.ready k →
    let c := (s.fetched k).core k
    let x := c.reg a.toNat
    let y := c.reg b.toNat
    let p := x.toInt * y.toInt
    PutsReg k (.fmul k d a b) s d (clamp24 ((p + 2 ^ 22) / 2 ^ 23)) ∧
    PutsReg k (.fmult k d a b) s d (clamp24 (p / 2 ^ 23)) ∧
    PutsCore k (.mac k d a b) s (c.accSat (c.acc.toInt + p)) ∧
    PutsCore k (.msu k d a b) s (c.accSat (c.acc.toInt - p)) ∧
    PutsCore k (.macz k 0 a b) s { c with acc := BitVec.ofInt 56 p } ∧
    PutsReg k (.accr k d 0 0) s d (clamp24 ((c.acc.toInt + 2 ^ 22) / 2 ^ 23)) ∧
    PutsCore k (.accw k 0 a 0) s { c with acc := BitVec.ofInt 56 (x.toInt * 2 ^ 23) } ∧
    PutsCore k (.accsh k 0 0 b) s { c with acc := BitVec.ofInt 56 (c.acc.toInt / 2 ^ (y.toNat % 64)) } ∧
    PutsReg k (.cadd k d a b) s d (packed (halfI x + halfI y) (halfQ x + halfQ y)) ∧
    PutsReg k (.cadds k d a b) s d (packed (clamp12 (halfI x + halfI y)) (clamp12 (halfQ x + halfQ y))) ∧
    PutsReg k (.csub k d a b) s d (packed (halfI x - halfI y) (halfQ x - halfQ y)) ∧
    PutsReg k (.csubs k d a b) s d (packed (clamp12 (halfI x - halfI y)) (clamp12 (halfQ x - halfQ y))) ∧
    PutsReg k (.cconj k d a 0) s d (packed (halfI x) (clamp12 (-halfQ x))) ∧
    PutsReg k (.cmul k d a b) s d
      (packed (clamp12 ((halfI x * halfI y - halfQ x * halfQ y + 2 ^ 10) / 2 ^ 11))
        (clamp12 ((halfI x * halfQ y + halfQ x * halfI y + 2 ^ 10) / 2 ^ 11)))

/-- R320: every encoding of major 0x37 executes as a no-operation in both modes, whatever its other bits hold. -/
def Obligations.HintsAreNoOperations : Prop :=
  ∀ (k : Fin 4) (rest : BitVec 18) (s : State), s.ready k → Goes k (.hint k rest) s (((s.fetched k).core k).pc + 1)

/-- R314 and R330: TRAP raises SYSCALL with its code in XCAUSE.ARG and XVAL 0; BKPT raises BREAK likewise, or halts the core before
the instruction while the debugger's BRKHALT is set (R340). -/
def Obligations.TrapAndBreak : Prop :=
  ∀ (k : Fin 4) (code : BitVec 12) (s : State), s.ready k →
    Traps k (.trap k code) s 3 code.toNat false 0 ∧
    ((s.fetched k).bit R.dbgCtrl (4 + k.val) = false → Traps k (.bkpt k code) s 4 code.toNat false 0) ∧
    ((s.fetched k).bit R.dbgCtrl (4 + k.val) = true →
      exec (.bkpt k code) s = .next ((s.fetched k).setBit R.dbgStat k.val true))

/-- R330: XRET restores STATUS from XSTAT and the program counter from XPC; g15 and XSP exchange when the restored mode is user mode.
No other general register and no accumulator changes. (For a core that no flash service waits to answer, R370.) -/
def Obligations.ExceptionReturn : Prop :=
  ∀ (k : Fin 4) (s : State), s.ready k → ((s.fetched k).core k).sup = true → (s.fetched k).flash.rets = [] →
    let c := (s.fetched k).core k
    Answers (.xret k 0) s (fun t =>
      t = (s.fetched k).setCore k (t.core k) ∧ (t.core k).sysReg 0x010 = c.sysReg 0x011 ∧ (t.core k).pc = c.sysReg 0x012 ∧
      (if bitOf (c.sysReg 0x011) 0 then (t.core k).reg 15 = c.reg 15 ∧ (t.core k).sysReg 0x018 = c.sysReg 0x018
       else (t.core k).reg 15 = c.sysReg 0x018 ∧ (t.core k).sysReg 0x018 = c.reg 15) ∧
      (∀ r, r < 15 → (t.core k).reg r = c.reg r) ∧ (t.core k).acc = c.acc ∧ (t.core k).sat = c.sat)

/-- A core takes its exception and returns from it where it was: TRAP and then XRET restore the status, the program counter and
every general register (R330). -/
def Obligations.TrapThenReturn : Prop :=
  ∀ (c : Core) (code : Nat) (xval : Word),
    let c2 := (c.enter 3 code false c.pc xval 24 none).leave
    c2.sysReg 0x010 = c.sysReg 0x010 ∧ c2.pc = c.pc ∧ (∀ r, r < 16 → c2.reg r = c.reg r) ∧
      c2.sysReg 0x018 = c.sysReg 0x018

/-- R314, R330 and R335: an interrupt taken clears its pending bit and enters at XBASE + 0x040 + 2n with XVAL 0, XPC at the first
instruction not executed, IPL at the input's priority, interrupts off. -/
def Obligations.InterruptEntry : Prop :=
  ∀ (k : Fin 4) (n : Nat) (s : State), s.takeable k = some n →
    (s.coreOnline k && !s.halted k.val && (s.core k).ie && !s.vectorsBusy k) = true →
    let c := s.core k
    Answers (.interruptTake k) s (fun t =>
      t = (s.setBit (R.intcPend k.val (n / 24)) (n % 24) false).setCore k (t.core k) ∧
      (t.core k).pc = W ((c.sysReg 0x015).toNat / 512 * 512 + 0x40 + 2 * n) ∧
      (t.core k).sysReg 0x012 = c.pc ∧ (t.core k).sysReg 0x011 = c.sysReg 0x010 ∧ (t.core k).sysReg 0x014 = 0 ∧
      (t.core k).sysReg 0x013 = W (n * 2 ^ 12 + bits (c.sysReg 0x010) 2 1 * 2 ^ 4 + 6) ∧
      (t.core k).sup = true ∧ (t.core k).ie = false ∧ bitOf ((t.core k).sysReg 0x010) 2 = true ∧
      (t.core k).ipl = s.inputPrio k.val n ∧ (∀ r, r < 15 → (t.core k).reg r = c.reg r) ∧ (t.core k).waiting = false)

/-- R329 and R335: a core that is online and not halted, with STATUS.IE = 1 and its vectors not in a flash bank that is being operated
on while it waits in the flash service (R370), takes the pending enabled input of the highest priority above STATUS.IPL, the lowest
number on a tie. -/
def Obligations.InterruptTakeCompletes : Prop :=
  ∀ (k : Fin 4) (n : Nat) (s : State), n < 128 → s.intcPending k.val n = true → (s.core k).ipl < s.inputPrio k.val n →
    (∀ m, m < 128 → m ≠ n → s.intcPending k.val m = true →
      s.inputPrio k.val m < s.inputPrio k.val n ∨ (s.inputPrio k.val m = s.inputPrio k.val n ∧ n < m)) →
    s.coreOnline k = true → s.halted k.val = false → (s.core k).ie = true → s.vectorsBusy k = false →
    exec (.interruptTake k) s = .next (takeInput k n s)

/-- R335: the input a core could take has the highest priority of those pending and enabled, the lowest number on a tie, and stands
above STATUS.IPL; priority 0 is never taken. -/
def Obligations.HighestInputIsTaken : Prop :=
  ∀ (k : Fin 4) (n : Nat) (s : State), s.takeable k = some n →
    n < 128 ∧ s.intcPending k.val n = true ∧ s.inputPrio k.val n ≠ 0 ∧ (s.core k).ipl < s.inputPrio k.val n ∧
    ∀ m, m < 128 → s.intcPending k.val m = true → s.inputPrio k.val m ≠ 0 →
      s.inputPrio k.val m < s.inputPrio k.val n ∨ (s.inputPrio k.val m = s.inputPrio k.val n ∧ n ≤ m)

/-- R325 over the rows of the table: a reserved field that is not zero, a lane of 3, a pair that is not even in 2 to 12, an lsb of 24
or more, imm[9:5] ≠ 0 in an immediate shift, and a system register that does not exist raise ILLEGAL, in both modes, with the
instruction word in XVAL. -/
def Obligations.ReservedFieldsAreIllegal : Prop :=
  ∀ (k : Fin 4) (d a b : BitVec 4) (imm : BitVec 10) (rest : BitVec 12) (r8 : BitVec 8) (s : State), s.ready k →
    (b ≠ 0 →
      Traps k (.abs k d a b) s 1 0 false (fmtA 0 d a b 0x13) ∧ Traps k (.clz k d a b) s 1 0 false (fmtA 0 d a b 0x14) ∧
      Traps k (.popc k d a b) s 1 0 false (fmtA 0 d a b 0x15) ∧ Traps k (.revo k d a b) s 1 0 false (fmtA 0 d a b 0x16) ∧
      Traps k (.sexo k d a b) s 1 0 false (fmtA 0 d a b 0x17) ∧ Traps k (.sex12 k d a b) s 1 0 false (fmtA 0 d a b 0x18) ∧
      Traps k (.cbDec k a b imm) s 1 0 false (fmtI 0x1E a b imm) ∧
      Traps k (.cconj k d a b) s 1 0 false (fmtA 0x2F d a b 0x05) ∧
      Traps k (.aesenc k d a b) s 1 0 false (fmtA 0x3C d a b 0x02) ∧
      Traps k (.aesdec k d a b) s 1 0 false (fmtA 0x3C d a b 0x03) ∧
      Traps k (.vpow k d a b) s 1 0 false (fmtA 0x3D d a b 0x07)) ∧
    (d ≠ 0 →
      Traps k (.jmpr k d a imm) s 1 0 false (fmtI 0x22 d a imm) ∧ Traps k (.callr k d a imm) s 1 0 false (fmtI 0x23 d a imm) ∧
      Traps k (.mts k d a imm) s 1 0 false (fmtI 0x27 d a imm) ∧ Traps k (.macz k d a b) s 1 0 false (fmtA 0x2D d a b 0x03)) ∧
    (rest ≠ 0 →
      Traps k (.xret k rest) s 1 0 false (fmtSys rest 0x03) ∧ Traps k (.wait k rest) s 1 0 false (fmtSys rest 0x04) ∧
      Traps k (.fence k rest) s 1 0 false (fmtSys rest 0x05) ∧ Traps k (.ei k rest) s 1 0 false (fmtSys rest 0x06)) ∧
    (r8 ≠ 0 → Traps k (.di k d r8) s 1 0 false (fmtSys (BitVec.ofNat 12 (d.toNat * 256 + r8.toNat)) 0x07)) ∧
    (a ≠ 0 → Traps k (.mfs k d a imm) s 1 0 false (fmtI 0x26 d a imm)) ∧
    (sysExists imm.toNat = false →
      Traps k (.mfs k d 0 imm) s 1 0 false (fmtI 0x26 d 0 imm) ∧ Traps k (.mts k 0 a imm) s 1 0 false (fmtI 0x27 0 a imm)) ∧
    (32 ≤ imm.toNat →
      Traps k (.shlK k d a imm) s 1 0 false (fmtI 0x07 d a imm) ∧ Traps k (.shrK k d a imm) s 1 0 false (fmtI 0x08 d a imm) ∧
      Traps k (.sarK k d a imm) s 1 0 false (fmtI 0x09 d a imm) ∧ Traps k (.rorK k d a imm) s 1 0 false (fmtI 0x0A d a imm)) ∧
    (24 ≤ imm.toNat % 32 → Traps k (.extK k d a imm) s 1 0 false (fmtI 0x0F d a imm)) ∧
    (imm.toNat / 256 = 3 →
      Traps k (.ldo k d a imm) s 1 0 false (fmtI 0x12 d a imm) ∧ Traps k (.ldos k d a imm) s 1 0 false (fmtI 0x13 d a imm) ∧
      Traps k (.sto k d a imm) s 1 0 false (fmtI 0x14 d a imm)) ∧
    (d.toNat % 2 = 1 ∨ d.toNat = 0 ∨ d.toNat = 14 →
      Traps k (.ldp k d a imm) s 1 0 false (fmtI 0x15 d a imm) ∧ Traps k (.stp k d a imm) s 1 0 false (fmtI 0x16 d a imm) ∧
      Traps k (.mull k d a b) s 1 0 false (fmtA 0x28 d a b 0x04) ∧ Traps k (.mullu k d a b) s 1 0 false (fmtA 0x28 d a b 0x05) ∧
      Traps k (.divl k d a b) s 1 0 false (fmtA 0x2B d a b 0x01) ∧ Traps k (.divlu k d a b) s 1 0 false (fmtA 0x2B d a b 0x02)) ∧
    (pairOk a = false →
      Traps k (.divl k d a b) s 1 0 false (fmtA 0x2B d a b 0x01) ∧ Traps k (.divlu k d a b) s 1 0 false (fmtA 0x2B d a b 0x02)) ∧
    (a ≠ 0 ∨ b ≠ 0 →
      Traps k (.accr k d a b) s 1 0 false (fmtA 0x2E d a b 0x01) ∧ Traps k (.shaout k d a b) s 1 0 false (fmtA 0x3C d a b 0x06) ∧
      Traps k (.rand k d a b) s 1 0 false (fmtA 0x3C d a b 0x0B) ∧ Traps k (.shainit k d a b) s 1 0 false (fmtA 0x3C d a b 0x04)) ∧
    (d ≠ 0 ∨ a ≠ 0 → Traps k (.accsh k d a b) s 1 0 false (fmtA 0x2E d a b 0x03)) ∧
    (d ≠ 0 ∨ b ≠ 0 →
      Traps k (.accw k d a b) s 1 0 false (fmtA 0x2E d a b 0x02) ∧ Traps k (.aeskey k d a b) s 1 0 false (fmtA 0x3C d a b 0x01) ∧
      Traps k (.shablk k d a b) s 1 0 false (fmtA 0x3C d a b 0x05) ∧ Traps k (.modsel k d a b) s 1 0 false (fmtA 0x3C d a b 0x07) ∧
      Traps k (.vsetl k d a b) s 1 0 false (fmtA 0x3D d a b 0x01) ∧ Traps k (.vfft k d a b) s 1 0 false (fmtA 0x3D d a b 0x09) ∧
      Traps k (.vifft k d a b) s 1 0 false (fmtA 0x3D d a b 0x0A))

/-- R326: a privileged instruction executed in user mode raises PRIV, with the instruction word in XVAL, and has no other effect;
ILLEGAL would come first (R325). MFS of 0x000 to 0x002 is not privileged (R316). -/
def Obligations.PrivilegedInUserMode : Prop :=
  ∀ (k : Fin 4) (d a : BitVec 4) (imm : BitVec 10) (s : State), s.ready k → ((s.fetched k).core k).sup = false →
    Traps k (.xret k 0) s 2 0 false (fmtSys 0 0x03) ∧
    Traps k (.wait k 0) s 2 0 false (fmtSys 0 0x04) ∧
    Traps k (.ei k 0) s 2 0 false (fmtSys 0 0x06) ∧
    Traps k (.di k d 0) s 2 0 false (fmtSys (BitVec.ofNat 12 (d.toNat * 256)) 0x07) ∧
    Traps k (.dinv k a imm) s 2 0 false (fmtI 0x25 3 a imm) ∧
    Traps k (.iall k a imm) s 2 0 false (fmtI 0x25 4 a imm) ∧
    Traps k (.dinvall k a imm) s 2 0 false (fmtI 0x25 7 a imm) ∧
    Traps k (.fcinv k a imm) s 2 0 false (fmtI 0x25 8 a imm) ∧
    (sysExists imm.toNat = true → Traps k (.mts k 0 a imm) s 2 0 false (fmtI 0x27 0 a imm)) ∧
    (sysExists imm.toNat = true → 2 < imm.toNat → Traps k (.mfs k d 0 imm) s 2 0 false (fmtI 0x26 d 0 imm))

/-- R328: a fetch that is not honoured raises ILLEGAL with XVAL = 0, whatever instruction the command carries (shown on ADD, LDW and
TRAP); R331: an uncorrectable error on the fetch raises ECC_DATA with XCAUSE.FETCH = 1 and the address in XVAL. -/
def Obligations.RefusedFetch : Prop :=
  ∀ (k : Fin 4) (d a b : BitVec 4) (imm : BitVec 10) (code : BitVec 12) (s : State),
    s.coreRuns k = true → s.fetchWaits k = false →
    ((fetch k (resume k s)).1 = 1 →
      Traps k (.add k d a b) s 1 0 false 0 ∧ Traps k (.ldw k d a imm) s 1 0 false 0 ∧ Traps k (.trap k code) s 1 0 false 0) ∧
    ((fetch k (resume k s)).1 = 2 →
      Traps k (.add k d a b) s 5 0 true (s.core k).pc ∧ Traps k (.ldw k d a imm) s 5 0 true (s.core k).pc ∧
      Traps k (.trap k code) s 5 0 true (s.core k).pc)

/-- A core that is offline, halted without a step asked for, in a flash service, or waiting with nothing to take executes nothing: ADD
then changes nothing (log 1). -/
def Obligations.StoppedCoreExecutesNothing : Prop :=
  ∀ (k : Fin 4) (d a b : BitVec 4) (s : State),
    (s.offline k.val = true ∨ (s.halted k.val = true ∧ bitOf s.dbg.stepReq k.val = false) ∨ (s.core k).inService = true ∨
      ((s.core k).waiting = true ∧ s.takeable k = none)) →
    exec (.add k d a b) s = .next s

/-- R314: EI sets STATUS.IE; DI reads STATUS.IE into gd and clears it; FENCE lets every merge buffer drain; WAIT goes on to the next
instruction when an input could be taken, ignoring IE, and waits there otherwise. -/
def Obligations.SystemFunctions : Prop :=
  ∀ (k : Fin 4) (d : BitVec 4) (s : State), s.ready k →
    let u := s.fetched k
    let c := u.core k
    exec (.fence k 0) s = .next (nextPc k (drainAll u)) ∧
    (c.sup = true →
      PutsCore k (.ei k 0) s (c.setSys 0x010 (c.sysReg 0x010 ||| 2)) ∧
      Answers (.di k d 0) s (fun t =>
        OnlyRegs k (u.setCore k (c.setSys 0x010 (c.sysReg 0x010 &&& ~~~2))) t (c.pc + 1) (c.upd d.toNat (if c.ie then 1 else 0))) ∧
      Answers (.wait k 0) s (fun t =>
        t = u.setCore k { c with pc := c.pc + 1, waiting := (u.takeable k).isNone }))

/-- R316: MFS reads a system register into gd and MTS writes ga to one; COREID is the core's number; ACC0 to ACC2 show ACC and SAT
(R319); writes to read-only registers are ignored, and XBASE's low nine bits stay as they are (R329). CYCLE0 and CYCLE1 are open values
(log 6). -/
def Obligations.SystemRegisterMoves : Prop :=
  ∀ (k : Fin 4) (d a : BitVec 4) (s : State), s.ready k →
    let u := s.fetched k
    let c := u.core k
    let v := c.reg a.toNat
    PutsReg k (.mfs k d 0 0x000) s d (BitVec.ofNat 24 k.val) ∧
    PutsReg k (.mfs k d 0 0x002) s d c.cycSnap ∧
    (∃ x y, Answers (.mfs k d 0 0x001) s (fun t =>
      OnlyRegs k ((u.drawn.drawn).setCore k { c with cycSnap := y }) t (c.pc + 1) (c.upd d.toNat x))) ∧
    (c.sup = true →
      (∀ n : BitVec 10, (0x010 ≤ n.toNat ∧ n.toNat ≤ 0x018) ∨ n.toNat = 0x020 ∨ (0x030 ≤ n.toNat ∧ n.toNat ≤ 0x050) ∨
          n.toNat = 0x054 ∨ n.toNat = 0x055 → PutsReg k (.mfs k d 0 n) s d (c.sysReg n.toNat)) ∧
      PutsReg k (.mfs k d 0 0x051) s d (c.acc.extractLsb' 0 24) ∧
      PutsReg k (.mfs k d 0 0x052) s d (c.acc.extractLsb' 24 24) ∧
      PutsReg k (.mfs k d 0 0x053) s d (BitVec.ofNat 24 ((c.acc.extractLsb' 48 8).toNat + if c.sat then 2 ^ 23 else 0)) ∧
      (∀ n : BitVec 10, n = 0x012 ∨ n = 0x016 ∨ n = 0x017 ∨ n = 0x018 → PutsCore k (.mts k 0 a n) s (c.setSys n.toNat v)) ∧
      Answers (.mts k 0 a 0x015) s (fun t => ∃ x, t = u.setCore k { c.setSys 0x015 x with pc := c.pc + 1 } ∧
        x &&& 0xFFFE00 = v &&& 0xFFFE00 ∧ x &&& 0x1FF = c.sysReg 0x015 &&& 0x1FF) ∧
      PutsCore k (.mts k 0 a 0x051) s { c with acc := c.acc.extractLsb' 24 32 ++ v } ∧
      PutsCore k (.mts k 0 a 0x052) s { c with acc := c.acc.extractLsb' 48 8 ++ v ++ c.acc.extractLsb' 0 24 } ∧
      PutsCore k (.mts k 0 a 0x053) s
        { c with acc := v.extractLsb' 0 8 ++ c.acc.extractLsb' 0 48, sat := v.getLsbD 23 } ∧
      (∀ n : BitVec 10, n = 0x000 ∨ n = 0x001 ∨ n = 0x002 ∨ n = 0x013 ∨ n = 0x014 →
        Answers (.mts k 0 a n) s (fun t => ∀ j, (t.core k).sysReg j = c.sysReg j)))

/-- R315: a line operation acts on the line of EA unless the MPU denies the address, and the whole-cache operations on their cache. One that
writes back raises ECC_DATA instead where a dirty line is lost, with the address of the word that failed (R332). -/
def Obligations.CacheMaintenance : Prop :=
  ∀ (k : Fin 4) (a : BitVec 4) (imm : BitVec 10) (s : State), s.ready k →
    let u := s.fetched k
    let c := u.core k
    let x := (c.reg a.toNat + imm.signExtend 24).toNat
    let ends := fun (r : Option Nat × State) (f : State → State) =>
      match r with
      | (some e, t) => raise k 5 0 false (W e) t
      | (none, t) => nextPc k (f t)
    exec (.dclean k a imm) s = .next (ends (if c.mpuOk x .rd then cleanLine k x u else (none, u)) id) ∧
    exec (.dflush k a imm) s = .next (ends (if c.mpuOk x .rd then flushLine k x u else (none, u)) id) ∧
    PutsCore k (.iline k a imm) s
      { c with icache := if c.mpuOk x .ex then c.icache.filter (fun e => e.1 != x / 8) else c.icache } ∧
    exec (.dcleanall k a imm) s = .next (ends (cleanCore k u) id) ∧
    exec (.dflushall k a imm) s = .next (ends (cleanCore k u) (dropAll k)) ∧
    ((cleanCore k u).1 = none →
      Answers (.dflushall k a imm) s (fun t => (t.core k).dcache = [] ∧ t.mem = (cleanCore k u).2.mem)) ∧
    (c.sup = true →
      PutsCore k (.dinv k a imm) s
        { c with dcache := if c.mpuOk x .rd then c.dcache.filter (fun l => l.line != x / 8) else c.dcache } ∧
      PutsCore k (.iall k a imm) s { c with icache := [] } ∧
      PutsCore k (.dinvall k a imm) s { c with dcache := [] } ∧
      exec (.fcinv k a imm) s = .next (nextPc k { u with flash := { u.flash with cache := [] } }))

/-- R311 and R312 on plain RAM (no cache, MPU or watchpoint on the core, no error on the word): a load puts the stored word, or its
octet extended, into gd and changes nothing else; SWP exchanges the word and gd; a store writes its word and leaves every other octet
of memory and every register of the part as they were. -/
def Obligations.LoadsAndStoresOnPlainRam : Prop :=
  ∀ (k : Fin 4) (d a : BitVec 4) (imm : BitVec 10) (s : State), s.ready k →
    let u := s.fetched k
    let c := u.core k
    let x := (c.reg a.toNat + imm.signExtend 24).toNat
    u.plainRam k x →
    PutsReg k (.ldw k d a imm) s d (u.mem.word x) ∧
    Answers (.stw k d a imm) s (fun t =>
      t.mem = u.mem.setWord x (c.reg d.toNat) ∧ t.regs = u.regs ∧ t.core k = { c with pc := c.pc + 1 } ∧
      ∀ j : Fin 4, j ≠ k → t.core j = u.core j) ∧
    Answers (.swp k d a imm) s (fun t =>
      t.mem = u.mem.setWord x (c.reg d.toNat) ∧ t.regs = u.regs ∧ (t.core k).pc = c.pc + 1 ∧
      (∀ r, r < 16 → (t.core k).reg r = c.upd d.toNat (u.mem.word x) r) ∧ ∀ j : Fin 4, j ≠ k → t.core j = u.core j) ∧
    (pairOk d = true → u.plainRam k ((x + 1) % 2 ^ 24) →
      PutsPair k (.ldp k d a imm) s d (u.mem.word x) (u.mem.word ((x + 1) % 2 ^ 24)) ∧
      Answers (.stp k d a imm) s (fun t =>
        t.mem = (u.mem.setWord x (c.reg d.toNat)).setWord ((x + 1) % 2 ^ 24) (c.reg (d.toNat + 1)) ∧ t.regs = u.regs ∧
        t.core k = { c with pc := c.pc + 1 }))

/-- R311 on octets of plain RAM, with the address ga + sext(imm[7:0]) and the lane in imm[9:8]: LDO extends the octet with zeros and
LDOS with its sign; STO replaces one octet, which every later read of the word shows (R351), and leaves the other lanes. -/
def Obligations.OctetAccessesOnPlainRam : Prop :=
  ∀ (k : Fin 4) (d a : BitVec 4) (imm : BitVec 10) (s : State), s.ready k →
    let u := s.fetched k
    let c := u.core k
    let x := (c.reg a.toNat + (imm.extractLsb' 0 8).signExtend 24).toNat
    let lane := imm.toNat / 256
    u.plainRam k x → lane < 3 →
    PutsReg k (.ldo k d a imm) s d (((u.mem.word x).extractLsb' (8 * lane) 8).setWidth 24) ∧
    PutsReg k (.ldos k d a imm) s d (((u.mem.word x).extractLsb' (8 * lane) 8).signExtend 24) ∧
    Answers (.sto k d a imm) s (fun t =>
      t.core k = { c with pc := c.pc + 1 } ∧ t.mem = u.mem ∧ t.regs = u.regs ∧
      (∀ j, j < 3 → (memRead k.val x t).1.extractLsb' (8 * j) 8 =
        if j = lane then (c.reg d.toNat).extractLsb' 0 8 else (u.mem.word x).extractLsb' (8 * j) 8) ∧
      ∀ y, y ≠ x → (memRead k.val y t).1 = (memRead k.val y u).1)

/-- R311, R312 and R331 in general: a load completes with what the data read gives, and an uncorrectable error on it raises ECC_DATA
instead, with the address of the word in XVAL; a store passes the watchpoints and goes to its target, unless the line that it pushes out of the
D-cache is lost (R332). -/
def Obligations.LoadsAndStoresComplete : Prop :=
  ∀ (k : Fin 4) (d a : BitVec 4) (imm : BitVec 10) (s : State), s.ready k →
    let u := s.fetched k
    let c := u.core k
    let x := ea c a imm
    let xo := eaOctet c a imm
    (s.dataWaits k (ea (s.core k) a imm) 1 = false →
      (∀ v w, dRead k x u = (v, none, w) → exec (.ldw k d a imm) s = .next (putReg k d v w)) ∧
      (∀ v e w, dRead k x u = (v, some e, w) → exec (.ldw k d a imm) s = .next (raise k 5 0 false (W e) w)) ∧
      exec (.swp k d a imm) s = .next (swap k d x u)) ∧
    (imm.toNat / 256 < 3 → s.dataWaits k (eaOctet (s.core k) a imm) 1 = false →
      ∀ o w, dReadOctet k xo (imm.toNat / 256) u = (o, none, w) →
        exec (.ldo k d a imm) s = .next (putReg k d (o.setWidth 24) w) ∧
        exec (.ldos k d a imm) s = .next (putReg k d (o.signExtend 24) w)) ∧
    (imm.toNat / 256 < 3 → s.dataWaits k (eaOctet (s.core k) a imm) 1 = false →
      ∀ o e w, dReadOctet k xo (imm.toNat / 256) u = (o, some e, w) →
        exec (.ldo k d a imm) s = .next (raise k 5 0 false (W e) w) ∧
        exec (.ldos k d a imm) s = .next (raise k 5 0 false (W e) w)) ∧
    (pairOk d = true → s.dataWaits k (ea (s.core k) a imm) 2 = false →
      ∀ v1 v2 w, dReads k x 2 u = ([v1, v2], none, w) →
        exec (.ldp k d a imm) s = .next (nextPc k (w.setCore k ((w.core k).setPair d.toNat v1 v2)))) ∧
    (pairOk d = true → s.dataWaits k (ea (s.core k) a imm) 2 = false →
      ∀ l e w, dReads k x 2 u = (l, some e, w) → exec (.ldp k d a imm) s = .next (raise k 5 0 false (W e) w)) ∧
    exec (.stw k d a imm) s = .next (storeWords k x [c.reg d.toNat] u) ∧
    (pairOk d = true → exec (.stp k d a imm) s = .next (storeWords k x [c.reg d.toNat, c.reg (d.toNat + 1)] u)) ∧
    (imm.toNat / 256 < 3 →
      exec (.sto k d a imm) s = .next (eccOr k
        (fun t => rawWriteOctet k xo (imm.toNat / 256) (laneOf (c.reg d.toNat) 0) (nextPc k t))
        (makeRooms k xo 1 (watchWrite k xo (W (laneOf (c.reg d.toNat) 0).toNat) u))))

/-- R322: the functions of CP0. AESKEY takes the 16 octets at [ga] as the key; AESENC and AESDEC write the block at [gd]; SHAINIT,
SHABLK and SHAOUT keep the digest; MODSEL selects the modulus by ga[0]; MODMUL, MODADD and MODSUB work on 32-octet little-endian
integers; RAND gives an open word. Where a read fails, ECC_DATA is raised (`withOctets`). -/
def Obligations.CryptoCoprocessor : Prop :=
  ∀ (k : Fin 4) (d a b : BitVec 4) (s : State), s.ready k →
    let u := s.fetched k
    let c := u.core k
    PutsCore k (.shainit k 0 0 0) s { c with sha := shaInit } ∧
    PutsCore k (.modsel k 0 a 0) s { c with modN := (c.reg a.toNat).getLsbD 0 } ∧
    (∃ v, exec (.rand k d 0 0) s = .next (putReg k d v u.drawn)) ∧
    exec (.shaout k d 0 0) s = .next
      (storeWords k (c.reg d.toNat).toNat (octetsToWords (c.shaState.flatMap (fun w => natBe 4 w.toNat))) u) ∧
    (s.dataWaits k ((s.core k).reg a.toNat).toNat 6 = false →
      exec (.aeskey k 0 a 0) s = .next (withOctets k (c.reg a.toNat).toNat 16
        (fun l t => nextPc k (t.setCore k { t.core k with aesKey := BitVec.ofNat 128 (leNat l) })) u) ∧
      exec (.aesenc k d a 0) s = .next (withOctets k (c.reg a.toNat).toNat 16
        (fun l t => storeWords k ((t.core k).at_ d) (octetsToWords (aesEnc (t.core k).keyOctets l)) t) u) ∧
      exec (.aesdec k d a 0) s = .next (withOctets k (c.reg a.toNat).toNat 16
        (fun l t => storeWords k ((t.core k).at_ d) (octetsToWords (aesDec (t.core k).keyOctets l)) t) u)) ∧
    (s.dataWaits k ((s.core k).reg a.toNat).toNat 22 = false →
      exec (.shablk k 0 a 0) s = .next (withOctets k (c.reg a.toNat).toNat 64
        (fun l t => nextPc k (t.setCore k { t.core k with sha := shaBlock (t.core k).shaState (shaWords 16 l) })) u)) ∧
    (s.dataWaits k ((s.core k).reg a.toNat).toNat 11 = false → s.dataWaits k ((s.core k).reg b.toNat).toNat 11 = false →
      exec (.modmul k d a b) s = .next (modOp k d a b (fun m x y => x * y % m) u) ∧
      exec (.modadd k d a b) s = .next (modOp k d a b (fun m x y => (x + y) % m) u) ∧
      exec (.modsub k d a b) s = .next (modOp k d a b subMod u))

/-- R323: the functions of CP1. VSETL writes VL from ga[10:0]; the element functions write [gd] from their operands element by element
(`vecOp`), VDOT writes gd and the transforms work in place. -/
def Obligations.VectorCoprocessor : Prop :=
  ∀ (k : Fin 4) (d a b : BitVec 4) (s : State), s.ready k →
    let u := s.fetched k
    let c := u.core k
    PutsCore k (.vsetl k 0 a 0) s (c.setSys 0x054 (c.reg a.toNat &&& 0x7FF)) ∧
    (s.dataWaits k (vecSpan k a s).1 (vecSpan k a s).2 = false →
      exec (.vscale k d a b) s = .next (vecOp k d a none (fun x _ => cMul x (c.reg b.toNat)) u) ∧
      exec (.vpow k d a 0) s = .next (vecOp k d a none (fun x _ => BitVec.ofInt 24 (halfI x ^ 2 + halfQ x ^ 2)) u) ∧
      exec (.vfft k 0 a 0) s = .next (vecFft false k a u) ∧
      exec (.vifft k 0 a 0) s = .next (vecFft true k a u) ∧
      (s.dataWaits k (vecSpan k b s).1 (vecSpan k b s).2 = false →
        exec (.vadd k d a b) s = .next (vecOp k d a (some (c.at_ b))
          (fun x y => packed (clamp12 (halfI x + halfI y)) (clamp12 (halfQ x + halfQ y))) u) ∧
        exec (.vsub k d a b) s = .next (vecOp k d a (some (c.at_ b))
          (fun x y => packed (clamp12 (halfI x - halfI y)) (clamp12 (halfQ x - halfQ y))) u) ∧
        exec (.vmul k d a b) s = .next (vecOp k d a (some (c.at_ b)) (fun x y =>
          packed (clamp12 ((halfI x * halfI y - halfQ x * halfQ y + 2 ^ 10) / 2 ^ 11))
            (clamp12 ((halfI x * halfQ y + halfQ x * halfI y + 2 ^ 10) / 2 ^ 11))) u) ∧
        exec (.vmulc k d a b) s = .next (vecOp k d a (some (c.at_ b)) (fun x y =>
          packed (clamp12 ((halfI x * halfI y + halfQ x * halfQ y + 2 ^ 10) / 2 ^ 11))
            (clamp12 ((halfQ x * halfI y - halfI x * halfQ y + 2 ^ 10) / 2 ^ 11))) u) ∧
        exec (.vdot k d a b) s = .next (vecDot k d a b u)))

/-! ## The blocks: results -/

/-- R12 and R13: a read of MT_NOW0 returns counter bits [23:0] and snapshots [71:24] for the initiator that reads; MT_NOW1 and MT_NOW2
then read the snapshot; no other initiator's MT_NOW1 and MT_NOW2 change; an initiator that has taken no snapshot since reset reads
zero. -/
def Obligations.MeshTimeSnapshots : Prop :=
  (∀ (w : Who) (s : State), s.mayRead w R.mtNow0 = true → s.mayRead w R.mtNow1 = true → s.mayRead w R.mtNow2 = true →
    Answers (.readMtNow0 w) s (fun t =>
      t.rdata = s.mt.ctr.extractLsb' 0 24 ∧ (busRead w R.mtNow1 t).1 = s.mt.ctr.extractLsb' 24 24 ∧
      (busRead w R.mtNow2 t).1 = s.mt.ctr.extractLsb' 48 24 ∧ t.mt.ctr = s.mt.ctr ∧ t.regs = s.regs ∧ t.mem = s.mem ∧
      ∀ w', w' ≠ w → (busRead w' R.mtNow1 t).1 = (busRead w' R.mtNow1 s).1 ∧
        (busRead w' R.mtNow2 t).1 = (busRead w' R.mtNow2 s).1)) ∧
  ∀ w : Who, (busRead w R.mtNow1 State.reset).1 = 0 ∧ (busRead w R.mtNow2 State.reset).1 = 0

/-- R10: a write of MT_RATE1 stores the 32-bit RATE that MT_RATE1 and MT_RATE0 make, clamped to ±219,902,325; MT_RATE0 and MT_RATE1 then
hold the stored value. The rate is in force at once, but not while mesh time is bridged (R31). -/
def Obligations.RateIsClamped : Prop :=
  ∀ (w : Who) (v : Word) (s : State), s.mayWrite w R.mtRate1 = true →
    let r : BitVec 32 := v.extractLsb' 0 8 ++ s.reg R.mtRate0
    let b := BitVec.ofInt 32 (max (-219902325) (min 219902325 r.toInt))
    Answers (.mtRateCommit w v) s (fun t =>
      t.reg R.mtRate0 = b.extractLsb' 0 24 ∧ t.reg R.mtRate1 = (b.extractLsb' 24 8).setWidth 24 ∧
      t.mt = (if s.bridged then { s.mt with rateNext := some b } else { s.mt with rate := b }) ∧ t.mem = s.mem ∧
      ∀ a, a ≠ R.mtRate0 → a ≠ R.mtRate1 → t.reg a = s.reg a)

/-- R38 and R40: a write of MTCn_CMP2 commits the three words, arms the channel and clears SKIP. A value in the past, with
(C − CMP) mod 2^72 in [1, 2^71), sets LATE, and with no interval the channel disarms again; otherwise the channel waits and LATE stays.
DISARM disarms without firing. -/
def Obligations.CompareArming : Prop :=
  ∀ (w : Who) (n : Fin 32) (v : Word) (s : State),
    (s.mayWrite w (R.mtcCmp n.val 2) = true →
      let cmp : BitVec 72 := v ++ s.reg (R.mtcCmp n.val 1) ++ s.reg (R.mtcCmp n.val 0)
      let behind := (s.mt.ctr - cmp).toNat
      (¬(1 ≤ behind ∧ behind < 2 ^ 71) →
        Answers (.armCompare w n v) s (fun t =>
          t.bit (R.mtcCtrl n.val) 0 = true ∧ t.fld (R.mtcStat n.val) 0 8 = 0 ∧ t.cmpVal n.val = cmp ∧
          t.bit (R.mtcCtrl n.val) 3 = s.bit (R.mtcCtrl n.val) 3 ∧ t.mem = s.mem ∧ t.cores = s.cores ∧ t.fab = s.fab)) ∧
      (1 ≤ behind ∧ behind < 2 ^ 71 → s.multi (R.mtcIvl n.val 0) 2 = 0 →
        Answers (.armCompare w n v) s (fun t =>
          t.bit (R.mtcCtrl n.val) 0 = false ∧ t.bit (R.mtcCtrl n.val) 3 = true ∧ t.fld (R.mtcStat n.val) 0 8 = 0 ∧
          t.mem = s.mem ∧ t.cores = s.cores))) ∧
    (s.mayWrite w (R.mtcCtrl n.val) = true →
      Answers (.compareDisarm w n v) s (fun t =>
        t.bit (R.mtcCtrl n.val) 0 = false ∧ t.mt = s.mt ∧ t.fab = s.fab ∧ ∀ a, a ≠ R.mtcCtrl n.val → t.reg a = s.reg a))

/-- R219: a push appends a word to the queue and a head push puts it in front, in a cell whose first word then holds it (R217), where R221
gives the cell and the queue is not full (R222); a push of 0xFFF_FFF is refused and counts in NOCELL; POP removes and returns the head
word, PEEK returns it in place, and on an empty queue both return 0xFFF_FFF. No other queue changes, and no memory but that of the
cells (where no channel's posted write waits at their port, R398). -/
def Obligations.QueueOperations : Prop :=
  ∀ (w : Who) (n : Fin 128) (v : Word) (s : State),
    let q := (s.queue n.val).words
    let others := fun t : State => (∀ m, m ≠ n.val → t.queue m = s.queue m) ∧
      ∀ a, a < 3 * 0x840000 ∨ 3 * 0x850000 ≤ a → t.mem.octet a = s.mem.octet a
    let held := fun (t : State) (c : Option (Nat × Word)) => ∃ x, c = some (x, v) ∧
      (s.bit R.eccFlipsel 8 = false → t.mem.word (cellAt x) = v)
    (s.mayWrite w (R.qPush n.val) = true →
      (v ≠ 0xFFFFFF → s.qFull n.val = false → s.cellOk (s.qClass n.val) = true → s.postedAt 0x840000 = false →
        Answers (.queuePush w n v) s (fun t =>
          (t.queue n.val).words = q ++ [v] ∧ held t (t.queue n.val).cells.getLast? ∧ others t)) ∧
      exec (.queuePush w n 0xFFFFFF) s = .next (s.count (R.qmCounters 0))) ∧
    (s.mayWrite w (R.qPushhead n.val) = true →
      (v ≠ 0xFFFFFF → s.qFull n.val = false → s.cellOk (s.qClass n.val) = true → s.postedAt 0x840000 = false →
        Answers (.queuePushhead w n v) s (fun t =>
          (t.queue n.val).words = v :: q ∧ held t (t.queue n.val).cells.head? ∧ others t)) ∧
      exec (.queuePushhead w n 0xFFFFFF) s = .next (s.count (R.qmCounters 0))) ∧
    (s.mayRead w (R.qPop n.val) = true →
      Answers (.queuePop w n) s (fun t =>
        t.rdata = q.headD 0xFFFFFF ∧ (t.queue n.val).words = q.tail ∧ others t ∧ t.regs = s.regs ∧ t.mem = s.mem)) ∧
    (s.mayRead w (R.qPeek n.val) = true →
      exec (.queuePeek w n) s = .next { s with rdata := q.headD 0xFFFFFF })

/-- R419, R420 and R422: arming a stopped timer sets COUNT := 0 and RUN := 1, and arming a running one has no effect; an advance of a
running timer on TCLK without a divider, below TOP and no cascade's lower half, adds 1 to COUNT, and the one that takes COUNT to TOP
stops the timer there and sets END; a write of TOP that is not in the past of a running timer only stores TOP; a capture copies COUNT to CAP and sets VALID, and OVR if VALID stood; a read of
CAP returns it and clears VALID. -/
def Obligations.GeneralTimers : Prop :=
  ∀ (w : Who) (n : Fin 16) (v : Word) (s : State),
    (s.mayWrite w (R.gtCtrl n.val) = true →
      (s.gtRun n.val = false →
        Answers (.gtArm w n) s (fun t => t.reg (R.gtCount n.val) = 0 ∧ t.gtRun n.val = true ∧ t.mem = s.mem ∧
          ∀ a, a ≠ R.gtCount n.val → a ≠ R.gtStat n.val → t.reg a = s.reg a)) ∧
      (s.gtRun n.val = true → exec (.gtArm w n) s = .next s)) ∧
    (s.alive = true → s.gtRun n.val = true → s.gtClk n.val = 0 → s.fld (R.gtCfg n.val) 0 8 = 0 → s.gtLower n.val = false →
      s.reg (R.gtCount n.val) ≠ s.reg (R.gtTop n.val) →
      Answers (.gtAdvance n) s (fun t => t.reg (R.gtCount n.val) = s.reg (R.gtCount n.val) + 1 ∧ t.mem = s.mem ∧
        (s.reg (R.gtCount n.val) + 1 ≠ s.reg (R.gtTop n.val) → t.gtRun n.val = true ∧
          ∀ a, a ≠ R.gtCount n.val → t.reg a = s.reg a) ∧
        (s.reg (R.gtCount n.val) + 1 = s.reg (R.gtTop n.val) → t.gtRun n.val = false ∧ t.bit (R.gtStat n.val) 0 = true))) ∧
    (s.mayWrite w (R.gtTop n.val) = true →
      ¬(s.gtRun n.val = true ∧ 1 ≤ (s.reg (R.gtCount n.val) - v).toNat ∧ (s.reg (R.gtCount n.val) - v).toNat < 2 ^ 23) →
      exec (.gtTopWrite w n v) s = .next (s.setReg (R.gtTop n.val) v)) ∧
    ((s.alive && s.fabricRuns) = true →
      Answers (.gtCapture n) s (fun t => t.reg (R.gtCap n.val) = s.reg (R.gtCount n.val) ∧ t.bit (R.gtStat n.val) 1 = true ∧
        (s.bit (R.gtStat n.val) 1 = true → t.bit (R.gtStat n.val) 2 = true) ∧
        (s.bit (R.gtStat n.val) 1 = false → t.bit (R.gtStat n.val) 2 = s.bit (R.gtStat n.val) 2) ∧
        ∀ a, a ≠ R.gtCap n.val → a ≠ R.gtStat n.val → t.reg a = s.reg a)) ∧
    (s.mayRead w (R.gtCap n.val) = true →
      Answers (.gtCapRead w n) s (fun t => t.rdata = s.reg (R.gtCap n.val) ∧ t.bit (R.gtStat n.val) 1 = false ∧
        ∀ a, a ≠ R.gtStat n.val → t.reg a = s.reg a))

/-- R442 and R443: with the alarms off and no trim, a tick adds 1 to the RTC count modulo 2^48; ADJGO takes the signed value of
RTC_ADJ1:RTC_ADJ0, which the next tick adds to the count in place of its own advance. -/
def Obligations.RtcTicksAndAdjustment : Prop :=
  (∀ s : State, s.almOn 0 = false → s.almOn 1 = false →
    Answers .rtcTick s (fun t => t.bkp.adj = none ∧ t.regs = s.regs ∧ t.mem = s.mem ∧
      (s.bkp.adj = none → s.bkp.trimAcc = 0 → s.rtcTrimVal = 0 → t.bkp.rtc = s.bkp.rtc + 1) ∧
      ∀ d, s.bkp.adj = some d → t.bkp.rtc = s.bkp.rtc + d)) ∧
  ∀ (w : Who) (v : Word) (s : State), s.mayWrite w R.rtcCtrl = true →
    Answers (.adjgo w v) s (fun t => t.bkp.adj = some (s.reg (R.rtcAdj 1) ++ s.reg (R.rtcAdj 0)) ∧ t.bkp.rtc = s.bkp.rtc)

/-- R394: at a LOOP of counter l whose block is not active, the counter takes COUNT and the block becomes active; a counter of 0 ends
it and the channel goes on after the LOOP; otherwise the counter falls by one, unless COUNT is 0xFFF_FFF, and the channel goes back by
BACK words. BACK 0 is ILLEGAL. -/
def Obligations.DmaLoopCounts : Prop :=
  ∀ (n : Nat) (l : Bool) (back : BitVec 18) (count : Word) (s : State),
    let w0 : Word := BitVec.ofNat 24 (2 * 2 ^ 20 + (if l then 2 ^ 19 else 0) + back.toNat)
    let j := if l then 1 else 0
    let lc := if (s.dmaCh n).on j then s.reg (R.dmaLc n j) else count
    let t := dmaLoop n [w0, count] s
    (back = 0 → t = dmaIllegal n s) ∧
    (back ≠ 0 → lc = 0 → t.reg (R.dmaPc n) = s.reg (R.dmaPc n) + 2 ∧ (t.dmaCh n).on j = false ∧ t.mem = s.mem) ∧
    (back ≠ 0 → lc ≠ 0 →
      t.reg (R.dmaPc n) = s.reg (R.dmaPc n) - back.setWidth 24 ∧ (t.dmaCh n).on j = true ∧
      t.reg (R.dmaLc n j) = (if count = 0xFFFFFF then lc else lc - 1) ∧ t.mem = s.mem)

/-- R339: the key 0x5A5_0A5 written to Ck_WDKICK reloads the count with TIMEOUT (0 acts as 1) and changes nothing else; any other value
expires a watchdog that runs. -/
def Obligations.WatchdogKicks : Prop :=
  ∀ (w : Who) (k : Fin 4) (v : Word) (s : State), s.mayWrite w (R.wdKick k.val) = true →
    (v = 0x5A50A5 →
      Answers (.watchdogKick w k v) s (fun t => t.fld (R.wdCount k.val) 0 16 = max 1 (s.fld (R.wdCfg k.val) 0 16) ∧
        (∀ a, a ≠ R.wdCount k.val → t.reg a = s.reg a) ∧ t.mem = s.mem ∧ t.cores = s.cores)) ∧
    (v ≠ 0x5A50A5 → s.wdRuns k = true → exec (.watchdogKick w k v) s = .next (wdExpire k s))

/-- R335 with R338: an event of source n pends in every online core that enables input n; a write of n to Ck_SETPEND sets the bit
directly, and while Ck is offline and enables the input, the bit of the core that takes its inputs too. No other core's and no other input's
pending bit changes by SETPEND. -/
def Obligations.InputsPend : Prop :=
  (∀ (n : Nat) (k : Nat) (s : State), n < 128 → k < 4 → s.offline k = false → s.intcEnabled k n = true →
    (fire n s).intcPending k n = true ∧ (fire n s).mem = s.mem ∧ (fire n s).cores = s.cores) ∧
  ∀ (w : Who) (k : Fin 4) (v : Word) (s : State), s.mayWrite w (R.intcSetpend k.val) = true →
    let n := v.toNat % 128
    let routed := fun j => s.offline k.val = true ∧ s.intcEnabled k.val n = true ∧ s.fallback = some j
    Answers (.setpend w k v) s (fun t => t.intcPending k.val n = true ∧ (∀ j, routed j → t.intcPending j n = true) ∧
      (∀ j m, j < 4 → m < 128 → m ≠ n ∨ (j ≠ k.val ∧ ¬routed j) → t.intcPending j m = s.intcPending j m) ∧
      t.mem = s.mem ∧ t.cores = s.cores)

/-- R4: an access that the part does not honour reads as zero and has its write ignored: a register address that does not exist, a
register of a domain without power, an access that a core's MPU denies, and an application write to link memory. Nothing else
changes. -/
def Obligations.RefusedAccesses : Prop :=
  (∀ (w : Who) (a v : Word) (s : State), s.mayWrite w a.toNat = false → exec (.registerWrite w a v) s = .next s) ∧
  (∀ (w : Who) (a v : Word) (s : State), regRow a.toNat = none ∨ s.regPowered a.toNat = false →
    exec (.registerWrite w a v) s = .next s ∧ (0xF00000 ≤ a.toNat → busRead w a.toNat s = (0, false, s))) ∧
  (∀ (k : Fin 4) (a v : Word) (s : State), (s.core k).mpuOk a.toNat .wr = false →
    exec (.registerWrite (.app k) a v) s = .next s ∧ busWrite (.app k) a.toNat v s = s) ∧
  (∀ (k : Fin 4) (a : Word) (s : State), (s.core k).mpuOk a.toNat .rd = false → busRead (.app k) a.toNat s = (0, false, s)) ∧
  ∀ (k : Fin 4) (a : Nat) (v : Word) (s : State), 0x800000 ≤ a → a < 0x880000 → busWrite (.app k) a v s = s

/-- R3: a write of a register whose block gives it no action of its own sets its RW bits to the value written, clears the W1C bits and
sets the SO bits that are written 1, and keeps every other bit; no other register changes. -/
def Obligations.AccessCodesOfAWrite : Prop :=
  ∀ (a : Nat) (v : Word) (s : State) (r : RegRow), regRow a = some r →
    (∀ i, i < 24 → ((plainWrite a v s).reg a).getLsbD i =
      if (W r.so).getLsbD i && v.getLsbD i then true
      else if (W r.w1c).getLsbD i && v.getLsbD i then false
      else if (W r.rw).getLsbD i then v.getLsbD i else (s.reg a).getLsbD i) ∧
    ∀ b, b ≠ a → (plainWrite a v s).reg b = s.reg b

/-- R349 and R350: a read of a word of which one bit of its code word is wrong returns the corrected word, writes it back, counts in CE and
records the address; a read of a word with two wrong bits fails, leaves the stored word unchanged, counts in UE and records the
address. (With no flip armed, and the bank not in octet-check mode.) -/
def Obligations.SingleErrorsAreCorrected : Prop :=
  ∀ (init w : Nat) (s : State), s.octMode w = false → s.bit R.eccFlipsel 8 = false →
    (∀ i, i < 31 → tabLook 0 s.ecc.flips w = 1#32 <<< i →
      let v := s.mem.word w ^^^ (1#32 <<< i).setWidth 24
      (portFetch init w s).1 = v ∧ (portFetch init w s).2.1 = false ∧
      (portFetch init w s).2.2.mem.word w = v ∧ tabLook 0 (portFetch init w s).2.2.ecc.flips w = 0 ∧
      (portFetch init w s).2.2.reg R.eccCeaddr = BitVec.ofNat 24 w ∧
      (portFetch init w s).2.2.reg (R.eccCounters 0) = BitVec.ofNat 24 (min 0xFFFFFF ((s.reg (R.eccCounters 0)).toNat + 1))) ∧
    ∀ i j, i < j → j < 31 → tabLook 0 s.ecc.flips w = (1#32 <<< i) ||| (1#32 <<< j) →
      (portFetch init w s).2.1 = true ∧ (portFetch init w s).2.2.mem = s.mem ∧
      (portFetch init w s).2.2.reg R.eccUeaddr = BitVec.ofNat 24 w ∧
      (portFetch init w s).2.2.reg (R.eccCounters 1) = BitVec.ofNat 24 (min 0xFFFFFF ((s.reg (R.eccCounters 1)).toNat + 1))

/-- PING answers DONE with no result and ECHO answers DONE with its parameters as they came, each on the transport that carried it, after
the replies that already wait there (R262, the entries of 10_command_reference.md). -/
def Obligations.PingAndEchoReply : Prop :=
  ∀ (t : Transport) (tag : Octet) (s : State) (r : Nat),
    (s.startsNext t tag 0x00 r → Answers (.ping t tag) s (fun u => u.replies (r / 17) =
      s.replies (r / 17) ++ [{ rcd := r, opc := O (s.recOpc r), tag := O (s.recTag r), status := 0x00, result := [] }])) ∧
    (s.startsNext t tag 0x73 r → Answers (.echo t tag) s (fun u => u.replies (r / 17) =
      s.replies (r / 17) ++
        [{ rcd := r, opc := O (s.recOpc r), tag := O (s.recTag r), status := 0x00, result := s.recParams r }]))


/-- R260 and R261: a packet that fails one of the checks gets one reply with the status of the first that fails, after the replies that
already wait on its transport; no record is taken and memory keeps every octet. One that passes them all is journaled in a free
record. -/
def Obligations.PacketsAreJudged : Prop :=
  ∀ (p : Packet) (s : State),
    let reply := fun (status : Nat) => s.replies p.t ++
      [{ rcd := 102, opc := octAt p.octets 2, tag := pTag p, status := O status, result := [] }]
    let none_ := fun (status : Nat) => (judgePacket p s).replies p.t = reply status ∧ (judgePacket p s).mem = s.mem ∧
      (∀ t, t ≠ p.t → (judgePacket p s).replies t = s.replies t) ∧
      ∀ t, (judgePacket p s).outstanding t = s.outstanding t
    (s.packetStatus p ≠ St.done → none_ (s.packetStatus p)) ∧
    (s.packetStatus p = St.done → s.cmdStatus p.t (pOpc p) (pParams p) ≠ St.done →
      none_ (s.cmdStatus p.t (pOpc p) (pParams p))) ∧
    (s.packetStatus p = St.done → s.cmdStatus p.t (pOpc p) (pParams p) = St.done →
      ∀ r, s.freeRec p.t = some r → judgePacket p s = journal p r s)
/-! ## The blocks: every command completes -/

/-- Mesh time (R8 to R50): ticks, register writes, compares, captures, steps, slews, bridging and discipline. Where the
condition of a row holds the command completes with the state given; where it does not, nothing changes. -/
def Obligations.MeshTimeCommands : Prop :=
  (∀ (w : Who) (s : State), Reads (.readMtNow0 w) s (s.mayRead w R.mtNow0) (readNow0 w s)) ∧
  (∀ (w : Who) (v : Word) (s : State), Acts (.mtCtrlStep w v) s (s.mayWrite w R.mtCtrl) (mtCtrlWrite (setBits v 0 1 1) s)) ∧
  (∀ (w : Who) (v : Word) (s : State), Acts (.mtRateCommit w v) s (s.mayWrite w R.mtRate1) (rateWrite v s)) ∧
  (∀ (w : Who) (v : Word) (s : State), Acts (.mtUsetWrite w v) s (s.mayWrite w R.mtUset) (usetWrite v s)) ∧
  (∀ (w : Who) (v : Word) (s : State), Acts (.mtUalarmWrite w v) s (s.mayWrite w R.mtUalarm) (ualarmWrite v s)) ∧
  (∀ (s : State), Acts .lfWindowEnd s s.alive (lfWindowEnd s)) ∧
  (∀ (w : Who) (n : Fin 32) (v : Word) (s : State), Acts (.armCompare w n v) s (s.mayWrite w (R.mtcCmp n.val 2)) (armCompare
    n.val v s)) ∧
  (∀ (w : Who) (n : Fin 32) (v : Word) (s : State), Acts (.compareDisarm w n v) s (s.mayWrite w (R.mtcCtrl n.val))
    (mtcCtrlWrite n.val (setBits v 1 1 1) s)) ∧
  (∀ (n : Fin 32) (s : State), Acts (.compareMatch n) s (s.alive && s.armed n.val && s.reached n.val) (compareFire false
    n.val s)) ∧
  (∀ (s : State), Acts .ppsPulseEnd s (s.alive && s.ppsLeft != s.mt.pps) (s.setMt { s.mt with pps := s.ppsLeft })) ∧
  (∀ (n : Fin 8) (e : CapEdge) (s : State), Acts (.captureEvent n e) s (s.alive && (3 ≤ n.val || s.pwr.vio2) && s.capTakes
    n.val e.rising) (capture n.val e.sub.val s)) ∧
  (∀ (w : Who) (n : Fin 8) (s : State), Reads (.readCapture w n) s (s.mayRead w (R.mtCap n.val 0)) (readCap w n.val s)) ∧
  (∀ (s : State), Acts .ptpEventStamp s (s.alive && s.mode == 5 && !s.pwr.xoFail) (ptpStamp s)) ∧
  (∀ (s : State), Acts .mtTick s s.refRuns (tick s)) ∧
  (∀ (s : State), Acts .lfTick s s.alive (if s.bridged then lfTick s else lfEdge s)) ∧
  (∀ (s : State), Acts .mtStepApply s (s.alive && s.mt.stepPend) (applyStep s)) ∧
  (∀ (w : Who) (v : Word) (s : State), Acts (.slewStart w v) s (s.mayWrite w R.mtSlew1) (slewReplace v s)) ∧
  (∀ (w : Who) (v : Word) (s : State), Acts (.slewstop w v) s (s.mayWrite w R.mtCtrl) ((slewWatch (mtCtrlWrite (setBits v 1 1
    1))) s)) ∧
  (∀ (s : State), Acts .mtSlewDone s (s.alive && !s.bridged && ((s.slewing && s.slewRem == 0) || s.mt.slewZero)) (slewWatch
    slewDone s)) ∧
  (∀ (s : State), Acts .bridgeEnter s s.alive (gateSync (bridgeEnter s))) ∧
  (∀ (s : State), Acts .bridgeExit s s.alive (gateSync (bridgeExit s))) ∧
  (∀ (m : DiscSample) (s : State), Acts (.disciplineSample m) s (s.serves && !s.bridged) (discipline m s)) ∧
  (∀ (src : BitVec 2) (s : State), Acts (.sourceLost src) s (s.serves && src != 0 && (src != 3 || (s.bit R.mtParent 13 &&
    s.nbrState (s.fld R.mtParent 0 13) == 4))) (sourceLost src.toNat s))

/-- Gates and courses (R51 to R81) and what an activation does at its instants: windows, transmissions, tunes, calibrations,
wakes, releases. Where the condition of a row holds the command completes with the state given; where it does not, nothing
changes. -/
def Obligations.GateCommands : Prop :=
  (∀ (w : Who) (n : Fin 16) (v : Word) (s : State), Acts (.courseRunWrite w n v) s (s.mayWrite w (R.courseCfg n.val))
    (courseCfgWrite n.val (setBits v 0 1 1) s)) ∧
  (∀ (w : Who) (n : Fin 16) (v : Word) (s : State), Acts (.courseStopWrite w n v) s (s.mayWrite w (R.courseCfg n.val))
    (courseCfgWrite n.val (setBits v 0 1 0) s)) ∧
  (∀ (w : Who) (n : Fin 16) (v : Word) (s : State), Acts (.courseStopnow w n v) s (s.mayWrite w (R.courseCfg n.val))
    (courseCfgWrite n.val (setBits v 3 1 1) s)) ∧
  (∀ (n : Fin 16) (s : State), Acts (.courseBoundary n) s (s.linkRuns && !s.bridged && nsLe (s.cstart n.val) s.now &&
    s.dueNow (s.lastBoundary n.val)) (courseBoundary n.val (s.lastBoundary n.val) s)) ∧
  (∀ (w : Who) (v : Word) (s : State), Acts (.gateCommit w v) s (s.mayWrite w R.gateCommit) (gateCommitWrite (setBits v 12 1
    1) s)) ∧
  (∀ (g : BitVec 12) (it : BitVec 48) (s : State) (w : _), w = s.gateEntry g.toNat → Acts (.guardEvaluation g it) s
    (driftGuard w && s.mayMake g.toNat it.toNat w && s.dueNow (s.evalAt g.toNat w it.toNat) && (s.activ g.toNat
    it.toNat).isNone && s.afterStart g.toNat w (s.pretuneAt w it.toNat (s.guardFor w (s.instant w it.toNat)).1)) (guardEval
    g.toNat it.toNat s)) ∧
  (∀ (g : BitVec 12) (it : BitVec 48) (s : State) (a : Activ), s.activ g.toNat it.toNat = some a → Acts (.gatePretune g it) s
    (s.gatesRun && a.phase == 0 && s.dueNow a.pre && !beforeMark s.gates.floor 16 a.inst) (settle (pretune g.toNat it.toNat
    a.w a.guard a.pre s))) ∧
  (∀ (g : BitVec 12) (it : BitVec 48) (s : State) (w : _) (gd pre : Nat), s.activ g.toNat it.toNat = none → w = s.gateEntry
    g.toNat → gd = (s.guardFor w (s.instant w it.toNat)).1 → pre = s.pretuneAt w it.toNat gd → Acts (.gatePretune g it) s
    (!driftGuard w && s.mayMake g.toNat it.toNat w && s.dueNow pre && s.afterStart g.toNat w pre) (settle (pretune g.toNat
    it.toNat w gd pre s))) ∧
  (∀ (s : State), Acts .frameAccept s (s.linkRuns && s.bit R.linkCtrl 0 && !s.link.inbox.isEmpty) ((frameAccept (fun x c => c
    != 0 && s.yieldChain x.band (nsOf x.ended + 1000 * (s.ackDly + s.ackAir x (ackLen x))))) s)) ∧
  (∀ (g : BitVec 12) (i : BitVec 48) (s : State) (a : Activ), s.actFor g.toNat i.toNat (fun a => gAction a.w == 1 &&
    s.mayOpen a) = some a → Acts (.rxListen g i) s s.gatesRun ((openWindow false) a s)) ∧
  (∀ (g : BitVec 12) (i : BitVec 48) (s : State) (a : Activ), s.actFor g.toNat i.toNat (fun a => gAction a.w == 2 &&
    s.mayOpen a) = some a → Acts (.rxExpect g i) s s.gatesRun ((openWindow false) a s)) ∧
  (∀ (g : BitVec 12) (i : BitVec 48) (s : State) (a : Activ), s.actFor g.toNat i.toNat (fun a => gAction a.w == 6 &&
    s.mayOpen a) = some a → Acts (.rxSound g i) s s.gatesRun ((openWindow false) a s)) ∧
  (∀ (g : BitVec 12) (i : BitVec 48) (s : State) (a : Activ), s.actFor g.toNat i.toNat (s.txFires 3) = some a → Acts
    (.txQueue g i) s s.gatesRun (txFire a s)) ∧
  (∀ (g : BitVec 12) (i : BitVec 48) (s : State) (a : Activ), s.actFor g.toNat i.toNat (s.txFires 4) = some a → Acts
    (.txBeacon g i) s s.gatesRun (txFire a s)) ∧
  (∀ (g : BitVec 12) (i : BitVec 48) (s : State) (a : Activ), s.actFor g.toNat i.toNat (s.txFires 5) = some a → Acts
    (.txSound g i) s s.gatesRun (txFire a s)) ∧
  (∀ (g : BitVec 12) (i : BitVec 48) (s : State) (a : Activ), s.actFor g.toNat i.toNat (s.atInstant 7) = some a → Acts
    (.emitEvent g i) s s.gatesRun (emitEvent a s)) ∧
  (∀ (g : BitVec 12) (i : BitVec 48) (s : State) (a : Activ), s.actFor g.toNat i.toNat (fun a => gAction a.w == 7 && a.phase
    == 2 && nsLe (a.inst + durNs a) s.now) = some a → Acts (.gateWinEnd g i) s s.gatesRun (winLevelEnd a s)) ∧
  (∀ (g : BitVec 12) (i : BitVec 48) (s : State) (a : Activ), s.actFor g.toNat i.toNat (s.atInstant 8) = some a → Acts
    (.gateTune g i) s s.gatesRun (tuneFire a s)) ∧
  (∀ (g : BitVec 12) (i : BitVec 48) (s : State) (a : Activ), s.actFor g.toNat i.toNat (s.atInstant 9) = some a → Acts
    (.gateCalibrate g i) s s.gatesRun (calFire a s)) ∧
  (∀ (g : BitVec 12) (i : BitVec 48) (s : State) (a : Activ), s.actFor g.toNat i.toNat (s.atInstant 10) = some a → Acts
    (.wakeApp g i) s s.gatesRun (wakeApp a s)) ∧
  (∀ (g : BitVec 12) (i : BitVec 48) (s : State) (a : Activ), s.actFor g.toNat i.toNat s.mayClose = some a → Acts
    (.rxWindowClose g i) s s.gatesRun (closeWindow a s)) ∧
  (∀ (band : Fin 2) (s : State) (wt : _), (s.band band.val).wait = some wt → Acts (.ackWaitEnd band) s (s.linkRuns &&
    !wt.elapsed && nsLe (wt.sent + 1000 * s.ackWaitUs) s.now) (settleWait band.val (s.setBand band.val
    { s.band band.val with wait := some { wt with elapsed := true } }))) ∧
  (∀ (band : Fin 2) (syn : Fin 3) (s : State), Acts (.synthLock band syn) s (s.radioOn band.val && s.tuning band.val syn.val
    != 0) (synthLock band.val syn.val s)) ∧
  (∀ (band : Fin 2) (s : State), Acts (.calSliceStart band) s (s.feUp band.val && s.bit (R.feCalpol band.val) 0 && (s.band
    band.val).slice.isNone) (calStart band.val s)) ∧
  (∀ (band : Fin 2) (res : Option (List Word)) (w1 : Word) (w2 : Word) (w3 : Word) (s : State), Acts (.calSliceDone band res
    w1 w2 w3) s (s.radioOn band.val && (s.band band.val).slice.isSome) (settle (sliceDone band.val res.isSome w1 w2 w3
    (res.getD []) s))) ∧
  (∀ (w : Who) (band : Fin 2) (v : Word) (s : State), Acts (.fullCalStart w band v) s (s.mayWrite w (R.feCtrl band.val))
    (feCtrlWrite band.val (setBits v 1 1 1) s)) ∧
  (∀ (band : Fin 2) (e : FullCalEnd) (results : List (Nat × List Word)) (s : State), Acts (.fullCalDone band e results) s
    (s.radioOn band.val && s.fullBusy band.val) (fullDone band.val e.trim results e.items.val s)) ∧
  (∀ (w : Who) (band : Fin 2) (v : Word) (s : State), Acts (.calstop w band v) s (s.mayWrite w (R.feCtrl band.val))
    (feCtrlWrite band.val (setBits v 2 1 1) s)) ∧
  (∀ (band : Fin 2) (s : State), Acts (.txRampUp band) s (s.linkRuns && s.feUp band.val && (s.band band.val).chain.any (fun r
    => s.mayRamp band.val r)) (rampUp band.val s)) ∧
  (∀ (band : Fin 2) (s : State), Acts (.txLate band) s (s.linkRuns && s.someLate band.val) (txLateNow band.val s)) ∧
  (∀ (band : Fin 2) (paDev : Bool) (s : State), Acts (.txEnd band paDev) s (s.linkRuns && s.airDone band.val) (txEnd band.val
    paDev s)) ∧
  (∀ (band : Fin 2) (s : State), Acts (.blankEnd band) s ((s.band band.val).blank && nsLe ((s.band band.val).down + 20000)
    s.now && (s.band band.val).chain.all (fun r => !r.up)) (s.setBand band.val { s.band band.val with blank := false })) ∧
  (∀ (w : Who) (band : Fin 2) (_v : Word) (s : State), Acts (.txHalt w band _v) s (s.mayWrite w (R.txcChctrl band.val)) (halt
    band.val s)) ∧
  (∀ (band : Fin 2) (mean : Octet) (s : State), Acts (.ccaDone band mean) s (s.linkRuns && s.synLocked band.val 2 && (s.band
    band.val).chain.any (fun r => r.cca && r.tuned && !r.up)) (ccaDone band.val mean s)) ∧
  (∀ (band : Fin 2) (s : State), Acts (.ackTransmit band) s (s.linkRuns && s.ackOnAir band.val) (ackLeaves band.val s)) ∧
  (∀ (g : BitVec 12) (i : BitVec 48) (s : State) (a : Activ), s.actFor g.toNat i.toNat (fun a => gAction a.w == 8 && a.phase
    == 2 && nsLe (a.inst + durNs a) s.now) = some a → Acts (.tuneHoldEnd g i) s s.gatesRun (releaseAct a s)) ∧
  (∀ (band : Fin 2) (s : State), Acts (.femLeadSwitch band) s (s.radioOn band.val) (femLead band.val s)) ∧
  (∀ (band : Fin 2) (s : State), Acts (.femLagReturn band) s (s.radioOn band.val) (femLag band.val s))

/-- The front ends and the channelized receiver (R82 to R148): synthesizers, calibration, sensors, duty rules, gain, lanes,
frames. Where the condition of a row holds the command completes with the state given; where it does not, nothing changes. -/
def Obligations.RadioAndLaneCommands : Prop :=
  (∀ (band : Fin 2) (syn : Fin 3) (s : State), Acts (.synthColdFallback band syn) s (s.radioOn band.val && s.tuning band.val
    syn.val == 1) (((s.setBit (R.feSynCh band.val syn.val) 22 true).setBand band.val
    { s.band band.val with tune := tabPut 0 (s.band band.val).tune syn.val 2, loaded := ((s.band band.val).loaded.map (fun e => if e.1 = syn.val then (e.1, { e.2 with code := none }) else e)) }).count
    (R.feCounters band.val 1))) ∧
  (∀ (w : Who) (band : Fin 2) (v : Word) (s : State), Acts (.calCommit w band v) s (s.mayWrite w (R.feCalcommit band.val))
    (calCommitWrite band.val (setBits v 10 1 1) s)) ∧
  (∀ (band : Fin 2) (s : State), Acts (.calageTick band) s (s.radioOn band.val) (forAll [1, 2, 3, 4, 5, 6, 7, 8] (ageItem
    band.val) s)) ∧
  (∀ (band : Fin 2) (temp : Octet) (vmain : Octet) (s : State), Acts (.sensorRefresh band temp vmain) s (s.radioOn band.val)
    (sensorRefresh band.val temp vmain s)) ∧
  (∀ (band : Fin 2) (rule : Fin 4) (s : State), Acts (.offminEnd band rule) s (s.linkRuns && !s.gapRuns band.val rule.val)
    (offShow band.val s)) ∧
  (∀ (band : Fin 2) (rule : Fin 4) (s : State), Acts (.bucketEntry band rule) s (s.linkRuns && s.bucketDue band.val rule.val)
    (bucketEnter band.val rule.val s)) ∧
  (∀ (band : Fin 2) (path : Fin 2) (power : Octet) (ovl : Bool) (s : State), Acts (.pathAgcWindow band path power ovl) s
    (s.radioOn band.val) (agcWindow (2 * band.val + path.val) power ovl s)) ∧
  (∀ (p : Fin 4) (s : State), Acts (.gainApply p) s (s.radioOn (pathBand p.val)) (gainApply p.val s)) ∧
  (∀ (n : Fin 16) (m : Metrics) (peak : BitVec 72) (rssi1 rssi2 snr : Octet) (s : State) (i : Nat), s.winner n.val m.toInts =
    some i → Acts (.preambleDetect n m peak rssi1 rssi2 snr) s (s.mayDetect n.val) (settle (preambleDetect n.val i peak rssi1
    rssi2 snr (laneSee n.val s)))) ∧
  (∀ (n : Fin 16) (m : Metrics) (peak : BitVec 72) (rssi1 rssi2 snr : Octet) (s : State), s.winner n.val m.toInts = none →
    exec (.preambleDetect n m peak rssi1 rssi2 snr) s = .next s) ∧
  (∀ (n : Fin 16) (hdr : BitVec 52) (phr : Bool) (s : State), Acts (.headerDecode n hdr phr) s (s.laneLive n.val && (s.lane
    n.val).frame.any (fun f => f.hdr.isNone)) (settle (headerDecode n.val hdr phr (mapSee n.val hdr s)))) ∧
  (∀ (arrived : List (Fin 16)) (e : Fin 4) (its : BitVec 5) (s : State), Acts (.codewordDecode arrived e its) s s.linkRuns
    (settle (cwDecodeBy e.val its.toNat (forAll ((arrived.map Fin.val).filter s.laneLive) cwArrive s)))) ∧
  (∀ (n : Fin 16) (psdu : List Octet) (fcsOk : Bool) (spread : BitVec 12) (tones : List Word) (s : State), Acts (.frameEnd n
    psdu fcsOk spread tones) s (s.laneLive n.val && s.frameReady n.val) (settle (frameEnd n.val psdu fcsOk spread.toNat tones
    s))) ∧
  (∀ (w : Who) (v : Word) (s : State), Acts (.laneOosWrite w v) s (s.mayWrite w R.laneOos) (settle (oosWrite v s))) ∧
  (∀ (band : Fin 2) (s : State), Acts (.spanApply band) s (s.radioOn band.val && s.bandQuiet band.val && (s.band
    band.val).span.isSome) (settle (spanApply band.val s)))

/-- Keys, counters, neighbours and tone maps (R149 to R204). Where the condition of a row holds the command completes with
the state given; where it does not, nothing changes. -/
def Obligations.LinkTableCommands : Prop :=
  (∀ (w : Who) (v : Word) (s : State), Acts (.keyLoadCommit w v) s (s.mayWrite w R.linkKeycommit) (keyCommitWrite (setBits v
    9 1 1) s)) ∧
  (∀ (w : Who) (v : Word) (s : State), Acts (.keyClear w v) s (s.mayWrite w R.linkKeycommit) (keyCommitWrite (setBits v 10 1
    1) s)) ∧
  (∀ (w : Who) (slot : Fin 16) (v : Word) (s : State), Acts (.txctrCommit w slot v) s (s.mayWrite w (R.keyTxctr slot.val 1))
    (ctrCommit slot.val (R.keyTxctr slot.val 0) v s)) ∧
  (∀ (w : Who) (slot : Fin 16) (v : Word) (s : State), Acts (.txlimCommit w slot v) s (s.mayWrite w (R.keyTxlim slot.val 1))
    (ctrCommit slot.val (R.keyTxlim slot.val 0) v s)) ∧
  (∀ (slot : Fin 16) (s : State), Acts (.keyWalkDone slot) s (s.linkRuns && s.bit R.linkCtrl 0 && s.bit (R.keyCfg slot.val)
    21) (finishRun 0x50 (fun p => octAt p 0 == O slot.val) St.done (word3 (s.reg (R.keySeq slot.val))) (walkDone slot.val
    s))) ∧
  (∀ (w : Who) (v : Word) (s : State), Acts (.nbrCommit w v) s (s.mayWrite w R.nbrCommit) (nbrCommitWrite (setBits v 13 1 1)
    s)) ∧
  (∀ (s : State), Acts .heardRefresh s s.serves (heardRefresh s)) ∧
  (∀ (s : State), Acts .tonemapCompute s (s.serves && s.qCount (bits s.tmcfg 0 7) != 0) (tonemapCompute s)) ∧
  (∀ (nbr : BitVec 13) (elem : List Octet) (s t : State), t = s.setLink
    { s.link with fbIn := s.link.fbIn.erase (nbr.toNat, elem) } → Acts (.tonemapFeedback nbr elem) s (s.serves &&
    s.link.fbIn.contains (nbr.toNat, elem)) (if t.nbrState nbr.toNat = 0 then t else tonemapFeedback nbr.toNat elem t)) ∧
  (∀ (nbr : BitVec 13) (s : State) (e : _), s.link.sounding.find? (fun e => e.1 == nbr.toNat && e.2.1 == s.nbr nbr.toNat 11)
    = some e → s.nbrState nbr.toNat = 0 → Acts (.soundingPolicyTick nbr) s s.serves (s.setLink
    { s.link with sounding := s.link.sounding.filter (fun x => x.1 != nbr.toNat) })) ∧
  (∀ (nbr : BitVec 13) (s : State) (e : _), s.link.sounding.find? (fun e => e.1 == nbr.toNat && e.2.1 == s.nbr nbr.toNat 11)
    = some e → s.nbrState nbr.toNat ≠ 0 → Acts (.soundingPolicyTick nbr) s (s.serves && s.nbrUsable nbr.toNat) (soundReq
    (.command 6 0) nbr.toNat (e.2.2 / 2 ^ 16 % 2) (1 + e.2.2 / 2 ^ 17 % 2) (e.2.2 / 2 ^ 18 % 256) none s)) ∧
  (∀ (t : Transport) (tag : Octet) (s : State) (b r : _), s.retryOf (tNum t) tag = some (b, r) → Acts (.txFrameRetry t tag) s
    (s.serves && (s.band b).chain.isNone && (s.band b).wait.isNone) (retryNow b r s)) ∧
  (∀ (idx : BitVec 11) (s : State), Acts (.tmholdExpiry idx) s (s.serves && s.link.old.contains idx.toNat && !s.tmNamed
    idx.toNat && !s.tmHeld idx.toNat) (tmExpire idx.toNat s))

/-- Forwarding, routes, queues, packet buffers and remote windows (R205 to R249). A read that is not honoured reads zero
(R4). Where the condition of a row holds the command completes with the state given; where it does not, nothing changes. -/
def Obligations.ForwardAndQueueCommands : Prop :=
  (∀ (c0 : Bool) (s : State), Acts (.fwdProcess c0) s s.linkRuns (fwdStep c0 s)) ∧
  (∀ (w : Who) (v : Word) (s : State), Acts (.routeCommit w v) s (s.mayWrite w R.fwdCommit) (routeCommitWrite (setBits v 14 1
    1) s)) ∧
  (∀ (w : Who) (n : Fin 128) (v : Word) (s : State), Acts (.queuePush w n v) s (s.mayWrite w (R.qPush n.val)) ((qPush n.val v
    s).2)) ∧
  (∀ (w : Who) (n : Fin 128) (v : Word) (s : State), Acts (.queuePushhead w n v) s (s.mayWrite w (R.qPushhead n.val))
    ((qPushHead n.val v s).2)) ∧
  (∀ (w : Who) (n : Fin 128) (s : State), Reads (.queuePop w n) s (s.mayRead w (R.qPop n.val)) (qPop n.val s)) ∧
  (∀ (w : Who) (n : Fin 128) (s : State), Reads (.queuePeek w n) s (s.mayRead w (R.qPeek n.val)) (s.qPeek n.val, s)) ∧
  (∀ (w : Who) (n : Fin 128) (v : Word) (s : State), Acts (.queueClassWrite w n v) s (s.mayWrite w (R.qCfg n.val))
    (plainWrite (R.qCfg n.val) v s)) ∧
  (∀ (w : Who) (v : Word) (s : State), Acts (.freebuf w v) s (s.mayWrite w R.qmFreebuf) (freeChain v s)) ∧
  (∀ (w : Who) (s : State), Reads (.alloc w) s (s.mayRead w R.qmAlloc) (allocRead s)) ∧
  (∀ (n : Fin 128) (s : State), Acts (.qmTimeout n) s (s.linkRuns && (s.queue n.val).tmo != 0 && !(s.queue n.val).fired)
    (qmTimeout n.val s)) ∧
  (∀ (s : State), Acts .rwinRequest s s.rwinOn (takeRequest s)) ∧
  (∀ (c0 : Bool) (s : State), Acts (.rwinReadbackDone c0) s (s.rwinOn && (s.rwinBusy c0).isSome) (readBack c0 s)) ∧
  (∀ (s : State), Acts .rwinResponse s s.rwinOn (takeResponse s)) ∧
  (∀ (opid : BitVec 16) (s : State), Acts (.rwinTimeout opid) s s.rwinOn (rwinTimeout opid.toNat s)) ∧
  (∀ (w : Who) (v : Word) (s : State), Acts (.windowCommit w v) s (s.mayWrite w R.rwinCommit) (windowCommitWrite (setBits v 6
    1 1) s))

/-- The command port (R250 to R268): transactions, packets, mailboxes and deferred resets. Where the condition of a row holds
the command completes with the state given; where it does not, nothing changes. -/
def Obligations.CommandPortEvents : Prop :=
  (∀ (p : List Octet) (s : State), Acts (.spiWrite p) s s.pwr.vio1 (spiTalk 0x01 p.length (spiWrite p) s)) ∧
  (∀ (n : Nat) (s : State), Acts (.spiRead n) s s.pwr.vio1 (spiTalk 0x02 n (spiRead n) s)) ∧
  (∀ (op : Octet) (n : Nat) (s : State), Acts (.spiStatus op n) s (s.pwr.vio1 && op != 0x01 && op != 0x02 && op != 0x04)
    (spiTalk op n (spiStatus op n) s)) ∧
  (∀ (n : Nat) (s : State), Acts (.spiRepeat n) s s.pwr.vio1 (spiTalk 0x04 n (spiRepeat n) s)) ∧
  (∀ (p : List Octet) (s : State), Acts (.uartPacket p) s (s.linkRuns && s.pwr.vio1) (uartPacket p (sayReset 1 s))) ∧
  (∀ (s : State), Acts .uartGapTimeout s (s.linkRuns && (s.cmdp.uartIn || s.cmdp.uartDrop)) (tCount 1 3 (uartHunt s))) ∧
  (∀ (s : State), Acts .uartReplySent s ((sayReset 1 s).uartMaySend) (uartReply (sayReset 1 s))) ∧
  (∀ (w : Who) (k : Fin 4) (v : Word) (s : State), Acts (.mailboxPost w k v) s (s.mayWrite w (R.mbPost k.val) && s.accepts (2
    + k.val) && !s.bit (R.mbStatus k.val) 0) (mailboxPost k.val v (sayReset (2 + k.val) s))) ∧
  (∀ (k : Fin 4) (s : State) (e : _), s.cmdp.mbCopy.find? (fun e => e.1 == k.val) = some e → Acts (.mailboxCopyDone k) s
    (s.linkRuns && 0 < s.slotsFree (2 + k.val)) (mailboxCopy k.val e.2 s)) ∧
  (∀ (k : Fin 4) (s : State), Acts (.mailboxReplyWrite k) s (s.linkRuns && !((sayReset (2 + k.val) s).nextOut (2 +
    k.val)).isEmpty) (mailboxReply k.val (sayReset (2 + k.val) s))) ∧
  (∀ (s : State), Acts .deferredResetStart s (s.alive && (!s.cmdp.deferred.isEmpty || s.pwr.change.any (fun c =>
    c.replyHold))) (deferredStart s)) ∧
  (∀ (dur : BitVec 16) (s : State) (c : _), s.lsup.move = some c → Acts (.takeoverResume dur) s s.linkRuns (takeoverResume c
    dur.toNat s)) ∧
  (∀ (s : State), Acts .uartSyncOctet s (s.linkRuns && s.pwr.vio1) (uartSync (sayReset 1 s))) ∧
  (∀ (low : Bool) (s : State), Acts (.hostCtsNChange low) s s.pwr.vio1 (ctsChange low s))

/-- The host's commands on modes, mesh time, staging, tests and counters, and ABORT (R269 to R289). A command that link
firmware starts completes with its body, given its record and parameters, where it passes steps 9 and 10 of R260 as they then
stand (judged again at the start: the model's choice, log 114); otherwise it ends with the status of the check that failed,
and with HW_FAULT where it reads an uncorrectable word (R270). -/
def Obligations.HostCommandsOfTheSystem : Prop :=
  (∀ (t : Transport) (tag : Octet) (s : State), Starts (.ping t tag) s t tag 0x00 anyParams pingBody) ∧
  (∀ (t : Transport) (tag : Octet) (s : State), Starts (.getInfo t tag) s t tag 0x01 anyParams getInfoBody) ∧
  (∀ (t : Transport) (tag : Octet) (s : State), Starts (.resetDomain t tag) s t tag 0x02 checkResetDomain resetDomainBody) ∧
  (∀ (t : Transport) (tag : Octet) (s : State), Starts (.getResetCause t tag) s t tag 0x03 anyParams getCauseBody) ∧
  (∀ (t : Transport) (tag : Octet) (s : State), Starts (.setMode t tag) s t tag 0x04 checkSetMode setModeBody) ∧
  (∀ (t : Transport) (tag : Octet) (s : State), Starts (.getMode t tag) s t tag 0x05 anyParams getModeBody) ∧
  (∀ (t : Transport) (tag : Octet) (s : State), Starts (.getWakeRecord t tag) s t tag 0x06 anyParams wakeRecordBody) ∧
  (∀ (t : Transport) (tag : Octet) (s : State), Starts (.mtGet t tag) s t tag 0x20 anyParams mtGetBody) ∧
  (∀ (t : Transport) (tag : Octet) (s : State), Starts (.mtStep t tag) s t tag 0x21 anyParams mtStepBody) ∧
  (∀ (t : Transport) (tag : Octet) (s : State), Starts (.mtSlew t tag) s t tag 0x22 checkMtSlew mtSlewBody) ∧
  (∀ (t : Transport) (tag : Octet) (s : State), Starts (.mtSource t tag) s t tag 0x23 checkMtSource sourceBody) ∧
  (∀ (t : Transport) (tag : Octet) (s : State), Starts (.mtStatus t tag) s t tag 0x24 anyParams mtStatusBody) ∧
  (∀ (t : Transport) (tag : Octet) (s : State) (r : Nat), s.recOf (tNum t) tag = some r → Acts (.abort t tag) s (s.serves &&
    s.recOpc r == 0x7F && s.recState r == 1) (abortBody r (s.recParams r) s)) ∧
  (∀ (t : Transport) (tag : Octet) (s : State), Starts (.stageBegin t tag) s t tag 0x60 checkStageBegin stageBeginBody) ∧
  (∀ (t : Transport) (tag : Octet) (s : State), Starts (.stageWrite t tag) s t tag 0x61 checkStageWrite stageWriteBody) ∧
  (∀ (t : Transport) (tag : Octet) (s : State), Starts (.stageCommit t tag) s t tag 0x62 checkStageCommit stageCommitBody) ∧
  (∀ (t : Transport) (tag : Octet) (s : State), Starts (.stageStatus t tag) s t tag 0x63 anyParams stageStatusBody) ∧
  (∀ (t : Transport) (tag : Octet) (s : State), Starts (.linkfwLoad t tag) s t tag 0x64 checkLinkfwLoad linkfwLoadBody) ∧
  (∀ (t : Transport) (tag : Octet) (s : State), Starts (.linkfwSwap t tag) s t tag 0x65 checkLinkfwSwap linkfwSwapBody) ∧
  (∀ (t : Transport) (tag : Octet) (s : State), Starts (.tableBankSwap t tag) s t tag 0x66 checkTableBankSwap tableSwapBody) ∧
  (∀ (t : Transport) (tag : Octet) (s : State), Starts (.selftest t tag) s t tag 0x70 checkSelftest selftestBody) ∧
  (∀ (t : Transport) (tag : Octet) (s : State), Starts (.clearCounters t tag) s t tag 0x72 checkClearCounters
    clearCountersBody) ∧
  (∀ (t : Transport) (tag : Octet) (s : State), Starts (.echo t tag) s t tag 0x73 anyParams echoBody) ∧
  (∀ (t : Transport) (tag : Octet) (s : State), Starts (.getCounters t tag) s t tag 0x71 checkGetCounters getCountersBody)

/-- The host's commands on the radio, lanes, frames, gates, courses, tables, keys and windows (R269 to R289), completing or
ending as those of the system do. -/
def Obligations.HostCommandsOfTheRadio : Prop :=
  (∀ (t : Transport) (tag : Octet) (s : State), Starts (.radioConfig t tag) s t tag 0x10 checkRadioConfig radioConfigBody) ∧
  (∀ (t : Transport) (tag : Octet) (s : State), Starts (.tune t tag) s t tag 0x11 checkTune tuneBody) ∧
  (∀ (t : Transport) (tag : Octet) (s : State), Starts (.calibrate t tag) s t tag 0x12 checkCalibrate calibrateBody) ∧
  (∀ (t : Transport) (tag : Octet) (s : State), Starts (.setCalPolicy t tag) s t tag 0x13 checkSetCalPolicy calPolicyBody) ∧
  (∀ (t : Transport) (tag : Octet) (s : State), Starts (.setTxPower t tag) s t tag 0x14 checkSetTxPower setTxPowerBody) ∧
  (∀ (t : Transport) (tag : Octet) (s : State), Starts (.loadPowerCurve t tag) s t tag 0x15 checkLoadPowerCurve
    powerCurveBody) ∧
  (∀ (t : Transport) (tag : Octet) (s : State), Starts (.laneAssign t tag) s t tag 0x16 checkLaneAssign laneAssignBody) ∧
  (∀ (t : Transport) (tag : Octet) (s : State), Starts (.laneRelease t tag) s t tag 0x17 checkLaneRelease laneReleaseBody) ∧
  (∀ (t : Transport) (tag : Octet) (s : State), Starts (.txFrame t tag) s t tag 0x18 checkTxFrame txFrameBody) ∧
  (∀ (t : Transport) (tag : Octet) (s : State), Starts (.measureChannel t tag) s t tag 0x19 checkMeasureChannel measureBody) ∧
  (∀ (t : Transport) (tag mean peak share : Octet) (s : State) (n : Nat), (List.range 16).find? (fun n => (s.lane n).measure
    == some (tNum t, tag)) = some n → Acts (.measureDone t tag mean peak share) s s.linkRuns (finishTag (tNum t) tag St.done
    [mean, peak, share] (freeLane n s))) ∧
  (∀ (t : Transport) (tag : Octet) (s : State), Starts (.sound t tag) s t tag 0x1A checkSound soundBody) ∧
  (∀ (t : Transport) (tag : Octet) (s : State), Starts (.gateWrite t tag) s t tag 0x30 checkGateWrite gateWriteBody) ∧
  (∀ (t : Transport) (tag : Octet) (s : State), Starts (.gateRead t tag) s t tag 0x31 checkGateRead gateReadBody) ∧
  (∀ (t : Transport) (tag : Octet) (s : State), Starts (.courseConfig t tag) s t tag 0x32 checkCourseConfig courseConfigBody) ∧
  (∀ (t : Transport) (tag : Octet) (s : State), Starts (.courseStart t tag) s t tag 0x33 checkCourseStart courseStartBody) ∧
  (∀ (t : Transport) (tag : Octet) (s : State), Starts (.courseStop t tag) s t tag 0x34 checkCourseStop courseStopBody) ∧
  (∀ (t : Transport) (tag : Octet) (s : State), Starts (.hopseqWrite t tag) s t tag 0x35 checkHopseqWrite hopseqBody) ∧
  (∀ (t : Transport) (tag : Octet) (s : State), Starts (.nbrRead t tag) s t tag 0x40 checkNbrRead nbrReadBody) ∧
  (∀ (t : Transport) (tag : Octet) (s : State), Starts (.nbrWrite t tag) s t tag 0x41 checkNbrWrite nbrWriteBody) ∧
  (∀ (t : Transport) (tag : Octet) (s : State), Starts (.nbrEvict t tag) s t tag 0x42 checkNbrEvict nbrEvictBody) ∧
  (∀ (t : Transport) (tag : Octet) (s : State), Starts (.routeWrite t tag) s t tag 0x43 checkRouteWrite routeWriteBody) ∧
  (∀ (t : Transport) (tag : Octet) (s : State), Starts (.routeRead t tag) s t tag 0x44 checkRouteRead routeReadBody) ∧
  (∀ (t : Transport) (tag : Octet) (s : State), Starts (.tonemapWrite t tag) s t tag 0x45 checkTonemapWrite tonemapWriteBody) ∧
  (∀ (t : Transport) (tag : Octet) (s : State), Starts (.tonemapRead t tag) s t tag 0x46 checkTonemapRead tonemapReadBody) ∧
  (∀ (t : Transport) (tag : Octet) (s : State), Starts (.keyLoad t tag) s t tag 0x50 checkKeyLoad keyLoadBody) ∧
  (∀ (t : Transport) (tag : Octet) (s : State), Starts (.keySelect t tag) s t tag 0x51 checkKeySelect keySelectBody) ∧
  (∀ (t : Transport) (tag : Octet) (s : State), Starts (.secStatus t tag) s t tag 0x52 checkSecStatus secStatusBody) ∧
  (∀ (t : Transport) (tag : Octet) (s : State), Starts (.windowDefine t tag) s t tag 0x58 checkWindowDefine windowDefineBody) ∧
  (∀ (t : Transport) (tag : Octet) (s : State), Starts (.windowClose t tag) s t tag 0x59 checkWindowClose windowCloseBody) ∧
  (∀ (t : Transport) (tag : Octet) (s : State), Starts (.windowOp t tag) s t tag 0x5A checkWindowOp windowOpBody)

/-- The link supervisor (R290 to R302), the cores' control, watchdogs and debug (R335 to R341, R466, R467) and register
writes (R3, R4). Where the condition of a row holds the command completes with the state given; where it does not, nothing
changes. -/
def Obligations.LinkCoreAndCoreControl : Prop :=
  (∀ (c : Bool) (v : Word) (s : State), Acts (.heartbeat c v) s (s.linkRuns && s.mayWrite (linkCore c) (R.lsupHb (if c then 1
    else 0)) && !s.bit R.dbgStat (if c then 5 else 4) && (c == s.ownerB || s.stby == 2)) (heartbeat c v s)) ∧
  (∀ (c : Bool) (s : State), Acts (.supervisorTimeout c) s (s.linkRuns && s.bit R.lsupCtrl 0 && s.timerOn c && (c == s.ownerB
    || !s.stbyHeld)) (supervisorTimeout c s)) ∧
  (∀ (w : Who) (v : Word) (s : State), Acts (.swapgo w v) s (s.mayWrite w R.lsupCtrl) (lsupCtrlWrite w (setBits v 1 1 1) s)) ∧
  (∀ (w : Who) (v : Word) (s : State), Acts (.standbyLoad w v) s (s.mayWrite w R.lsupStbycmd) (stbycmdWrite w (setBits v 2 1
    1) s)) ∧
  (∀ (s : State) (src rcd : _), s.lsup.load = some (src, rcd) → Acts .standbyReady s (s.linkRuns && 4 ≤ s.domainMode &&
    !s.stbyHeld && !s.loadWaits src) (standbyReady src rcd s)) ∧
  (∀ (w : Who) (v : Word) (s : State), Acts (.bankswapGo w v) s (s.mayWrite w R.lsupBankswap) (bankswapWrite (setBits v 4 1
    1) s)) ∧
  (∀ (w : Who) (v : Word) (s : State), Acts (.bankswapCancel w v) s (s.mayWrite w R.lsupBankswap) (bankswapWrite (setBits v 5
    1 1) s)) ∧
  (∀ (w : Who) (k : Fin 4) (v : Word) (s : State), Acts (.setpend w k v) s (s.mayWrite w (R.intcSetpend k.val)) (setpendWrite
    k.val v s)) ∧
  (∀ (k : Fin 4) (s : State), Acts (.watchdogWarn k) s (s.wdRuns k && s.wdTimeout k.val / 2 < s.fld (R.wdCount k.val) 0 16)
    (wdWarn k.val s)) ∧
  (∀ (w : Who) (k : Fin 4) (s : State), Acts (.coreOffline w k) s (s.mayWrite w R.intcCorectl) (corectlWrite (setBits (s.reg
    R.intcCorectl) k.val 1 1) s)) ∧
  (∀ (w : Who) (k : Fin 4) (s : State), Acts (.coreRestart w k) s (s.mayWrite w R.intcCorectl) (corectlWrite (setBits (s.reg
    R.intcCorectl) k.val 1 0) s)) ∧
  (∀ (w : Who) (k : Fin 4) (v : Word) (s : State), Acts (.watchdogKick w k v) s (s.mayWrite w (R.wdKick k.val)) (wdKick k v
    s)) ∧
  (∀ (k : Fin 4) (s : State), Acts (.watchdogExpire k) s (s.wdRuns k && s.fld (R.wdCount k.val) 0 16 ≤ s.wdTimeout k.val / 2)
    (wdExpire k (s.setFld (R.wdCount k.val) 0 16 0))) ∧
  (∀ (v : Word) (s : State), Acts (.debugHalt v) s s.dbgOpen (dbgHalt v s)) ∧
  (∀ (v : Word) (s : State), Acts (.debugStep v) s s.dbgOpen (dbgStep v s)) ∧
  (∀ (v : Word) (s : State), Acts (.debugResume v) s s.dbgOpen (dbgResume v s)) ∧
  (∀ (c : Bool) (s : State), Acts (.lhalt c) s s.dbgOpen (lhaltWrite (if c then 0x200000 else 0x100000) s)) ∧
  (∀ (dr : BitVec 50) (s : State), Acts (.dbgaccUpdate dr) s s.dbgOpen (dbgUpdate dr s)) ∧
  (∀ (v : Word) (s : State), Acts (.debugLevelWrite v) s s.dbgOpen (dbgLevelWrite v s)) ∧
  (∀ (w : Who) (a : Word) (v : Word) (s : State), Acts (.registerWrite w a v) s (s.mayWrite w a.toNat) (regWrite w a.toNat v
    s))

/-- Merge buffers, the groomer, bank power and the fuse repair (R342 to R359), the flash service called by an application
core or a link core, BAD_PARAM at its reserved entries (R362), and the start-house copy (R360 to R386). Where the condition
of a row holds the command completes with the state given; where it does not, nothing changes. -/
def Obligations.MemoryAndFlashCommands : Prop :=
  (∀ (word : Word) (s : State), Acts (.mergeDrain word) s s.alive (drainWord word.toNat s)) ∧
  (∀ (s : State), Acts .groomRead s (s.chipRuns && s.fld R.eccGroomRate 0 16 != 0) (groomRead s)) ∧
  (∀ (w : Who) (k : Fin 16) (s : State), Acts (.bankOffline w k) s (s.mayWrite w R.eccOffline) (offlineWrite (setBits (s.reg
    R.eccOffline) k.val 1 1) s)) ∧
  (∀ (k : Fin 16) (s : State), Acts (.bankIsolated k) s (s.alive && bitOf s.ecc.isolating k.val) (bankIsolated k.val s)) ∧
  (∀ (w : Who) (k : Fin 16) (s : State), Acts (.bankOnline w k) s (s.mayWrite w R.eccOffline) (offlineWrite (setBits (s.reg
    R.eccOffline) k.val 1 0) s)) ∧
  (∀ (k : Fin 16) (s : State), Acts (.bankInitDone k) s (s.alive && s.bit R.eccInitstat k.val) (bankInitDone k.val s)) ∧
  (∀ (k : Fin 4) (bank : Word) (row : Word) (verified : Bool) (s : State), s.atReserved k = false → Acts (.repairRow (.app k)
    bank row verified) s (s.atService k 8) (svcByCore k (repairRow verified) s)) ∧
  (∀ (w : Who) (bank : Word) (row : Word) (verified : Bool) (s : State), w = .lcA ∨ w = .lcB → Acts (.repairRow w bank row
    verified) s s.linkRuns (svcByLink 8 w bank row 0 (repairRow verified) s)) ∧
  (∀ (k : Fin 4) (bank : Word) (row : Word) (verified : Bool) (s : State), s.atReserved k = true → exec (.repairRow (.app k)
    bank row verified) s = .next (svcByCore k (fun _ _ _ t => (SvcOut.st St.badParam, t)) s)) ∧
  (∀ (k : Fin 4) (g2 : Word) (s : State), s.atReserved k = false → Acts (.fsInfo (.app k) g2) s (s.atService k 0) (svcByCore
    k fsInfo s)) ∧
  (∀ (w : Who) (g2 : Word) (s : State), w = .lcA ∨ w = .lcB → Acts (.fsInfo w g2) s s.linkRuns (svcByLink 0 w g2 0 0 fsInfo
    s)) ∧
  (∀ (k : Fin 4) (g2 : Word) (s : State), s.atReserved k = true → exec (.fsInfo (.app k) g2) s = .next (svcByCore k (fun _ _
    _ t => (SvcOut.st St.badParam, t)) s)) ∧
  (∀ (k : Fin 4) (g2 : Word) (g3 : Word) (s : State), s.atReserved k = false → Acts (.fsErase (.app k) g2 g3) s (s.atService
    k 1) (svcByCore k (fsErase (.app k)) s)) ∧
  (∀ (w : Who) (g2 : Word) (g3 : Word) (s : State), w = .lcA ∨ w = .lcB → Acts (.fsErase w g2 g3) s s.linkRuns (svcByLink 1 w
    g2 g3 0 (fsErase w) s)) ∧
  (∀ (k : Fin 4) (g2 : Word) (g3 : Word) (s : State), s.atReserved k = true → exec (.fsErase (.app k) g2 g3) s = .next
    (svcByCore k (fun _ _ _ t => (SvcOut.st St.badParam, t)) s)) ∧
  (∀ (k : Fin 4) (g2 : Word) (g3 : Word) (g4 : Word) (s : State), s.atReserved k = false → Acts (.fsProgram (.app k) g2 g3
    g4) s (s.atService k 2) (svcByCore k (fsProgram (.app k)) s)) ∧
  (∀ (w : Who) (g2 : Word) (g3 : Word) (g4 : Word) (s : State), w = .lcA ∨ w = .lcB → Acts (.fsProgram w g2 g3 g4) s
    s.linkRuns (svcByLink 2 w g2 g3 g4 (fsProgram w) s)) ∧
  (∀ (k : Fin 4) (g2 : Word) (g3 : Word) (g4 : Word) (s : State), s.atReserved k = true → exec (.fsProgram (.app k) g2 g3 g4)
    s = .next (svcByCore k (fun _ _ _ t => (SvcOut.st St.badParam, t)) s)) ∧
  (∀ (k : Fin 4) (s : State), s.atReserved k = false → Acts (.fsStatus (.app k)) s (s.atService k 3) (svcByCore k fsStatus
    s)) ∧
  (∀ (w : Who) (s : State), w = .lcA ∨ w = .lcB → Acts (.fsStatus w) s s.linkRuns (svcByLink 3 w 0 0 0 fsStatus s)) ∧
  (∀ (k : Fin 4) (s : State), s.atReserved k = true → exec (.fsStatus (.app k)) s = .next (svcByCore k (fun _ _ _ t =>
    (SvcOut.st St.badParam, t)) s)) ∧
  (∀ (k : Fin 4) (s : State), s.atReserved k = false → Acts (.fsSuspend (.app k)) s (s.atService k 4) (svcByCore k (fsSuspend
    (.app k)) s)) ∧
  (∀ (w : Who) (s : State), w = .lcA ∨ w = .lcB → Acts (.fsSuspend w) s s.linkRuns (svcByLink 4 w 0 0 0 (fsSuspend w) s)) ∧
  (∀ (k : Fin 4) (s : State), s.atReserved k = true → exec (.fsSuspend (.app k)) s = .next (svcByCore k (fun _ _ _ t =>
    (SvcOut.st St.badParam, t)) s)) ∧
  (∀ (k : Fin 4) (s : State), s.atReserved k = false → Acts (.fsResume (.app k)) s (s.atService k 5) (svcByCore k fsResume
    s)) ∧
  (∀ (w : Who) (s : State), w = .lcA ∨ w = .lcB → Acts (.fsResume w) s s.linkRuns (svcByLink 5 w 0 0 0 fsResume s)) ∧
  (∀ (k : Fin 4) (s : State), s.atReserved k = true → exec (.fsResume (.app k)) s = .next (svcByCore k (fun _ _ _ t =>
    (SvcOut.st St.badParam, t)) s)) ∧
  (∀ (k : Fin 4) (s : State), s.atReserved k = false → Acts (.fsAbandon (.app k)) s (s.atService k 6) (svcByCore k fsAbandon
    s)) ∧
  (∀ (w : Who) (s : State), w = .lcA ∨ w = .lcB → Acts (.fsAbandon w) s s.linkRuns (svcByLink 6 w 0 0 0 fsAbandon s)) ∧
  (∀ (k : Fin 4) (s : State), s.atReserved k = true → exec (.fsAbandon (.app k)) s = .next (svcByCore k (fun _ _ _ t =>
    (SvcOut.st St.badParam, t)) s)) ∧
  (∀ (k : Fin 4) (g2 : Word) (s : State), s.atReserved k = false → Acts (.fsRefresh (.app k) g2) s (s.atService k 7)
    (svcByCore k (fsRefresh (.app k)) s)) ∧
  (∀ (w : Who) (g2 : Word) (s : State), w = .lcA ∨ w = .lcB → Acts (.fsRefresh w g2) s s.linkRuns (svcByLink 7 w g2 0 0
    (fsRefresh w) s)) ∧
  (∀ (k : Fin 4) (g2 : Word) (s : State), s.atReserved k = true → exec (.fsRefresh (.app k) g2) s = .next (svcByCore k (fun _
    _ _ t => (SvcOut.st St.badParam, t)) s)) ∧
  (∀ (s : State) (o : _) (r : _), s.flash.op = some o → o.result = some r → Acts .flashDone s s.alive (flashEnd r s)) ∧
  (∀ (s : State), Acts .autoSuspend s (s.alive && s.flash.susp == 0 && !s.bit R.fcStatus 2 && s.flash.op.any (fun o => o.kind
    == 2 && o.autosusp && o.result.isNone)) (suspend 2 s)) ∧
  (∀ (s : State), Acts .autoResume s (s.alive && s.flash.susp == 2) (unsuspend s)) ∧
  (∀ (s : State), Acts .startHouseCopy s (s.appRuns && s.stage.boot && !s.imageHeld && !s.bootWaits) (bootCheck s)) ∧
  (∀ (s : State) (c : _), s.stage.copy = some c → Acts .copyComplete s (s.alive && c.active && s.copySectors ≤ c.sector)
    (copyEnd c s)) ∧
  (∀ (ok : Bool) (s : State), Acts (.flashPulseEnd ok) s (s.alive && s.flash.susp == 0 && s.flash.op.any (fun o =>
    o.result.isNone)) (pulseEnd ok s))

/-- The DMA engine (R387 to R404), the event fabric (R405 to R416) and the general timers (R417 to R422). Where the condition
of a row holds the command completes with the state given; where it does not, nothing changes. -/
def Obligations.DmaFabricAndTimerCommands : Prop :=
  (∀ (c0 : Bool) (s : State), Acts (.rwRead c0) s (s.rwinHead c0 1 && !s.rwinWaits c0) (serve c0 goRead (rwinTurn c0 s))) ∧
  (∀ (c0 : Bool) (s : State), Acts (.rwWrite c0) s (s.rwinHead c0 2 && !s.rwinWaits c0) (serve c0 (goWrite c0) (rwinTurn c0
    s))) ∧
  (∀ (c0 : Bool) (s : State), Acts (.rwAdd c0) s (s.rwinHead c0 3 && !s.rwinWaits c0) (serve c0 (goAdd c0) (rwinTurn c0 s))) ∧
  (∀ (c0 : Bool) (s : State), Acts (.rwSwap c0) s (s.rwinHead c0 4 && !s.rwinWaits c0) (serve c0 (goSwap c0) (rwinTurn c0
    s))) ∧
  (∀ (n : Fin 32) (s : State), Acts (.dmaMove n) s (s.dmaReady n) (dmaInstr n 1 4 (dmaMove n) s)) ∧
  (∀ (n : Fin 32) (s : State), Acts (.dmaLoop n) s (s.dmaReady n) (dmaInstr n 2 2 (dmaLoop n) s)) ∧
  (∀ (n : Fin 32) (s : State), Acts (.dmaWait n) s (s.dmaReady n) (dmaInstr n 3 2 (dmaWait n) s)) ∧
  (∀ (n : Fin 32) (s : State), Acts (.dmaWaitEnd n) s (s.chipRuns && s.dmaSt n == 2 && (s.dmaMet n (s.dmaCh n).insn ||
    isDelay (s.dmaCh n).insn)) (dmaGoOn n (s.dmaCh n).insn s)) ∧
  (∀ (n : Fin 32) (s : State), Acts (.dmaTimeout n) s (s.chipRuns && s.dmaSt n == 2 && !isDelay (s.dmaCh n).insn && (s.dmaCh
    n).arg != 0 && !s.dmaMet n (s.dmaCh n).insn) (dmaTimeout n s)) ∧
  (∀ (n : Fin 32) (s : State), Acts (.dmaSignal n) s (s.dmaReady n) (dmaInstr n 4 2 (dmaSignal n) s)) ∧
  (∀ (n : Fin 32) (s : State), Acts (.dmaQpop n) s (s.dmaReady n) (dmaInstr n 5 2 (dmaQpop n) s)) ∧
  (∀ (n : Fin 32) (s : State), Acts (.dmaQpush n) s (s.dmaReady n) (dmaInstr n 6 1 (dmaQpush n) s)) ∧
  (∀ (n : Fin 32) (s : State), Acts (.dmaSync n) s (s.dmaReady n) (dmaInstr n 7 1 (dmaSync n) s)) ∧
  (∀ (n : Fin 32) (s : State), Acts (.dmaSyncDone n) s (s.chipRuns && (s.dmaCh n).sync) (dmaSyncDone n s)) ∧
  (∀ (n : Fin 32) (s : State), Acts (.dmaEnd n) s (s.dmaReady n) (dmaInstr n 8 1 (dmaEnd n) s)) ∧
  (∀ (n : Fin 32) (at_ : BurstTime) (s : State), Acts (.dmaBurst n at_) s (s.burstOk n at_) (dmaBurst n at_ s)) ∧
  (∀ (n : Fin 32) (s : State), Acts (.channelStopped n) s (s.alive && s.dmaSt n.val == 3 && !(s.dmaCh n.val).sync)
    (dmaStopped n.val s)) ∧
  (∀ (w : Who) (n : Fin 32) (v : Word) (s : State), Acts (.channelStart w n v) s (s.mayWrite w (R.dmaChctrl n.val))
    (chctrlWrite n.val (setBits v 0 1 1) s)) ∧
  (∀ (w : Who) (n : Fin 32) (v : Word) (s : State), Acts (.channelStop w n v) s (s.mayWrite w (R.dmaChctrl n.val))
    (chctrlWrite n.val (setBits v 0 1 0) s)) ∧
  (∀ (w : Who) (n : Fin 32) (v : Word) (s : State), Acts (.swtrig w n v) s (s.mayWrite w (R.dmaChctrl n.val)) (chctrlWrite
    n.val (setBits v 3 1 1) s)) ∧
  (∀ (w : Who) (n : Fin 32) (v : Word) (s : State), Acts (.clrpend w n v) s (s.mayWrite w (R.dmaChctrl n.val)) (chctrlWrite
    n.val (setBits v 4 1 1) s)) ∧
  (∀ (c : Fin 64) (s : State), Acts (.fabricChannelEvent c) s (s.fabricRuns && s.chanEvent 0 c.val && s.chanGate c.val &&
    !s.fab.done.contains c.val) ((chanArrive c.val s).setFab { (chanArrive c.val s).fab with done := c.val :: s.fab.done })) ∧
  (∀ (c : Fin 64) (s : State), Acts (.fabricHeldEmit c) s s.fabricRuns (heldEmit c.val s)) ∧
  (∀ (c : Fin 64) (s : State), Acts (.taskDeliver c) s s.fabricRuns (deliver [c.val] s)) ∧
  (∀ (s : State), Acts .lutUpdate s s.fabricRuns (fabricClock s)) ∧
  (∀ (w : Who) (j : Fin 32) (v : Word) (s : State), Acts (.lutCtlWrite w j v) s (s.mayWrite w (R.lutCtl j.val)) (lutCtlWrite
    j.val v s)) ∧
  (∀ (w : Who) (c : Fin 64) (v : Word) (s : State), Acts (.fabricLock w c v) s (s.mayWrite w (R.evfCfg c.val)) (evfCfgWrite
    c.val (setBits v 23 1 1) s)) ∧
  (∀ (pin : Fin 48) (rising : Bool) (s : State), Acts (.pinEvent pin rising) s s.pwr.vio2 (pinEdge pin.val rising s)) ∧
  (∀ (limit : Bool) (s : State), Acts (.madcSequenceEnd limit) s s.chipRuns (when limit (fire 0x78) (fire 0x77
    { s with pins := { s.pins with madcBusy := false } }))) ∧
  (∀ (src : BitVec 7) (s : State), Acts (.peripheralServiceRequest src) s (s.chipRuns && s.serviceOk src.toNat) (fire
    src.toNat s)) ∧
  (∀ (w : Who) (n : Fin 16) (s : State), Acts (.gtArm w n) s (s.mayWrite w (R.gtCtrl n.val)) (gtArm n.val s)) ∧
  (∀ (n : Fin 16) (s : State), Acts (.gtAdvance n) s s.alive (gtClock n.val s)) ∧
  (∀ (n : Fin 16) (s : State), Acts (.gtEnd n) s (s.alive && s.gtRun n.val && !s.gtLower n.val && s.reg (R.gtCount n.val) ==
    s.reg (R.gtTop n.val)) (gtStopAtTop n.val s)) ∧
  (∀ (n : Fin 16) (s : State), Acts (.gtCascadeWrap n) s (s.alive && s.gtRun n.val && s.gtLower n.val && s.gtReached n.val
    (s.reg (R.gtCount n.val) + 1)) (gtCount 16 n.val s)) ∧
  (∀ (w : Who) (n : Fin 16) (v : Word) (s : State), Acts (.gtTopWrite w n v) s (s.mayWrite w (R.gtTop n.val)) (gtTopWrite
    n.val v s)) ∧
  (∀ (n : Fin 16) (s : State), Acts (.gtCapture n) s (s.alive && s.fabricRuns) (gtCapture n.val s)) ∧
  (∀ (w : Who) (n : Fin 16) (s : State), Reads (.gtCapRead w n) s (s.mayRead w (R.gtCap n.val)) (gtCapRead n.val s))

/-- Power modes, clocks, resets, supplies, the backup domain and the TAP (R423 to R474). Where the condition of a row holds
the command completes with the state given; where it does not, nothing changes. -/
def Obligations.PowerAndClockCommands : Prop :=
  (∀ (w : Who) (v : Word) (s : State), Acts (.modeRequest w v) s (s.mayWrite w R.pmuReq) (pmuReqWrite (setBits v 23 1 1) s)) ∧
  (∀ (agent : Fin 19) (ans : AgentAnswer) (load : BitVec 12) (s : State), Acts (.agentAnswer agent ans load) s (s.alive &&
    s.asking && agent != 0) (agentAnswer agent.val ans load.toNat s)) ∧
  (∀ (agent : Fin 19) (s : State), Acts (.agentDelayExpiry agent) s (s.alive && s.asking && s.pwr.change.any (fun c => bitOf
    c.delayed agent.val) && !s.accepted agent.val) (delayExpiry agent.val s)) ∧
  (∀ (s : State), Acts .modeChangeTimeout s (s.alive && s.asking && !s.waking && !s.allAccepted) (cancelChange s.firstSilent
    0xFF s)) ∧
  (∀ (s : State), Acts .modeCommit s (s.alive && s.asking && s.allAccepted && !s.pwr.change.any (fun c => c.replyHold))
    (modeCommit s)) ∧
  (∀ (s : State), Acts .domainIsolate s (s.alive && s.fld R.pmuStatus 22 2 == 2 && !s.waking && !s.pwr.change.all (fun c =>
    c.isolated)) (isolate s)) ∧
  (∀ (s : State), Acts .modeChangeComplete s (s.alive && s.mayEnter) (modeEnter s)) ∧
  (∀ (code : Octet) (s : State), ((s.wakePinAt code).mayWake && (s.wakePinAt code).wakeActive code.toNat) = true → exec
    (.wakeSource code) s = .next (wakeSource (s.wakePinAt code))) ∧
  (∀ (pin : Fin 4) (rising : Bool) (s : State), Acts (.wakePinEdge pin rising) s s.pwr.vio1 (wakeEdge pin.val rising s)) ∧
  (∀ (s : State), Acts .regulatorReady s s.regWaits (s.setPwr { s.pwr with regReady := true })) ∧
  (∀ (s : State), Acts .regulatorTimeout s s.regWaits (regTimeout s)) ∧
  (∀ (s : State), Acts .regRetry s (s.alive && s.pwr.change.isNone && s.pwr.retry.isSome) (regRetry s)) ∧
  (∀ (s : State), Acts .xoReady s s.xoWaits (xoReady s)) ∧
  (∀ (s : State), Acts .xoTimeout s (s.xoWaits && s.waking && s.mode == 1 && !s.pwr.xoFail) ((s.setBit R.clkStatus 1
    true).setPwr { s.pwr with xoFail := true })) ∧
  (∀ (s : State), Acts .xoRetry s (s.alive && 2 ≤ s.mode && !s.bit R.clkStatus 0) (s.setPwr
    { s.pwr with tcxo := s.bit R.clkCfg 0 })) ∧
  (∀ (s : State), Acts .pllLock s s.pllWaits (pllLock s)) ∧
  (∀ (count : Nat) (s : State), Acts (.tclkTrimWindow count) s (s.alive && s.bit R.clkStatus 0 && s.bit R.clkTclktrim 23)
    (tclkWindow count s)) ∧
  (∀ (s : State), Acts .por s true (powerOn s)) ∧
  (∀ (s : State), Acts .brownoutMain s (s.pwr.vmain && !s.pwr.dead) (chipCycle 2 s)) ∧
  (∀ (s : State), Acts .brownoutLp s (s.alive && (s.mode == 2 || s.mode == 3) && !s.pwr.dead) (chipCycle 3 s)) ∧
  (∀ (s : State), Acts .resetPinAssert s (!s.pwr.resetPin) (resetPinLow s)) ∧
  (∀ (s : State), Acts .resetPinRelease s s.pwr.resetPin (chipStart (s.setPwr { s.pwr with resetPin := false }))) ∧
  (∀ (w : Who) (v : Word) (s : State), Acts (.rstctrlGo w v) s (s.mayWrite w R.sysRstctrl) (rstctrlWrite (setBits v 2 1 1)
    s)) ∧
  (∀ (s : State), Acts .vmainLoss s s.pwr.vmain (vmainLoss s)) ∧
  (∀ (cell : Bool) (s : State), Acts (.supplySwitch cell) s true (s.setBit R.bkpStatus 1 cell)) ∧
  (∀ (s : State), Acts .backupReset s true (backupReset s)) ∧
  (∀ (s : State), Acts .rtcTick s true (rtcTick s)) ∧
  (∀ (k : Fin 2) (s : State), Acts (.rtcAlarm k) s (s.almOn k.val && s.almMatch k.val s.bkp.rtc.toNat && !bitOf s.bkp.prev
    k.val) (almTick k.val s)) ∧
  (∀ (w : Who) (v : Word) (s : State), Acts (.adjgo w v) s (s.mayWrite w R.rtcCtrl) (rtcCtrlWrite (setBits v 0 1 1) s)) ∧
  (∀ (s : State), Acts .rtcTrimWindow s (s.alive && s.bit R.rtcCtrl 2 && s.fld R.mtSrc 8 3 == 2) (trimWindow s)) ∧
  (∀ (ir : Octet) (s : State), Acts (.tapInstructionLoad ir) s (s.pwr.vmain && s.pwr.vio1) (tapLoad ir s)) ∧
  (∀ (s : State), Acts .tapReset s s.pwr.vmain (tapLoad 0x01 s)) ∧
  (∀ (second : Bool) (s : State), Acts (.vioLoss second) s true (vioLoss second s)) ∧
  (∀ (second : Bool) (s : State), Acts (.vioReturn second) s true (vioReturn second s)) ∧
  (∀ (s : State), Acts .referenceFailure s (s.alive && 2 ≤ s.mode && s.bit R.clkStatus 0) (referenceFailure s)) ∧
  (∀ (s : State), Acts .lfOscillatorReady s s.alive (s.setBit R.clkStatus 4 true))
end

