-- ==== Sys2Proof/Laws/Tab.lean ====
section
/-! SUPPORT. Sparse tables: reading what was written, and the canonical form kept by every operation. -/
namespace Sys2Proof.Machine

open Sys2Proof

variable {β : Type}

theorem tabLook_tabIns_self (d : β) (t : List (Nat × β)) (a : Nat) (v : β) (h : ∀ e ∈ t, e.1 ≠ a) :
    tabLook d (tabIns t a v) a = v := by
  induction t with
  | nil => simp [tabIns, tabLook]
  | cons e t ih =>
    obtain ⟨k, w⟩ := e
    have hk : k ≠ a := h (k, w) (by simp)
    unfold tabIns
    split
    · simp [tabLook]
    · simp [tabLook, hk, ih (fun e he => h e (by simp [he]))]

theorem tabLook_tabIns_ne (d : β) (t : List (Nat × β)) {a b : Nat} (v : β) (h : a ≠ b) :
    tabLook d (tabIns t a v) b = tabLook d t b := by
  induction t with
  | nil => simp [tabIns, tabLook, h]
  | cons e t ih =>
    obtain ⟨k, w⟩ := e
    unfold tabIns
    split
    · simp [tabLook, h]
    · simp [tabLook, ih]

theorem tabLook_tabDel_self (d : β) (t : List (Nat × β)) (a : Nat) : tabLook d (tabDel t a) a = d := by
  induction t with
  | nil => rfl
  | cons e t ih =>
    obtain ⟨k, w⟩ := e
    by_cases h : k = a <;> simp_all [tabDel, tabLook]

theorem tabLook_tabDel_ne (d : β) (t : List (Nat × β)) {a b : Nat} (h : a ≠ b) :
    tabLook d (tabDel t a) b = tabLook d t b := by
  induction t with
  | nil => rfl
  | cons e t ih =>
    obtain ⟨k, w⟩ := e
    by_cases hk : k = a
    · subst hk; simp_all [tabDel, tabLook]
    · simp_all [tabDel, tabLook]

/-- What was put at a key is read there. -/
@[simp] theorem tabLook_tabPut_self [DecidableEq β] (d : β) (t : List (Nat × β)) (a : Nat) (v : β) :
    tabLook d (tabPut d t a v) a = v := by
  unfold tabPut
  split
  · next h => rw [h, tabLook_tabDel_self]
  · exact tabLook_tabIns_self d _ a v (fun e he => by simp [tabDel] at he; exact he.2)

/-- Putting a value at a key leaves every other key. -/
theorem tabLook_tabPut_ne [DecidableEq β] (d d' : β) (t : List (Nat × β)) {a b : Nat} (v : β) (h : a ≠ b) :
    tabLook d' (tabPut d t a v) b = tabLook d' t b := by
  unfold tabPut
  split
  · exact tabLook_tabDel_ne d' t h
  · rw [tabLook_tabIns_ne d' _ v h, tabLook_tabDel_ne d' t h]

theorem tabSorted_iff (t : List (Nat × β)) : tabSorted t = true ↔ t.Pairwise (fun x y => x.1 < y.1) := by
  induction t with
  | nil => simp [tabSorted]
  | cons e t ih =>
    cases t with
    | nil => simp [tabSorted]
    | cons f u =>
      obtain ⟨k, w⟩ := e
      obtain ⟨l, x⟩ := f
      simp only [tabSorted, Bool.and_eq_true, decide_eq_true_eq, ih, List.pairwise_cons, List.mem_cons]
      constructor
      · rintro ⟨h1, h2, h3⟩
        refine ⟨?_, h2, h3⟩
        rintro e (rfl | he)
        · exact h1
        · exact lt_trans h1 (h2 e he)
      · rintro ⟨h1, h2, h3⟩
        exact ⟨h1 _ (.inl rfl), h2, h3⟩

theorem tabWf_iff [DecidableEq β] (f : Nat → β) (t : List (Nat × β)) :
    tabWf f t = true ↔ t.Pairwise (fun x y => x.1 < y.1) ∧ ∀ e ∈ t, e.2 ≠ f e.1 := by
  simp [tabWf, tabSorted_iff]

/-- Entries taken out of a canonical table leave it canonical. -/
theorem tabWf_filter [DecidableEq β] (f : Nat → β) (p : Nat × β → Bool) {t : List (Nat × β)} (h : tabWf f t = true) :
    tabWf f (t.filter p) = true := by
  rw [tabWf_iff] at *
  exact ⟨h.1.filter p, fun e he => h.2 e (List.mem_of_mem_filter he)⟩

theorem mem_tabIns {t : List (Nat × β)} {a : Nat} {v : β} {e : Nat × β} (h : e ∈ tabIns t a v) : e = (a, v) ∨ e ∈ t := by
  induction t with
  | nil => simp [tabIns] at h; exact .inl h
  | cons x t ih =>
    obtain ⟨k, w⟩ := x
    unfold tabIns at h
    split at h
    · simpa using h
    · rcases List.mem_cons.1 h with rfl | h
      · simp
      · rcases ih h with h | h <;> simp [h]

theorem tabIns_sorted {t : List (Nat × β)} {a : Nat} {v : β} (h : t.Pairwise (fun x y => x.1 < y.1))
    (ha : ∀ e ∈ t, e.1 ≠ a) : (tabIns t a v).Pairwise (fun x y => x.1 < y.1) := by
  induction t with
  | nil => simp [tabIns]
  | cons x t ih =>
    obtain ⟨k, w⟩ := x
    have hk : k ≠ a := ha (k, w) (by simp)
    rw [List.pairwise_cons] at h
    unfold tabIns
    split
    · next hlt =>
      refine List.pairwise_cons.2 ⟨?_, List.pairwise_cons.2 h⟩
      intro e he
      rcases List.mem_cons.1 he with rfl | he
      · exact hlt
      · exact lt_trans hlt (h.1 e he)
    · next hlt =>
      refine List.pairwise_cons.2 ⟨?_, ih h.2 (fun e he => ha e (by simp [he]))⟩
      intro e he
      rcases mem_tabIns he with rfl | he
      · exact lt_of_le_of_ne (not_lt.1 hlt) hk
      · exact h.1 e he

/-- A write keeps the canonical form. -/
theorem tabWf_tabPut [DecidableEq β] (f : Nat → β) {t : List (Nat × β)} (a : Nat) (v : β) (h : tabWf f t = true) :
    tabWf f (tabPut (f a) t a v) = true := by
  have hd : tabWf f (tabDel t a) = true := tabWf_filter f _ h
  unfold tabPut
  split
  · exact hd
  · next hv =>
    rw [tabWf_iff] at hd ⊢
    refine ⟨tabIns_sorted hd.1 (fun e he => by simp [tabDel] at he; exact he.2), ?_⟩
    intro e he
    rcases mem_tabIns he with rfl | he
    · exact hv
    · exact hd.2 e he

/-! ## Memory -/

@[simp] theorem Memory.octet_setOctet_self (m : Memory) (a : Nat) (v : Octet) : (m.setOctet a v).octet a = v := by
  simp [Memory.octet, Memory.setOctet]

/-- A write of an octet leaves every other octet. -/
theorem Memory.octet_setOctet_ne (m : Memory) {a b : Nat} (v : Octet) (h : a ≠ b) :
    (m.setOctet a v).octet b = m.octet b := by
  simp [Memory.octet, Memory.setOctet, tabLook_tabPut_ne _ _ _ _ h]

theorem Memory.wf_setOctet {m : Memory} (a : Nat) (v : Octet) (h : m.wf = true) : (m.setOctet a v).wf = true :=
  tabWf_tabPut _ a v h

theorem Memory.wf_setWord {m : Memory} (w : Nat) (v : Word) (h : m.wf = true) : (m.setWord w v).wf = true := by
  unfold Memory.setWord
  exact Memory.wf_setOctet _ _ (Memory.wf_setOctet _ _ (Memory.wf_setOctet _ _ h))

theorem Memory.wf_clear {m : Memory} (lo hi : Nat) (h : m.wf = true) : (m.clear lo hi).wf = true :=
  tabWf_filter _ _ h

/-- Outside link memory no octet's unlisted value depends on whether the tables are as shipped. -/
theorem memDefault_outside (b c : Bool) {a : Nat} (h : a < 3 * 0x850000 ∨ 3 * 0x860000 ≤ a) :
    memDefault b a = memDefault c a := by
  unfold memDefault
  have : ¬ (0x850000 ≤ a / 3 ∧ a / 3 < 0x860000) := by omega
  simp only [Bool.and_eq_true, decide_eq_true_eq, this, if_false]

/-- Entries that all lie outside link memory stay canonical whether or not the tables are as shipped. -/
theorem tabWf_unship (b c : Bool) {t : List Host.Cell} (h : tabWf (memDefault b) t = true)
    (ho : ∀ e ∈ t, e.1 < 3 * 0x850000 ∨ 3 * 0x860000 ≤ e.1) : tabWf (memDefault c) t = true := by
  rw [tabWf_iff] at *
  exact ⟨h.1, fun e he => memDefault_outside b c (ho e he) ▸ h.2 e he⟩

theorem Memory.wf_loseLink {m : Memory} (h : m.wf = true) : m.loseLink.wf = true := by
  refine tabWf_unship m.shipped false (tabWf_filter _ _ h) ?_
  intro e he
  have h2 := (List.mem_filter.1 he).2
  simp only [Bool.not_eq_true', Bool.and_eq_false_iff, decide_eq_false_iff_not] at h2
  omega

/-- Only entries outside link memory's tables are kept, and the tables are not as shipped. -/
theorem Memory.wf_keep {m : Memory} (p : Host.Cell → Bool) (h : m.wf = true)
    (hp : ∀ e, p e = true → e.1 < 3 * 0x850000 ∨ 3 * 0x860000 ≤ e.1) : Memory.wf ⟨m.cells.filter p, false⟩ = true :=
  tabWf_unship m.shipped false (tabWf_filter _ p h) (fun e he => hp e (List.mem_filter.1 he).2)

end Sys2Proof.Machine
end

