-- ==== Sys2Proof/Laws/Acts.lean ====
section
/-! SUPPORT. What the shared forms of a command's meaning say, once: an event or a register write (`act`), a commanded read
(`readCmd`), a command of the host (`command`), a call of the flash service (`svcCall`), and an instruction of an application core
(`coreInstr`, `memInstr`). -/
namespace Sys2Proof.Machine

open Sys2Proof

theorem act_of_true {p : Bool} (f : State → State) (s : State) (h : p = true) : act p f s = .next (f s) := by
  simp [act, h]

theorem act_of_false {p : Bool} (f : State → State) (s : State) (h : p = false) : act p f s = .next s := by
  simp [act, h]

/-- A command whose meaning is `act` completes with its effect or changes nothing. -/
theorem acts_of_act {i : Instr} {s : State} {g : Bool} {f : State → State} (h : exec i s = act g f s) :
    Acts i s g (f s) :=
  ⟨fun hg => h.trans (act_of_true f s hg), fun hg => h.trans (act_of_false f s hg)⟩

/-- A commanded read completes with its value or reads zero. -/
theorem reads_of_readCmd {i : Instr} {s : State} {g : Bool} {f : State → Word × State} (h : exec i s = readCmd g f s) :
    Reads i s g (f s) :=
  ⟨fun hg => h.trans (by simp [readCmd, hg]), fun hg => h.trans (by simp [readCmd, hg])⟩

/-- A command of the host starts, or ends with the status of the check that failed. -/
theorem starts_of_command {i : Instr} {s : State} {t : Transport} {tag : Octet} {opc : Nat}
    {check : List Octet → State → Nat} {body : Nat → List Octet → State → State}
    (h : exec i s = command opc check body t tag s) : Starts i s t tag opc check body := by
  intro r bad u hr hu
  have e : exec i s = .next (startCmd opc check body r s) := by
    rw [h]; unfold command; rw [hr.1]; exact act_of_true _ s hr.2
  unfold startCmd at e
  simp only [hu] at e
  refine ⟨fun hb => ?_, fun hb hc => ?_, fun hb hc => ?_⟩ <;> subst hb <;> rw [e] <;> simp [hc]

/-- What an instruction of a ready core does: ILLEGAL, PRIV, or its own effect on the state after its fetch. -/
theorem coreInstr_of_ready {k : Fin 4} {s : State} (h : s.ready k) (word : Word) (legal priv : Bool) (body : State → State) :
    coreInstr k word legal priv body s =
      .next (if !legal then raise k 1 0 false word (s.fetched k)
        else if priv && !((s.fetched k).core k).sup then raise k 2 0 false word (s.fetched k)
        else body (s.fetched k)) := by
  obtain ⟨h1, h2, h3⟩ := h
  unfold coreInstr
  rw [act_of_true _ _ (by simp [h1, h2])]
  simp [coreStep, State.fetched, h3]

/-- An instruction of a ready core that reads memory none of which waits for flash. -/
theorem memInstr_of_ready {k : Fin 4} {s : State} (h : s.ready k) (word : Word) (priv : Bool)
    {spans : State → List (Nat × Nat)} (hw : (spans s).any (fun e => s.dataWaits k e.1 e.2) = false)
    (body : State → State) :
    memInstr k word true priv spans body s =
      .next (if priv && !((s.fetched k).core k).sup then raise k 2 0 false word (s.fetched k) else body (s.fetched k)) := by
  unfold memInstr
  rw [if_neg (by simp [hw]), coreInstr_of_ready h]
  simp

/-- An instruction that ILLEGAL stops waits for no data. -/
theorem memInstr_of_illegal (k : Fin 4) (word : Word) (priv : Bool) (spans : State → List (Nat × Nat)) (body : State → State)
    (s : State) : memInstr k word false priv spans body s = coreInstr k word false priv body s := by
  unfold memInstr
  rw [if_neg (by simp)]

@[simp] theorem State.core_setCore_self (s : State) (k : Fin 4) (c : Core) : (s.setCore k c).core k = c := by
  simp [State.core, State.setCore]

theorem State.core_setCore_ne (s : State) {j k : Fin 4} (c : Core) (h : j ≠ k) : (s.setCore k c).core j = s.core j := by
  have : (k : Nat) ≠ j := fun e => h (Fin.ext e.symm)
  simp [State.core, State.setCore, this]

@[simp] theorem Core.reg_zero (c : Core) : c.reg 0 = 0 := by simp [Core.reg]

@[simp] theorem Core.setG_zero (c : Core) (v : Word) : c.setG 0 v = c := by simp [Core.setG]

/-- A general register after a write of one (R305). -/
theorem Core.reg_setG (c : Core) (d : Nat) (v : Word) (r : Nat) : (c.setG d v).reg r = c.upd d v r := by
  by_cases hr : r = 0
  · subst hr; simp [Core.reg, Core.upd]
  · by_cases hd : d = 0
    · subst hd; simp [Core.upd, hr]
    · by_cases h : r = d
      · subst h; simp [Core.reg, Core.setG, Core.upd, hr, tabLook_tabPut_self]
      · simp [Core.reg, Core.setG, Core.upd, hr, hd, h, tabLook_tabPut_ne _ _ _ _ (Ne.symm h)]

/-- A system register after a write of one. -/
theorem Core.sysReg_setSys (c : Core) (n : Nat) (v : Word) (m : Nat) :
    (c.setSys n v).sysReg m = if m = n then v else c.sysReg m := by
  by_cases h : m = n
  · subst h; simp [Core.sysReg, Core.setSys, tabLook_tabPut_self]
  · simp [Core.sysReg, Core.setSys, h, tabLook_tabPut_ne _ _ _ _ (Ne.symm h)]

/-- A register after a write of one. -/
theorem State.reg_setReg (s : State) (a : Nat) (v : Word) (b : Nat) :
    (s.setReg a v).reg b = if b = a then v else s.reg b := by
  by_cases h : b = a
  · subst h; simp [State.reg, State.setReg, tabLook_tabPut_self]
  · simp [State.reg, State.setReg, h, tabLook_tabPut_ne _ _ _ _ (Ne.symm h)]

/-- gd := v, on to the next instruction, and nothing else. -/
theorem putReg_onlyRegs (k : Fin 4) (d : BitVec 4) (v : Word) (u : State) :
    OnlyRegs k u (putReg k d v u) ((u.core k).pc + 1) ((u.core k).upd d.toNat v) := by
  have hg : ((u.core k).setG d.toNat v) = { u.core k with g := ((u.core k).setG d.toNat v).g } := by
    unfold Core.setG; split <;> rfl
  refine ⟨?_, fun r _ => ?_⟩
  · unfold putReg nextPc
    simp only [State.core_setCore_self]
    rw [hg]
    simp [State.setCore, Vector.set_set]
  · rw [← Core.reg_setG]
    simp [putReg, nextPc, Core.reg]

end Sys2Proof.Machine
end

