-- ==== Sys2Proof/Laws/Fetch.lean ====
section
/-! SUPPORT. What a memory read leaves alone: everything but the registers that count errors and pend events, the memory that a merge
buffer drains into, posted writes land in or ECC corrects, the shared flash cache, the command port's notices, the fabric's arrivals and the count of
open draws. -/
namespace Sys2Proof.Machine

open Sys2Proof

/-- `t` differs from `s` in the fields at most that a memory read may touch. -/
structure SameAside (s t : State) : Prop where
  otp : t.otp = s.otp
  mt : t.mt = s.mt
  tmr : t.tmr = s.tmr
  pwr : t.pwr = s.pwr
  bkp : t.bkp = s.bkp
  dbg : t.dbg = s.dbg
  pins : t.pins = s.pins
  cores : t.cores = s.cores
  qm : t.qm = s.qm
  fwd : t.fwd = s.fwd
  gates : t.gates = s.gates
  bandS : t.bandS = s.bandS
  bandG : t.bandG = s.bandG
  link : t.link = s.link
  rwin : t.rwin = s.rwin
  stage : t.stage = s.stage
  lsup : t.lsup = s.lsup
  dma : t.dma = s.dma
  dmaTurn : t.dmaTurn = s.dmaTurn
  dmaBuf : t.dmaBuf = s.dmaBuf
  dmaUsed : t.dmaUsed = s.dmaUsed
  rdata : t.rdata = s.rdata
  pending : t.pending = s.pending

/-- As the property of one state, for the lemmas below. -/
def State.aside (s A : State) : Prop := SameAside A s

variable {A : State}

theorem aside_self : A.aside A := by constructor <;> rfl

theorem aside_mk (s : State) {regs mem ecc fab cmdp flash dmaPost draws} :
    State.aside ⟨regs, mem, ecc, s.otp, s.mt, fab, s.tmr, s.pwr, s.bkp, s.dbg, s.pins, s.cores, cmdp, s.qm,
      s.fwd, s.gates, s.bandS, s.bandG, s.link, s.rwin, flash, s.stage, s.lsup,
      s.dma, s.dmaTurn, s.dmaBuf, dmaPost, s.dmaUsed, s.rdata, draws, s.pending⟩ A ↔ s.aside A :=
  ⟨fun h => ⟨h.otp, h.mt, h.tmr, h.pwr, h.bkp, h.dbg, h.pins, h.cores, h.qm, h.fwd, h.gates, h.bandS, h.bandG, h.link, h.rwin, h.stage, h.lsup, h.dma, h.dmaTurn, h.dmaBuf, h.dmaUsed, h.rdata, h.pending⟩, fun h => ⟨h.otp, h.mt, h.tmr, h.pwr, h.bkp, h.dbg, h.pins, h.cores, h.qm, h.fwd, h.gates, h.bandS, h.bandG, h.link, h.rwin, h.stage, h.lsup, h.dma, h.dmaTurn, h.dmaBuf, h.dmaUsed, h.rdata, h.pending⟩⟩

theorem ite_aside (c : Prop) [Decidable c] (a b : State) (ha : a.aside A) (hb : b.aside A) :
    (if c then a else b).aside A := by split <;> assumption

theorem ite_aside2 {α : Type} (c : Prop) [Decidable c] (a b : α × State) (ha : a.2.aside A) (hb : b.2.aside A) :
    (if c then a else b).2.aside A := by split <;> assumption

theorem ite_aside3 {α β : Type} (c : Prop) [Decidable c] (a b : α × β × State) (ha : a.2.2.aside A)
    (hb : b.2.2.aside A) : (if c then a else b).2.2.aside A := by split <;> assumption

theorem aside_of_eq2 {α : Type} {p : α × State} {a : α} {t : State} (h : p = (a, t)) (hp : p.2.aside A) : t.aside A := by
  subst h; exact hp

theorem aside_of_eq3 {α β : Type} {p : α × β × State} {a : α} {b : β} {t : State} (h : p = (a, b, t))
    (hp : p.2.2.aside A) : t.aside A := by subst h; exact hp

theorem foldl_aside {β : Type} (f : State → β → State) (hf : ∀ t x, t.aside A → (f t x).aside A) (l : List β) (s : State)
    (h : s.aside A) : (l.foldl f s).aside A := by
  induction l generalizing s with
  | nil => exact h
  | cons x l ih => exact ih _ (hf _ _ h)

theorem State.setReg_aside (s : State) (a : Nat) (v : Word) (hs : s.aside A) :
    (State.setReg s a v).aside A := (aside_mk _).2 hs

theorem State.setFld_aside (s : State) (a lo len x : Nat) (hs : s.aside A) :
    (State.setFld s a lo len x).aside A := by
  unfold State.setFld
  repeat' first | with_reducible assumption | with_reducible apply State.setReg_aside

theorem State.setBit_aside (s : State) (a i : Nat) (b : Bool) (hs : s.aside A) :
    (State.setBit s a i b).aside A := by
  unfold State.setBit
  repeat' first | with_reducible assumption | with_reducible apply ite_aside | with_reducible apply State.setFld_aside

theorem State.countBy_aside (s : State) (a n : Nat) (hs : s.aside A) :
    (State.countBy s a n).aside A := by
  unfold State.countBy
  repeat' first | with_reducible assumption | with_reducible apply State.setReg_aside

theorem State.count_aside (s : State) (a : Nat) (hs : s.aside A) :
    (State.count s a).aside A := by
  unfold State.count
  repeat' first | with_reducible assumption | with_reducible apply State.countBy_aside

theorem State.drawn_aside (s : State) (hs : s.aside A) :
    (State.drawn s).aside A := (aside_mk _).2 hs

theorem when_aside (p : Bool) (f : State → State) (s : State) (hf : ∀ (y0 : State), y0.aside A → (f y0).aside A) (hs : s.aside A) :
    (when p f s).aside A := by
  unfold when
  repeat' first | intro _ | with_reducible assumption | with_reducible apply ite_aside | with_reducible apply hf

theorem forAll_aside {β : Type} (l : List β) (f : β → State → State) (s : State) (hf : ∀ (y0 : β) (y1 : State), y1.aside A → (f y0 y1).aside A) (hs : s.aside A) :
    (forAll l f s).aside A := by
  unfold forAll
  exact foldl_aside _ (fun t x ht => hf x t ht) l s hs

theorem pendIn_aside (k n : Nat) (s : State) (hs : s.aside A) :
    (pendIn k n s).aside A := by
  unfold pendIn
  repeat' first | with_reducible assumption | with_reducible apply State.setBit_aside

theorem pendEvent_aside (n k : Nat) (s : State) (hs : s.aside A) :
    (pendEvent n k s).aside A := by
  unfold pendEvent
  try dsimp only
  repeat' first
     | with_reducible assumption | with_reducible apply ite_aside | with_reducible apply pendIn_aside | split



theorem fire_aside (n : Nat) (s : State) (hs : s.aside A) :
    (fire n s).aside A := by
  unfold fire
  dsimp only
  repeat' first
     | with_reducible assumption | with_reducible apply ite_aside | with_reducible apply forAll_aside
     | with_reducible apply pendEvent_aside | simp only [aside_mk]

theorem pushNotice_aside (code : Nat) (payload : List Octet) (t : Nat) (s : State) (hs : s.aside A) :
    (pushNotice code payload t s).aside A := by
  unfold pushNotice
  dsimp only
  repeat' first
     | with_reducible assumption | with_reducible apply ite_aside | with_reducible apply State.setFld_aside
     | with_reducible apply State.count_aside | simp only [aside_mk]

theorem sayReset_aside (t : Nat) (s : State) (hs : s.aside A) :
    (sayReset t s).aside A := by
  unfold sayReset
  dsimp only
  repeat' first
     | with_reducible assumption | with_reducible apply ite_aside | with_reducible apply pushNotice_aside
     | simp only [aside_mk]

theorem noticeOn_aside (code : Nat) (payload : List Octet) (t : Nat) (s : State) (hs : s.aside A) :
    (noticeOn code payload t s).aside A := by
  unfold noticeOn
  repeat' first | with_reducible assumption | with_reducible apply pushNotice_aside | with_reducible apply sayReset_aside

theorem noticeNow_aside (n : LateNotice) (s : State) (hs : s.aside A) :
    (noticeNow n s).aside A := by
  unfold noticeNow
  repeat' first
     | intro _ | with_reducible assumption | with_reducible apply ite_aside | with_reducible apply forAll_aside
     | with_reducible apply noticeOn_aside

theorem noticeFor_aside (n : LateNotice) (s : State) (hs : s.aside A) :
    (noticeFor n s).aside A := by
  unfold noticeFor
  repeat' first
     | with_reducible assumption | with_reducible apply ite_aside | with_reducible apply noticeNow_aside
     | simp only [aside_mk]

theorem notice_aside (cls code : Nat) (payload : List Octet) (s : State) (hs : s.aside A) :
    (notice cls code payload s).aside A := by
  unfold notice
  repeat' first | with_reducible assumption | with_reducible apply noticeFor_aside

theorem noticeFault_aside (src : Nat) (a : Word) (s : State) (hs : s.aside A) :
    (noticeFault src a s).aside A := by
  unfold noticeFault
  repeat' first | with_reducible assumption | with_reducible apply notice_aside

theorem State.setEcc_aside (s : State) (e : EccState) (hs : s.aside A) :
    (State.setEcc s e).aside A := (aside_mk _).2 hs

theorem recordUe_aside (init kind w : Nat) (s : State) (hs : s.aside A) :
    (recordUe init kind w s).aside A := by
  unfold recordUe
  dsimp only
  repeat' first | with_reducible assumption | with_reducible apply State.setReg_aside | with_reducible apply State.count_aside

theorem recordCe_aside (w : Nat) (s : State) (hs : s.aside A) :
    (recordCe w s).aside A := by
  unfold recordCe
  repeat' first | with_reducible assumption | with_reducible apply State.setReg_aside | with_reducible apply State.count_aside

theorem setOctFlips_aside (w : Nat) (armed : Bool) (ls : List Nat) (s : State) (hs : s.aside A) :
    (setOctFlips w armed ls s).aside A := by
  unfold setOctFlips
  dsimp only
  repeat' first
     | intro _ | with_reducible assumption | with_reducible apply ite_aside | with_reducible apply State.setEcc_aside


theorem portStore_aside (w : Nat) (v : Word) (s : State) (hs : s.aside A) :
    (portStore w v s).aside A := by
  unfold portStore
  dsimp only
  repeat' first
     | intro _ | with_reducible assumption | with_reducible apply ite_aside | with_reducible apply State.setBit_aside
     | with_reducible apply when_aside | with_reducible apply State.setEcc_aside
     | with_reducible apply setOctFlips_aside | simp only [aside_mk]
    
    

theorem portStoreOctet_aside (w lane : Nat) (o : Octet) (s : State) (hs : s.aside A) :
    (portStoreOctet w lane o s).aside A := by
  unfold portStoreOctet
  dsimp only
  repeat' first
     | intro _ | with_reducible assumption | with_reducible apply ite_aside | with_reducible apply State.setBit_aside
     | with_reducible apply when_aside | with_reducible apply setOctFlips_aside | simp only [aside_mk]
    
    


theorem portProbe_aside (init w : Nat) (s : State) (hs : s.aside A) :
    (portProbe init w s).2.2.aside A := by
  unfold portProbe
  dsimp only
  repeat' first
     | intro _ | with_reducible assumption | with_reducible apply ite_aside | with_reducible apply ite_aside2
     | with_reducible apply ite_aside3 | with_reducible apply State.drawn_aside | with_reducible apply recordUe_aside
     | with_reducible apply recordCe_aside | with_reducible apply portStore_aside
     | with_reducible apply State.setLane_aside | simp only [aside_mk] | simp only [aside_mk]
    
     | split



theorem portFetch_aside (init w : Nat) (s : State) (hs : s.aside A) :
    (portFetch init w s).2.2.aside A := by
  unfold portFetch
  dsimp only
  repeat' first
     | with_reducible assumption | with_reducible apply portProbe_aside



theorem eccSignal_aside (w : Nat) (s : State) (hs : s.aside A) :
    (eccSignal w s).aside A := by
  unfold eccSignal
  repeat' first | with_reducible assumption | with_reducible apply fire_aside | with_reducible apply noticeFault_aside

theorem drainEntry_aside (e : MergeEntry) (s : State) (hs : s.aside A) :
    (drainEntry e s).aside A := by
  unfold drainEntry
  dsimp only
  repeat' first
     | intro _ | with_reducible assumption | with_reducible apply ite_aside | with_reducible apply State.count_aside
     | with_reducible apply State.setEcc_aside | with_reducible apply portStore_aside
     | with_reducible apply portFetch_aside | with_reducible apply eccSignal_aside
     | with_reducible apply State.setLane_aside | simp only [aside_mk] | split



theorem drainWord_aside (w : Nat) (s : State) (hs : s.aside A) :
    (drainWord w s).aside A := by
  unfold drainWord
  try dsimp only
  repeat' first
     | intro _ | with_reducible assumption | with_reducible apply drainEntry_aside | split



theorem portRead_aside (init w : Nat) (s : State) (hs : s.aside A) :
    (portRead init w s).2.2.aside A := by
  unfold portRead
  repeat' first | with_reducible assumption | with_reducible apply portFetch_aside | with_reducible apply drainWord_aside

theorem portWrite_aside (w : Nat) (v : Word) (s : State) (hs : s.aside A) :
    (portWrite w v s).aside A := by
  unfold portWrite
  repeat' first
     | with_reducible assumption | with_reducible apply State.setEcc_aside | with_reducible apply portStore_aside


theorem portWriteOctet_aside (w lane : Nat) (o : Octet) (s : State) (hs : s.aside A) :
    (portWriteOctet w lane o s).aside A := by
  unfold portWriteOctet
  dsimp only
  repeat' first
     | intro _ | with_reducible assumption | with_reducible apply ite_aside | with_reducible apply State.setEcc_aside
     | with_reducible apply drainEntry_aside | with_reducible apply portStoreOctet_aside | simp only [aside_mk] | split



theorem landOne_aside (p : Posted) (s : State) (hs : s.aside A) :
    (landOne p s).aside A := by
  unfold landOne
  try dsimp only
  repeat' first
     | with_reducible assumption | with_reducible apply portWrite_aside | with_reducible apply portWriteOctet_aside
     | split


theorem landBank_aside (b : Option Nat) (s : State) (hs : s.aside A) :
    (landBank b s).aside A := by
  unfold landBank
  repeat' first
     | intro _ | with_reducible assumption | with_reducible apply forAll_aside | with_reducible apply landOne_aside
     | simp only [aside_mk]

theorem landMaybe_aside (a : Nat) (s : State) (hs : s.aside A) :
    (landMaybe a s).aside A := by
  unfold landMaybe
  repeat' first
     | with_reducible assumption | with_reducible apply ite_aside | with_reducible apply State.drawn_aside
     | with_reducible apply landBank_aside

theorem flashCe_aside (a : Nat) (s : State) (hs : s.aside A) :
    (flashCe a s).aside A := by
  unfold flashCe
  dsimp only
  repeat' first
     | with_reducible assumption | with_reducible apply ite_aside | with_reducible apply State.setReg_aside
     | with_reducible apply State.count_aside | with_reducible apply fire_aside

theorem flashUe_aside (a : Nat) (s : State) (hs : s.aside A) :
    (flashUe a s).aside A := by
  unfold flashUe
  repeat' first | with_reducible assumption | with_reducible apply State.setReg_aside | with_reducible apply State.count_aside

theorem flashRead_aside (a : Nat) (s : State) (hs : s.aside A) :
    (flashRead a s).2.2.aside A := by
  unfold flashRead
  dsimp only
  repeat' first
     | with_reducible assumption | with_reducible apply ite_aside | with_reducible apply ite_aside2
     | with_reducible apply ite_aside3 | with_reducible apply State.drawn_aside | with_reducible apply flashCe_aside
     | with_reducible apply flashUe_aside | split


theorem flashReads_aside  (x0 : Nat) (x1 : Nat) (x2 : State) (hx2 : x2.aside A) :
    (flashReads x0 x1 x2).2.aside A := by
  induction x1 generalizing x0 x2 with
  | zero =>
    unfold flashReads
    try dsimp only
    repeat' first
       | with_reducible assumption


  | succ n ih =>
    unfold flashReads
    try dsimp only
    repeat' first
       | with_reducible assumption | with_reducible apply flashRead_aside | with_reducible apply ih



theorem fcRead_aside (a : Nat) (s : State) (hs : s.aside A) :
    (fcRead a s).2.2.aside A := by
  unfold fcRead
  dsimp only
  repeat' first
     | intro _ | with_reducible assumption | with_reducible apply ite_aside | with_reducible apply ite_aside2
     | with_reducible apply ite_aside3 | with_reducible apply State.drawn_aside | with_reducible apply flashReads_aside
     | simp only [aside_mk] | split


theorem firmSignal_aside (init : Nat) (err : Bool) (s : State) (hs : s.aside A) :
    (firmSignal init err s).aside A := by
  unfold firmSignal
  repeat' first | with_reducible assumption | with_reducible apply when_aside | with_reducible apply fire_aside

theorem memRead_aside (init a : Nat) (s : State) (hs : s.aside A) :
    (memRead init a s).2.2.aside A := by
  unfold memRead
  dsimp only
  repeat' first
     | with_reducible assumption | with_reducible apply ite_aside | with_reducible apply ite_aside2
     | with_reducible apply ite_aside3 | with_reducible apply State.drawn_aside | with_reducible apply portRead_aside
     | with_reducible apply landMaybe_aside | with_reducible apply flashRead_aside | with_reducible apply fcRead_aside
     | with_reducible apply firmSignal_aside


end Sys2Proof.Machine
end

