-- ==== Sys2Proof/Laws/Good.lean ====
section
/-! SUPPORT. The invariant that every operation keeps: memory and registers in their canonical form, the debug level at least
`L` (R467: it never falls), the queue of commands untouched. One lemma per shared operation, in this file and the ones after it; a
lemma's name is the operation's with `_good`. -/
namespace Sys2Proof.Machine

open Sys2Proof

/-- What the invariant says of the four fields it looks at. -/
def Good (L : Nat) (Q : List Instr) (m : Memory) (r : List (Nat × Word)) (o : OtpState) (p : List Instr) : Prop :=
  m.wf = true ∧ tabWf regReset r = true ∧ L ≤ o.debugLevel.toNat ∧ p = Q

/-- The invariant of a state. -/
def State.good (L : Nat) (Q : List Instr) (s : State) : Prop := Good L Q s.mem s.regs s.otp s.pending

variable {L : Nat} {Q : List Instr}

theorem good_mk (s : State) {ecc mt fab tmr pwr bkp dbg pins cores cmdp qm fwd gates bandS bandG link rwin flash
    stage lsup dma dmaTurn dmaBuf dmaPost dmaUsed rdata draws} :
    State.good L Q ⟨s.regs, s.mem, ecc, s.otp, mt, fab, tmr, pwr, bkp, dbg, pins, cores, cmdp, qm, fwd, gates, bandS, bandG,
      link, rwin, flash, stage, lsup, dma, dmaTurn, dmaBuf, dmaPost, dmaUsed, rdata, draws, s.pending⟩ ↔ s.good L Q := Iff.rfl

theorem good_raw {regs mem ecc otp mt fab tmr pwr bkp dbg pins cores cmdp qm fwd gates bandS bandG link rwin flash
    stage lsup dma dmaTurn dmaBuf dmaPost dmaUsed rdata draws pending} :
    State.good L Q ⟨regs, mem, ecc, otp, mt, fab, tmr, pwr, bkp, dbg, pins, cores, cmdp, qm, fwd, gates, bandS, bandG,
      link, rwin, flash, stage, lsup, dma, dmaTurn, dmaBuf, dmaPost, dmaUsed, rdata, draws, pending⟩ ↔ Good L Q mem regs otp pending := Iff.rfl

theorem State.good.raw {s : State} (h : s.good L Q) : Good L Q s.mem s.regs s.otp s.pending := h

section
variable {m : Memory} {r : List (Nat × Word)} {o : OtpState} {p : List Instr}

theorem Good.put (a : Nat) (v : Word) (h : Good L Q m r o p) : Good L Q m (tabPut (regReset a) r a v) o p :=
  ⟨h.1, tabWf_tabPut regReset a v h.2.1, h.2.2⟩

theorem Good.filter (q : Nat × Word → Bool) (h : Good L Q m r o p) : Good L Q m (r.filter q) o p :=
  ⟨h.1, tabWf_filter regReset q h.2.1, h.2.2⟩

theorem Good.setWord (w : Nat) (v : Word) (h : Good L Q m r o p) : Good L Q (m.setWord w v) r o p :=
  ⟨Memory.wf_setWord w v h.1, h.2⟩

theorem Good.setOctet (a : Nat) (v : Octet) (h : Good L Q m r o p) : Good L Q (m.setOctet a v) r o p :=
  ⟨Memory.wf_setOctet a v h.1, h.2⟩

theorem Good.clear (lo hi : Nat) (h : Good L Q m r o p) : Good L Q (m.clear lo hi) r o p :=
  ⟨Memory.wf_clear lo hi h.1, h.2⟩

theorem Good.loseLink (h : Good L Q m r o p) : Good L Q m.loseLink r o p := ⟨Memory.wf_loseLink h.1, h.2⟩

theorem Good.keep (q : Host.Cell → Bool) (h : Good L Q m r o p)
    (hq : ∀ e, q e = true → e.1 < 3 * 0x850000 ∨ 3 * 0x860000 ≤ e.1) : Good L Q ⟨m.cells.filter q, false⟩ r o p :=
  ⟨Memory.wf_keep q h.1 hq, h.2⟩

theorem Good.setWords {β : Type} (l : List β) (f : β → Nat) (g : β → Word) (h : Good L Q m r o p) :
    Good L Q (l.foldl (fun m i => m.setWord (f i) (g i)) m) r o p := by
  induction l generalizing m with
  | nil => exact h
  | cons x l ih => exact ih (h.setWord _ _)

theorem Good.otp {o' : OtpState} (ho : o'.debugLevel = o.debugLevel) (h : Good L Q m r o p) : Good L Q m r o' p :=
  ⟨h.1, h.2.1, ho ▸ h.2.2.1, h.2.2.2⟩

end

theorem State.good.mem {s : State} (h : s.good L Q) : s.mem.wf = true := h.1

/-- What an outcome says of its next state. -/
def OutGood (L : Nat) (Q : List Instr) : Host.Outcome State Fault Refusal → Prop
  | .next s => s.good L Q
  | .fault _ => True
  | .refused _ => True

theorem outGood_next {s : State} (h : s.good L Q) : OutGood L Q (.next s) := h

/-- What an optional state says. -/
def OptGood (L : Nat) (Q : List Instr) : Option State → Prop
  | some s => s.good L Q
  | none => True

theorem optGood_some {s : State} (h : s.good L Q) : OptGood L Q (some s) := h

theorem optGood_none : OptGood L Q none := trivial

theorem good_of_some {o : Option State} {t : State} (h : o = some t) (ho : OptGood L Q o) : t.good L Q := by
  subst h; exact ho

theorem ite_optGood (c : Prop) [Decidable c] (a b : Option State) (ha : OptGood L Q a) (hb : OptGood L Q b) :
    OptGood L Q (if c then a else b) := by split <;> assumption

theorem optGood_bind {o : Option State} {f : State → Option State} (ho : OptGood L Q o)
    (hf : ∀ t, t.good L Q → OptGood L Q (f t)) : OptGood L Q (o.bind f) := by
  cases o with
  | none => trivial
  | some t => exact hf t ho

theorem optGood_map {o : Option State} {f : State → State} (ho : OptGood L Q o)
    (hf : ∀ t, t.good L Q → (f t).good L Q) : OptGood L Q (o.map f) := by
  cases o with
  | none => trivial
  | some t => exact hf t ho

theorem good_of_eq2 {α : Type} {p : α × State} {a : α} {t : State} (h : p = (a, t)) (hp : p.2.good L Q) : t.good L Q := by
  subst h; exact hp

theorem good_of_eq3 {α β : Type} {p : α × β × State} {a : α} {b : β} {t : State} (h : p = (a, b, t))
    (hp : p.2.2.good L Q) : t.good L Q := by subst h; exact hp

theorem good_of_eq4 {α β γ : Type} {p : α × β × γ × State} {a : α} {b : β} {c : γ} {t : State} (h : p = (a, b, c, t))
    (hp : p.2.2.2.good L Q) : t.good L Q := by subst h; exact hp

theorem ite_good (c : Prop) [Decidable c] (a b : State) (ha : a.good L Q) (hb : b.good L Q) :
    (if c then a else b).good L Q := by split <;> assumption

theorem ite_good2 {α : Type} (c : Prop) [Decidable c] (a b : α × State) (ha : a.2.good L Q) (hb : b.2.good L Q) :
    (if c then a else b).2.good L Q := by split <;> assumption

theorem ite_good3 {α β : Type} (c : Prop) [Decidable c] (a b : α × β × State) (ha : a.2.2.good L Q)
    (hb : b.2.2.good L Q) : (if c then a else b).2.2.good L Q := by split <;> assumption

theorem ite_outGood (c : Prop) [Decidable c] (a b : Host.Outcome State Fault Refusal) (ha : OutGood L Q a)
    (hb : OutGood L Q b) : OutGood L Q (if c then a else b) := by split <;> assumption

theorem foldl_good {β : Type} (f : State → β → State) (hf : ∀ t x, t.good L Q → (f t x).good L Q) (l : List β) (s : State)
    (h : s.good L Q) : (l.foldl f s).good L Q := by
  induction l generalizing s with
  | nil => exact h
  | cons x l ih => exact ih _ (hf _ _ h)

theorem foldl_pair_good {α β : Type} (f : α × State → β → α × State)
    (hf : ∀ e x, e.2.good L Q → (f e x).2.good L Q) (l : List β) (e : α × State) (h : e.2.good L Q) :
    (l.foldl f e).2.good L Q := by
  induction l generalizing e with
  | nil => exact h
  | cons x l ih => exact ih _ (hf _ _ h)

end Sys2Proof.Machine
end

