-- ==== Sys2Proof/Laws/GoodBase.lean ====
section
/-! SUPPORT. The invariant of Laws/Good.lean over every operation of registers, memory access, events, mesh time, timers, the timing fabric, error correction and the queue manager: one lemma per operation, named after it with `_good`. -/
namespace Sys2Proof.Machine

open Sys2Proof

variable {L : Nat} {Q : List Instr}

theorem State.setReg_good (s : State) (a : Nat) (v : Word) (hs : s.good L Q) :
    (State.setReg s a v).good L Q := by
  unfold State.setReg
  exact Good.put _ _ hs

theorem State.setFld_good (s : State) (a lo len x : Nat) (hs : s.good L Q) :
    (State.setFld s a lo len x).good L Q := by
  unfold State.setFld
  repeat' first | with_reducible assumption | with_reducible apply State.setReg_good

theorem State.setBit_good (s : State) (a i : Nat) (b : Bool) (hs : s.good L Q) :
    (State.setBit s a i b).good L Q := by
  unfold State.setBit
  repeat' first | with_reducible assumption | with_reducible apply ite_good | with_reducible apply State.setFld_good

theorem State.countBy_good (s : State) (a n : Nat) (hs : s.good L Q) :
    (State.countBy s a n).good L Q := by
  unfold State.countBy
  repeat' first | with_reducible assumption | with_reducible apply State.setReg_good

theorem State.count_good (s : State) (a : Nat) (hs : s.good L Q) :
    (State.count s a).good L Q := by
  unfold State.count
  repeat' first | with_reducible assumption | with_reducible apply State.countBy_good

theorem State.resetRegs_good (s : State) (p : Nat → Bool) (hs : s.good L Q) :
    (State.resetRegs s p).good L Q := by
  unfold State.resetRegs
  exact Good.filter _ hs

theorem State.setMulti_good (s : State) (a : Nat) (x0 : Nat) (x1 : Nat) (hs : s.good L Q) :
    (State.setMulti s a x0 x1).good L Q := by
  induction x0 generalizing s a x1 with
  | zero => exact hs
  | succ n ih => exact ih _ _ _ (State.setReg_good _ _ _ hs)

theorem State.drawn_good (s : State) (hs : s.good L Q) :
    (State.drawn s).good L Q := by
  unfold State.drawn
  repeat' first | with_reducible assumption | simp only [good_mk]

theorem State.setMw_good (s : State) (w : Nat) (v : Word) (hs : s.good L Q) :
    (State.setMw s w v).good L Q := by
  unfold State.setMw
  exact Good.setWord _ _ hs

theorem State.setMws_good (s : State) (w : Nat) (x0 : List Word) (hs : s.good L Q) :
    (State.setMws s w x0).good L Q := by
  induction x0 generalizing s w with
  | nil => exact hs
  | cons v t ih => exact ih _ _ (State.setMw_good _ _ _ hs)

theorem act_good (p : Bool) (f : State → State) (s : State) (hf : ∀ (y0 : State), y0.good L Q → (f y0).good L Q) (hs : s.good L Q) :
    OutGood L Q ((act p f s)) := by
  unfold act
  repeat' first
     | intro _ | with_reducible assumption | with_reducible apply outGood_next | with_reducible apply ite_outGood
     | with_reducible apply ite_good | with_reducible apply hf

theorem readCmd_good (p : Bool) (f : State → Word × State) (s : State) (hf : ∀ (y0 : State), y0.good L Q → (f y0).2.good L Q) (hs : s.good L Q) :
    OutGood L Q ((readCmd p f s)) := by
  unfold readCmd
  repeat' first
     | intro _ | with_reducible assumption | with_reducible apply outGood_next | with_reducible apply ite_outGood
     | with_reducible apply ite_good | with_reducible apply ite_good2 | with_reducible apply hf | simp only [good_mk]

theorem when_good (p : Bool) (f : State → State) (s : State) (hf : ∀ (y0 : State), y0.good L Q → (f y0).good L Q) (hs : s.good L Q) :
    (when p f s).good L Q := by
  unfold when
  repeat' first | intro _ | with_reducible assumption | with_reducible apply ite_good | with_reducible apply hf

theorem forAll_good {β : Type} (l : List β) (f : β → State → State) (s : State) (hf : ∀ (y0 : β) (y1 : State), y1.good L Q → (f y0 y1).good L Q) (hs : s.good L Q) :
    (forAll l f s).good L Q := by
  unfold forAll
  exact foldl_good _ (fun t x ht => hf x t ht) l s hs

theorem State.setCore_good (s : State) (k : Fin 4) (c : Core) (hs : s.good L Q) :
    (State.setCore s k c).good L Q := by
  unfold State.setCore
  repeat' first | with_reducible assumption | simp only [good_mk]

theorem guardW_good (w : Who) (a : Nat) (f : State → State) (s : State) (hf : ∀ (y0 : State), y0.good L Q → (f y0).good L Q) (hs : s.good L Q) :
    (guardW w a f s).good L Q := by
  unfold guardW
  repeat' first | intro _ | with_reducible assumption | with_reducible apply ite_good | with_reducible apply hf

theorem plainWrite_good (a : Nat) (v : Word) (s : State) (hs : s.good L Q) :
    (plainWrite a v s).good L Q := by
  unfold plainWrite
  dsimp only
  repeat' first
     | with_reducible assumption | with_reducible apply State.setReg_good | split

theorem pendIn_good (k n : Nat) (s : State) (hs : s.good L Q) :
    (pendIn k n s).good L Q := by
  unfold pendIn
  repeat' first | with_reducible assumption | with_reducible apply State.setBit_good

theorem pendEvent_good (n k : Nat) (s : State) (hs : s.good L Q) :
    (pendEvent n k s).good L Q := by
  unfold pendEvent
  try dsimp only
  repeat' first
     | with_reducible assumption | with_reducible apply ite_good | with_reducible apply pendIn_good | split



theorem fire_good (n : Nat) (s : State) (hs : s.good L Q) :
    (fire n s).good L Q := by
  unfold fire
  dsimp only
  repeat' first
     | with_reducible assumption | with_reducible apply ite_good | with_reducible apply forAll_good
     | with_reducible apply pendEvent_good | simp only [good_mk]

theorem pushNotice_good (code : Nat) (payload : List Octet) (t : Nat) (s : State) (hs : s.good L Q) :
    (pushNotice code payload t s).good L Q := by
  unfold pushNotice
  dsimp only
  repeat' first
     | with_reducible assumption | with_reducible apply ite_good | with_reducible apply State.setFld_good
     | with_reducible apply State.count_good | simp only [good_mk]

theorem sayReset_good (t : Nat) (s : State) (hs : s.good L Q) :
    (sayReset t s).good L Q := by
  unfold sayReset
  dsimp only
  repeat' first
     | with_reducible assumption | with_reducible apply ite_good | with_reducible apply pushNotice_good
     | simp only [good_mk]

theorem noticeOn_good (code : Nat) (payload : List Octet) (t : Nat) (s : State) (hs : s.good L Q) :
    (noticeOn code payload t s).good L Q := by
  unfold noticeOn
  repeat' first | with_reducible assumption | with_reducible apply pushNotice_good | with_reducible apply sayReset_good

theorem noticeNow_good (n : LateNotice) (s : State) (hs : s.good L Q) :
    (noticeNow n s).good L Q := by
  unfold noticeNow
  repeat' first
     | intro _ | with_reducible assumption | with_reducible apply ite_good | with_reducible apply forAll_good
     | with_reducible apply noticeOn_good

theorem noticeFor_good (n : LateNotice) (s : State) (hs : s.good L Q) :
    (noticeFor n s).good L Q := by
  unfold noticeFor
  repeat' first
     | with_reducible assumption | with_reducible apply ite_good | with_reducible apply noticeNow_good
     | simp only [good_mk]

theorem notice_good (cls code : Nat) (payload : List Octet) (s : State) (hs : s.good L Q) :
    (notice cls code payload s).good L Q := by
  unfold notice
  repeat' first | with_reducible assumption | with_reducible apply noticeFor_good

theorem noticeMtState_good (s : State) (hs : s.good L Q) :
    (noticeMtState s).good L Q := by
  unfold noticeMtState
  repeat' first | with_reducible assumption | with_reducible apply notice_good

theorem noticeFault_good (src : Nat) (a : Word) (s : State) (hs : s.good L Q) :
    (noticeFault src a s).good L Q := by
  unfold noticeFault
  repeat' first | with_reducible assumption | with_reducible apply notice_good

theorem State.setMt_good (s : State) (m : MtState) (hs : s.good L Q) :
    (State.setMt s m).good L Q := by
  unfold State.setMt
  repeat' first | with_reducible assumption | simp only [good_mk]

theorem slewDone_good (s : State) (hs : s.good L Q) :
    (slewDone s).good L Q := by
  unfold slewDone
  repeat' first
     | with_reducible assumption | with_reducible apply State.setBit_good | with_reducible apply fire_good
     | with_reducible apply State.setMt_good

theorem slewTick_good (s : State) (hs : s.good L Q) :
    (slewTick s).good L Q := by
  unfold slewTick
  dsimp only
  repeat' first
     | with_reducible assumption | with_reducible apply ite_good | with_reducible apply State.setMulti_good
     | with_reducible apply State.setMt_good | with_reducible apply slewDone_good

theorem alarmCheck_good (s : State) (hs : s.good L Q) :
    (alarmCheck s).good L Q := by
  unfold alarmCheck
  dsimp only
  repeat' first
     | with_reducible assumption | with_reducible apply ite_good | with_reducible apply fire_good
     | with_reducible apply notice_good | with_reducible apply State.setMt_good

theorem addUncert_good (n : Nat) (s : State) (hs : s.good L Q) :
    (addUncert n s).good L Q := by
  unfold addUncert
  dsimp only
  repeat' first
     | intro _ | with_reducible assumption | with_reducible apply State.setReg_good
     | with_reducible apply State.setBit_good | with_reducible apply when_good | with_reducible apply alarmCheck_good

theorem growUncert_good (u : Nat) (s : State) (hs : s.good L Q) :
    (growUncert u s).good L Q := by
  unfold growUncert
  dsimp only
  repeat' first
     | with_reducible assumption | with_reducible apply State.setMt_good | with_reducible apply addUncert_good


theorem growTick_good (s : State) (hs : s.good L Q) :
    (growTick s).good L Q := by
  unfold growTick
  repeat' first | with_reducible assumption | with_reducible apply growUncert_good

theorem growLf_good (s : State) (hs : s.good L Q) :
    (growLf s).good L Q := by
  unfold growLf
  repeat' first | with_reducible assumption | with_reducible apply ite_good | with_reducible apply growUncert_good

theorem State.setCmp_good (s : State) (n : Nat) (v : BitVec 72) (hs : s.good L Q) :
    (State.setCmp s n v).good L Q := by
  unfold State.setCmp
  repeat' first
     | with_reducible assumption | with_reducible apply State.setMulti_good | with_reducible apply State.setMt_good


theorem ppsStart_good (late : Bool) (n : Nat) (s : State) (hs : s.good L Q) :
    (ppsStart late n s).good L Q := by
  unfold ppsStart
  dsimp only
  repeat' first
     | with_reducible assumption | with_reducible apply ite_good | with_reducible apply State.setMt_good


theorem setMflag_good (n : Nat) (s : State) (hs : s.good L Q) :
    (setMflag n s).good L Q := by
  unfold setMflag
  repeat' first | with_reducible assumption | with_reducible apply ite_good | with_reducible apply State.setBit_good

theorem reload_good (n : Nat) (s : State) (hs : s.good L Q) :
    (reload n s).good L Q := by
  unfold reload
  dsimp only
  repeat' first
     | with_reducible assumption | with_reducible apply ite_good | with_reducible apply State.setFld_good
     | with_reducible apply State.setBit_good | with_reducible apply State.setCmp_good

theorem compareFire_good (late : Bool) (n : Nat) (s : State) (hs : s.good L Q) :
    (compareFire late n s).good L Q := by
  unfold compareFire
  repeat' first
     | intro _ | with_reducible assumption | with_reducible apply State.setBit_good | with_reducible apply when_good
     | with_reducible apply fire_good | with_reducible apply ppsStart_good | with_reducible apply setMflag_good
     | with_reducible apply reload_good

theorem evalCompares_good (s : State) (hs : s.good L Q) :
    (evalCompares s).good L Q := by
  unfold evalCompares
  repeat' first
     | intro _ | with_reducible assumption | with_reducible apply ite_good | with_reducible apply forAll_good
     | with_reducible apply compareFire_good

theorem evalComparesAtStep_good (before : BitVec 72) (s : State) (hs : s.good L Q) :
    (evalComparesAtStep before s).good L Q := by
  unfold evalComparesAtStep
  repeat' first
     | intro _ | with_reducible assumption | with_reducible apply ite_good | with_reducible apply forAll_good
     | with_reducible apply compareFire_good

theorem armCompare_good (n : Nat) (v : Word) (s : State) (hs : s.good L Q) :
    (armCompare n v s).good L Q := by
  unfold armCompare
  dsimp only
  repeat' first
     | with_reducible assumption | with_reducible apply ite_good | with_reducible apply State.setReg_good
     | with_reducible apply State.setFld_good | with_reducible apply State.setBit_good
     | with_reducible apply State.setMt_good | with_reducible apply compareFire_good

theorem mtcCtrlWrite_good (n : Nat) (v : Word) (s : State) (hs : s.good L Q) :
    (mtcCtrlWrite n v s).good L Q := by
  unfold mtcCtrlWrite
  dsimp only
  repeat' first
     | with_reducible assumption | with_reducible apply ite_good | with_reducible apply State.setBit_good
     | with_reducible apply plainWrite_good

theorem capture_good (n sub : Nat) (s : State) (hs : s.good L Q) :
    (capture n sub s).good L Q := by
  unfold capture
  dsimp only
  repeat' first
     | intro _ | with_reducible assumption | with_reducible apply ite_good | with_reducible apply State.setBit_good
     | with_reducible apply State.setMulti_good | with_reducible apply when_good

theorem readCap_good (w : Who) (n : Nat) (s : State) (hs : s.good L Q) :
    (readCap w n s).2.good L Q := by
  unfold readCap
  repeat' first
     | with_reducible assumption | with_reducible apply State.setBit_good | with_reducible apply State.setMt_good


theorem readNow0_good (w : Who) (s : State) (hs : s.good L Q) :
    (readNow0 w s).2.good L Q := by
  unfold readNow0
  repeat' first | with_reducible assumption | with_reducible apply State.setMt_good

theorem mtCtrlWrite_good (v : Word) (s : State) (hs : s.good L Q) :
    (mtCtrlWrite v s).good L Q := by
  unfold mtCtrlWrite
  dsimp only
  repeat' first
     | with_reducible assumption | with_reducible apply ite_good | with_reducible apply State.setBit_good
     | with_reducible apply plainWrite_good | with_reducible apply State.setMt_good

theorem rateWrite_good (v : Word) (s : State) (hs : s.good L Q) :
    (rateWrite v s).good L Q := by
  unfold rateWrite
  dsimp only
  repeat' first
     | with_reducible assumption | with_reducible apply ite_good | with_reducible apply State.setReg_good
     | with_reducible apply State.setMt_good

theorem slew0Write_good (v : Word) (s : State) (hs : s.good L Q) :
    (slew0Write v s).good L Q := by
  unfold slew0Write
  repeat' first
     | with_reducible assumption | with_reducible apply ite_good | with_reducible apply State.setReg_good
     | with_reducible apply State.setMt_good

theorem slewStart_good (v : Word) (s : State) (hs : s.good L Q) :
    (slewStart v s).good L Q := by
  unfold slewStart
  dsimp only
  repeat' first
     | with_reducible assumption | with_reducible apply State.setReg_good | with_reducible apply State.setBit_good
     | with_reducible apply State.setMt_good

theorem slewcfgWrite_good (v : Word) (s : State) (hs : s.good L Q) :
    (slewcfgWrite v s).good L Q := by
  unfold slewcfgWrite
  repeat' first | with_reducible assumption | with_reducible apply State.setFld_good

theorem usetWrite_good (v : Word) (s : State) (hs : s.good L Q) :
    (usetWrite v s).good L Q := by
  unfold usetWrite
  repeat' first
     | with_reducible assumption | with_reducible apply State.setReg_good | with_reducible apply State.setBit_good
     | with_reducible apply State.setMt_good | with_reducible apply alarmCheck_good

theorem ualarmWrite_good (v : Word) (s : State) (hs : s.good L Q) :
    (ualarmWrite v s).good L Q := by
  unfold ualarmWrite
  repeat' first | with_reducible assumption | with_reducible apply State.setReg_good | with_reducible apply alarmCheck_good

theorem lfWindowStart_good (s : State) (hs : s.good L Q) :
    (lfWindowStart s).good L Q := by
  unfold lfWindowStart
  repeat' first | with_reducible assumption | with_reducible apply State.setMt_good

theorem lfEdge_good (s : State) (hs : s.good L Q) :
    (lfEdge s).good L Q := by
  unfold lfEdge
  repeat' first | with_reducible assumption | with_reducible apply ite_good | with_reducible apply lfWindowStart_good

theorem lfWindowEnd_good (s : State) (hs : s.good L Q) :
    (lfWindowEnd s).good L Q := by
  unfold lfWindowEnd
  dsimp only
  repeat' first
     | with_reducible assumption | with_reducible apply ite_good | with_reducible apply State.setBit_good
     | with_reducible apply State.setMulti_good | with_reducible apply lfWindowStart_good

theorem lfPause_good (s : State) (hs : s.good L Q) :
    (lfPause s).good L Q := by
  unfold lfPause
  repeat' first | with_reducible assumption | with_reducible apply State.setMt_good

theorem lfTickCore_good (s : State) (hs : s.good L Q) :
    (lfTickCore s).good L Q := by
  unfold lfTickCore
  repeat' first | with_reducible assumption | with_reducible apply State.setMt_good | with_reducible apply growLf_good

theorem bridgeEnter_good (s : State) (hs : s.good L Q) :
    (bridgeEnter s).good L Q := by
  unfold bridgeEnter
  repeat' first
     | with_reducible assumption | with_reducible apply ite_good | with_reducible apply State.setBit_good
     | with_reducible apply State.setMt_good | with_reducible apply addUncert_good
     | with_reducible apply lfPause_good

theorem ptpStamp_good (s : State) (hs : s.good L Q) :
    (ptpStamp s).good L Q := by
  unfold ptpStamp
  dsimp only
  repeat' first
     | with_reducible assumption | with_reducible apply State.drawn_good | with_reducible apply fire_good
     | with_reducible apply State.setMt_good

theorem gtArm_good (n : Nat) (s : State) (hs : s.good L Q) :
    (gtArm n s).good L Q := by
  unfold gtArm
  dsimp only
  repeat' first
     | with_reducible assumption | with_reducible apply ite_good | with_reducible apply State.setReg_good
     | with_reducible apply State.setBit_good | simp only [good_mk]

theorem gtSignalEnd_good (n : Nat) (s : State) (hs : s.good L Q) :
    (gtSignalEnd n s).good L Q := by
  unfold gtSignalEnd
  repeat' first | with_reducible assumption | with_reducible apply State.setBit_good | with_reducible apply fire_good

theorem gtCount_good  (x0 : Nat) (x1 : Nat) (x2 : State) (hx2 : x2.good L Q) :
    (gtCount x0 x1 x2).good L Q := by
  revert hx2
  fun_induction gtCount x0 x1 x2
  all_goals intro hx2
  all_goals repeat' first
    | assumption
    | with_reducible apply ite_good
    | with_reducible apply State.setReg_good
    | with_reducible apply State.setBit_good
    | with_reducible apply gtSignalEnd_good
    | with_reducible apply_assumption

theorem gtClock_good (n : Nat) (s : State) (hs : s.good L Q) :
    (gtClock n s).good L Q := by
  unfold gtClock
  dsimp only
  repeat' first
     | with_reducible assumption | with_reducible apply ite_good | with_reducible apply gtCount_good
     | simp only [good_mk] | split


theorem gtEvent_good (n : Nat) (s : State) (hs : s.good L Q) :
    (gtEvent n s).good L Q := by
  unfold gtEvent
  dsimp only
  repeat' first
     | with_reducible assumption | with_reducible apply ite_good | with_reducible apply State.setBit_good
     | simp only [good_mk]

theorem gtStopAtTop_good (n : Nat) (s : State) (hs : s.good L Q) :
    (gtStopAtTop n s).good L Q := by
  unfold gtStopAtTop
  repeat' first
     | with_reducible assumption | with_reducible apply State.setReg_good | with_reducible apply State.setBit_good
     | with_reducible apply gtSignalEnd_good

theorem gtTopWrite_good (n : Nat) (v : Word) (s : State) (hs : s.good L Q) :
    (gtTopWrite n v s).good L Q := by
  unfold gtTopWrite
  dsimp only
  repeat' first
     | with_reducible assumption | with_reducible apply ite_good | with_reducible apply State.setReg_good
     | with_reducible apply State.setBit_good | with_reducible apply gtSignalEnd_good
     | with_reducible apply gtCount_good | with_reducible apply gtStopAtTop_good

theorem gtCapture_good (n : Nat) (s : State) (hs : s.good L Q) :
    (gtCapture n s).good L Q := by
  unfold gtCapture
  repeat' first
     | intro _ | with_reducible assumption | with_reducible apply State.setReg_good
     | with_reducible apply State.setBit_good | with_reducible apply when_good

theorem gtCapRead_good (n : Nat) (s : State) (hs : s.good L Q) :
    (gtCapRead n s).2.good L Q := by
  unfold gtCapRead
  repeat' first | with_reducible assumption | with_reducible apply State.setBit_good

theorem gtCfgWrite_good (n : Nat) (v : Word) (s : State) (hs : s.good L Q) :
    (gtCfgWrite n v s).good L Q := by
  unfold gtCfgWrite
  repeat' first | with_reducible assumption | with_reducible apply ite_good | with_reducible apply plainWrite_good

theorem State.setFab_good (s : State) (f : FabricState) (hs : s.good L Q) :
    (State.setFab s f).good L Q := by
  unfold State.setFab
  repeat' first | with_reducible assumption | simp only [good_mk]

theorem State.setChan_good (s : State) (c : Nat) (x : ChanSt) (hs : s.good L Q) :
    (State.setChan s c x).good L Q := by
  unfold State.setChan
  repeat' first | with_reducible assumption | with_reducible apply State.setFab_good

theorem dmaTrig_good (n : Nat) (s : State) (hs : s.good L Q) :
    (dmaTrig n s).good L Q := by
  unfold dmaTrig
  repeat' first
     | with_reducible assumption | with_reducible apply ite_good | with_reducible apply State.setFld_good
     | with_reducible apply State.setBit_good

theorem pinOut_good (k : Nat) (s : State) (hs : s.good L Q) :
    (pinOut k s).good L Q := by
  unfold pinOut
  dsimp only
  repeat' first
     | with_reducible assumption | with_reducible apply ite_good | with_reducible apply State.setBit_good | split



theorem task_good (t : Nat) (s : State) (hs : s.good L Q) :
    (task t s).good L Q := by
  unfold task
  repeat' first
     | with_reducible assumption | with_reducible apply ite_good | with_reducible apply capture_good
     | with_reducible apply gtArm_good | with_reducible apply gtEvent_good | with_reducible apply gtCapture_good
     | with_reducible apply dmaTrig_good | with_reducible apply pinOut_good | simp only [good_mk]

theorem deliver_good (cs : List Nat) (s : State) (hs : s.good L Q) :
    (deliver cs s).good L Q := by
  unfold deliver
  dsimp only
  repeat' first
     | intro _ | with_reducible assumption | with_reducible apply forAll_good
     | with_reducible apply State.setChan_good | with_reducible apply task_good

theorem chanEmit_good (c : Nat) (s : State) (hs : s.good L Q) :
    (chanEmit c s).good L Q := by
  unfold chanEmit
  repeat' first | with_reducible assumption | with_reducible apply State.setChan_good

theorem chanArrive_good (c : Nat) (s : State) (hs : s.good L Q) :
    (chanArrive c s).good L Q := by
  unfold chanArrive
  repeat' first
     | with_reducible assumption | with_reducible apply ite_good | with_reducible apply State.setChan_good
     | with_reducible apply chanEmit_good

theorem heldEmit_good (c : Nat) (s : State) (hs : s.good L Q) :
    (heldEmit c s).good L Q := by
  unfold heldEmit
  repeat' first | with_reducible assumption | with_reducible apply ite_good | with_reducible apply chanEmit_good

theorem chanClock_good (rise : BitVec 32) (c : Nat) (s : State) (hs : s.good L Q) :
    (chanClock rise c s).good L Q := by
  unfold chanClock
  dsimp only
  repeat' first
     | with_reducible assumption | with_reducible apply ite_good | with_reducible apply chanArrive_good
     | with_reducible apply heldEmit_good

theorem lutClock_good (s : State) (hs : s.good L Q) :
    (lutClock s).good L Q := by
  unfold lutClock
  repeat' first | intro _ | with_reducible assumption | with_reducible apply State.setFab_good

theorem fabricClock_good (s : State) (hs : s.good L Q) :
    (fabricClock s).good L Q := by
  unfold fabricClock
  dsimp only
  repeat' first
     | intro _ | with_reducible assumption | with_reducible apply ite_good | with_reducible apply forAll_good
     | with_reducible apply State.setFab_good | with_reducible apply deliver_good
     | with_reducible apply chanClock_good | with_reducible apply lutClock_good


theorem evfCfgWrite_good (c : Nat) (v : Word) (s : State) (hs : s.good L Q) :
    (evfCfgWrite c v s).good L Q := by
  unfold evfCfgWrite
  dsimp only
  repeat' first
     | intro _ | with_reducible assumption | with_reducible apply ite_good | with_reducible apply State.setBit_good
     | with_reducible apply forAll_good | with_reducible apply plainWrite_good

theorem evfDstWrite_good (c : Nat) (v : Word) (s : State) (hs : s.good L Q) :
    (evfDstWrite c v s).good L Q := by
  unfold evfDstWrite
  repeat' first | with_reducible assumption | with_reducible apply ite_good | with_reducible apply plainWrite_good

theorem lutInWrite_good (j : Nat) (v : Word) (s : State) (hs : s.good L Q) :
    (lutInWrite j v s).good L Q := by
  unfold lutInWrite
  repeat' first | with_reducible assumption | with_reducible apply ite_good | with_reducible apply plainWrite_good

theorem lutCtlWrite_good (j : Nat) (v : Word) (s : State) (hs : s.good L Q) :
    (lutCtlWrite j v s).good L Q := by
  unfold lutCtlWrite
  dsimp only
  repeat' first
     | intro _ | with_reducible assumption | with_reducible apply ite_good | with_reducible apply plainWrite_good
     | with_reducible apply State.setFab_good

theorem pinEdge_good (pin : Nat) (rising : Bool) (s : State) (hs : s.good L Q) :
    (pinEdge pin rising s).good L Q := by
  unfold pinEdge
  dsimp only
  repeat' first
     | intro _ | with_reducible assumption | with_reducible apply ite_good | with_reducible apply forAll_good
     | with_reducible apply fire_good | simp only [good_mk]

theorem State.setEcc_good (s : State) (e : EccState) (hs : s.good L Q) :
    (State.setEcc s e).good L Q := by
  unfold State.setEcc
  repeat' first | with_reducible assumption | simp only [good_mk]

theorem recordUe_good (init kind w : Nat) (s : State) (hs : s.good L Q) :
    (recordUe init kind w s).good L Q := by
  unfold recordUe
  dsimp only
  repeat' first | with_reducible assumption | with_reducible apply State.setReg_good | with_reducible apply State.count_good

theorem recordCe_good (w : Nat) (s : State) (hs : s.good L Q) :
    (recordCe w s).good L Q := by
  unfold recordCe
  repeat' first | with_reducible assumption | with_reducible apply State.setReg_good | with_reducible apply State.count_good

theorem setOctFlips_good (w : Nat) (armed : Bool) (ls : List Nat) (s : State) (hs : s.good L Q) :
    (setOctFlips w armed ls s).good L Q := by
  unfold setOctFlips
  dsimp only
  repeat' first
     | intro _ | with_reducible assumption | with_reducible apply ite_good | with_reducible apply State.setEcc_good


theorem portStore_good (w : Nat) (v : Word) (s : State) (hs : s.good L Q) :
    (portStore w v s).good L Q := by
  unfold portStore
  dsimp only
  repeat' first
     | intro _ | with_reducible assumption | with_reducible apply ite_good | with_reducible apply State.setBit_good
     | with_reducible apply when_good | with_reducible apply State.setEcc_good
     | with_reducible apply setOctFlips_good | simp only [good_mk] | simp only [good_raw]
     | with_reducible apply Good.setWord | with_reducible apply Good.setOctet | with_reducible apply Good.clear
     | with_reducible apply Good.loseLink | with_reducible apply State.good.raw

theorem portWrite_good (w : Nat) (v : Word) (s : State) (hs : s.good L Q) :
    (portWrite w v s).good L Q := by
  unfold portWrite
  repeat' first
     | with_reducible assumption | with_reducible apply State.setEcc_good | with_reducible apply portStore_good


theorem portProbe_good (init w : Nat) (s : State) (hs : s.good L Q) :
    (portProbe init w s).2.2.good L Q := by
  unfold portProbe
  dsimp only
  repeat' first
     | intro _ | with_reducible assumption | with_reducible apply ite_good | with_reducible apply ite_good2
     | with_reducible apply ite_good3 | with_reducible apply State.drawn_good | with_reducible apply recordUe_good
     | with_reducible apply recordCe_good | with_reducible apply portStore_good
     | with_reducible apply State.setLane_good | simp only [good_mk] | simp only [good_raw]
     | with_reducible apply Good.setWord | with_reducible apply Good.setOctet | with_reducible apply Good.clear
     | with_reducible apply Good.loseLink | with_reducible apply State.good.raw | split



theorem portFetch_good (init w : Nat) (s : State) (hs : s.good L Q) :
    (portFetch init w s).2.2.good L Q := by
  unfold portFetch
  dsimp only
  repeat' first
     | with_reducible assumption | with_reducible apply portProbe_good



theorem eccSignal_good (w : Nat) (s : State) (hs : s.good L Q) :
    (eccSignal w s).good L Q := by
  unfold eccSignal
  repeat' first | with_reducible assumption | with_reducible apply fire_good | with_reducible apply noticeFault_good

theorem drainEntry_good (e : MergeEntry) (s : State) (hs : s.good L Q) :
    (drainEntry e s).good L Q := by
  unfold drainEntry
  dsimp only
  repeat' first
     | intro _ | with_reducible assumption | with_reducible apply ite_good | with_reducible apply State.count_good
     | with_reducible apply State.setEcc_good | with_reducible apply portStore_good
     | with_reducible apply portFetch_good | with_reducible apply eccSignal_good
     | with_reducible apply State.setLane_good | simp only [good_mk] | split



theorem drainWord_good (w : Nat) (s : State) (hs : s.good L Q) :
    (drainWord w s).good L Q := by
  unfold drainWord
  try dsimp only
  repeat' first
     | intro _ | with_reducible assumption | with_reducible apply drainEntry_good | split



theorem drainBank_good (b : Nat) (s : State) (hs : s.good L Q) :
    (drainBank b s).good L Q := by
  unfold drainBank
  repeat' first | intro _ | with_reducible assumption | with_reducible apply forAll_good | with_reducible apply drainEntry_good

theorem drainAll_good (s : State) (hs : s.good L Q) :
    (drainAll s).good L Q := by
  unfold drainAll
  repeat' first | with_reducible assumption | with_reducible apply forAll_good | with_reducible apply drainEntry_good

theorem portRead_good (init w : Nat) (s : State) (hs : s.good L Q) :
    (portRead init w s).2.2.good L Q := by
  unfold portRead
  repeat' first | with_reducible assumption | with_reducible apply portFetch_good | with_reducible apply drainWord_good

theorem portStoreOctet_good (w lane : Nat) (o : Octet) (s : State) (hs : s.good L Q) :
    (portStoreOctet w lane o s).good L Q := by
  unfold portStoreOctet
  dsimp only
  repeat' first
     | intro _ | with_reducible assumption | with_reducible apply ite_good | with_reducible apply State.setBit_good
     | with_reducible apply when_good | with_reducible apply setOctFlips_good | simp only [good_mk]
     | simp only [good_raw] | with_reducible apply Good.setWord | with_reducible apply Good.setOctet
     | with_reducible apply Good.clear | with_reducible apply Good.loseLink | with_reducible apply State.good.raw


theorem portReadOctet_good (init w lane : Nat) (s : State) (hs : s.good L Q) :
    (portReadOctet init w lane s).2.2.good L Q := by
  unfold portReadOctet
  dsimp only
  repeat' first
     | with_reducible assumption | with_reducible apply ite_good | with_reducible apply ite_good2
     | with_reducible apply ite_good3 | with_reducible apply State.drawn_good | with_reducible apply recordUe_good
     | with_reducible apply recordCe_good | with_reducible apply portRead_good
     | with_reducible apply portStoreOctet_good | split


theorem portWriteOctet_good (w lane : Nat) (o : Octet) (s : State) (hs : s.good L Q) :
    (portWriteOctet w lane o s).good L Q := by
  unfold portWriteOctet
  dsimp only
  repeat' first
     | intro _ | with_reducible assumption | with_reducible apply ite_good | with_reducible apply State.setEcc_good
     | with_reducible apply drainEntry_good | with_reducible apply portStoreOctet_good | simp only [good_mk] | split



theorem landOne_good (p : Posted) (s : State) (hs : s.good L Q) :
    (landOne p s).good L Q := by
  unfold landOne
  try dsimp only
  repeat' first
     | with_reducible assumption | with_reducible apply portWrite_good | with_reducible apply portWriteOctet_good
     | split


theorem landBank_good (b : Option Nat) (s : State) (hs : s.good L Q) :
    (landBank b s).good L Q := by
  unfold landBank
  repeat' first
     | intro _ | with_reducible assumption | with_reducible apply forAll_good | with_reducible apply landOne_good
     | simp only [good_mk]

theorem landAll_good (s : State) (hs : s.good L Q) :
    (landAll s).good L Q := by
  unfold landAll
  repeat' first
     | with_reducible assumption | with_reducible apply forAll_good | with_reducible apply landOne_good
     | simp only [good_mk]

theorem landFor_good (a : Nat) (s : State) (hs : s.good L Q) :
    (landFor a s).good L Q := by
  unfold landFor
  repeat' first | with_reducible assumption | with_reducible apply ite_good | with_reducible apply landBank_good

theorem landMaybe_good (a : Nat) (s : State) (hs : s.good L Q) :
    (landMaybe a s).good L Q := by
  unfold landMaybe
  repeat' first
     | with_reducible assumption | with_reducible apply ite_good | with_reducible apply State.drawn_good
     | with_reducible apply landBank_good

theorem portAccept_good (ok : Bool) (a : Nat) (lane : Option Nat) (v : Word) (s : State) (hs : s.good L Q) :
    (portAccept ok a lane v s).good L Q := by
  unfold portAccept
  repeat' first | with_reducible assumption | with_reducible apply ite_good | simp only [good_mk]

theorem flashCe_good (a : Nat) (s : State) (hs : s.good L Q) :
    (flashCe a s).good L Q := by
  unfold flashCe
  dsimp only
  repeat' first
     | with_reducible assumption | with_reducible apply ite_good | with_reducible apply State.setReg_good
     | with_reducible apply State.count_good | with_reducible apply fire_good

theorem flashUe_good (a : Nat) (s : State) (hs : s.good L Q) :
    (flashUe a s).good L Q := by
  unfold flashUe
  repeat' first | with_reducible assumption | with_reducible apply State.setReg_good | with_reducible apply State.count_good

theorem flashRead_good (a : Nat) (s : State) (hs : s.good L Q) :
    (flashRead a s).2.2.good L Q := by
  unfold flashRead
  dsimp only
  repeat' first
     | with_reducible assumption | with_reducible apply ite_good | with_reducible apply ite_good2
     | with_reducible apply ite_good3 | with_reducible apply State.drawn_good | with_reducible apply flashCe_good
     | with_reducible apply flashUe_good | split


theorem flashReads_good  (x0 : Nat) (x1 : Nat) (x2 : State) (hx2 : x2.good L Q) :
    (flashReads x0 x1 x2).2.good L Q := by
  induction x1 generalizing x0 x2 with
  | zero =>
    unfold flashReads
    try dsimp only
    repeat' first
       | with_reducible assumption


  | succ n ih =>
    unfold flashReads
    try dsimp only
    repeat' first
       | with_reducible assumption | with_reducible apply flashRead_good | with_reducible apply ih



theorem fcRead_good (a : Nat) (s : State) (hs : s.good L Q) :
    (fcRead a s).2.2.good L Q := by
  unfold fcRead
  dsimp only
  repeat' first
     | intro _ | with_reducible assumption | with_reducible apply ite_good | with_reducible apply ite_good2
     | with_reducible apply ite_good3 | with_reducible apply State.drawn_good | with_reducible apply flashReads_good
     | simp only [good_mk] | split


theorem firmSignal_good (init : Nat) (err : Bool) (s : State) (hs : s.good L Q) :
    (firmSignal init err s).good L Q := by
  unfold firmSignal
  repeat' first | with_reducible assumption | with_reducible apply when_good | with_reducible apply fire_good

theorem memRead_good (init a : Nat) (s : State) (hs : s.good L Q) :
    (memRead init a s).2.2.good L Q := by
  unfold memRead
  dsimp only
  repeat' first
     | with_reducible assumption | with_reducible apply ite_good | with_reducible apply ite_good2
     | with_reducible apply ite_good3 | with_reducible apply State.drawn_good | with_reducible apply portRead_good
     | with_reducible apply landMaybe_good | with_reducible apply flashRead_good | with_reducible apply fcRead_good
     | with_reducible apply firmSignal_good


theorem memReadOctet_good (init a lane : Nat) (s : State) (hs : s.good L Q) :
    (memReadOctet init a lane s).2.2.good L Q := by
  unfold memReadOctet
  dsimp only
  repeat' first
     | with_reducible assumption | with_reducible apply ite_good | with_reducible apply ite_good2
     | with_reducible apply ite_good3 | with_reducible apply portReadOctet_good | with_reducible apply landMaybe_good
     | with_reducible apply firmSignal_good | with_reducible apply memRead_good



theorem memWrite_good (w : Who) (a : Nat) (v : Word) (s : State) (hs : s.good L Q) :
    (memWrite w a v s).good L Q := by
  unfold memWrite
  repeat' first
     | with_reducible assumption | with_reducible apply ite_good | with_reducible apply portWrite_good
     | with_reducible apply landFor_good

theorem memWriteOctet_good (w : Who) (a lane : Nat) (o : Octet) (s : State) (hs : s.good L Q) :
    (memWriteOctet w a lane o s).good L Q := by
  unfold memWriteOctet
  repeat' first
     | with_reducible assumption | with_reducible apply ite_good | with_reducible apply portWriteOctet_good
     | with_reducible apply landFor_good

theorem engRead_good (init a : Nat) (s : State) (hs : s.good L Q) :
    (engRead init a s).2.2.good L Q := by
  unfold engRead
  dsimp only
  repeat' first
     | with_reducible assumption | with_reducible apply ite_good | with_reducible apply ite_good2
     | with_reducible apply ite_good3 | with_reducible apply eccSignal_good | with_reducible apply memRead_good



theorem engScan_good (init : Nat) (p : Nat → Bool) (s : State) (hs : s.good L Q) :
    (engScan init p s).2.good L Q := by
  unfold engScan
  refine foldl_pair_good _ (fun r a hr => ?_) _ _ hs
  exact engRead_good _ _ _ hr

theorem engSee_good (init : Nat) (p : Nat → Bool) (s : State) (hs : s.good L Q) :
    (engSee init p s).good L Q := by
  unfold engSee
  repeat' first | with_reducible assumption | with_reducible apply engScan_good

theorem flashScan_good (l : List Nat) (s : State) (hs : s.good L Q) :
    (flashScan l s).2.good L Q := by
  unfold flashScan
  exact foldl_pair_good (fun (r : Bool × State) (a : Nat) => (r.1 || (flashRead a r.2).2.1, (flashRead a r.2).2.2))
    (fun r a hr => flashRead_good a r.2 hr) l (false, s) hs

theorem flashScanOpen_good (s : State) (hs : s.good L Q) :
    (flashScanOpen s).2.good L Q := by
  unfold flashScanOpen
  dsimp only
  repeat' first
     | with_reducible assumption | with_reducible apply State.setReg_good | with_reducible apply State.countBy_good
     | with_reducible apply when_good | with_reducible apply fire_good | simp only [good_mk]

theorem flashSee_good (lo n : Nat) (s : State) (hs : s.good L Q) :
    (flashSee lo n s).2.good L Q := by
  unfold flashSee
  dsimp only
  repeat' first
     | with_reducible assumption | with_reducible apply ite_good | with_reducible apply ite_good2
     | with_reducible apply flashScan_good | with_reducible apply flashScanOpen_good



theorem groomTo_good (b a : Nat) (s : State) (hs : s.good L Q) :
    (groomTo b a s).good L Q := by
  unfold groomTo
  dsimp only
  repeat' first
     | intro _ | with_reducible assumption | with_reducible apply ite_good | with_reducible apply State.setReg_good
     | with_reducible apply when_good


theorem groomRead_good (s : State) (hs : s.good L Q) :
    (groomRead s).good L Q := by
  unfold groomRead
  dsimp only
  repeat' first
     | with_reducible assumption | with_reducible apply ite_good | with_reducible apply State.count_good
     | with_reducible apply portProbe_good | with_reducible apply eccSignal_good | with_reducible apply groomTo_good
     | split


theorem applyFuses_good (p : Nat → Bool) (s : State) (hs : s.good L Q) :
    (applyFuses p s).good L Q := by
  unfold applyFuses
  repeat' first
     | intro _ | with_reducible assumption | with_reducible apply State.setEcc_good




theorem repairBankRow_good (bank row : Nat) (verified : Bool) (s : State) (hs : s.good L Q) :
    (repairBankRow bank row verified s).2.good L Q := by
  unfold repairBankRow
  dsimp only
  repeat' first
     | intro _ | with_reducible assumption | with_reducible apply ite_good | with_reducible apply ite_good2
     | simp only [good_mk] | simp only [good_raw] | with_reducible apply Good.setWord
     | with_reducible apply Good.setOctet | with_reducible apply Good.clear | with_reducible apply Good.loseLink
     | with_reducible apply State.good.raw | split | with_reducible refine good_of_eq2 ‹_› ?_
     | with_reducible refine good_of_eq3 ‹_› ?_ | with_reducible refine good_of_eq4 ‹_› ?_ | assumption

theorem clearBank_good (b : Nat) (s : State) (hs : s.good L Q) :
    (clearBank b s).good L Q := by
  unfold clearBank
  dsimp only
  repeat' first
     | intro _ | with_reducible assumption | with_reducible apply ite_good | simp only [good_mk]
     | simp only [good_raw] | with_reducible apply Good.setWord | with_reducible apply Good.setOctet
     | with_reducible apply Good.clear | with_reducible apply Good.loseLink | with_reducible apply State.good.raw


theorem bankKick_good (k : Nat) (s : State) (hs : s.good L Q) :
    (bankKick k s).good L Q := by
  unfold bankKick
  dsimp only
  repeat' first
     | with_reducible assumption | with_reducible apply ite_good | with_reducible apply State.setBit_good
     | with_reducible apply State.setEcc_good

theorem offlineWrite_good (v : Word) (s : State) (hs : s.good L Q) :
    (offlineWrite v s).good L Q := by
  unfold offlineWrite
  repeat' first
     | with_reducible assumption | with_reducible apply forAll_good | with_reducible apply plainWrite_good
     | with_reducible apply bankKick_good

theorem bankIsolated_good (k : Nat) (s : State) (hs : s.good L Q) :
    (bankIsolated k s).good L Q := by
  unfold bankIsolated
  dsimp only
  repeat' first
     | with_reducible assumption | with_reducible apply State.setBit_good | with_reducible apply State.setEcc_good
     | with_reducible apply drainBank_good | with_reducible apply landBank_good | with_reducible apply clearBank_good
     | with_reducible apply bankKick_good

theorem bankInitDone_good (k : Nat) (s : State) (hs : s.good L Q) :
    (bankInitDone k s).good L Q := by
  unfold bankInitDone
  dsimp only
  repeat' first
     | with_reducible assumption | with_reducible apply ite_good | with_reducible apply State.setBit_good
     | with_reducible apply State.setEcc_good | with_reducible apply applyFuses_good
     | with_reducible apply clearBank_good | with_reducible apply bankKick_good

theorem b15Write_good (v : Word) (s : State) (hs : s.good L Q) :
    (b15Write v s).good L Q := by
  unfold b15Write
  repeat' first | with_reducible assumption | with_reducible apply ite_good | with_reducible apply plainWrite_good

theorem retainWrite_good (w : Who) (v : Word) (s : State) (hs : s.good L Q) :
    (retainWrite w v s).good L Q := by
  unfold retainWrite
  repeat' first
     | with_reducible assumption | with_reducible apply ite_good | with_reducible apply State.setFld_good
     | with_reducible apply plainWrite_good

theorem eccCtrlWrite_good (v : Word) (s : State) (hs : s.good L Q) :
    (eccCtrlWrite v s).good L Q := by
  unfold eccCtrlWrite
  repeat' first
     | intro _ | with_reducible assumption | with_reducible apply ite_good | with_reducible apply State.setReg_good
     | with_reducible apply forAll_good

theorem engWord_good (init a : Nat) (s : State) (hs : s.good L Q) :
    (engWord init a s).2.good L Q := by
  unfold engWord
  dsimp only
  repeat' first
     | with_reducible assumption | with_reducible apply engRead_good



theorem engWords_good (init : Nat) (x0 : Nat) (x1 : Nat) (x2 : State) (hx2 : x2.good L Q) :
    (engWords init x0 x1 x2).2.good L Q := by
  induction x1 generalizing init x0 x2 with
  | zero =>
    unfold engWords
    try dsimp only
    repeat' first
       | with_reducible assumption


  | succ n ih =>
    unfold engWords
    try dsimp only
    repeat' first
       | with_reducible assumption | with_reducible apply engWord_good | with_reducible apply ih



theorem engWrite_good (a : Nat) (v : Word) (s : State) (hs : s.good L Q) :
    (engWrite a v s).good L Q := by
  unfold engWrite
  repeat' first | with_reducible assumption | with_reducible apply portWrite_good | with_reducible apply landFor_good

theorem engWrites_good  (x0 : Nat) (x1 : List Word) (x2 : State) (hx2 : x2.good L Q) :
    (engWrites x0 x1 x2).good L Q := by
  induction x1 generalizing x0 x2 with
  | nil =>
    unfold engWrites
    try dsimp only
    repeat' first
       | with_reducible assumption


  | cons v t ih =>
    unfold engWrites
    try dsimp only
    repeat' first
       | with_reducible assumption | with_reducible apply engWrite_good | with_reducible apply ih



theorem bufAlloc_good (c : Nat) (s : State) (hs : s.good L Q) :
    (bufAlloc c s).2.good L Q := by
  unfold bufAlloc
  dsimp only
  repeat' first
     | intro _ | with_reducible assumption | with_reducible apply ite_good | with_reducible apply ite_good2
     | with_reducible apply engWrite_good | simp only [good_mk] | split


theorem bufOut_good (c : Nat) (s : State) (hs : s.good L Q) :
    (bufOut c s).good L Q := by
  unfold bufOut
  repeat' first | intro _ | with_reducible assumption | with_reducible apply State.count_good | with_reducible apply when_good

theorem bufRelease_good (b : Nat) (s : State) (hs : s.good L Q) :
    (bufRelease b s).good L Q := by
  unfold bufRelease
  repeat' first | with_reducible assumption | simp only [good_mk]

theorem freeWalk_good  (x0 : Nat) (x1 : Nat) (x2 : State) (hx2 : x2.good L Q) :
    (freeWalk x0 x1 x2).good L Q := by
  induction x0 generalizing x1 x2 with
  | zero =>
    unfold freeWalk
    try dsimp only
    repeat' first
       | with_reducible assumption



  | succ n ih =>
    unfold freeWalk
    try dsimp only
    repeat' first
       | with_reducible assumption | with_reducible apply ite_good | with_reducible apply engRead_good
       | with_reducible apply bufRelease_good | with_reducible apply ih



theorem freeChain_good (desc : Word) (s : State) (hs : s.good L Q) :
    (freeChain desc s).good L Q := by
  unfold freeChain
  repeat' first | with_reducible assumption | with_reducible apply freeWalk_good

theorem readRecord_good (init : Nat) (desc : Word) (s : State) (hs : s.good L Q) :
    (readRecord init desc s).2.good L Q := by
  unfold readRecord
  repeat' first | with_reducible assumption | with_reducible apply engWords_good

theorem frameScan_good (init : Nat) (desc : Word) (s : State) (hs : s.good L Q) :
    (frameScan init desc s).2.good L Q := by
  unfold frameScan
  repeat' first | intro _ | with_reducible assumption | with_reducible apply engScan_good

theorem putAt_good  (x0 : List Nat) (x1 : List Word) (x2 : State) (hx2 : x2.good L Q) :
    (putAt x0 x1 x2).good L Q := by
  induction x0 generalizing x1 x2 with
  | nil => exact hx2
  | cons a as ih =>
    cases x1 with
    | nil => exact hx2
    | cons v vs => exact ih _ _ (engWrite_good _ _ _ hx2)

theorem storeChunks_good (c : Nat) (x0 : Nat) (x1 : List Word) (x2 : State) (hx2 : x2.good L Q) :
    (storeChunks c x0 x1 x2).2.good L Q := by
  induction x0 generalizing c x1 x2 with
  | zero =>
    unfold storeChunks
    try dsimp only
    repeat' first
       | with_reducible assumption




  | succ n ih =>
    unfold storeChunks
    try dsimp only
    repeat' first
       | with_reducible assumption | with_reducible apply ite_good | with_reducible apply ite_good2
       | with_reducible apply engWrite_good | with_reducible apply engWrites_good | with_reducible apply bufAlloc_good
       | with_reducible apply bufRelease_good | with_reducible apply ih | split
       | with_reducible refine good_of_eq2 ‹_› ?_


theorem bufTake_good (c : Nat) (x0 : Nat) (x1 : State) (hx1 : x1.good L Q) :
    (bufTake c x0 x1).2.good L Q := by
  induction x0 generalizing c x1 with
  | zero =>
    unfold bufTake
    try dsimp only
    repeat' first
       | with_reducible assumption


  | succ n ih =>
    unfold bufTake
    try dsimp only
    repeat' first
       | with_reducible assumption | with_reducible apply bufAlloc_good | with_reducible apply bufRelease_good
       | with_reducible apply ih | split | with_reducible refine good_of_eq2 ‹_› ?_


theorem bufGive_good (l : List Nat) (s : State) (hs : s.good L Q) :
    (bufGive l s).good L Q := by
  unfold bufGive
  repeat' first | with_reducible assumption | with_reducible apply forAll_good | with_reducible apply bufRelease_good

theorem storeBufs_good  (x0 : List Nat) (x1 : List Word) (x2 : State) (hx2 : x2.good L Q) :
    (storeBufs x0 x1 x2).good L Q := by
  induction x0 generalizing x1 x2 with
  | nil =>
    unfold storeBufs
    try dsimp only
    repeat' first
       | with_reducible assumption



  | cons v t ih =>
    unfold storeBufs
    try dsimp only
    repeat' first
       | with_reducible assumption | with_reducible apply ite_good | with_reducible apply engWrite_good
       | with_reducible apply engWrites_good | with_reducible apply bufGive_good | with_reducible apply ih | split



theorem storeFrame_good (c : Nat) (rec : List Word) (data : List Octet) (s : State) (hs : s.good L Q) :
    (storeFrame c rec data s).2.good L Q := by
  unfold storeFrame
  try dsimp only
  repeat' first
     | with_reducible assumption | with_reducible apply storeChunks_good | split
     | with_reducible refine good_of_eq2 ‹_› ?_


theorem State.setQueue_good (s : State) (n : Nat) (x : QueueSt) (hs : s.good L Q) :
    (State.setQueue s n x).good L Q := by
  unfold State.setQueue
  repeat' first | with_reducible assumption | simp only [good_mk]

theorem linkAfter_good (l : List (Nat × Word)) (c : Nat) (s : State) (hs : s.good L Q) :
    (linkAfter l c s).good L Q := by
  unfold linkAfter
  try dsimp only
  repeat' first
     | with_reducible assumption | with_reducible apply engWrite_good | split



theorem setCells_good (n : Nat) (l : List (Nat × Word)) (s : State) (hs : s.good L Q) :
    (setCells n l s).good L Q := by
  unfold setCells
  dsimp only
  repeat' first
     | with_reducible assumption | with_reducible apply ite_good | with_reducible apply State.setFld_good
     | with_reducible apply State.setQueue_good

theorem putTail_good (n : Nat) (l : List (Nat × Word)) (c : Nat) (v : Word) (s : State) (hs : s.good L Q) :
    (putTail n l c v s).good L Q := by
  unfold putTail
  repeat' first
     | with_reducible assumption | with_reducible apply engWrite_good | with_reducible apply linkAfter_good
     | with_reducible apply setCells_good

theorem putHead_good (n : Nat) (v : Word) (s : State) (hs : s.good L Q) :
    (putHead n v s).good L Q := by
  unfold putHead
  dsimp only
  repeat' first
     | with_reducible assumption | with_reducible apply State.drawn_good | with_reducible apply engWrite_good
     | with_reducible apply setCells_good | split


theorem countLost_good (n : Nat) (s : State) (hs : s.good L Q) :
    (countLost n s).good L Q := by
  unfold countLost
  repeat' first | with_reducible assumption | with_reducible apply State.setFld_good

theorem dropWord_good (n : Nat) (v : Word) (s : State) (hs : s.good L Q) :
    (dropWord n v s).good L Q := by
  unfold dropWord
  repeat' first | with_reducible assumption | with_reducible apply when_good | with_reducible apply freeChain_good

theorem spillInto_good (m c : Nat) (v : Word) (s : State) (hs : s.good L Q) :
    (spillInto m c v s).good L Q := by
  unfold spillInto
  try dsimp only
  repeat' first
     | with_reducible assumption | with_reducible apply ite_good | with_reducible apply putTail_good
     | with_reducible apply countLost_good | with_reducible apply dropWord_good | split



theorem refuseCell_good (n : Nat) (s : State) (hs : s.good L Q) :
    (refuseCell n s).good L Q := by
  unfold refuseCell
  repeat' first | intro _ | with_reducible assumption | with_reducible apply State.count_good | with_reducible apply when_good

theorem qPush_good (n : Nat) (v : Word) (s : State) (hs : s.good L Q) :
    (qPush n v s).2.good L Q := by
  unfold qPush
  dsimp only
  repeat' first
     | with_reducible assumption | with_reducible apply ite_good | with_reducible apply ite_good2
     | with_reducible apply State.count_good | with_reducible apply State.drawn_good
     | with_reducible apply State.setQueue_good | with_reducible apply setCells_good
     | with_reducible apply putTail_good | with_reducible apply countLost_good | with_reducible apply dropWord_good
     | with_reducible apply spillInto_good | with_reducible apply refuseCell_good | simp only [good_mk] | split



theorem qPushHead_good (n : Nat) (v : Word) (s : State) (hs : s.good L Q) :
    (qPushHead n v s).2.good L Q := by
  unfold qPushHead
  try dsimp only
  repeat' first
     | with_reducible assumption | with_reducible apply ite_good | with_reducible apply ite_good2
     | with_reducible apply State.count_good | with_reducible apply State.drawn_good
     | with_reducible apply putHead_good | with_reducible apply countLost_good | with_reducible apply dropWord_good
     | with_reducible apply spillInto_good | with_reducible apply refuseCell_good | split



theorem hwPush_good (n : Nat) (v : Word) (s : State) (hs : s.good L Q) :
    (hwPush n v s).2.good L Q := by
  unfold hwPush
  dsimp only
  repeat' first
     | with_reducible assumption | with_reducible apply ite_good | with_reducible apply ite_good2
     | with_reducible apply freeChain_good | with_reducible apply qPush_good



theorem hwPushIf_good (ok : Bool) (n : Nat) (v : Word) (s : State) (hs : s.good L Q) :
    (hwPushIf ok n v s).2.good L Q := by
  unfold hwPushIf
  repeat' first
     | with_reducible assumption | with_reducible apply ite_good | with_reducible apply ite_good2
     | with_reducible apply freeChain_good | with_reducible apply hwPush_good

theorem hwPushHead_good (n : Nat) (v : Word) (s : State) (hs : s.good L Q) :
    (hwPushHead n v s).good L Q := by
  unfold hwPushHead
  dsimp only
  repeat' first
     | with_reducible assumption | with_reducible apply ite_good | with_reducible apply freeChain_good
     | with_reducible apply qPushHead_good


theorem qPop_good (n : Nat) (s : State) (hs : s.good L Q) :
    (qPop n s).2.good L Q := by
  unfold qPop
  try dsimp only
  repeat' first
     | with_reducible assumption | with_reducible apply ite_good | with_reducible apply ite_good2
     | with_reducible apply State.setQueue_good | simp only [good_mk] | split



theorem qTake_good (n : Nat) (v : Word) (s : State) (hs : s.good L Q) :
    (qTake n v s).good L Q := by
  unfold qTake
  dsimp only
  repeat' first
     | intro _ | with_reducible assumption | with_reducible apply linkAfter_good | with_reducible apply setCells_good
     | split


theorem qmTimeout_good (n : Nat) (s : State) (hs : s.good L Q) :
    (qmTimeout n s).good L Q := by
  unfold qmTimeout
  dsimp only
  repeat' first
     | with_reducible assumption | with_reducible apply State.setBit_good | with_reducible apply when_good
     | with_reducible apply fire_good | with_reducible apply notice_good | with_reducible apply State.setQueue_good


theorem allocRead_good (s : State) (hs : s.good L Q) :
    (allocRead s).2.good L Q := by
  unfold allocRead
  try dsimp only
  repeat' first
     | with_reducible assumption | with_reducible apply bufAlloc_good | split
     | with_reducible refine good_of_eq2 ‹_› ?_

end Sys2Proof.Machine
end

