-- ==== Sys2Proof/Laws/GoodRadio.lean ====
section
/-! SUPPORT. The invariant of Laws/Good.lean over every operation of frames, the radio, the link engine, lanes and neighbours: one lemma per operation, named after it with `_good`. -/
namespace Sys2Proof.Machine

open Sys2Proof

variable {L : Nat} {Q : List Instr}

theorem setRecState_good (r x : Nat) (s : State) (hs : s.good L Q) :
    (setRecState r x s).good L Q := by
  unfold setRecState
  repeat' first | with_reducible assumption | with_reducible apply engWrite_good

theorem State.setCmdp_good (s : State) (c : CmdpState) (hs : s.good L Q) :
    (State.setCmdp s c).good L Q := by
  unfold State.setCmdp
  repeat' first | with_reducible assumption | simp only [good_mk]

theorem queueReply_good (r status : Nat) (result : List Octet) (s : State) (hs : s.good L Q) :
    (queueReply r status result s).good L Q := by
  unfold queueReply
  dsimp only
  repeat' first | with_reducible assumption | with_reducible apply State.setCmdp_good

theorem finalReply_good (r status : Nat) (result : List Octet) (s : State) (hs : s.good L Q) :
    (finalReply r status result s).good L Q := by
  unfold finalReply
  dsimp only
  repeat' first
     | with_reducible assumption | with_reducible apply ite_good | with_reducible apply setRecState_good
     | with_reducible apply State.setCmdp_good | with_reducible apply queueReply_good

theorem startedReply_good (r : Nat) (s : State) (hs : s.good L Q) :
    (startedReply r s).good L Q := by
  unfold startedReply
  repeat' first
     | with_reducible assumption | with_reducible apply ite_good | with_reducible apply setRecState_good
     | with_reducible apply queueReply_good

theorem finishTag_good (t : Nat) (tag : Octet) (status : Nat) (result : List Octet) (s : State) (hs : s.good L Q) :
    (finishTag t tag status result s).good L Q := by
  unfold finishTag
  try dsimp only
  repeat' first
     | with_reducible assumption | with_reducible apply finalReply_good | split



theorem finishRun_good (opc : Nat) (p : List Octet → Bool) (code : Nat) (res : List Octet) (s : State) (hs : s.good L Q) :
    (finishRun opc p code res s).good L Q := by
  unfold finishRun
  try dsimp only
  repeat' first
     | with_reducible assumption | with_reducible apply finalReply_good | split



theorem sentOut_good (t : Nat) (s : State) (hs : s.good L Q) :
    (sentOut t s).good L Q := by
  unfold sentOut
  dsimp only
  repeat' first
     | with_reducible assumption | with_reducible apply ite_good | with_reducible apply setRecState_good
     | with_reducible apply State.setCmdp_good | simp only [good_mk] | split



theorem plainReply_good (t : Nat) (opc tag : Octet) (status : Nat) (s : State) (hs : s.good L Q) :
    (plainReply t opc tag status s).good L Q := by
  unfold plainReply
  dsimp only
  repeat' first | with_reducible assumption | with_reducible apply State.setCmdp_good

theorem State.setBand_good (s : State) (b : Nat) (x : BandSt) (hs : s.good L Q) :
    (State.setBand s b x).good L Q := by
  unfold State.setBand
  repeat' first | with_reducible assumption | with_reducible apply ite_good | simp only [good_mk]

theorem tuneSynIn_good (bk : Bool) (b k chan : Nat) (s : State) (hs : s.good L Q) :
    (tuneSynIn bk b k chan s).good L Q := by
  unfold tuneSynIn
  dsimp only
  repeat' first
     | with_reducible assumption | with_reducible apply ite_good | with_reducible apply State.setReg_good
     | with_reducible apply State.setBit_good | with_reducible apply State.count_good
     | with_reducible apply State.drawn_good | with_reducible apply State.setBand_good

theorem tuneSyn_good (b k chan : Nat) (s : State) (hs : s.good L Q) :
    (tuneSyn b k chan s).good L Q := by
  unfold tuneSyn
  repeat' first | with_reducible assumption | with_reducible apply tuneSynIn_good

theorem lockSyn_good (b k : Nat) (s : State) (hs : s.good L Q) :
    (lockSyn b k s).good L Q := by
  unfold lockSyn
  dsimp only
  repeat' first
     | with_reducible assumption | with_reducible apply State.setBit_good | with_reducible apply State.setBand_good


theorem dropSyn_good (b k : Nat) (s : State) (hs : s.good L Q) :
    (dropSyn b k s).good L Q := by
  unfold dropSyn
  dsimp only
  repeat' first
     | with_reducible assumption | with_reducible apply State.setBit_good | with_reducible apply State.setBand_good


theorem leaveSyn_good (b k : Nat) (s : State) (hs : s.good L Q) :
    (leaveSyn b k s).good L Q := by
  unfold leaveSyn
  dsimp only
  repeat' first
     | with_reducible assumption | with_reducible apply ite_good | with_reducible apply tuneSyn_good
     | with_reducible apply dropSyn_good

theorem putCal_good (bk : Bool) (c : Nat) (l : List Word) (s : State) (hs : s.good L Q) :
    (putCal bk c l s).good L Q := by
  unfold putCal
  repeat' first | with_reducible assumption | with_reducible apply engWrites_good

theorem engCal_good (b c : Nat) (l : List Word) (s : State) (hs : s.good L Q) :
    (engCal b c l s).good L Q := by
  unfold engCal
  dsimp only
  repeat' first | with_reducible assumption | with_reducible apply ite_good | with_reducible apply putCal_good

theorem calCommitWrite_good (b : Nat) (v : Word) (s : State) (hs : s.good L Q) :
    (calCommitWrite b v s).good L Q := by
  unfold calCommitWrite
  dsimp only
  repeat' first
     | intro _ | with_reducible assumption | with_reducible apply ite_good | with_reducible apply plainWrite_good
     | with_reducible apply putCal_good

theorem txcCfgWrite_good (b : Nat) (v : Word) (s : State) (hs : s.good L Q) :
    (txcCfgWrite b v s).good L Q := by
  unfold txcCfgWrite
  repeat' first | with_reducible assumption | with_reducible apply plainWrite_good

theorem State.setLink_good (s : State) (l : LinkState) (hs : s.good L Q) :
    (State.setLink s l).good L Q := by
  unfold State.setLink
  repeat' first | with_reducible assumption | simp only [good_mk]

theorem setSlot_good (b k j use num : Nat) (s : State) (hs : s.good L Q) :
    (setSlot b k j use num s).good L Q := by
  unfold setSlot
  dsimp only
  repeat' first
     | with_reducible assumption | with_reducible apply engWrite_good | with_reducible apply State.setLink_good


theorem showUsed_good (b k : Nat) (s : State) (hs : s.good L Q) :
    (showUsed b k s).good L Q := by
  unfold showUsed
  repeat' first | with_reducible assumption | with_reducible apply State.setReg_good

theorem bucketEnter_good (b k : Nat) (s : State) (hs : s.good L Q) :
    (bucketEnter b k s).good L Q := by
  unfold bucketEnter
  dsimp only
  repeat' first
     | intro _ | with_reducible assumption | with_reducible apply ite_good | with_reducible apply forAll_good
     | with_reducible apply State.setLink_good | with_reducible apply setSlot_good
     | with_reducible apply showUsed_good

theorem bucketSync_good (b : Nat) (s : State) (hs : s.good L Q) :
    (bucketSync b s).good L Q := by
  unfold bucketSync
  repeat' first
     | intro _ | with_reducible assumption | with_reducible apply ite_good | with_reducible apply forAll_good
     | with_reducible apply bucketEnter_good

theorem chargeRule_good (b t k : Nat) (s : State) (hs : s.good L Q) :
    (chargeRule b t k s).good L Q := by
  unfold chargeRule
  dsimp only
  repeat' first | with_reducible assumption | with_reducible apply setSlot_good | with_reducible apply showUsed_good

theorem dutyAdmit_good (b c ch f t : Nat) (s : State) (hs : s.good L Q) :
    (dutyAdmit b c ch f t s).2.good L Q := by
  unfold dutyAdmit
  dsimp only
  repeat' first
     | intro _ | with_reducible assumption | with_reducible apply ite_good | with_reducible apply ite_good2
     | with_reducible apply State.count_good | with_reducible apply forAll_good | with_reducible apply engWrite_good
     | with_reducible apply bucketSync_good | with_reducible apply chargeRule_good

theorem offShow_good (b : Nat) (s : State) (hs : s.good L Q) :
    (offShow b s).good L Q := by
  unfold offShow
  repeat' first | with_reducible assumption | with_reducible apply State.setBit_good

theorem sentUntil_good (b f t : Nat) (s : State) (hs : s.good L Q) :
    (sentUntil b f t s).good L Q := by
  unfold sentUntil
  repeat' first
     | with_reducible assumption | with_reducible apply State.setBand_good | with_reducible apply offShow_good


theorem ruleWrite_good (a : Nat) (v : Word) (s : State) (hs : s.good L Q) :
    (ruleWrite a v s).good L Q := by
  unfold ruleWrite
  repeat' first | with_reducible assumption | with_reducible apply plainWrite_good | with_reducible apply offShow_good

theorem femClaim_good (b g i : Nat) (bk : Bool) (rs : Nat) (s : State) (hs : s.good L Q) :
    (femClaim b g i bk rs s).good L Q := by
  unfold femClaim
  repeat' first | with_reducible assumption | with_reducible apply State.setBand_good

theorem femOn_good (b : Nat) (p : FemHold → Bool) (s : State) (hs : s.good L Q) :
    (femOn b p s).good L Q := by
  unfold femOn
  dsimp only
  repeat' first
     | intro _ | with_reducible assumption | with_reducible apply ite_good | with_reducible apply State.countBy_good
     | with_reducible apply State.setBand_good

theorem femClose_good (b g i : Nat) (s : State) (hs : s.good L Q) :
    (femClose b g i s).good L Q := by
  unfold femClose
  repeat' first
     | intro _ | with_reducible assumption | with_reducible apply ite_good | with_reducible apply State.setBand_good


theorem femTxEnd_good (b : Nat) (bk : Bool) (rs t : Nat) (s : State) (hs : s.good L Q) :
    (femTxEnd b bk rs t s).good L Q := by
  unfold femTxEnd
  repeat' first | intro _ | with_reducible assumption | with_reducible apply State.setBand_good

theorem femTxUnsent_good (b : Nat) (s : State) (hs : s.good L Q) :
    (femTxUnsent b s).good L Q := by
  unfold femTxUnsent
  repeat' first | with_reducible assumption | with_reducible apply State.setBand_good

theorem sensorRefresh_good (b : Nat) (temp vmain : Octet) (s : State) (hs : s.good L Q) :
    (sensorRefresh b temp vmain s).good L Q := by
  unfold sensorRefresh
  repeat' first | with_reducible assumption | with_reducible apply State.setFld_good

theorem ageItem_good (b k : Nat) (s : State) (hs : s.good L Q) :
    (ageItem b k s).good L Q := by
  unfold ageItem
  dsimp only
  repeat' first
     | with_reducible assumption | with_reducible apply ite_good | with_reducible apply State.count_good
     | with_reducible apply fire_good | with_reducible apply notice_good | with_reducible apply State.setBand_good


theorem itemDone_good (b k : Nat) (s : State) (hs : s.good L Q) :
    (itemDone b k s).good L Q := by
  unfold itemDone
  dsimp only
  repeat' first
     | with_reducible assumption | with_reducible apply State.setReg_good | with_reducible apply State.setBand_good

theorem setNbr_good (n j : Nat) (v : Word) (s : State) (hs : s.good L Q) :
    (setNbr n j v s).good L Q := by
  unfold setNbr
  repeat' first | with_reducible assumption | with_reducible apply engWrite_good

theorem setNbrFld_good (n j lo len x : Nat) (s : State) (hs : s.good L Q) :
    (setNbrFld n j lo len x s).good L Q := by
  unfold setNbrFld
  repeat' first | with_reducible assumption | with_reducible apply setNbr_good

theorem ctrLowEdge_good (before : Bool) (k : Nat) (s : State) (hs : s.good L Q) :
    (ctrLowEdge before k s).good L Q := by
  unfold ctrLowEdge
  repeat' first | with_reducible assumption | with_reducible apply ite_good | with_reducible apply fire_good

theorem takeCtr_good (k : Nat) (s : State) (hs : s.good L Q) :
    (takeCtr k s).2.good L Q := by
  unfold takeCtr
  repeat' first | with_reducible assumption | with_reducible apply State.setMulti_good | with_reducible apply ctrLowEdge_good

theorem ctrLowWrite_good (a : Nat) (v : Word) (s : State) (hs : s.good L Q) :
    (ctrLowWrite a v s).good L Q := by
  unfold ctrLowWrite
  repeat' first | with_reducible assumption | with_reducible apply State.setLink_good

theorem ctrCommit_good (k a : Nat) (v : Word) (s : State) (hs : s.good L Q) :
    (ctrCommit k a v s).good L Q := by
  unfold ctrCommit
  repeat' first | with_reducible assumption | with_reducible apply State.setReg_good | with_reducible apply ctrLowEdge_good

theorem walkEntry_good (k n : Nat) (s : State) (hs : s.good L Q) :
    (walkEntry k n s).good L Q := by
  unfold walkEntry
  repeat' first
     | with_reducible assumption | with_reducible apply ite_good | with_reducible apply setNbr_good
     | with_reducible apply setNbrFld_good

theorem walkTo_good (k t m : Nat) (s : State) (hs : s.good L Q) :
    (walkTo k t m s).good L Q := by
  unfold walkTo
  dsimp only
  repeat' first
     | with_reducible assumption | with_reducible apply forAll_good | with_reducible apply State.setLink_good
     | with_reducible apply walkEntry_good | simp only [good_mk] | split


theorem walkBy_good (dt k : Nat) (s : State) (hs : s.good L Q) :
    (walkBy dt k s).good L Q := by
  unfold walkBy
  try dsimp only
  repeat' first
     | with_reducible assumption | with_reducible apply ite_good | with_reducible apply State.drawn_good
     | with_reducible apply walkTo_good | split


theorem walkTick_good (dt : Nat) (s : State) (hs : s.good L Q) :
    (walkTick dt s).good L Q := by
  unfold walkTick
  repeat' first
     | with_reducible assumption | with_reducible apply ite_good | with_reducible apply forAll_good
     | with_reducible apply walkBy_good

theorem walkStop_good (k : Nat) (s : State) (hs : s.good L Q) :
    (walkStop k s).good L Q := by
  unfold walkStop
  dsimp only
  repeat' first
     | with_reducible assumption | with_reducible apply State.setLink_good | with_reducible apply walkBy_good


theorem keyCommitWrite_good (v : Word) (s : State) (hs : s.good L Q) :
    (keyCommitWrite v s).good L Q := by
  unfold keyCommitWrite
  dsimp only
  repeat' first
     | intro _ | with_reducible assumption | with_reducible apply ite_good | with_reducible apply State.setReg_good
     | with_reducible apply State.setMulti_good | with_reducible apply plainWrite_good
     | with_reducible apply State.setLink_good | with_reducible apply walkStop_good

theorem keyStageWrite_good (i : Nat) (v : Word) (s : State) (hs : s.good L Q) :
    (keyStageWrite i v s).good L Q := by
  unfold keyStageWrite
  dsimp only
  repeat' first | with_reducible assumption | with_reducible apply State.setLink_good

theorem walkDone_good (k : Nat) (s : State) (hs : s.good L Q) :
    (walkDone k s).good L Q := by
  unfold walkDone
  dsimp only
  repeat' first
     | with_reducible assumption | with_reducible apply State.setBit_good | with_reducible apply State.setLink_good
     | with_reducible apply walkTo_good

theorem buildFrame_good (bk : Bool) (q : BuildReq) (s : State) (hs : s.good L Q) :
    (buildFrame bk q s).2.good L Q := by
  unfold buildFrame
  dsimp only
  repeat' first
     | with_reducible assumption | with_reducible apply ite_good | with_reducible apply ite_good2
     | with_reducible apply State.count_good | with_reducible apply State.setLink_good
     | with_reducible apply takeCtr_good | simp only [good_mk] | split


theorem keepOctets_good (desc : Word) (p : List Octet) (s : State) (hs : s.good L Q) :
    (keepOctets desc p s).good L Q := by
  unfold keepOctets
  repeat' first | with_reducible assumption | with_reducible apply State.setLink_good

theorem recordSee_good (bk : Bool) (w0 : Word) (s : State) (hs : s.good L Q) :
    (recordSee bk w0 s).good L Q := by
  unfold recordSee
  repeat' first | intro _ | with_reducible assumption | with_reducible apply engSee_good

theorem buildRecord_good (bk : Bool) (desc : Word) (inst : Nat) (s : State) (hs : s.good L Q) :
    (buildRecord bk desc inst s).2.good L Q := by
  unfold buildRecord
  dsimp only
  repeat' first
     | intro _ | with_reducible assumption | with_reducible apply ite_good | with_reducible apply ite_good2
     | with_reducible apply State.count_good | with_reducible apply engWords_good
     | with_reducible apply engWrite_good | with_reducible apply frameScan_good
     | with_reducible apply State.setLink_good | with_reducible apply buildFrame_good
     | with_reducible apply keepOctets_good | with_reducible apply recordSee_good | simp only [good_mk] | split
     | with_reducible refine good_of_eq2 ‹_› ?_


theorem countTry_good (desc : Word) (s : State) (hs : s.good L Q) :
    (countTry desc s).good L Q := by
  unfold countTry
  dsimp only
  repeat' first | with_reducible assumption | with_reducible apply engWrite_good

theorem setResult_good (desc : Word) (code : Nat) (s : State) (hs : s.good L Q) :
    (setResult desc code s).good L Q := by
  unfold setResult
  repeat' first | with_reducible assumption | with_reducible apply engWrite_good

theorem slewWatch_good (f : State → State) (s : State) (hf : ∀ (y0 : State), y0.good L Q → (f y0).good L Q) (hs : s.good L Q) :
    (slewWatch f s).good L Q := by
  unfold slewWatch
  dsimp only
  repeat' first
     | intro _ | with_reducible assumption | with_reducible apply ite_good | with_reducible apply finishRun_good
     | with_reducible apply hf

theorem slewReplace_good (v : Word) (s : State) (hs : s.good L Q) :
    (slewReplace v s).good L Q := by
  unfold slewReplace
  dsimp only
  repeat' first
     | intro _ | with_reducible assumption | with_reducible apply ite_good | with_reducible apply slewStart_good
     | with_reducible apply finishRun_good

theorem qualify_good (c : Nat) (o : Int) (s : State) (hs : s.good L Q) :
    (qualify c o s).good L Q := by
  unfold qualify
  dsimp only
  repeat' first | with_reducible assumption | with_reducible apply State.setMt_good

theorem trimStart_good (s : State) (hs : s.good L Q) :
    (trimStart s).good L Q := by
  unfold trimStart
  repeat' first | with_reducible assumption | simp only [good_mk]

theorem srcChanged_good (before : Word) (s : State) (hs : s.good L Q) :
    (srcChanged before s).good L Q := by
  unfold srcChanged
  dsimp only
  repeat' first
     | with_reducible assumption | with_reducible apply ite_good | with_reducible apply noticeMtState_good
     | with_reducible apply trimStart_good

theorem stratumShow_good (s : State) (hs : s.good L Q) :
    (stratumShow s).good L Q := by
  unfold stratumShow
  repeat' first | with_reducible assumption | with_reducible apply ite_good | with_reducible apply State.setFld_good

theorem setSrc_good (st act : Nat) (s : State) (hs : s.good L Q) :
    (setSrc st act s).good L Q := by
  unfold setSrc
  repeat' first
     | with_reducible assumption | with_reducible apply State.setFld_good | with_reducible apply act_good
     | with_reducible apply srcChanged_good | with_reducible apply stratumShow_good

theorem correct_good (o : Int) (s : State) (hs : s.good L Q) :
    (correct o s).good L Q := by
  unfold correct
  dsimp only
  repeat' first
     | with_reducible assumption | with_reducible apply ite_good | with_reducible apply State.setMulti_good
     | with_reducible apply State.setMt_good | with_reducible apply slew0Write_good
     | with_reducible apply slewReplace_good

theorem servoRate_good (r : BitVec 32) (s : State) (hs : s.good L Q) :
    (servoRate r s).good L Q := by
  unfold servoRate
  repeat' first | with_reducible assumption | with_reducible apply State.setReg_good | with_reducible apply rateWrite_good

theorem useSample_good (c : Nat) (o : Int) (m : DiscSample) (s : State) (hs : s.good L Q) :
    (useSample c o m s).good L Q := by
  unfold useSample
  dsimp only
  repeat' first
     | with_reducible assumption | with_reducible apply State.setFld_good | with_reducible apply State.setMulti_good
     | with_reducible apply setSrc_good | with_reducible apply correct_good | with_reducible apply servoRate_good

theorem discipline_good (m : DiscSample) (s : State) (hs : s.good L Q) :
    (discipline m s).good L Q := by
  unfold discipline
  dsimp only
  repeat' first
     | with_reducible assumption | with_reducible apply ite_good | with_reducible apply State.setMt_good
     | with_reducible apply usetWrite_good | with_reducible apply qualify_good | with_reducible apply setSrc_good
     | with_reducible apply useSample_good | simp only [good_mk] | split


theorem sourceLost_good (c : Nat) (s : State) (hs : s.good L Q) :
    (sourceLost c s).good L Q := by
  unfold sourceLost
  dsimp only
  repeat' first
     | intro _ | with_reducible assumption | with_reducible apply ite_good | with_reducible apply State.setFld_good
     | with_reducible apply State.setMt_good | with_reducible apply setSrc_good | with_reducible apply correct_good
     | simp only [good_mk] | split


theorem parentLost_good (n : Nat) (s : State) (hs : s.good L Q) :
    (parentLost n s).good L Q := by
  unfold parentLost
  dsimp only
  repeat' first
     | with_reducible assumption | with_reducible apply ite_good | with_reducible apply State.setMt_good
     | with_reducible apply sourceLost_good

theorem parentLook_good (n : Nat) (s : State) (hs : s.good L Q) :
    (parentLook n s).good L Q := by
  unfold parentLook
  try dsimp only
  repeat' first
     | with_reducible assumption | with_reducible apply ite_good | with_reducible apply State.setFld_good
     | with_reducible apply State.setBit_good | with_reducible apply stratumShow_good | split



theorem stratumUpdate_good (n : Nat) (tt : List Octet) (s : State) (hs : s.good L Q) :
    (stratumUpdate n tt s).good L Q := by
  unfold stratumUpdate
  dsimp only
  repeat' first
     | with_reducible assumption | with_reducible apply when_good | with_reducible apply State.setMt_good
     | with_reducible apply parentLook_good

theorem parentLookAll_good (s : State) (hs : s.good L Q) :
    (parentLookAll s).good L Q := by
  unfold parentLookAll
  repeat' first | with_reducible assumption | with_reducible apply forAll_good | with_reducible apply parentLook_good

theorem State.setGates_good (s : State) (g : GateState) (hs : s.good L Q) :
    (State.setGates s g).good L Q := by
  unfold State.setGates
  repeat' first | with_reducible assumption | simp only [good_mk]

theorem gateShow_good (s : State) (hs : s.good L Q) :
    (gateShow s).good L Q := by
  unfold gateShow
  dsimp only
  repeat' first | intro _ | with_reducible assumption | with_reducible apply ite_good | with_reducible apply State.setFld_good

theorem putAct_good (a : Activ) (s : State) (hs : s.good L Q) :
    (putAct a s).good L Q := by
  unfold putAct
  dsimp only
  repeat' first
     | intro _ | with_reducible assumption | with_reducible apply State.setGates_good
     | with_reducible apply gateShow_good

theorem dropAct_good (g i : Nat) (s : State) (hs : s.good L Q) :
    (dropAct g i s).good L Q := by
  unfold dropAct
  repeat' first
     | intro _ | with_reducible assumption | with_reducible apply State.setGates_good
     | with_reducible apply gateShow_good

theorem markMade_good (g i : Nat) (s : State) (hs : s.good L Q) :
    (markMade g i s).good L Q := by
  unfold markMade
  repeat' first | with_reducible assumption | with_reducible apply State.setGates_good

theorem gateCount_good (m : Nat) (s : State) (hs : s.good L Q) :
    (gateCount m s).good L Q := by
  unfold gateCount
  repeat' first | with_reducible assumption | with_reducible apply State.count_good

theorem missed_good (m c : Nat) (s : State) (hs : s.good L Q) :
    (missed m c s).good L Q := by
  unfold missed
  repeat' first | with_reducible assumption | with_reducible apply when_good | with_reducible apply gateCount_good

theorem laneShow_good (n : Nat) (s : State) (hs : s.good L Q) :
    (laneShow n s).good L Q := by
  unfold laneShow
  dsimp only
  repeat' first
     | with_reducible assumption | with_reducible apply ite_good | with_reducible apply State.setFld_good
     | with_reducible apply State.setBit_good

theorem lanesShow_good (s : State) (hs : s.good L Q) :
    (lanesShow s).good L Q := by
  unfold lanesShow
  repeat' first | with_reducible assumption | with_reducible apply forAll_good | with_reducible apply laneShow_good

theorem State.setLane_good (s : State) (n : Nat) (l : LaneSt) (hs : s.good L Q) :
    (State.setLane s n l).good L Q := by
  unfold State.setLane
  repeat' first
     | with_reducible assumption | with_reducible apply State.setLink_good | with_reducible apply laneShow_good


theorem bindLane_good (n holder input chan prof cls gate : Nat) (s : State) (hs : s.good L Q) :
    (bindLane n holder input chan prof cls gate s).good L Q := by
  unfold bindLane
  repeat' first
     | with_reducible assumption | with_reducible apply ite_good | with_reducible apply State.setReg_good
     | with_reducible apply laneShow_good

theorem setGain_good (p g : Nat) (s : State) (hs : s.good L Q) :
    (setGain p g s).good L Q := by
  unfold setGain
  dsimp only
  repeat' first
     | with_reducible assumption | with_reducible apply ite_good | with_reducible apply State.setFld_good
     | with_reducible apply State.setLink_good

theorem startGain_good (b gain k : Nat) (s : State) (hs : s.good L Q) :
    (startGain b gain k s).good L Q := by
  unfold startGain
  repeat' first | with_reducible assumption | with_reducible apply ite_good | with_reducible apply setGain_good

theorem tunePathsAt_good (every bk : Bool) (input chan : Nat) (rs : Option Nat) (s : State) (hs : s.good L Q) :
    (tunePathsAt every bk input chan rs s).good L Q := by
  unfold tunePathsAt
  dsimp only
  repeat' first
     | intro _ | with_reducible assumption | with_reducible apply ite_good | with_reducible apply forAll_good
     | with_reducible apply tuneSynIn_good | with_reducible apply startGain_good



theorem tunePaths_good (input chan : Nat) (s : State) (hs : s.good L Q) :
    (tunePaths input chan s).good L Q := by
  unfold tunePaths
  repeat' first | with_reducible assumption | with_reducible apply tunePathsAt_good

theorem resumeLanes_good (s : State) (hs : s.good L Q) :
    (resumeLanes s).good L Q := by
  unfold resumeLanes
  dsimp only
  repeat' first
     | intro _ | with_reducible assumption | with_reducible apply ite_good | with_reducible apply forAll_good
     | with_reducible apply State.setLane_good | with_reducible apply bindLane_good
     | with_reducible apply tunePaths_good | simp only [good_mk] | split


theorem freeLane_good (n : Nat) (s : State) (hs : s.good L Q) :
    (freeLane n s).good L Q := by
  unfold freeLane
  dsimp only
  repeat' first
     | with_reducible assumption | with_reducible apply State.setFld_good | with_reducible apply State.setLane_good
     | with_reducible apply resumeLanes_good

theorem releaseEnds_good (n : Nat) (s : State) (hs : s.good L Q) :
    (releaseEnds n s).good L Q := by
  unfold releaseEnds
  repeat' first | intro _ | with_reducible assumption | with_reducible apply finishRun_good

theorem clearFrame_good (n : Nat) (s : State) (hs : s.good L Q) :
    (clearFrame n s).good L Q := by
  unfold clearFrame
  dsimp only
  repeat' first
     | intro _ | with_reducible assumption | with_reducible apply when_good | with_reducible apply bufGive_good
     | with_reducible apply State.setLink_good | with_reducible apply State.setLane_good
     | with_reducible apply releaseEnds_good | simp only [good_mk] | split


theorem reportAbandoned_good (n : Nat) (s : State) (hs : s.good L Q) :
    (reportAbandoned n s).good L Q := by
  unfold reportAbandoned
  dsimp only
  repeat' first
     | with_reducible assumption | with_reducible apply ite_good | with_reducible apply State.setLink_good
     | simp only [good_mk] | split


theorem abandonFrame_good (n : Nat) (s : State) (hs : s.good L Q) :
    (abandonFrame n s).good L Q := by
  unfold abandonFrame
  repeat' first
     | with_reducible assumption | with_reducible apply ite_good | with_reducible apply State.count_good
     | with_reducible apply clearFrame_good | with_reducible apply reportAbandoned_good

theorem setChain_good (b : Nat) (r : Option TxReq) (s : State) (hs : s.good L Q) :
    (setChain b r s).good L Q := by
  unfold setChain
  dsimp only
  repeat' first
     | with_reducible assumption | with_reducible apply State.setBit_good | with_reducible apply State.setBand_good



theorem dropChain_good (b : Nat) (r : TxReq) (s : State) (hs : s.good L Q) :
    (dropChain b r s).good L Q := by
  unfold dropChain
  dsimp only
  repeat' first
     | with_reducible assumption | with_reducible apply ite_good | with_reducible apply State.setBand_good
     | with_reducible apply sentUntil_good | with_reducible apply femTxEnd_good
     | with_reducible apply femTxUnsent_good | with_reducible apply setChain_good

theorem returnHead_good (a : Activ) (s : State) (hs : s.good L Q) :
    (returnHead a s).good L Q := by
  unfold returnHead
  try dsimp only
  repeat' first
     | with_reducible assumption | with_reducible apply hwPushHead_good | split



theorem calStat_good (b item result : Nat) (s : State) (hs : s.good L Q) :
    (calStat b item result s).good L Q := by
  unfold calStat
  repeat' first | with_reducible assumption | with_reducible apply State.setFld_good

theorem leaveSlice_good (b : Nat) (c : CalSlice) (s : State) (hs : s.good L Q) :
    (leaveSlice b c s).good L Q := by
  unfold leaveSlice
  repeat' first | with_reducible assumption | with_reducible apply ite_good | with_reducible apply leaveSyn_good

theorem releaseAct_good (a : Activ) (s : State) (hs : s.good L Q) :
    (releaseAct a s).good L Q := by
  unfold releaseAct
  dsimp only
  repeat' first
     | with_reducible assumption | with_reducible apply ite_good | with_reducible apply State.setFld_good
     | with_reducible apply State.setBand_good | with_reducible apply femClose_good
     | with_reducible apply dropAct_good | with_reducible apply freeLane_good | with_reducible apply dropChain_good
     | with_reducible apply leaveSlice_good | simp only [good_mk] | split


theorem txReply_good (t : Nat) (tag : Octet) (code : Nat) (r : TxReq) (s : State) (hs : s.good L Q) :
    (txReply t tag code r s).good L Q := by
  unfold txReply
  dsimp only
  repeat' first
     | with_reducible assumption | with_reducible apply ite_good | with_reducible apply finalReply_good
     | simp only [good_mk] | split


theorem cmdTxEnd_good (t : Nat) (tag : Octet) (code : Nat) (r : TxReq) (s : State) (hs : s.good L Q) :
    (cmdTxEnd t tag code r s).good L Q := by
  unfold cmdTxEnd
  dsimp only
  repeat' first
     | with_reducible assumption | with_reducible apply freeChain_good | with_reducible apply freeLane_good
     | with_reducible apply txReply_good | simp only [good_mk] | split


theorem endUnsent_good (b code m : Nat) (countMiss : Bool) (r : TxReq) (s : State) (hs : s.good L Q) :
    (endUnsent b code m countMiss r s).good L Q := by
  unfold endUnsent
  dsimp only
  repeat' first
     | intro _ | with_reducible assumption | with_reducible apply ite_good | with_reducible apply State.count_good
     | with_reducible apply State.setLink_good | with_reducible apply setResult_good
     | with_reducible apply missed_good | with_reducible apply dropChain_good | with_reducible apply returnHead_good
     | with_reducible apply releaseAct_good | with_reducible apply cmdTxEnd_good | with_reducible apply command_good
     | simp only [good_mk] | split


theorem claimIdle_good (b c : Nat) (s : State) (hs : s.good L Q) :
    OptGood L Q ((claimIdle b c s)) := by
  unfold claimIdle
  dsimp only
  repeat' first
     | with_reducible assumption | with_reducible apply optGood_some | exact optGood_none
     | with_reducible apply ite_optGood | with_reducible apply ite_good | with_reducible apply State.setBand_good
     | with_reducible apply gateCount_good | simp only [good_mk] | split



theorem loseChain_good (b : Nat) (c : Claim) (r : TxReq) (s : State) (hs : s.good L Q) :
    (loseChain b c r s).good L Q := by
  unfold loseChain
  repeat' first
     | intro _ | with_reducible assumption | with_reducible apply ite_good | with_reducible apply State.count_good
     | with_reducible apply when_good | with_reducible apply gateCount_good | with_reducible apply endUnsent_good

theorem preemptSlice_good (b : Nat) (s : State) (hs : s.good L Q) :
    (preemptSlice b s).good L Q := by
  unfold preemptSlice
  dsimp only
  repeat' first
     | with_reducible assumption | with_reducible apply State.setBit_good | with_reducible apply State.count_good
     | with_reducible apply State.setBand_good | with_reducible apply calStat_good
     | with_reducible apply leaveSlice_good | simp only [good_mk] | split


theorem preemptUses_good (b : Nat) (rs : List Nat) (s : State) (hs : s.good L Q) :
    (preemptUses b rs s).good L Q := by
  unfold preemptUses
  try dsimp only
  repeat' first
     | with_reducible assumption | with_reducible apply ite_good | with_reducible apply preemptSlice_good | split



theorem loseAct_good (c : Claim) (a : Activ) (s : State) (hs : s.good L Q) :
    (loseAct c a s).good L Q := by
  unfold loseAct
  dsimp only
  repeat' first
     | with_reducible assumption | with_reducible apply ite_good | with_reducible apply gateCount_good
     | with_reducible apply missed_good | with_reducible apply returnHead_good | with_reducible apply releaseAct_good

theorem claimSyn_good (b : Nat) (rs : List Nat) (chan : Nat) (c : Claim) (s : State) (hs : s.good L Q) :
    OptGood L Q ((claimSyn b rs chan c s)) := by
  unfold claimSyn
  dsimp only
  repeat' first
     | intro _ | with_reducible assumption | with_reducible apply optGood_some | exact optGood_none
     | with_reducible apply ite_optGood | with_reducible apply ite_good | with_reducible apply forAll_good
     | with_reducible apply preemptUses_good | with_reducible apply loseAct_good

theorem setLow_good (p n : Nat) (s : State) (hs : s.good L Q) :
    (setLow p n s).good L Q := by
  unfold setLow
  repeat' first | with_reducible assumption | with_reducible apply State.setLink_good

theorem stepGain_good (p g k m : Nat) (s : State) (hs : s.good L Q) :
    (stepGain p g k m s).good L Q := by
  unfold stepGain
  dsimp only
  repeat' first
     | intro _ | with_reducible assumption | with_reducible apply State.countBy_good
     | with_reducible apply State.count_good | with_reducible apply when_good | with_reducible apply setGain_good
     | with_reducible apply setLow_good

theorem agcWindow_good (p : Nat) (power : Octet) (ovl : Bool) (s0 : State) (hs0 : s0.good L Q) :
    (agcWindow p power ovl s0).good L Q := by
  unfold agcWindow
  dsimp only
  repeat' first
     | intro _ | with_reducible assumption | with_reducible apply ite_good | with_reducible apply State.setFld_good
     | with_reducible apply State.count_good | with_reducible apply State.drawn_good | with_reducible apply when_good
     | with_reducible apply setLow_good | with_reducible apply stepGain_good

theorem pathGainWrite_good (p : Nat) (v : Word) (s : State) (hs : s.good L Q) :
    (pathGainWrite p v s).good L Q := by
  unfold pathGainWrite
  dsimp only
  repeat' first
     | with_reducible assumption | with_reducible apply ite_good | with_reducible apply plainWrite_good
     | with_reducible apply setGain_good

theorem gainApply_good (p : Nat) (s : State) (hs : s.good L Q) :
    (gainApply p s).good L Q := by
  unfold gainApply
  dsimp only
  repeat' first
     | intro _ | with_reducible assumption | with_reducible apply State.setLink_good | simp only [good_mk] | split



theorem keepFrame_good (n : Nat) (f : RxFrame) (s : State) (hs : s.good L Q) :
    (keepFrame n f s).good L Q := by
  unfold keepFrame
  repeat' first
     | with_reducible assumption | with_reducible apply State.setFld_good | with_reducible apply State.drawn_good
     | with_reducible apply State.setLane_good

theorem noAckLane_good (n : Nat) (s : State) (hs : s.good L Q) :
    (noAckLane n s).good L Q := by
  unfold noAckLane
  repeat' first
     | intro _ | with_reducible assumption | with_reducible apply ite_good | with_reducible apply forAll_good
     | with_reducible apply State.setBand_good

theorem laneRest_good (n : Nat) (s : State) (hs : s.good L Q) :
    (laneRest n s).good L Q := by
  unfold laneRest
  try dsimp only
  repeat' first
     | with_reducible assumption | with_reducible apply ite_good | with_reducible apply femClose_good
     | with_reducible apply putAct_good | with_reducible apply resumeLanes_good | with_reducible apply freeLane_good
     | with_reducible apply releaseAct_good | with_reducible apply noAckLane_good | simp only [good_mk] | split



theorem laneIdle_good (n : Nat) (s : State) (hs : s.good L Q) :
    (laneIdle n s).good L Q := by
  unfold laneIdle
  repeat' first | with_reducible assumption | with_reducible apply clearFrame_good | with_reducible apply laneRest_good

theorem loseFrame_good (n : Nat) (s : State) (hs : s.good L Q) :
    (loseFrame n s).good L Q := by
  unfold loseFrame
  repeat' first
     | with_reducible assumption | with_reducible apply ite_good | with_reducible apply abandonFrame_good
     | with_reducible apply laneRest_good

theorem laneSee_good (n : Nat) (s : State) (hs : s.good L Q) :
    (laneSee n s).good L Q := by
  unfold laneSee
  dsimp only
  repeat' first | intro _ | with_reducible assumption | with_reducible apply engSee_good

theorem preambleDetect_good (n slot : Nat) (peak : BitVec 72) (r1 r2 snr : Octet) (s : State) (hs : s.good L Q) :
    (preambleDetect n slot peak r1 r2 snr s).good L Q := by
  unfold preambleDetect
  dsimp only
  repeat' first
     | with_reducible assumption | with_reducible apply ite_good | with_reducible apply State.count_good
     | with_reducible apply State.setLane_good | with_reducible apply keepFrame_good
     | with_reducible apply laneIdle_good | simp only [good_mk] | split


theorem mapSee_good (n : Nat) (h : BitVec 52) (s : State) (hs : s.good L Q) :
    (mapSee n h s).good L Q := by
  unfold mapSee
  try dsimp only
  repeat' first
     | with_reducible assumption | with_reducible apply when_good | with_reducible apply engSee_good | split



theorem rxAlloc_good (n : Nat) (s : State) (hs : s.good L Q) :
    (rxAlloc n s).good L Q := by
  unfold rxAlloc
  dsimp only
  repeat' first
     | with_reducible assumption | with_reducible apply bufOut_good | with_reducible apply bufTake_good
     | with_reducible apply State.setLane_good | with_reducible apply reportAbandoned_good
     | with_reducible apply laneIdle_good | simp only [good_mk] | split | with_reducible refine good_of_eq2 ‹_› ?_


theorem headerDecode_good (n : Nat) (h : BitVec 52) (phr : Bool) (s : State) (hs : s.good L Q) :
    (headerDecode n h phr s).good L Q := by
  unfold headerDecode
  dsimp only
  repeat' first
     | with_reducible assumption | with_reducible apply ite_good | with_reducible apply State.count_good
     | with_reducible apply State.setLink_good | with_reducible apply State.setLane_good
     | with_reducible apply laneIdle_good | with_reducible apply rxAlloc_good | simp only [good_mk] | split



theorem cwArrive_good (n : Nat) (s : State) (hs : s.good L Q) :
    (cwArrive n s).good L Q := by
  unfold cwArrive
  dsimp only
  repeat' first
     | intro _ | with_reducible assumption | with_reducible apply ite_good | with_reducible apply State.count_good
     | with_reducible apply State.setLink_good | with_reducible apply State.setLane_good
     | with_reducible apply reportAbandoned_good | with_reducible apply laneIdle_good | simp only [good_mk] | split



theorem cwDecode_good (its : Nat) (s : State) (hs : s.good L Q) :
    (cwDecode its s).good L Q := by
  unfold cwDecode
  dsimp only
  repeat' first
     | with_reducible assumption | with_reducible apply State.setLink_good | with_reducible apply State.setLane_good
     | simp only [good_mk] | split


theorem cwDecodeBy_good (e its : Nat) (s : State) (hs : s.good L Q) :
    (cwDecodeBy e its s).good L Q := by
  unfold cwDecodeBy
  repeat' first | with_reducible assumption | with_reducible apply ite_good | with_reducible apply cwDecode_good

theorem frameEnd_good (n : Nat) (psdu : List Octet) (fcsOk : Bool) (spread : Nat) (tones : List Word) (s : State) (hs : s.good L Q) :
    (frameEnd n psdu fcsOk spread tones s).good L Q := by
  unfold frameEnd
  dsimp only
  repeat' first
     | with_reducible assumption | with_reducible apply ite_good | with_reducible apply State.setReg_good
     | with_reducible apply State.count_good | with_reducible apply State.setLink_good
     | with_reducible apply State.setLane_good | with_reducible apply laneIdle_good | simp only [good_mk] | split



theorem detachLane_good (n : Nat) (s : State) (hs : s.good L Q) :
    (detachLane n s).good L Q := by
  unfold detachLane
  dsimp only
  repeat' first
     | with_reducible assumption | with_reducible apply ite_good | with_reducible apply finishTag_good
     | with_reducible apply putAct_good | with_reducible apply missed_good | with_reducible apply freeLane_good
     | with_reducible apply returnHead_good | with_reducible apply releaseAct_good
     | with_reducible apply endUnsent_good | with_reducible apply noAckLane_good | simp only [good_mk] | split



theorem oosLane_good (n : Nat) (s : State) (hs : s.good L Q) :
    (oosLane n s).good L Q := by
  unfold oosLane
  dsimp only
  repeat' first
     | intro _ | with_reducible assumption | with_reducible apply ite_good | with_reducible apply State.setBit_good
     | with_reducible apply State.count_good | with_reducible apply when_good | with_reducible apply laneShow_good
     | with_reducible apply State.setLane_good | with_reducible apply detachLane_good

theorem oosWrite_good (v : Word) (s : State) (hs : s.good L Q) :
    (oosWrite v s).good L Q := by
  unfold oosWrite
  dsimp only
  repeat' first
     | intro _ | with_reducible assumption | with_reducible apply ite_good | with_reducible apply State.setFld_good
     | with_reducible apply forAll_good | with_reducible apply laneShow_good | with_reducible apply resumeLanes_good
     | with_reducible apply oosLane_good

theorem dropSusp_good (n : Nat) (s : State) (hs : s.good L Q) :
    (dropSusp n s).good L Q := by
  unfold dropSusp
  repeat' first
     | with_reducible assumption | with_reducible apply State.setBit_good | with_reducible apply State.setLane_good


theorem spanRelease_good (b : Nat) (a : Activ) (s : State) (hs : s.good L Q) :
    (spanRelease b a s).good L Q := by
  unfold spanRelease
  dsimp only
  repeat' first
     | intro _ | with_reducible assumption | with_reducible apply ite_good | with_reducible apply State.count_good
     | with_reducible apply when_good | with_reducible apply State.setBand_good | with_reducible apply gateCount_good
     | with_reducible apply missed_good | with_reducible apply returnHead_good | with_reducible apply releaseAct_good
     | simp only [good_mk] | split


theorem spanApply_good (b : Nat) (s : State) (hs : s.good L Q) :
    (spanApply b s).good L Q := by
  unfold spanApply
  dsimp only
  repeat' first
     | intro _ | with_reducible assumption | with_reducible apply ite_good | with_reducible apply State.setFld_good
     | with_reducible apply State.count_good | with_reducible apply forAll_good | with_reducible apply finishRun_good
     | with_reducible apply State.setBand_good | with_reducible apply tuneSyn_good
     | with_reducible apply freeLane_good | with_reducible apply dropSusp_good
     | with_reducible apply spanRelease_good | simp only [good_mk] | split

theorem reindex_good (n : Nat) (s : State) (hs : s.good L Q) :
    (reindex n s).good L Q := by
  unfold reindex
  repeat' first
     | with_reducible assumption | with_reducible apply ite_good | with_reducible apply State.setLink_good


theorem reindexAll_good (s : State) (hs : s.good L Q) :
    (reindexAll s).good L Q := by
  unfold reindexAll
  dsimp only
  repeat' first
     | intro _ | with_reducible assumption | with_reducible apply ite_good | with_reducible apply State.setLink_good


theorem setWindow_good (n h win : Nat) (s : State) (hs : s.good L Q) :
    (setWindow n h win s).good L Q := by
  unfold setWindow
  repeat' first | with_reducible assumption | with_reducible apply setNbr_good | with_reducible apply setNbrFld_good

theorem unname_good (n before : Nat) (s : State) (hs : s.good L Q) :
    (unname n before s).good L Q := by
  unfold unname
  repeat' first
     | with_reducible assumption | with_reducible apply ite_good | with_reducible apply State.setLink_good


theorem noticeNbr_good (n st : Nat) (s : State) (hs : s.good L Q) :
    (noticeNbr n st s).good L Q := by
  unfold noticeNbr
  repeat' first | with_reducible assumption | with_reducible apply when_good | with_reducible apply notice_good

theorem beaconMiss_good (n : Nat) (s : State) (hs : s.good L Q) :
    (beaconMiss n s).good L Q := by
  unfold beaconMiss
  dsimp only
  repeat' first
     | with_reducible assumption | with_reducible apply ite_good | with_reducible apply State.count_good
     | with_reducible apply fire_good | with_reducible apply setNbrFld_good | with_reducible apply parentLost_good
     | with_reducible apply noticeNbr_good

theorem ringRecord_good (n : Nat) (s : State) (hs : s.good L Q) :
    (ringRecord n s).good L Q := by
  unfold ringRecord
  dsimp only
  repeat' first
     | with_reducible assumption | with_reducible apply ite_good | with_reducible apply State.setFld_good
     | with_reducible apply State.setBit_good | with_reducible apply State.count_good
     | with_reducible apply fire_good | with_reducible apply notice_good | with_reducible apply engWrites_good

theorem forget_good (n : Nat) (s : State) (hs : s.good L Q) :
    (forget n s).good L Q := by
  unfold forget
  repeat' first | intro _ | with_reducible assumption | with_reducible apply State.setLink_good

theorem admitNbr_good (ext k net c rssi : Nat) (ts : BitVec 72) (s : State) (hs : s.good L Q) :
    (admitNbr ext k net c rssi ts s).2.good L Q := by
  unfold admitNbr
  dsimp only
  repeat' first
     | intro _ | with_reducible assumption | with_reducible apply State.count_good | with_reducible apply forAll_good
     | with_reducible apply engWrite_good | with_reducible apply engWrites_good | with_reducible apply reindex_good
     | with_reducible apply unname_good | with_reducible apply ringRecord_good | with_reducible apply forget_good
     | split


theorem windowUpdate_good (n k c : Nat) (s : State) (hs : s.good L Q) :
    (windowUpdate n k c s).good L Q := by
  unfold windowUpdate
  dsimp only
  repeat' first | with_reducible assumption | with_reducible apply ite_good | with_reducible apply setWindow_good

theorem driftUpdate_good (n : Nat) (txtime : List Octet) (ts : BitVec 72) (s : State) (hs : s.good L Q) :
    (driftUpdate n txtime ts s).good L Q := by
  unfold driftUpdate
  dsimp only
  repeat' first
     | intro _ | with_reducible assumption | with_reducible apply ite_good | with_reducible apply State.setLink_good
     | with_reducible apply setNbrFld_good | simp only [good_mk] | split


theorem lqUpdate_good (n q : Nat) (s : State) (hs : s.good L Q) :
    (lqUpdate n q s).good L Q := by
  unfold lqUpdate
  repeat' first | with_reducible assumption | with_reducible apply ite_good | with_reducible apply setNbrFld_good

theorem entryUpdate_good (n k net : Nat) (f : RxFrame) (admitted : Bool) (s : State) (hs : s.good L Q) :
    (entryUpdate n k net f admitted s).good L Q := by
  unfold entryUpdate
  dsimp only
  repeat' first
     | with_reducible assumption | with_reducible apply ite_good | with_reducible apply State.setLink_good
     | with_reducible apply setNbr_good | with_reducible apply setNbrFld_good | with_reducible apply reindex_good
     | with_reducible apply noticeNbr_good

theorem nbrCommitWrite_good (v : Word) (s : State) (hs : s.good L Q) :
    (nbrCommitWrite v s).good L Q := by
  unfold nbrCommitWrite
  dsimp only
  repeat' first
     | intro _ | with_reducible assumption | with_reducible apply ite_good | with_reducible apply when_good
     | with_reducible apply forAll_good | with_reducible apply plainWrite_good | with_reducible apply setNbr_good
     | with_reducible apply reindex_good | with_reducible apply unname_good | with_reducible apply noticeNbr_good
     | with_reducible apply ringRecord_good | with_reducible apply forget_good

theorem heardRefresh_good (s : State) (hs : s.good L Q) :
    (heardRefresh s).good L Q := by
  unfold heardRefresh
  dsimp only
  repeat' first
     | intro _ | with_reducible assumption | with_reducible apply ite_good | with_reducible apply forAll_good
     | with_reducible apply setNbr_good

theorem removeFrame_good (q : Nat) (d : Word) (s : State) (hs : s.good L Q) :
    (removeFrame q d s).good L Q := by
  unfold removeFrame
  dsimp only
  repeat' first
     | intro _ | with_reducible assumption | with_reducible apply ite_good | with_reducible apply State.count_good
     | with_reducible apply when_good | with_reducible apply freeChain_good | with_reducible apply hwPush_good
     | with_reducible apply setResult_good

theorem ackFailed_good (b : Nat) (wt : AckWait) (s : State) (hs : s.good L Q) :
    (ackFailed b wt s).good L Q := by
  unfold ackFailed
  dsimp only
  repeat' first
     | with_reducible assumption | with_reducible apply ite_good | with_reducible apply State.setBand_good
     | with_reducible apply setResult_good | with_reducible apply freeLane_good
     | with_reducible apply returnHead_good | with_reducible apply releaseAct_good
     | with_reducible apply cmdTxEnd_good | with_reducible apply lqUpdate_good
     | with_reducible apply removeFrame_good | with_reducible apply command_good | simp only [good_mk] | split



theorem ackGot_good (b : Nat) (wt : AckWait) (s : State) (hs : s.good L Q) :
    (ackGot b wt s).good L Q := by
  unfold ackGot
  dsimp only
  repeat' first
     | with_reducible assumption | with_reducible apply State.count_good | with_reducible apply freeChain_good
     | with_reducible apply State.setBand_good | with_reducible apply setResult_good
     | with_reducible apply releaseAct_good | with_reducible apply cmdTxEnd_good | with_reducible apply lqUpdate_good
     | with_reducible apply command_good | simp only [good_mk] | split


theorem settleWait_good (b : Nat) (s : State) (hs : s.good L Q) :
    (settleWait b s).good L Q := by
  unfold settleWait
  try dsimp only
  repeat' first
     | with_reducible assumption | with_reducible apply ite_good | with_reducible apply ackFailed_good | split



theorem closeMissed_good (a : Activ) (s : State) (hs : s.good L Q) :
    (closeMissed a s).good L Q := by
  unfold closeMissed
  repeat' first | with_reducible assumption | with_reducible apply when_good | with_reducible apply beaconMiss_good

theorem settleWindows_good (s : State) (hs : s.good L Q) :
    (settleWindows s).good L Q := by
  unfold settleWindows
  repeat' first
     | intro _ | with_reducible assumption | with_reducible apply ite_good | with_reducible apply forAll_good
     | with_reducible apply dropAct_good | with_reducible apply closeMissed_good

theorem settle_good (s : State) (hs : s.good L Q) :
    (settle s).good L Q := by
  unfold settle
  repeat' first | with_reducible assumption | with_reducible apply settleWait_good | with_reducible apply settleWindows_good

theorem windowGot_good (n : Nat) (x : RxDone) (s : State) (hs : s.good L Q) :
    (windowGot n x s).good L Q := by
  unfold windowGot
  dsimp only
  repeat' first
     | intro _ | with_reducible assumption | with_reducible apply ite_good | with_reducible apply when_good
     | with_reducible apply forAll_good | with_reducible apply dropAct_good | with_reducible apply releaseAct_good
     | with_reducible apply lqUpdate_good

theorem ackChain_good (x : RxDone) (c : Nat) (late : Bool) (s : State) (hs : s.good L Q) :
    OptGood L Q ((ackChain x c late s)) := by
  unfold ackChain
  dsimp only
  repeat' first
     | intro _ | with_reducible assumption | with_reducible apply optGood_some | exact optGood_none
     | with_reducible apply ite_optGood | with_reducible apply optGood_bind | with_reducible apply optGood_map
     | with_reducible apply ite_good | with_reducible apply claimIdle_good | with_reducible apply loseChain_good
     | with_reducible apply preemptUses_good | with_reducible apply claimSyn_good | split



theorem ackRequest_good (x : RxDone) (c : Nat) (p : List Octet) (s : State) (hs : s.good L Q) :
    (ackRequest x c p s).good L Q := by
  unfold ackRequest
  dsimp only
  repeat' first
     | intro _ | with_reducible assumption | with_reducible apply ite_good | with_reducible apply State.count_good
     | with_reducible apply State.drawn_good | with_reducible apply when_good | with_reducible apply tuneSynIn_good
     | with_reducible apply setChain_good


theorem cacheAck_good (e : AckCached) (s : State) (hs : s.good L Q) :
    (cacheAck e s).good L Q := by
  unfold cacheAck
  repeat' first | intro _ | with_reducible assumption | with_reducible apply State.setLink_good

theorem ackSent_good (p : List Octet) (s : State) (hs : s.good L Q) :
    (ackSent p s).good L Q := by
  unfold ackSent
  repeat' first | intro _ | with_reducible assumption | with_reducible apply State.setLink_good

theorem ackFrame_good (x : RxDone) (j : Judged) (n c : Nat) (late : Bool) (s : State) (hs : s.good L Q) :
    (ackFrame x j n c late s).2.good L Q := by
  unfold ackFrame
  dsimp only
  repeat' first
     | with_reducible assumption | with_reducible apply optGood_some | exact optGood_none
     | with_reducible apply ite_optGood | with_reducible apply ite_good | with_reducible apply ite_good2
     | with_reducible apply State.count_good | with_reducible apply takeCtr_good | with_reducible apply ackChain_good
     | with_reducible apply ackRequest_good | with_reducible apply cacheAck_good | simp only [good_mk] | split
     | with_reducible refine good_of_eq2 ‹_› ?_ | with_reducible refine good_of_eq3 ‹_› ?_
     | with_reducible refine good_of_eq4 ‹_› ?_ | with_reducible refine good_of_some ‹_› ?_

theorem reack_good (x : RxDone) (j : Judged) (n c : Nat) (late : Bool) (s : State) (hs : s.good L Q) :
    (reack x j n c late s).good L Q := by
  unfold reack
  try dsimp only
  repeat' first
     | intro _ | with_reducible assumption | with_reducible apply optGood_some | exact optGood_none
     | with_reducible apply ite_optGood | with_reducible apply ite_good | with_reducible apply State.count_good
     | with_reducible apply ackChain_good | with_reducible apply ackRequest_good | split
     | with_reducible refine good_of_eq2 ‹_› ?_ | with_reducible refine good_of_eq3 ‹_› ?_
     | with_reducible refine good_of_eq4 ‹_› ?_ | with_reducible refine good_of_some ‹_› ?_

theorem fwdHand_good (f : FwdFrame) (s : State) (hs : s.good L Q) :
    (fwdHand f s).good L Q := by
  unfold fwdHand
  dsimp only
  repeat' first
     | intro _ | with_reducible assumption | with_reducible apply ite_good | with_reducible apply State.count_good
     | with_reducible apply when_good | with_reducible apply hwPushIf_good | simp only [good_mk]

theorem takeInjected_good  (x0 : Nat) (x1 : State) (hx1 : x1.good L Q) :
    (takeInjected x0 x1).good L Q := by
  induction x0 generalizing x1 with
  | zero =>
    unfold takeInjected
    try dsimp only
    repeat' first
       | with_reducible assumption



  | succ n ih =>
    unfold takeInjected
    try dsimp only
    repeat' first
       | with_reducible assumption | with_reducible apply ite_good | with_reducible apply engWord_good
       | with_reducible apply qPop_good | with_reducible apply fwdHand_good | with_reducible apply ih



theorem fwdInject_good (s : State) (hs : s.good L Q) :
    (fwdInject s).good L Q := by
  unfold fwdInject
  dsimp only
  repeat' first | with_reducible assumption | with_reducible apply when_good | with_reducible apply takeInjected_good

theorem measureRecord_good (x : RxDone) (n c : Nat) (s : State) (hs : s.good L Q) :
    (measureRecord x n c s).good L Q := by
  unfold measureRecord
  dsimp only
  repeat' first
     | with_reducible assumption | with_reducible apply ite_good | with_reducible apply storeChunks_good
     | with_reducible apply hwPushIf_good | split | with_reducible refine good_of_eq2 ‹_› ?_


theorem rxStore_good (x : RxDone) (rcd : List Word) (data : List Octet) (s : State) (hs : s.good L Q) :
    (rxStore x rcd data s).2.good L Q := by
  unfold rxStore
  try dsimp only
  repeat' first
     | with_reducible assumption | with_reducible apply storeBufs_good | split



theorem toRxq_good (x : RxDone) (j : Judged) (desc : Word) (s : State) (hs : s.good L Q) :
    (toRxq x j desc s).good L Q := by
  unfold toRxq
  dsimp only
  repeat' first | with_reducible assumption | with_reducible apply hwPushIf_good

theorem acceptUnsec_good (x : RxDone) (j : Judged) (s : State) (hs : s.good L Q) :
    (acceptUnsec x j s).good L Q := by
  unfold acceptUnsec
  dsimp only
  repeat' first
     | with_reducible assumption | with_reducible apply State.count_good | with_reducible apply rxStore_good
     | with_reducible apply toRxq_good | split | with_reducible refine good_of_eq2 ‹_› ?_


theorem feedbackIn_good (x : RxDone) (j : Judged) (n : Nat) (s : State) (hs : s.good L Q) :
    (feedbackIn x j n s).good L Q := by
  unfold feedbackIn
  dsimp only
  repeat' first
     | intro _ | with_reducible assumption | with_reducible apply ite_good | with_reducible apply State.setLink_good


theorem acceptFrame_good (x : RxDone) (j : Judged) (late : Nat → Bool) (s : State) (hs : s.good L Q) :
    (acceptFrame x j late s).good L Q := by
  unfold acceptFrame
  dsimp only
  repeat' first
     | intro _ | with_reducible assumption | with_reducible apply ite_good | with_reducible apply State.count_good
     | with_reducible apply when_good | with_reducible apply engWrites_good | with_reducible apply stratumUpdate_good
     | with_reducible apply admitNbr_good | with_reducible apply windowUpdate_good
     | with_reducible apply driftUpdate_good | with_reducible apply entryUpdate_good
     | with_reducible apply windowGot_good | with_reducible apply ackFrame_good | with_reducible apply fwdHand_good
     | with_reducible apply fwdInject_good | with_reducible apply measureRecord_good
     | with_reducible apply rxStore_good | with_reducible apply toRxq_good | with_reducible apply feedbackIn_good
     | simp only [good_mk] | split | with_reducible refine good_of_eq2 ‹_› ?_


theorem mapUsed_good (x : RxDone) (s : State) (hs : s.good L Q) :
    (mapUsed x s).good L Q := by
  unfold mapUsed
  dsimp only
  repeat' first
     | intro _ | with_reducible assumption | with_reducible apply ite_good | with_reducible apply State.setLink_good
     | simp only [good_mk] | split


theorem rxDrop_good (x : RxDone) (s : State) (hs : s.good L Q) :
    (rxDrop x s).good L Q := by
  unfold rxDrop
  repeat' first | with_reducible assumption | with_reducible apply bufGive_good

theorem judgeFrame_good (x : RxDone) (late : Nat → Bool) (s : State) (hs : s.good L Q) :
    (judgeFrame x late s).good L Q := by
  unfold judgeFrame
  dsimp only
  repeat' first
     | with_reducible assumption | with_reducible apply ite_good | with_reducible apply State.count_good
     | with_reducible apply reack_good | with_reducible apply acceptUnsec_good
     | with_reducible apply acceptFrame_good | with_reducible apply rxDrop_good | split



theorem frameAccept_good (late : RxDone → Nat → Bool) (s : State) (hs : s.good L Q) :
    (frameAccept late s).good L Q := by
  unfold frameAccept
  dsimp only
  repeat' first
     | with_reducible assumption | with_reducible apply ite_good | with_reducible apply State.count_good
     | with_reducible apply when_good | with_reducible apply engSee_good | with_reducible apply State.setLink_good
     | with_reducible apply ackGot_good | with_reducible apply settle_good | with_reducible apply mapUsed_good
     | with_reducible apply rxDrop_good | with_reducible apply judgeFrame_good | simp only [good_mk] | split

end Sys2Proof.Machine
end

