-- ==== Sys2Proof/Laws/GoodGate.lean ====
section
/-! SUPPORT. The invariant of Laws/Good.lean over every operation of gate programs, tone maps, remote windows, forwarding and the mesh tick: one lemma per operation, named after it with `_good`. -/
namespace Sys2Proof.Machine

open Sys2Proof

variable {L : Nat} {Q : List Instr}

theorem courseShow_good (s : State) (hs : s.good L Q) :
    (courseShow s).good L Q := by
  unfold courseShow
  repeat' first | with_reducible assumption | with_reducible apply State.setBit_good

theorem startCourse_good (n : Nat) (s : State) (hs : s.good L Q) :
    (startCourse n s).good L Q := by
  unfold startCourse
  dsimp only
  repeat' first
     | intro _ | with_reducible assumption | with_reducible apply State.setBit_good
     | with_reducible apply State.setMulti_good | with_reducible apply State.setGates_good
     | with_reducible apply courseShow_good

theorem endCourse_good (n : Nat) (s : State) (hs : s.good L Q) :
    (endCourse n s).good L Q := by
  unfold endCourse
  repeat' first | with_reducible assumption | with_reducible apply State.setBit_good | with_reducible apply courseShow_good

theorem releaseEarly_good (p : Activ → Bool) (s : State) (hs : s.good L Q) :
    (releaseEarly p s).good L Q := by
  unfold releaseEarly
  repeat' first
     | intro _ | with_reducible assumption | with_reducible apply forAll_good | with_reducible apply returnHead_good
     | with_reducible apply releaseAct_good

theorem stopTrim_good (n t : Nat) (s : State) (hs : s.good L Q) :
    (stopTrim n t s).good L Q := by
  unfold stopTrim
  repeat' first | intro _ | with_reducible assumption | with_reducible apply releaseEarly_good

theorem stopNow_good (n : Nat) (s : State) (hs : s.good L Q) :
    (stopNow n s).good L Q := by
  unfold stopNow
  repeat' first
     | intro _ | with_reducible assumption | with_reducible apply endCourse_good
     | with_reducible apply releaseEarly_good

theorem courseCfgWrite_good (n : Nat) (v : Word) (s : State) (hs : s.good L Q) :
    (courseCfgWrite n v s).good L Q := by
  unfold courseCfgWrite
  dsimp only
  repeat' first
     | with_reducible assumption | with_reducible apply ite_good | with_reducible apply State.setFld_good
     | with_reducible apply State.setBit_good | with_reducible apply courseShow_good
     | with_reducible apply startCourse_good | with_reducible apply stopTrim_good | with_reducible apply stopNow_good

theorem periodFloor_good (n : Nat) (s : State) (hs : s.good L Q) :
    (periodFloor n s).good L Q := by
  unfold periodFloor
  dsimp only
  repeat' first | with_reducible assumption | with_reducible apply ite_good | with_reducible apply State.setMulti_good

theorem coursePlainWrite_good (n a : Nat) (v : Word) (s : State) (hs : s.good L Q) :
    (coursePlainWrite n a v s).good L Q := by
  unfold coursePlainWrite
  dsimp only
  repeat' first
     | with_reducible assumption | with_reducible apply ite_good | with_reducible apply State.setFld_good
     | with_reducible apply plainWrite_good | with_reducible apply periodFloor_good

theorem bankSwap_good (s : State) (hs : s.good L Q) :
    (bankSwap s).good L Q := by
  unfold bankSwap
  dsimp only
  repeat' first
     | intro _ | with_reducible assumption | with_reducible apply ite_good | with_reducible apply State.setBit_good
     | with_reducible apply finishRun_good | with_reducible apply State.setGates_good


theorem swapDue_good (s : State) (hs : s.good L Q) :
    (swapDue s).good L Q := by
  unfold swapDue
  try dsimp only
  repeat' first
     | with_reducible assumption | with_reducible apply ite_good | with_reducible apply bankSwap_good | split



theorem courseBoundary_good (n t : Nat) (s : State) (hs : s.good L Q) :
    (courseBoundary n t s).good L Q := by
  unfold courseBoundary
  repeat' first
     | with_reducible assumption | with_reducible apply ite_good | with_reducible apply endCourse_good
     | with_reducible apply stopTrim_good | with_reducible apply swapDue_good

theorem retire_good (g : Nat) (s : State) (hs : s.good L Q) :
    (retire g s).good L Q := by
  unfold retire
  repeat' first | intro _ | with_reducible assumption | with_reducible apply ite_good | simp only [good_mk]

theorem gateCommitWrite_good (v : Word) (s : State) (hs : s.good L Q) :
    (gateCommitWrite v s).good L Q := by
  unfold gateCommitWrite
  dsimp only
  repeat' first
     | intro _ | with_reducible assumption | with_reducible apply ite_good | with_reducible apply forAll_good
     | with_reducible apply plainWrite_good | with_reducible apply engWrites_good
     | with_reducible apply State.setGates_good | with_reducible apply dropAct_good
     | with_reducible apply releaseEarly_good | with_reducible apply retire_good

theorem guardEval_good (g i : Nat) (s : State) (hs : s.good L Q) :
    (guardEval g i s).good L Q := by
  unfold guardEval
  dsimp only
  repeat' first
     | with_reducible assumption | with_reducible apply when_good | with_reducible apply engSee_good
     | with_reducible apply putAct_good | with_reducible apply markMade_good | with_reducible apply gateCount_good

theorem suspendLane_good (n : Nat) (s : State) (hs : s.good L Q) :
    (suspendLane n s).good L Q := by
  unfold suspendLane
  dsimp only
  repeat' first
     | with_reducible assumption | with_reducible apply State.setFld_good | with_reducible apply State.setBit_good
     | with_reducible apply laneShow_good | with_reducible apply State.setLane_good

theorem holdOff_good (n : Nat) (s : State) (hs : s.good L Q) :
    (holdOff n s).good L Q := by
  unfold holdOff
  repeat' first | with_reducible assumption | with_reducible apply ite_good | with_reducible apply suspendLane_good

theorem claimLane_good (n : Nat) (c : Claim) (s : State) (hs : s.good L Q) :
    OptGood L Q ((claimLane n c s)) := by
  unfold claimLane
  dsimp only
  repeat' first
     | intro _ | with_reducible assumption | with_reducible apply optGood_some | exact optGood_none
     | with_reducible apply ite_optGood | with_reducible apply ite_good | with_reducible apply finishTag_good
     | with_reducible apply gateCount_good | with_reducible apply freeLane_good
     | with_reducible apply abandonFrame_good | with_reducible apply loseChain_good
     | with_reducible apply loseAct_good | with_reducible apply ackFailed_good
     | with_reducible apply suspendLane_good | with_reducible apply holdOff_good | split



theorem claimLanes_good (c : Claim) (x0 : List Nat) (x1 : State) (hx1 : x1.good L Q) :
    OptGood L Q ((claimLanes c x0 x1)) := by
  induction x0 generalizing c x1 with
  | nil =>
    unfold claimLanes
    try dsimp only
    repeat' first
       | with_reducible assumption | with_reducible apply optGood_some




  | cons v t ih =>
    unfold claimLanes
    try dsimp only
    repeat' first
       | with_reducible assumption | with_reducible apply optGood_some | exact optGood_none
       | with_reducible apply ite_optGood | with_reducible apply optGood_bind | with_reducible apply optGood_map
       | with_reducible apply claimLane_good | with_reducible apply ih



theorem claimChain_good (b : Nat) (c : Claim) (s : State) (hs : s.good L Q) :
    OptGood L Q ((claimChain b c s)) := by
  unfold claimChain
  try dsimp only
  repeat' first
     | with_reducible assumption | with_reducible apply optGood_some | exact optGood_none
     | with_reducible apply ite_optGood | with_reducible apply ite_good | with_reducible apply gateCount_good
     | with_reducible apply claimIdle_good | with_reducible apply loseChain_good
     | with_reducible apply ackFailed_good | split



theorem claimRx_good (bk : Bool) (b n input chan prof : Nat) (c : Claim) (holder : Nat) (rs : Option Nat) (s : State) (hs : s.good L Q) :
    OptGood L Q ((claimRx bk b n input chan prof c holder rs s)) := by
  unfold claimRx
  repeat' first
     | intro _ | with_reducible assumption | with_reducible apply optGood_some | exact optGood_none
     | with_reducible apply ite_optGood | with_reducible apply optGood_bind | with_reducible apply optGood_map
     | with_reducible apply ite_good | with_reducible apply bindLane_good | with_reducible apply tunePathsAt_good
     | with_reducible apply claimSyn_good | with_reducible apply claimLane_good
     | with_reducible apply claimLanes_good

theorem txRequest_good (p : TxPlan) (x : Built) (dst : Option Nat) (air : Nat) (expect : Option (Nat × Option Nat)) (lane : Option Nat) (free : Bool)
    (s : State) (hs : s.good L Q) :
    (txRequest p x dst air expect lane free s).2.good L Q := by
  unfold txRequest
  dsimp only
  repeat' first
     | intro _ | with_reducible assumption | with_reducible apply State.count_good
     | with_reducible apply State.drawn_good | with_reducible apply when_good



theorem actFrame_good (w : List Word) (bk : Bool) (inst : Nat) (s : State) (hs : s.good L Q) :
    (actFrame w bk inst s).1.2.good L Q := by
  unfold actFrame
  dsimp only
  repeat' first
     | intro _ | with_reducible assumption | with_reducible apply outGood_next | with_reducible apply ite_outGood
     | with_reducible apply optGood_some | exact optGood_none | with_reducible apply ite_optGood
     | with_reducible apply optGood_bind | with_reducible apply optGood_map | with_reducible apply ite_good
     | with_reducible apply ite_good2 | with_reducible apply ite_good3 | with_reducible apply buildFrame_good
     | with_reducible apply buildRecord_good | simp only [good_mk] | simp only [good_raw]
     | with_reducible apply Good.setWord | with_reducible apply Good.setOctet | with_reducible apply Good.clear
     | with_reducible apply Good.loseLink | with_reducible apply State.good.raw | split



theorem takeDesc_good (q : Nat) (d : Word) (s : State) (hs : s.good L Q) :
    (takeDesc q d s).good L Q := by
  unfold takeDesc
  repeat' first
     | with_reducible assumption | with_reducible apply ite_good | with_reducible apply qPop_good
     | with_reducible apply qTake_good

theorem pretuneTx_good (a : Activ) (port : Nat) (s : State) (hs : s.good L Q) :
    (pretuneTx a port s).good L Q := by
  unfold pretuneTx
  dsimp only
  repeat' first
     | with_reducible assumption | with_reducible apply optGood_some | exact optGood_none
     | with_reducible apply ite_optGood | with_reducible apply optGood_bind | with_reducible apply optGood_map
     | with_reducible apply ite_good | with_reducible apply tuneSynIn_good | with_reducible apply putAct_good
     | with_reducible apply gateCount_good | with_reducible apply missed_good | with_reducible apply setChain_good
     | with_reducible apply claimSyn_good | with_reducible apply claimChain_good | with_reducible apply claimRx_good
     | with_reducible apply txRequest_good | with_reducible apply actFrame_good | with_reducible apply takeDesc_good
     | simp only [good_mk] | split | with_reducible refine good_of_eq2 ‹_› ?_
     | with_reducible refine good_of_eq3 ‹_› ?_ | with_reducible refine good_of_eq4 ‹_› ?_
     | with_reducible refine good_of_some ‹_› ?_

theorem claimEngine_good (b : Nat) (c : Claim) (s : State) (hs : s.good L Q) :
    OptGood L Q ((claimEngine b c s)) := by
  unfold claimEngine
  dsimp only
  repeat' first
     | intro _ | with_reducible assumption | with_reducible apply optGood_some | exact optGood_none
     | with_reducible apply ite_optGood | with_reducible apply ite_good | with_reducible apply forAll_good
     | with_reducible apply loseAct_good

theorem claimCal_good (c : Claim) (item x : Nat) (x0 : List Nat) (x1 : State) (hx1 : x1.good L Q) :
    OptGood L Q ((claimCal c item x x0 x1)) := by
  induction x0 generalizing c item x x1 with
  | nil =>
    unfold claimCal
    try dsimp only
    repeat' first
       | intro _ | with_reducible assumption | with_reducible apply optGood_some





  | cons v t ih =>
    unfold claimCal
    try dsimp only
    repeat' first
       | intro _ | with_reducible assumption | with_reducible apply optGood_some | exact optGood_none
       | with_reducible apply ite_optGood | with_reducible apply optGood_bind | with_reducible apply optGood_map
       | with_reducible apply ite_good | with_reducible apply claimSyn_good | with_reducible apply claimLanes_good
       | with_reducible apply claimChain_good | with_reducible apply claimEngine_good | with_reducible apply ih



theorem pretuneCal_good (a : Activ) (s : State) (hs : s.good L Q) :
    (pretuneCal a s).good L Q := by
  unfold pretuneCal
  dsimp only
  repeat' first
     | with_reducible assumption | with_reducible apply optGood_some | exact optGood_none
     | with_reducible apply ite_optGood | with_reducible apply ite_good | with_reducible apply putAct_good
     | with_reducible apply missed_good | with_reducible apply claimCal_good | simp only [good_mk] | split
     | with_reducible refine good_of_eq2 ‹_› ?_ | with_reducible refine good_of_eq3 ‹_› ?_
     | with_reducible refine good_of_eq4 ‹_› ?_ | with_reducible refine good_of_some ‹_› ?_

theorem pretuneRx_good (a : Activ) (s : State) (hs : s.good L Q) :
    (pretuneRx a s).good L Q := by
  unfold pretuneRx
  dsimp only
  repeat' first
     | with_reducible assumption | with_reducible apply optGood_some | exact optGood_none
     | with_reducible apply ite_optGood | with_reducible apply ite_good | with_reducible apply femClaim_good
     | with_reducible apply putAct_good | with_reducible apply missed_good | with_reducible apply claimRx_good
     | simp only [good_mk] | split | with_reducible refine good_of_eq2 ‹_› ?_
     | with_reducible refine good_of_eq3 ‹_› ?_ | with_reducible refine good_of_eq4 ‹_› ?_
     | with_reducible refine good_of_some ‹_› ?_

theorem pretuneTune_good (a : Activ) (s : State) (hs : s.good L Q) :
    (pretuneTune a s).good L Q := by
  unfold pretuneTune
  dsimp only
  repeat' first
     | intro _ | with_reducible assumption | with_reducible apply optGood_some | exact optGood_none
     | with_reducible apply ite_optGood | with_reducible apply optGood_bind | with_reducible apply optGood_map
     | with_reducible apply ite_good | with_reducible apply putAct_good | with_reducible apply missed_good
     | with_reducible apply tunePathsAt_good | with_reducible apply claimSyn_good
     | with_reducible apply claimLanes_good | simp only [good_mk] | split | with_reducible refine good_of_eq2 ‹_› ?_
     | with_reducible refine good_of_eq3 ‹_› ?_ | with_reducible refine good_of_eq4 ‹_› ?_
     | with_reducible refine good_of_some ‹_› ?_

theorem requestMode_good (m : Nat) (by_ : ChangeBy) (s : State) (hs : s.good L Q) :
    (requestMode m by_ s).good L Q := by
  unfold requestMode
  dsimp only
  repeat' first
     | with_reducible assumption | with_reducible apply State.setReg_good | with_reducible apply State.setFld_good
     | simp only [good_mk]

theorem wakeRequest_good (s : State) (hs : s.good L Q) :
    (wakeRequest s).good L Q := by
  unfold wakeRequest
  repeat' first
     | with_reducible assumption | with_reducible apply ite_good | with_reducible apply requestMode_good
     | simp only [good_mk]

theorem judge_good (a : Activ) (s : State) (hs : s.good L Q) :
    (judge a s).good L Q := by
  unfold judge
  dsimp only
  repeat' first
     | with_reducible assumption | with_reducible apply ite_good | with_reducible apply putAct_good
     | with_reducible apply gateCount_good | with_reducible apply missed_good | with_reducible apply pretuneTx_good
     | with_reducible apply pretuneCal_good | with_reducible apply pretuneRx_good
     | with_reducible apply pretuneTune_good | with_reducible apply wakeRequest_good | simp only [good_mk] | split



theorem pretune_good (g i : Nat) (w : List Word) (guard pre : Nat) (s : State) (hs : s.good L Q) :
    (pretune g i w guard pre s).good L Q := by
  unfold pretune
  repeat' first
     | with_reducible assumption | with_reducible apply engSee_good | with_reducible apply dropAct_good
     | with_reducible apply markMade_good | with_reducible apply judge_good

theorem rebank_good (a : Activ) (s : State) (hs : s.good L Q) :
    (rebank a s).good L Q := by
  unfold rebank
  dsimp only
  repeat' first
     | with_reducible assumption | with_reducible apply ite_good | with_reducible apply putAct_good
     | with_reducible apply returnHead_good | with_reducible apply releaseAct_good | with_reducible apply judge_good

theorem fireMark_good (a : Activ) (s : State) (hs : s.good L Q) :
    (fireMark a s).good L Q := by
  unfold fireMark
  dsimp only
  repeat' first
     | with_reducible assumption | with_reducible apply ite_good | with_reducible apply State.setReg_good
     | with_reducible apply State.setMulti_good | with_reducible apply State.setGates_good

theorem openWindow_good (late : Bool) (a : Activ) (s : State) (hs : s.good L Q) :
    (openWindow late a s).good L Q := by
  unfold openWindow
  repeat' first
     | intro _ | with_reducible assumption | with_reducible apply when_good | with_reducible apply femOn_good
     | with_reducible apply putAct_good | with_reducible apply gateCount_good | with_reducible apply fireMark_good


theorem closeWindow_good (a : Activ) (s : State) (hs : s.good L Q) :
    (closeWindow a s).good L Q := by
  unfold closeWindow
  dsimp only
  repeat' first
     | with_reducible assumption | with_reducible apply ite_good | with_reducible apply femClose_good
     | with_reducible apply putAct_good | with_reducible apply gateCount_good | with_reducible apply freeLane_good
     | with_reducible apply releaseAct_good | with_reducible apply closeMissed_good | simp only [good_mk] | split



theorem tuneDone_good (b : Nat) (s : State) (hs : s.good L Q) :
    (tuneDone b s).good L Q := by
  unfold tuneDone
  repeat' first | intro _ | with_reducible assumption | with_reducible apply ite_good | with_reducible apply finishRun_good

theorem chainTune_good (b : Nat) (s : State) (hs : s.good L Q) :
    (chainTune b s).good L Q := by
  unfold chainTune
  try dsimp only
  repeat' first
     | with_reducible assumption | with_reducible apply ite_good | with_reducible apply tuneSynIn_good
     | with_reducible apply setChain_good | simp only [good_mk] | split


theorem synthLock_good (b k : Nat) (s : State) (hs : s.good L Q) :
    (synthLock b k s).good L Q := by
  unfold synthLock
  dsimp only
  repeat' first
     | intro _ | with_reducible assumption | with_reducible apply ite_good | with_reducible apply forAll_good
     | with_reducible apply lockSyn_good | with_reducible apply openWindow_good | with_reducible apply tuneDone_good
     | with_reducible apply chainTune_good

theorem emitEvent_good (a : Activ) (s : State) (hs : s.good L Q) :
    (emitEvent a s).good L Q := by
  unfold emitEvent
  dsimp only
  repeat' first
     | with_reducible assumption | with_reducible apply ite_good | with_reducible apply fire_good
     | with_reducible apply putAct_good | with_reducible apply dropAct_good | with_reducible apply fireMark_good


theorem winLevelEnd_good (a : Activ) (s : State) (hs : s.good L Q) :
    (winLevelEnd a s).good L Q := by
  unfold winLevelEnd
  repeat' first | with_reducible assumption | with_reducible apply dropAct_good

theorem tuneFire_good (a : Activ) (s : State) (hs : s.good L Q) :
    (tuneFire a s).good L Q := by
  unfold tuneFire
  repeat' first
     | with_reducible assumption | with_reducible apply ite_good | with_reducible apply putAct_good
     | with_reducible apply gateCount_good | with_reducible apply releaseAct_good
     | with_reducible apply fireMark_good

theorem wakeApp_good (a : Activ) (s : State) (hs : s.good L Q) :
    (wakeApp a s).good L Q := by
  unfold wakeApp
  repeat' first
     | with_reducible assumption | with_reducible apply fire_good | with_reducible apply dropAct_good
     | with_reducible apply wakeRequest_good | with_reducible apply fireMark_good

theorem dropBackground_good (b : Nat) (s : State) (hs : s.good L Q) :
    (dropBackground b s).good L Q := by
  unfold dropBackground
  dsimp only
  repeat' first
     | with_reducible assumption | with_reducible apply ite_good | with_reducible apply State.setBit_good
     | with_reducible apply State.setBand_good | with_reducible apply calStat_good
     | with_reducible apply leaveSlice_good | simp only [good_mk] | split


theorem sliceStart_good (b : Nat) (c : CalSlice) (s : State) (hs : s.good L Q) :
    (sliceStart b c s).good L Q := by
  unfold sliceStart
  dsimp only
  repeat' first
     | with_reducible assumption | with_reducible apply ite_good | with_reducible apply State.setFld_good
     | with_reducible apply State.setBit_good | with_reducible apply State.setBand_good
     | with_reducible apply dropBackground_good

theorem armPachk_good (b : Nat) (s : State) (hs : s.good L Q) :
    (armPachk b s).good L Q := by
  unfold armPachk
  repeat' first | with_reducible assumption | with_reducible apply State.setBand_good

theorem calFire_good (a : Activ) (s : State) (hs : s.good L Q) :
    (calFire a s).good L Q := by
  unfold calFire
  dsimp only
  repeat' first
     | with_reducible assumption | with_reducible apply ite_good | with_reducible apply putAct_good
     | with_reducible apply releaseAct_good | with_reducible apply fireMark_good
     | with_reducible apply sliceStart_good | with_reducible apply armPachk_good

theorem calSee_good (bk : Bool) (s : State) (hs : s.good L Q) :
    (calSee bk s).good L Q := by
  unfold calSee
  repeat' first | intro _ | with_reducible assumption | with_reducible apply engSee_good

theorem calStart_good (b : Nat) (s : State) (hs : s.good L Q) :
    (calStart b s).good L Q := by
  unfold calStart
  dsimp only
  repeat' first
     | with_reducible assumption | with_reducible apply ite_good | with_reducible apply State.setBand_good
     | with_reducible apply sliceStart_good | with_reducible apply armPachk_good | with_reducible apply calSee_good
     | simp only [good_mk] | split


theorem putTrims_good (b : Nat) (trim : List Word) (s : State) (hs : s.good L Q) :
    (putTrims b trim s).good L Q := by
  unfold putTrims
  try dsimp only
  repeat' first
     | intro _ | with_reducible assumption | with_reducible apply State.setFld_good
     | with_reducible apply forAll_good | simp only [good_mk] | split


theorem sliceResult_good (b : Nat) (c : CalSlice) (last : Bool) (w1 w2 w3 : Word) (trim : List Word) (s : State) (hs : s.good L Q) :
    (sliceResult b c last w1 w2 w3 trim s).good L Q := by
  unfold sliceResult
  dsimp only
  repeat' first
     | intro _ | with_reducible assumption | with_reducible apply ite_good | with_reducible apply State.setFld_good
     | with_reducible apply when_good | with_reducible apply engCal_good | with_reducible apply putTrims_good

theorem sliceDone_good (b : Nat) (ok : Bool) (w1 w2 w3 : Word) (trim : List Word) (s : State) (hs : s.good L Q) :
    (sliceDone b ok w1 w2 w3 trim s).good L Q := by
  unfold sliceDone
  dsimp only
  repeat' first
     | intro _ | with_reducible assumption | with_reducible apply ite_good | with_reducible apply State.setBit_good
     | with_reducible apply act_good | with_reducible apply when_good | with_reducible apply finishRun_good
     | with_reducible apply State.setBand_good | with_reducible apply itemDone_good
     | with_reducible apply calStat_good | with_reducible apply leaveSlice_good
     | with_reducible apply releaseAct_good | with_reducible apply sliceResult_good | simp only [good_mk] | split



theorem dropFrame_good (n : Nat) (s : State) (hs : s.good L Q) :
    (dropFrame n s).good L Q := by
  unfold dropFrame
  repeat' first
     | with_reducible assumption | with_reducible apply ite_good | with_reducible apply reportAbandoned_good
     | with_reducible apply laneIdle_good

theorem fullStart_good (b : Nat) (s : State) (hs : s.good L Q) :
    (fullStart b s).good L Q := by
  unfold fullStart
  dsimp only
  repeat' first
     | intro _ | with_reducible assumption | with_reducible apply ite_good | with_reducible apply State.setBit_good
     | with_reducible apply when_good | with_reducible apply forAll_good | with_reducible apply State.setBand_good
     | with_reducible apply settle_good | with_reducible apply dropBackground_good
     | with_reducible apply dropFrame_good

theorem feEnable_good (b : Nat) (on : Bool) (s : State) (hs : s.good L Q) :
    (feEnable b on s).good L Q := by
  unfold feEnable
  dsimp only
  repeat' first
     | with_reducible assumption | with_reducible apply ite_good | with_reducible apply State.setBit_good
     | with_reducible apply tuneSyn_good

theorem feCtrlWrite_good (b : Nat) (v : Word) (s : State) (hs : s.good L Q) :
    (feCtrlWrite b v s).good L Q := by
  unfold feCtrlWrite
  dsimp only
  repeat' first
     | intro _ | with_reducible assumption | with_reducible apply ite_good | with_reducible apply State.setReg_good
     | with_reducible apply forAll_good | with_reducible apply State.setBand_good
     | with_reducible apply fullStart_good | with_reducible apply feEnable_good

theorem fullEntry_good (b : Nat) (results : List (Nat × List Word)) (sweep iq : Bool) (e : Nat) (s : State) (hs : s.good L Q) :
    (fullEntry b results sweep iq e s).good L Q := by
  unfold fullEntry
  dsimp only
  repeat' first
     | intro _ | with_reducible assumption | with_reducible apply State.drawn_good | with_reducible apply when_good
     | with_reducible apply engCal_good


theorem fullDone_good (b : Nat) (trim : List Word) (results : List (Nat × List Word)) (m : Nat) (s : State) (hs : s.good L Q) :
    (fullDone b trim results m s).good L Q := by
  unfold fullDone
  dsimp only
  repeat' first
     | intro _ | with_reducible assumption | with_reducible apply ite_good | with_reducible apply State.setBit_good
     | with_reducible apply when_good | with_reducible apply forAll_good | with_reducible apply finishRun_good
     | with_reducible apply State.setBand_good | with_reducible apply leaveSyn_good
     | with_reducible apply itemDone_good | with_reducible apply calStat_good | with_reducible apply armPachk_good
     | with_reducible apply putTrims_good | with_reducible apply fullEntry_good


theorem blankLanes_good (b : Nat) (s : State) (hs : s.good L Q) :
    (blankLanes b s).good L Q := by
  unfold blankLanes
  dsimp only
  repeat' first
     | intro _ | with_reducible assumption | with_reducible apply State.setFld_good
     | with_reducible apply forAll_good | with_reducible apply State.setBand_good
     | with_reducible apply loseFrame_good

theorem femTxOn_good (b : Nat) (r : TxReq) (s : State) (hs : s.good L Q) :
    (femTxOn b r s).good L Q := by
  unfold femTxOn
  repeat' first | with_reducible assumption | with_reducible apply State.setBand_good

theorem backToWait_good (b : Nat) (r : TxReq) (s : State) (hs : s.good L Q) :
    (backToWait b r s).good L Q := by
  unfold backToWait
  dsimp only
  repeat' first
     | with_reducible assumption | with_reducible apply State.setBand_good | with_reducible apply femTxUnsent_good
     | with_reducible apply freeLane_good | with_reducible apply setChain_good | simp only [good_mk] | split



theorem rampUp_good (b : Nat) (s : State) (hs : s.good L Q) :
    (rampUp b s).good L Q := by
  unfold rampUp
  dsimp only
  repeat' first
     | with_reducible assumption | with_reducible apply ite_good | with_reducible apply State.setFld_good
     | with_reducible apply dutyAdmit_good | with_reducible apply keepOctets_good
     | with_reducible apply setChain_good | with_reducible apply endUnsent_good | with_reducible apply settle_good
     | with_reducible apply blankLanes_good | with_reducible apply femTxOn_good
     | with_reducible apply backToWait_good | simp only [good_mk] | split


theorem waitingLate_good (b holder : Nat) (s : State) (hs : s.good L Q) : (txLateNow.waitingLate b holder s).good L Q := by
  unfold txLateNow.waitingLate
  dsimp only
  repeat' first
    | with_reducible assumption
    | with_reducible apply ite_good
    | with_reducible apply cmdTxEnd_good
    | with_reducible apply setChain_good
    | with_reducible apply State.setBand_good
    | with_reducible apply State.count_good
    | split

theorem txLateNow_good (b : Nat) (s : State) (hs : s.good L Q) :
    (txLateNow b s).good L Q := by
  unfold txLateNow
  dsimp only
  repeat' first
    | intro _
    | with_reducible assumption
    | with_reducible apply ite_good
    | with_reducible apply waitingLate_good
    | with_reducible apply endUnsent_good
    | with_reducible apply gateCount_good
    | with_reducible apply when_good
    | with_reducible apply State.count_good
    | split

theorem pachkEnd_good (b : Nat) (dev : Bool) (r : TxReq) (s : State) (hs : s.good L Q) :
    (pachkEnd b dev r s).good L Q := by
  unfold pachkEnd
  dsimp only
  repeat' first
     | intro _ | with_reducible assumption | with_reducible apply ite_good | with_reducible apply State.count_good
     | with_reducible apply fire_good | with_reducible apply notice_good | with_reducible apply finishRun_good
     | with_reducible apply State.setBand_good | with_reducible apply itemDone_good
     | with_reducible apply calStat_good

theorem sentFrame_good (b : Nat) (r : TxReq) (s : State) (hs : s.good L Q) :
    (sentFrame b r s).good L Q := by
  unfold sentFrame
  dsimp only
  repeat' first
     | with_reducible assumption | with_reducible apply freeChain_good | with_reducible apply State.setBand_good
     | with_reducible apply countTry_good | with_reducible apply setResult_good | with_reducible apply putAct_good
     | with_reducible apply releaseAct_good | with_reducible apply cmdTxEnd_good | with_reducible apply command_good
     | simp only [good_mk] | split


theorem ackGone_good (r : TxReq) (s : State) (hs : s.good L Q) :
    (ackGone r s).good L Q := by
  unfold ackGone
  repeat' first
     | intro _ | with_reducible assumption | with_reducible apply ite_good | with_reducible apply State.count_good
     | with_reducible apply when_good | with_reducible apply ackSent_good

theorem txEnd_good (b : Nat) (dev : Bool) (s : State) (hs : s.good L Q) :
    (txEnd b dev s).good L Q := by
  unfold txEnd
  dsimp only
  repeat' first
     | with_reducible assumption | with_reducible apply State.count_good | with_reducible apply dropChain_good
     | with_reducible apply pachkEnd_good | with_reducible apply sentFrame_good | with_reducible apply ackGone_good
     | split


theorem haltWaiting_good (b : Nat) (s : State) (hs : s.good L Q) :
    (haltWaiting b s).good L Q := by
  unfold haltWaiting
  dsimp only
  repeat' first
     | intro _ | with_reducible assumption | with_reducible apply forAll_good
     | with_reducible apply State.setBand_good | with_reducible apply setChain_good
     | with_reducible apply cmdTxEnd_good | with_reducible apply command_good | simp only [good_mk] | split



theorem halt_good (b : Nat) (s : State) (hs : s.good L Q) :
    (halt b s).good L Q := by
  unfold halt
  try dsimp only
  repeat' first
     | intro _ | with_reducible assumption | with_reducible apply State.count_good | with_reducible apply when_good
     | with_reducible apply endUnsent_good | with_reducible apply haltWaiting_good | split



theorem ccaDone_good (b : Nat) (mean : Octet) (s : State) (hs : s.good L Q) :
    (ccaDone b mean s).good L Q := by
  unfold ccaDone
  try dsimp only
  repeat' first
     | with_reducible assumption | with_reducible apply ite_good | with_reducible apply State.count_good
     | with_reducible apply freeLane_good | with_reducible apply setChain_good | with_reducible apply endUnsent_good
     | simp only [good_mk] | split


theorem ackLeaves_good (b : Nat) (s : State) (hs : s.good L Q) :
    (ackLeaves b s).good L Q := by
  unfold ackLeaves
  try dsimp only
  repeat' first
     | with_reducible assumption | with_reducible apply State.count_good | with_reducible apply setChain_good
     | simp only [good_mk] | split


theorem femLead_good (b : Nat) (s : State) (hs : s.good L Q) :
    (femLead b s).good L Q := by
  unfold femLead
  dsimp only
  repeat' first
     | intro _ | with_reducible assumption | with_reducible apply ite_good | with_reducible apply femOn_good
     | with_reducible apply femTxOn_good | split


theorem femLag_good (b : Nat) (s : State) (hs : s.good L Q) :
    (femLag b s).good L Q := by
  unfold femLag
  dsimp only
  repeat' first
     | intro _ | with_reducible assumption | with_reducible apply State.setBand_good



theorem onAct_good (g : BitVec 12) (i : BitVec 48) (p : Activ → Bool) (f : Activ → State → State) (s : State) (hf : ∀ (y0 : Activ) (y1 : State), y1.good L Q → (f y0 y1).good L Q) (hs : s.good L Q) :
    OutGood L Q ((onAct g i p f s)) := by
  unfold onAct
  try dsimp only
  repeat' first
     | intro _ | with_reducible assumption | with_reducible apply outGood_next | with_reducible apply ite_outGood
     | with_reducible apply act_good | with_reducible apply hf | split


theorem txFire_good (a : Activ) (s : State) (hs : s.good L Q) :
    (txFire a s).good L Q := by
  unfold txFire
  repeat' first
     | with_reducible assumption | with_reducible apply putAct_good | with_reducible apply fireMark_good

theorem putTm_good (i : Nat) (w0 : Word) (codes : List Nat) (s : State) (hs : s.good L Q) :
    (putTm i w0 codes s).good L Q := by
  unfold putTm
  repeat' first | with_reducible assumption | with_reducible apply engWrite_good | with_reducible apply engWrites_good

theorem reqQueue_good (b : Nat) (r : TxReq) (s : State) (hs : s.good L Q) :
    (reqQueue b r s).good L Q := by
  unfold reqQueue
  dsimp only
  repeat' first
     | with_reducible assumption | with_reducible apply State.setBand_good | with_reducible apply setChain_good


theorem sendFeedback_good (n : Nat) (e : List Octet) (s : State) (hs : s.good L Q) :
    (sendFeedback n e s).good L Q := by
  unfold sendFeedback
  dsimp only
  repeat' first
     | with_reducible assumption | with_reducible apply ite_good | with_reducible apply State.drawn_good
     | with_reducible apply reqQueue_good

theorem computeMap_good (l : List Word) (s : State) (hs : s.good L Q) :
    (computeMap l s).good L Q := by
  unfold computeMap
  dsimp only
  repeat' first
     | intro _ | with_reducible assumption | with_reducible apply ite_good | with_reducible apply State.setLink_good
     | with_reducible apply putTm_good | with_reducible apply sendFeedback_good | simp only [good_mk] | split



theorem tonemapCompute_good (s : State) (hs : s.good L Q) :
    (tonemapCompute s).good L Q := by
  unfold tonemapCompute
  dsimp only
  repeat' first
     | intro _ | with_reducible assumption | with_reducible apply ite_good | with_reducible apply freeChain_good
     | with_reducible apply frameScan_good | with_reducible apply qPop_good | with_reducible apply computeMap_good



theorem tonemapFeedback_good (n : Nat) (e : List Octet) (s : State) (hs : s.good L Q) :
    (tonemapFeedback n e s).good L Q := by
  unfold tonemapFeedback
  dsimp only
  repeat' first
     | intro _ | with_reducible assumption | with_reducible apply ite_good | with_reducible apply State.setLink_good
     | with_reducible apply setNbrFld_good | with_reducible apply unname_good | with_reducible apply retire_good
     | with_reducible apply putTm_good | simp only [good_mk] | split


theorem tmExpire_good (i : Nat) (s : State) (hs : s.good L Q) :
    (tmExpire i s).good L Q := by
  unfold tmExpire
  repeat' first
     | with_reducible assumption | with_reducible apply engWrite_good | with_reducible apply State.setLink_good


theorem reqFrame_good (r : TxReq) (s : State) (hs : s.good L Q) :
    (reqFrame r s).1.2.good L Q := by
  unfold reqFrame
  dsimp only
  repeat' first
     | with_reducible assumption | with_reducible apply ite_good | with_reducible apply ite_good2
     | with_reducible apply buildFrame_good | with_reducible apply buildRecord_good | simp only [good_mk] | split



theorem reqEnd_good (b code : Nat) (r : TxReq) (s : State) (hs : s.good L Q) :
    (reqEnd b code r s).good L Q := by
  unfold reqEnd
  dsimp only
  repeat' first
     | with_reducible assumption | with_reducible apply State.setBand_good | with_reducible apply setChain_good
     | with_reducible apply cmdTxEnd_good | with_reducible apply command_good | simp only [good_mk] | split



theorem reqClaims_good (b port : Nat) (r : TxReq) (x : Built) (dst : Option Nat) (ar : Bool) (s0 s : State) (hs0 : s0.good L Q) (hs : s.good L Q) :
    (reqClaims b port r x dst ar s0 s).good L Q := by
  unfold reqClaims
  dsimp only
  repeat' first
     | with_reducible assumption | with_reducible apply optGood_some | exact optGood_none
     | with_reducible apply ite_optGood | with_reducible apply ite_good | with_reducible apply State.setBand_good
     | with_reducible apply tuneSyn_good | with_reducible apply setChain_good | with_reducible apply preemptUses_good
     | with_reducible apply claimSyn_good | with_reducible apply claimRx_good | with_reducible apply txRequest_good
     | with_reducible apply reqEnd_good | simp only [good_mk] | split | with_reducible refine good_of_eq2 ‹_› ?_
     | with_reducible refine good_of_eq3 ‹_› ?_ | with_reducible refine good_of_eq4 ‹_› ?_
     | with_reducible refine good_of_some ‹_› ?_

theorem reqStart_good (b : Nat) (r : TxReq) (s : State) (hs : s.good L Q) :
    (reqStart b r s).good L Q := by
  unfold reqStart
  dsimp only
  repeat' first
     | with_reducible assumption | with_reducible apply ite_good | with_reducible apply reqFrame_good
     | with_reducible apply reqEnd_good | with_reducible apply reqClaims_good | split



theorem pump_good (b : Nat) (s : State) (hs : s.good L Q) :
    (pump b s).good L Q := by
  unfold pump
  try dsimp only
  repeat' first
     | with_reducible assumption | with_reducible apply reqStart_good | split



theorem reqWait_good (b : Nat) (r : TxReq) (s : State) (hs : s.good L Q) :
    (reqWait b r s).good L Q := by
  unfold reqWait
  repeat' first | with_reducible assumption | with_reducible apply reqQueue_good | with_reducible apply pump_good

theorem soundReq_good (src : TxBy) (n b port prof : Nat) (rec_ : Option Word) (s : State) (hs : s.good L Q) :
    (soundReq src n b port prof rec_ s).good L Q := by
  unfold soundReq
  dsimp only
  repeat' first | with_reducible assumption | with_reducible apply State.drawn_good | with_reducible apply reqWait_good

theorem retryNow_good (b : Nat) (r : TxReq) (s : State) (hs : s.good L Q) :
    (retryNow b r s).good L Q := by
  unfold retryNow
  dsimp only
  repeat' first
     | intro _ | with_reducible assumption | with_reducible apply ite_good | with_reducible apply State.setBand_good
     | with_reducible apply pump_good

theorem State.setRwin_good (s : State) (r : RwinState) (hs : s.good L Q) :
    (State.setRwin s r).good L Q := by
  unfold State.setRwin
  repeat' first | with_reducible assumption | simp only [good_mk]

theorem rwinCount_good (m : Nat) (s : State) (hs : s.good L Q) :
    (rwinCount m s).good L Q := by
  unfold rwinCount
  repeat' first | with_reducible assumption | with_reducible apply State.count_good

theorem firmTakes_good (cq : Nat) (s : State) (hs : s.good L Q) :
    (firmTakes cq s).good L Q := by
  unfold firmTakes
  have h1 := qPop_good cq s hs
  generalize qPop cq s = p at h1 ⊢
  obtain ⟨d, s1⟩ := p
  dsimp only at h1 ⊢
  with_reducible apply ite_good
  · exact h1
  · have h2 := engWords_good s1.firmInit (bufBase (bits d 0 12)) 8 s1 h1
    generalize engWords s1.firmInit (bufBase (bits d 0 12)) 8 s1 = q at h2 ⊢
    obtain ⟨r, s0⟩ := q
    dsimp only at h2 ⊢
    have h3 := frameScan_good s1.firmInit d s0 h2
    generalize frameScan s1.firmInit d s0 = u at h3 ⊢
    with_reducible apply freeChain_good
    split
    · exact finalReply_good _ _ _ _ h3
    · exact h3

theorem keepFirst_good (b : Nat) (s : State) (hs : s.good L Q) :
    (keepFirst b s).good L Q := by
  unfold keepFirst
  dsimp only
  repeat' first
     | with_reducible assumption | with_reducible apply ite_good | with_reducible apply engRead_good
     | with_reducible apply engWrite_good | with_reducible apply freeWalk_good



theorem complete_good (desc : Word) (user status target cq : Nat) (ts : List Word) (opid : Nat) (elem : List Octet) (s : State) (hs : s.good L Q) :
    (complete desc user status target cq ts opid elem s).good L Q := by
  unfold complete
  dsimp only
  repeat' first
     | with_reducible assumption | with_reducible apply when_good | with_reducible apply engWrites_good
     | with_reducible apply hwPush_good | with_reducible apply firmTakes_good | with_reducible apply keepFirst_good

theorem completionLost_good (s : State) (hs : s.good L Q) :
    (completionLost s).good L Q := by
  unfold completionLost
  repeat' first | with_reducible assumption | with_reducible apply fire_good | with_reducible apply rwinCount_good

theorem inject_good (desc : Word) (dest cls : Nat) (noalt : Bool) (s : State) (hs : s.good L Q) :
    (inject desc dest cls noalt s).good L Q := by
  unfold inject
  dsimp only
  repeat' first
     | with_reducible assumption | with_reducible apply ite_good | with_reducible apply engWrites_good
     | with_reducible apply hwPush_good

theorem noteOpid_good (cq user id : Nat) (s : State) (hs : s.good L Q) :
    (noteOpid cq user id s).good L Q := by
  unfold noteOpid
  try dsimp only
  repeat' first
     | with_reducible assumption | with_reducible apply ite_good | with_reducible apply engWrite_good | split



theorem takeRequest_good (s : State) (hs : s.good L Q) :
    (takeRequest s).good L Q := by
  unfold takeRequest
  have h1 := qPop_good (s.fld R.rwinCfg 0 7) s hs
  generalize qPop (s.fld R.rwinCfg 0 7) s = p at h1 ⊢
  obtain ⟨d, s1⟩ := p
  dsimp only at h1 ⊢
  with_reducible apply ite_good
  · exact h1
  · have h2 := engScan_good 10 (inRange (bufBase (bits d 0 12)) 8) s1 h1
    generalize engScan 10 (inRange (bufBase (bits d 0 12)) 8) s1 = q at h2 ⊢
    obtain ⟨bad, s2⟩ := q
    dsimp only at h2 ⊢
    have h3 := frameScan_good 10 d s2 h2
    generalize frameScan 10 d s2 = q at h3 ⊢
    obtain ⟨bad2, s3⟩ := q
    dsimp only at h3 ⊢
    have h4 := State.drawn_good _ h3
    repeat' first
      | with_reducible assumption
      | with_reducible apply ite_good
      | with_reducible apply freeChain_good
      | with_reducible apply rwinCount_good
      | with_reducible apply complete_good
      | with_reducible apply inject_good
      | with_reducible apply engWrite_good
      | with_reducible apply State.setRwin_good
      | with_reducible apply State.setFld_good
      | with_reducible apply noteOpid_good

theorem takeResponse_good (s : State) (hs : s.good L Q) :
    (takeResponse s).good L Q := by
  unfold takeResponse
  dsimp only
  repeat' first
     | intro _ | with_reducible assumption | with_reducible apply freeChain_good
     | with_reducible apply State.setRwin_good | with_reducible apply rwinCount_good
     | with_reducible apply complete_good | simp only [good_mk] | split


theorem slotTimeout_good (y : RwinSlot) (s : State) (hs : s.good L Q) :
    (slotTimeout y s).good L Q := by
  unfold slotTimeout
  dsimp only
  repeat' first
     | with_reducible assumption | with_reducible apply bufAlloc_good | with_reducible apply State.setRwin_good
     | with_reducible apply rwinCount_good | with_reducible apply complete_good
     | with_reducible apply completionLost_good | simp only [good_mk] | split
     | with_reducible refine good_of_eq2 ‹_› ?_


theorem sendResponse_good (x : RwinOp) (e : List Octet) (s : State) (hs : s.good L Q) :
    (sendResponse x e s).good L Q := by
  unfold sendResponse
  dsimp only
  repeat' first
     | with_reducible assumption | with_reducible apply engWrites_good | with_reducible apply keepFirst_good
     | with_reducible apply inject_good

theorem cacheResponse_good (x : RwinOp) (e : List Octet) (s : State) (hs : s.good L Q) :
    (cacheResponse x e s).good L Q := by
  unfold cacheResponse
  repeat' first | intro _ | with_reducible assumption | with_reducible apply State.setRwin_good

theorem respond_good (x : RwinOp) (status count : Nat) (data : List Octet) (s : State) (hs : s.good L Q) :
    (respond x status count data s).good L Q := by
  unfold respond
  dsimp only
  repeat' first
     | with_reducible assumption | with_reducible apply ite_good | with_reducible apply State.count_good
     | with_reducible apply rwinCount_good | with_reducible apply sendResponse_good
     | with_reducible apply cacheResponse_good

theorem earlyCheck_good (x : RwinOp) (s : State) (hs : s.good L Q) :
    OptGood L Q ((earlyCheck x s)) := by
  unfold earlyCheck
  try dsimp only
  repeat' first
     | with_reducible assumption | with_reducible apply optGood_some | exact optGood_none
     | with_reducible apply ite_optGood | with_reducible apply ite_good | with_reducible apply freeChain_good
     | with_reducible apply rwinCount_good | with_reducible apply sendResponse_good
     | with_reducible apply respond_good | split



theorem rwinRead_good  (x0 : Nat) (x1 : Nat) (x2 : State) (hx2 : x2.good L Q) :
    (rwinRead x0 x1 x2).2.2.good L Q := by
  induction x1 generalizing x0 x2 with
  | zero =>
    unfold rwinRead
    try dsimp only
    repeat' first
       | with_reducible assumption


  | succ n ih =>
    unfold rwinRead
    try dsimp only
    repeat' first
       | with_reducible assumption | with_reducible apply engRead_good | with_reducible apply ih | split
       | with_reducible refine good_of_eq2 ‹_› ?_ | with_reducible refine good_of_eq3 ‹_› ?_


theorem setPipe_good (c0 : Bool) (l : List RwinOp) (s : State) (hs : s.good L Q) :
    (setPipe c0 l s).good L Q := by
  unfold setPipe
  repeat' first
     | with_reducible assumption | with_reducible apply ite_good | with_reducible apply State.setRwin_good


theorem setBusy_good (c0 : Bool) (b : Option RwinBusy) (s : State) (hs : s.good L Q) :
    (setBusy c0 b s).good L Q := by
  unfold setBusy
  repeat' first
     | with_reducible assumption | with_reducible apply ite_good | with_reducible apply State.setRwin_good


theorem answerRead_good (x : RwinOp) (count : Nat) (l : List Word) (s : State) (hs : s.good L Q) :
    (answerRead x count l s).good L Q := by
  unfold answerRead
  repeat' first | with_reducible assumption | with_reducible apply State.count_good | with_reducible apply respond_good

theorem oneWord_good (bell : Bool) (db a : Nat) (s : State) (hs : s.good L Q) :
    (oneWord bell db a s).2.2.good L Q := by
  unfold oneWord
  repeat' first
     | with_reducible assumption | with_reducible apply ite_good | with_reducible apply ite_good2
     | with_reducible apply ite_good3 | with_reducible apply engRead_good

theorem rwinStore_good (bell : Bool) (db a : Nat) (l : List Word) (s : State) (hs : s.good L Q) :
    (rwinStore bell db a l s).good L Q := by
  unfold rwinStore
  try dsimp only
  repeat' first
     | with_reducible assumption | with_reducible apply ite_good | with_reducible apply State.setReg_good
     | with_reducible apply fire_good | with_reducible apply engWrites_good | split



theorem rwinTouch_good  (x0 : List Nat) (x1 : State) (hx1 : x1.good L Q) :
    (rwinTouch x0 x1).2.good L Q := by
  induction x0 generalizing x1 with
  | nil =>
    unfold rwinTouch
    try dsimp only
    repeat' first
       | with_reducible assumption


  | cons v t ih =>
    unfold rwinTouch
    try dsimp only
    repeat' first
       | with_reducible assumption | with_reducible apply engRead_good | with_reducible apply ih | split
       | with_reducible refine good_of_eq2 ‹_› ?_ | with_reducible refine good_of_eq3 ‹_› ?_


theorem serve_good (c0 : Bool) (go : RwinOp → Bool → Nat → Nat → State → State) (s : State) (hgo : ∀ (y0 : RwinOp) (y1 : Bool) (y2 : Nat) (y3 : Nat) (y4 : State), y4.good L Q → (go y0 y1 y2 y3 y4).good L Q) (hs : s.good L Q) :
    (serve c0 go s).good L Q := by
  unfold serve
  dsimp only
  repeat' first
     | intro _ | with_reducible assumption | with_reducible apply optGood_some | exact optGood_none
     | with_reducible apply ite_optGood | with_reducible apply respond_good | with_reducible apply earlyCheck_good
     | with_reducible apply setPipe_good | with_reducible apply rwinTouch_good | with_reducible apply hgo | split
     | with_reducible refine good_of_eq2 ‹_› ?_ | with_reducible refine good_of_eq3 ‹_› ?_
     | with_reducible refine good_of_eq4 ‹_› ?_ | with_reducible refine good_of_some ‹_› ?_

theorem wrote_good (c0 : Bool) (x : RwinOp) (bell : Bool) (db a : Nat) (l : List Word) (data : List Octet) (s : State) (hs : s.good L Q) :
    (wrote c0 x bell db a l data s).good L Q := by
  unfold wrote
  repeat' first
     | with_reducible assumption | with_reducible apply ite_good | with_reducible apply setBusy_good
     | with_reducible apply rwinStore_good

theorem goRead_good (x : RwinOp) (bell : Bool) (db a : Nat) (s : State) (hs : s.good L Q) :
    (goRead x bell db a s).good L Q := by
  unfold goRead
  try dsimp only
  repeat' first
     | with_reducible assumption | with_reducible apply ite_good | with_reducible apply respond_good
     | with_reducible apply rwinRead_good | with_reducible apply answerRead_good | split
     | with_reducible refine good_of_eq2 ‹_› ?_ | with_reducible refine good_of_eq3 ‹_› ?_


theorem goWrite_good (c0 : Bool) (x : RwinOp) (bell : Bool) (db a : Nat) (s : State) (hs : s.good L Q) :
    (goWrite c0 x bell db a s).good L Q := by
  unfold goWrite
  repeat' first | with_reducible assumption | with_reducible apply wrote_good

theorem goAdd_good (c0 : Bool) (x : RwinOp) (bell : Bool) (db a : Nat) (s : State) (hs : s.good L Q) :
    (goAdd c0 x bell db a s).good L Q := by
  unfold goAdd
  try dsimp only
  repeat' first
     | with_reducible assumption | with_reducible apply respond_good | with_reducible apply oneWord_good
     | with_reducible apply wrote_good | split | with_reducible refine good_of_eq2 ‹_› ?_
     | with_reducible refine good_of_eq3 ‹_› ?_

theorem goSwap_good (c0 : Bool) (x : RwinOp) (bell : Bool) (db a : Nat) (s : State) (hs : s.good L Q) :
    (goSwap c0 x bell db a s).good L Q := by
  unfold goSwap
  try dsimp only
  repeat' first
     | with_reducible assumption | with_reducible apply ite_good | with_reducible apply respond_good
     | with_reducible apply answerRead_good | with_reducible apply oneWord_good | with_reducible apply wrote_good
     | split | with_reducible refine good_of_eq2 ‹_› ?_ | with_reducible refine good_of_eq3 ‹_› ?_


theorem readBack_good (c0 : Bool) (s : State) (hs : s.good L Q) :
    (readBack c0 s).good L Q := by
  unfold readBack
  dsimp only
  repeat' first
     | intro _ | with_reducible assumption | with_reducible apply ite_good | with_reducible apply engRead_good
     | with_reducible apply finishRun_good | with_reducible apply respond_good | with_reducible apply setBusy_good
     | simp only [good_mk] | split | with_reducible refine good_of_eq2 ‹_› ?_
     | with_reducible refine good_of_eq3 ‹_› ?_

theorem rwinDeliver_good (x : RwinOp) (s : State) (hs : s.good L Q) :
    (rwinDeliver x s).good L Q := by
  unfold rwinDeliver
  dsimp only
  repeat' first
     | with_reducible assumption | with_reducible apply optGood_some | exact optGood_none
     | with_reducible apply ite_optGood | with_reducible apply ite_good | with_reducible apply freeChain_good
     | with_reducible apply State.setRwin_good | with_reducible apply respond_good
     | with_reducible apply earlyCheck_good | with_reducible apply setPipe_good | with_reducible apply rwinTouch_good
     | simp only [good_mk] | split | with_reducible refine good_of_eq2 ‹_› ?_
     | with_reducible refine good_of_eq3 ‹_› ?_ | with_reducible refine good_of_eq4 ‹_› ?_
     | with_reducible refine good_of_some ‹_› ?_

theorem windowCommitWrite_good (v : Word) (s : State) (hs : s.good L Q) :
    (windowCommitWrite v s).good L Q := by
  unfold windowCommitWrite
  dsimp only
  repeat' first
     | intro _ | with_reducible assumption | with_reducible apply ite_good | with_reducible apply plainWrite_good
     | with_reducible apply engWrites_good

theorem rwinTimeout_good (opid : Nat) (s : State) (hs : s.good L Q) :
    (rwinTimeout opid s).good L Q := by
  unfold rwinTimeout
  try dsimp only
  repeat' first
     | intro _ | with_reducible assumption | with_reducible apply slotTimeout_good | split

theorem State.setFwd_good (s : State) (f : FwdState) (hs : s.good L Q) :
    (State.setFwd s f).good L Q := by
  unfold State.setFwd
  repeat' first | with_reducible assumption | simp only [good_mk]

theorem fwdCount_good (m : Nat) (s : State) (hs : s.good L Q) :
    (fwdCount m s).good L Q := by
  unfold fwdCount
  repeat' first | with_reducible assumption | with_reducible apply State.count_good

theorem routeCommitWrite_good (v : Word) (s : State) (hs : s.good L Q) :
    (routeCommitWrite v s).good L Q := by
  unfold routeCommitWrite
  dsimp only
  repeat' first
     | intro _ | with_reducible assumption | with_reducible apply ite_good | with_reducible apply plainWrite_good
     | with_reducible apply engWrites_good

theorem fwdRead_good (f : FwdFrame) (s : State) (hs : s.good L Q) :
    (fwdRead f s).2.good L Q := by
  unfold fwdRead
  dsimp only
  repeat' first
     | with_reducible assumption | with_reducible apply ite_good | with_reducible apply ite_good2
     | with_reducible apply engWords_good | with_reducible apply frameScan_good | simp only [good_mk] | split



theorem hopSee_good (r : List Word) (s : State) (hs : s.good L Q) :
    (hopSee r s).good L Q := by
  unfold hopSee
  dsimp only
  repeat' first | intro _ | with_reducible assumption | with_reducible apply engSee_good

theorem nextHop_good (j : FwdJob) (r : List Word) (s : State) (hs : s.good L Q) :
    (nextHop j r s).2.good L Q := by
  unfold nextHop
  dsimp only
  repeat' first
     | intro _ | with_reducible assumption | with_reducible apply ite_good | with_reducible apply ite_good2
     | with_reducible apply when_good | with_reducible apply fwdCount_good

theorem fwdPush_good (q : Nat) (d : Word) (s : State) (hs : s.good L Q) :
    (fwdPush q d s).good L Q := by
  unfold fwdPush
  repeat' first | with_reducible assumption | with_reducible apply hwPushIf_good

theorem noRoute_good (d : Word) (s : State) (hs : s.good L Q) :
    (noRoute d s).good L Q := by
  unfold noRoute
  repeat' first
     | with_reducible assumption | with_reducible apply ite_good | with_reducible apply freeChain_good
     | with_reducible apply fwdPush_good

theorem noHopNotice_good (d : Nat) (s : State) (hs : s.good L Q) :
    (noHopNotice d s).good L Q := by
  unfold noHopNotice
  dsimp only
  repeat' first
     | intro _ | with_reducible assumption | with_reducible apply ite_good | with_reducible apply fire_good
     | with_reducible apply notice_good | with_reducible apply State.setFwd_good



theorem rewriteChain_good (c : Nat) (x0 : Nat) (x1 : Nat) (x2 : List Word) (x3 : State) (hx3 : x3.good L Q) :
    (rewriteChain c x0 x1 x2 x3).2.good L Q := by
  induction x0 generalizing c x1 x2 x3 with
  | zero =>
    unfold rewriteChain
    try dsimp only
    repeat' first
       | with_reducible assumption




  | succ n ih =>
    unfold rewriteChain
    try dsimp only
    repeat' first
       | with_reducible assumption | with_reducible apply ite_good | with_reducible apply ite_good2
       | with_reducible apply engRead_good | with_reducible apply engWrite_good | with_reducible apply engWrites_good
       | with_reducible apply freeWalk_good | with_reducible apply storeChunks_good | with_reducible apply ih | split
       | with_reducible refine good_of_eq2 ‹_› ?_


theorem sendOn_good (j : FwdJob) (hop : Word) (alt : Bool) (c : Nat) (s : State) (hs : s.good L Q) :
    (sendOn j hop alt c s).good L Q := by
  unfold sendOn
  dsimp only
  repeat' first
     | with_reducible assumption | with_reducible apply ite_good | with_reducible apply freeChain_good
     | with_reducible apply hwPushIf_good | with_reducible apply fwdCount_good
     | with_reducible apply rewriteChain_good | split | with_reducible refine good_of_eq2 ‹_› ?_


theorem fwdDeliver_good (j : FwdJob) (s : State) (hs : s.good L Q) :
    (fwdDeliver j s).good L Q := by
  unfold fwdDeliver
  dsimp only
  repeat' first
     | with_reducible assumption | with_reducible apply ite_good | with_reducible apply rwinDeliver_good
     | with_reducible apply fwdCount_good | with_reducible apply fwdPush_good | simp only [good_mk]

theorem forward_good (j : FwdJob) (s : State) (hs : s.good L Q) :
    (forward j s).good L Q := by
  unfold forward
  dsimp only
  repeat' first
     | with_reducible assumption | with_reducible apply ite_good | with_reducible apply when_good
     | with_reducible apply engSee_good | with_reducible apply freeChain_good | with_reducible apply fwdCount_good
     | with_reducible apply hopSee_good | with_reducible apply nextHop_good | with_reducible apply fwdPush_good
     | with_reducible apply noRoute_good | with_reducible apply noHopNotice_good | with_reducible apply sendOn_good
     | with_reducible apply fwdDeliver_good | split | with_reducible refine good_of_eq2 ‹_› ?_


theorem fwdStep_good (c0 : Bool) (s : State) (hs : s.good L Q) :
    (fwdStep c0 s).good L Q := by
  unfold fwdStep
  repeat' first
     | intro _ | with_reducible assumption | with_reducible apply outGood_next | with_reducible apply ite_outGood
     | with_reducible apply optGood_some | exact optGood_none | with_reducible apply ite_optGood
     | with_reducible apply optGood_bind | with_reducible apply optGood_map | with_reducible apply ite_good
     | with_reducible apply ite_good2 | with_reducible apply ite_good3 | with_reducible apply fwdInject_good
     | with_reducible apply State.setFwd_good | with_reducible apply fwdCount_good
     | with_reducible apply fwdRead_good | with_reducible apply fwdPush_good | with_reducible apply forward_good
     | simp only [good_mk] | simp only [good_raw] | with_reducible apply Good.setWord
     | with_reducible apply Good.setOctet | with_reducible apply Good.clear | with_reducible apply Good.loseLink
     | with_reducible apply State.good.raw | split | with_reducible refine good_of_eq2 ‹_› ?_

theorem gatesStop_good (s : State) (hs : s.good L Q) :
    (gatesStop s).good L Q := by
  unfold gatesStop
  dsimp only
  repeat' first
     | intro _ | with_reducible assumption | with_reducible apply State.setGates_good
     | with_reducible apply releaseEarly_good

theorem gatesReturn_good (t : Nat) (s : State) (hs : s.good L Q) :
    (gatesReturn t s).good L Q := by
  unfold gatesReturn
  dsimp only
  repeat' first
     | intro _ | with_reducible assumption | with_reducible apply ite_good | with_reducible apply State.countBy_good
     | with_reducible apply forAll_good | with_reducible apply State.setGates_good
     | with_reducible apply endCourse_good | with_reducible apply swapDue_good

theorem gateSync_good (s : State) (hs : s.good L Q) :
    (gateSync s).good L Q := by
  unfold gateSync
  dsimp only
  repeat' first
     | with_reducible assumption | with_reducible apply ite_good | with_reducible apply lanesShow_good
     | with_reducible apply gatesStop_good | with_reducible apply gatesReturn_good | split



theorem gatesForward_good (before : Nat) (s : State) (hs : s.good L Q) :
    (gatesForward before s).good L Q := by
  unfold gatesForward
  dsimp only
  repeat' first
     | intro _ | with_reducible assumption | with_reducible apply ite_good | with_reducible apply State.countBy_good
     | with_reducible apply forAll_good | with_reducible apply State.setGates_good
     | with_reducible apply returnHead_good | with_reducible apply releaseAct_good

theorem gatesBackward_good (s : State) (hs : s.good L Q) :
    (gatesBackward s).good L Q := by
  unfold gatesBackward
  dsimp only
  repeat' first
     | intro _ | with_reducible assumption | with_reducible apply ite_good | with_reducible apply forAll_good
     | with_reducible apply State.setGates_good | with_reducible apply gateCount_good
     | with_reducible apply returnHead_good | with_reducible apply releaseAct_good

theorem applyStep_good (s : State) (hs : s.good L Q) :
    (applyStep s).good L Q := by
  unfold applyStep
  dsimp only
  repeat' first
     | intro _ | with_reducible assumption | with_reducible apply ite_good | with_reducible apply State.setFld_good
     | with_reducible apply fire_good | with_reducible apply notice_good | with_reducible apply State.setMt_good
     | with_reducible apply evalComparesAtStep_good | with_reducible apply bucketSync_good
     | with_reducible apply State.setGates_good | with_reducible apply gatesForward_good
     | with_reducible apply gatesBackward_good

theorem boundary_good (s : State) (hs : s.good L Q) :
    (boundary s).good L Q := by
  unfold boundary
  repeat' first
     | with_reducible assumption | with_reducible apply ite_good | with_reducible apply evalCompares_good
     | with_reducible apply applyStep_good

theorem lfTick_good (s : State) (hs : s.good L Q) :
    (lfTick s).good L Q := by
  unfold lfTick
  repeat' first
     | with_reducible assumption | with_reducible apply lfTickCore_good | with_reducible apply walkTick_good
     | with_reducible apply boundary_good

theorem bridgeExit_good (s : State) (hs : s.good L Q) :
    (bridgeExit s).good L Q := by
  unfold bridgeExit
  dsimp only
  repeat' first
     | with_reducible assumption | with_reducible apply ite_good | with_reducible apply State.setBit_good
     | with_reducible apply State.setMt_good | with_reducible apply addUncert_good | with_reducible apply lfEdge_good
     | with_reducible apply lfPause_good | with_reducible apply lfTick_good

theorem tuneWatch_good (s : State) (hs : s.good L Q) :
    (tuneWatch s).good L Q := by
  unfold tuneWatch
  repeat' first | intro _ | with_reducible assumption | with_reducible apply ite_good | with_reducible apply finishRun_good

theorem testEnd_good (e : SelfTest) (s : State) (hs : s.good L Q) :
    (testEnd e s).good L Q := by
  unfold testEnd
  dsimp only
  repeat' first
     | with_reducible assumption | with_reducible apply State.drawn_good | with_reducible apply State.setCmdp_good
     | with_reducible apply finalReply_good

theorem testWatch_good (s : State) (hs : s.good L Q) :
    (testWatch s).good L Q := by
  unfold testWatch
  repeat' first | intro _ | with_reducible assumption | with_reducible apply forAll_good | with_reducible apply testEnd_good

theorem tick_good (s : State) (hs : s.good L Q) :
    (tick s).good L Q := by
  unfold tick
  dsimp only
  repeat' first
     | intro _ | with_reducible assumption | with_reducible apply when_good | with_reducible apply State.setMt_good
     | with_reducible apply slewTick_good | with_reducible apply growTick_good | with_reducible apply bucketSync_good
     | with_reducible apply walkTick_good | with_reducible apply slewWatch_good | with_reducible apply pump_good
     | with_reducible apply boundary_good | with_reducible apply tuneWatch_good | with_reducible apply testWatch_good

end Sys2Proof.Machine
end

