-- ==== Sys2Proof/Laws/GoodCore.lean ====
section
/-! SUPPORT. The invariant of Laws/Good.lean over every operation of the cores: operands, exceptions and the register instructions: one lemma per operation, named after it with `_good`. -/
namespace Sys2Proof.Machine

open Sys2Proof

variable {L : Nat} {Q : List Instr}

theorem svcAnswer_good (k : Fin 4) (status : Nat) (s : State) (hs : s.good L Q) :
    (svcAnswer k status s).good L Q := by
  unfold svcAnswer
  dsimp only
  repeat' first | with_reducible assumption | with_reducible apply State.setCore_good

theorem svcReturn_good (k : Fin 4) (status : Nat) (s : State) (hs : s.good L Q) :
    (svcReturn k status s).good L Q := by
  unfold svcReturn
  dsimp only
  repeat' first
     | with_reducible assumption | with_reducible apply State.setCore_good | with_reducible apply svcAnswer_good


theorem svcPoll_good (k : Fin 4) (s : State) (hs : s.good L Q) :
    (svcPoll k s).good L Q := by
  unfold svcPoll
  dsimp only
  repeat' first
     | intro _ | with_reducible assumption | with_reducible apply ite_good | with_reducible apply svcReturn_good
     | simp only [good_mk] | split


theorem raise_good (k : Fin 4) (code arg : Nat) (fetch : Bool) (xval : Word) (s : State) (hs : s.good L Q) :
    (raise k code arg fetch xval s).good L Q := by
  unfold raise
  dsimp only
  repeat' first | with_reducible assumption | with_reducible apply State.setCore_good

theorem nextPc_good (k : Fin 4) (s : State) (hs : s.good L Q) :
    (nextPc k s).good L Q := by
  unfold nextPc
  repeat' first | with_reducible assumption | with_reducible apply State.setCore_good

theorem dropLine_good (k : Fin 4) (line : Nat) (s : State) (hs : s.good L Q) :
    (dropLine k line s).good L Q := by
  unfold dropLine
  repeat' first | intro _ | with_reducible assumption | with_reducible apply State.setCore_good

theorem writeBack_good (k : Fin 4) (l : CLine) (s : State) (hs : s.good L Q) :
    (writeBack k l s).2.good L Q := by
  unfold writeBack
  dsimp only
  repeat' first
     | intro _ | with_reducible assumption | with_reducible apply ite_good | with_reducible apply ite_good2
     | with_reducible apply forAll_good | with_reducible apply State.setCore_good
     | with_reducible apply memWrite_good | with_reducible apply dropLine_good | simp only [good_mk]
     | simp only [good_raw] | with_reducible apply Good.setWord | with_reducible apply Good.setOctet
     | with_reducible apply Good.clear | with_reducible apply Good.loseLink | with_reducible apply State.good.raw
     | split


theorem cleanLines_good (k : Fin 4) (x0 : List CLine) (x1 : State) (hx1 : x1.good L Q) :
    (cleanLines k x0 x1).2.good L Q := by
  induction x0 generalizing k x1 with
  | nil =>
    unfold cleanLines
    try dsimp only
    repeat' first
       | with_reducible assumption


  | cons v t ih =>
    unfold cleanLines
    try dsimp only
    repeat' first
       | with_reducible assumption | with_reducible apply writeBack_good | with_reducible apply ih | split
       | with_reducible refine good_of_eq2 ‹_› ?_


theorem cleanCore_good (k : Fin 4) (s : State) (hs : s.good L Q) :
    (cleanCore k s).2.good L Q := by
  unfold cleanCore
  repeat' first | with_reducible assumption | with_reducible apply cleanLines_good

theorem icAlloc_good (line : Nat) (k : Fin 4) (s : State) (hs : s.good L Q) :
    (icAlloc line k s).good L Q := by
  unfold icAlloc
  dsimp only
  repeat' first
     | intro _ | with_reducible assumption | with_reducible apply ite_good | with_reducible apply State.drawn_good
     | with_reducible apply State.setCore_good

theorem fetch_good (k : Fin 4) (s : State) (hs : s.good L Q) :
    (fetch k s).2.good L Q := by
  unfold fetch
  dsimp only
  repeat' first
     | intro _ | with_reducible assumption | with_reducible apply ite_good | with_reducible apply ite_good2
     | with_reducible apply memRead_good | with_reducible apply icAlloc_good | split



theorem resume_good (k : Fin 4) (s : State) (hs : s.good L Q) :
    (resume k s).good L Q := by
  unfold resume
  dsimp only
  repeat' first | with_reducible assumption | with_reducible apply State.setCore_good | simp only [good_mk]

theorem coreStep_good (k : Fin 4) (word : Word) (legal priv : Bool) (body : State → State) (s : State) (hbody : ∀ (y0 : State), y0.good L Q → (body y0).good L Q) (hs : s.good L Q) :
    (coreStep k word legal priv body s).good L Q := by
  unfold coreStep
  dsimp only
  repeat' first
     | intro _ | with_reducible assumption | with_reducible apply ite_good | with_reducible apply raise_good
     | with_reducible apply fetch_good | with_reducible apply resume_good | with_reducible apply hbody



theorem coreInstr_good (k : Fin 4) (word : Word) (legal priv : Bool) (body : State → State) (s : State) (hbody : ∀ (y0 : State), y0.good L Q → (body y0).good L Q) (hs : s.good L Q) :
    OutGood L Q ((coreInstr k word legal priv body s)) := by
  unfold coreInstr
  repeat' first
     | intro _ | with_reducible assumption | with_reducible apply outGood_next | with_reducible apply ite_outGood
     | with_reducible apply act_good | with_reducible apply coreStep_good | with_reducible apply hbody

theorem putReg_good (k : Fin 4) (d : BitVec 4) (v : Word) (s : State) (hs : s.good L Q) :
    (putReg k d v s).good L Q := by
  unfold putReg
  repeat' first | with_reducible assumption | with_reducible apply State.setCore_good | with_reducible apply nextPc_good

theorem jumpTo_good (k : Fin 4) (t : Word) (s : State) (hs : s.good L Q) :
    (jumpTo k t s).good L Q := by
  unfold jumpTo
  repeat' first | with_reducible assumption | with_reducible apply State.setCore_good

theorem watch_good (k : Fin 4) (a : Nat) (data : Word) (write : Bool) (reason : Nat) (s : State) (hs : s.good L Q) :
    (watch k a data write reason s).good L Q := by
  unfold watch
  dsimp only
  repeat' first
     | intro _ | with_reducible assumption | with_reducible apply ite_good | with_reducible apply State.setReg_good
     | with_reducible apply State.setBit_good | split


theorem takeInput_good (k : Fin 4) (n : Nat) (s : State) (hs : s.good L Q) :
    (takeInput k n s).good L Q := by
  unfold takeInput
  dsimp only
  repeat' first | with_reducible assumption | with_reducible apply State.setBit_good | with_reducible apply State.setCore_good

theorem setpendWrite_good (k : Nat) (v : Word) (s : State) (hs : s.good L Q) :
    (setpendWrite k v s).good L Q := by
  unfold setpendWrite
  dsimp only
  repeat' first
     | with_reducible assumption | with_reducible apply ite_good | with_reducible apply pendIn_good | split



theorem wdCountRead_good (k : Fin 4) (s : State) (hs : s.good L Q) :
    (wdCountRead k s).2.good L Q := by
  unfold wdCountRead
  dsimp only
  repeat' first
     | with_reducible assumption | with_reducible apply ite_good | with_reducible apply ite_good2
     | with_reducible apply State.setFld_good | with_reducible apply State.drawn_good

theorem wdWarn_good (k : Nat) (s : State) (hs : s.good L Q) :
    (wdWarn k s).good L Q := by
  unfold wdWarn
  repeat' first
     | with_reducible assumption | with_reducible apply State.setFld_good | with_reducible apply State.setBit_good
     | with_reducible apply fire_good

theorem wdCfgWrite_good (k : Nat) (v : Word) (s : State) (hs : s.good L Q) :
    (wdCfgWrite k v s).good L Q := by
  unfold wdCfgWrite
  dsimp only
  repeat' first
     | with_reducible assumption | with_reducible apply ite_good | with_reducible apply State.setFld_good
     | with_reducible apply plainWrite_good

theorem dbgHalt_good (v : Word) (s : State) (hs : s.good L Q) :
    (dbgHalt v s).good L Q := by
  unfold dbgHalt
  repeat' first
     | intro _ | with_reducible assumption | with_reducible apply ite_good | with_reducible apply State.setBit_good
     | with_reducible apply forAll_good

theorem dbgStep_good (v : Word) (s : State) (hs : s.good L Q) :
    (dbgStep v s).good L Q := by
  unfold dbgStep
  repeat' first
     | intro _ | with_reducible assumption | with_reducible apply ite_good | with_reducible apply forAll_good
     | simp only [good_mk]

theorem dbgResume_good (v : Word) (s : State) (hs : s.good L Q) :
    (dbgResume v s).good L Q := by
  unfold dbgResume
  repeat' first
     | intro _ | with_reducible assumption | with_reducible apply ite_good | with_reducible apply State.setBit_good
     | with_reducible apply forAll_good

theorem aluR_good (k : Fin 4) (d a b : BitVec 4) (func : Nat) (legal : Bool) (f : Word → Word → Word) (s : State) (hs : s.good L Q) :
    OutGood L Q ((aluR k d a b func legal f s)) := by
  unfold aluR
  repeat' first
     | intro _ | with_reducible assumption | with_reducible apply outGood_next | with_reducible apply ite_outGood
     | with_reducible apply coreInstr_good | with_reducible apply putReg_good

theorem aluI_good (k : Fin 4) (major : Nat) (d a : BitVec 4) (imm : BitVec 10) (legal : Bool) (f : Word → Word) (s : State) (hs : s.good L Q) :
    OutGood L Q ((aluI k major d a imm legal f s)) := by
  unfold aluI
  repeat' first
     | intro _ | with_reducible assumption | with_reducible apply outGood_next | with_reducible apply ite_outGood
     | with_reducible apply coreInstr_good | with_reducible apply putReg_good

theorem aluU_good (k : Fin 4) (major : Nat) (d : BitVec 4) (imm : BitVec 14) (f : Word → Word) (s : State) (hs : s.good L Q) :
    OutGood L Q ((aluU k major d imm f s)) := by
  unfold aluU
  repeat' first
     | intro _ | with_reducible assumption | with_reducible apply outGood_next | with_reducible apply ite_outGood
     | with_reducible apply coreInstr_good | with_reducible apply putReg_good

theorem mulR_good (k : Fin 4) (major : Nat) (d a b : BitVec 4) (func : Nat) (legal : Bool) (f : Word → Word → Word) (s : State) (hs : s.good L Q) :
    OutGood L Q ((mulR k major d a b func legal f s)) := by
  unfold mulR
  repeat' first
     | intro _ | with_reducible assumption | with_reducible apply outGood_next | with_reducible apply ite_outGood
     | with_reducible apply coreInstr_good | with_reducible apply putReg_good

theorem mulPair_good (k : Fin 4) (major : Nat) (d a b : BitVec 4) (func : Nat) (legal : Bool) (f : Core → Word × Word) (s : State) (hs : s.good L Q) :
    OutGood L Q ((mulPair k major d a b func legal f s)) := by
  unfold mulPair
  repeat' first
     | intro _ | with_reducible assumption | with_reducible apply outGood_next | with_reducible apply ite_outGood
     | with_reducible apply State.setCore_good | with_reducible apply nextPc_good
     | with_reducible apply coreInstr_good

theorem accI_good (k : Fin 4) (major : Nat) (d a b : BitVec 4) (func : Nat) (legal : Bool) (f : Int → Word → Word → Int)
    (s : State) (hs : s.good L Q) :
    OutGood L Q ((accI k major d a b func legal f s)) := by
  unfold accI
  dsimp only
  repeat' first
     | intro _ | with_reducible assumption | with_reducible apply outGood_next | with_reducible apply ite_outGood
     | with_reducible apply State.setCore_good | with_reducible apply nextPc_good
     | with_reducible apply coreInstr_good

theorem branch_good (k : Fin 4) (major : Nat) (a b : BitVec 4) (off : BitVec 10) (take : Word → Word → Bool) (s : State) (hs : s.good L Q) :
    OutGood L Q ((branch k major a b off take s)) := by
  unfold branch
  dsimp only
  repeat' first
     | intro _ | with_reducible assumption | with_reducible apply outGood_next | with_reducible apply ite_outGood
     | with_reducible apply ite_good | with_reducible apply nextPc_good | with_reducible apply coreInstr_good
     | with_reducible apply jumpTo_good

theorem sysRead_good (k : Fin 4) (n : Nat) (s : State) (hs : s.good L Q) :
    (sysRead k n s).2.good L Q := by
  unfold sysRead
  dsimp only
  repeat' first
     | with_reducible assumption | with_reducible apply ite_good | with_reducible apply ite_good2
     | with_reducible apply State.drawn_good | with_reducible apply State.setCore_good

end Sys2Proof.Machine
end

