-- ==== Sys2Proof/Laws/GoodSys.lean ====
section
/-! SUPPORT. The invariant of Laws/Good.lean over every operation of flash services, power, aborts and resets: one lemma per operation, named after it with `_good`. -/
namespace Sys2Proof.Machine

open Sys2Proof

variable {L : Nat} {Q : List Instr}

theorem State.setFlash_good (s : State) (f : FlashState) (hs : s.good L Q) :
    (State.setFlash s f).good L Q := by
  unfold State.setFlash
  repeat' first | with_reducible assumption | simp only [good_mk]

theorem State.setStage_good (s : State) (g : StageState) (hs : s.good L Q) :
    (State.setStage s g).good L Q := by
  unfold State.setStage
  repeat' first | with_reducible assumption | simp only [good_mk]

theorem faultShow_good (s : State) (hs : s.good L Q) :
    (faultShow s).good L Q := by
  unfold faultShow
  dsimp only
  repeat' first
     | with_reducible assumption | with_reducible apply State.setBit_good | with_reducible apply when_good
     | with_reducible apply noticeFault_good

theorem imageSee_good (base : Nat) (s : State) (hs : s.good L Q) :
    (imageSee base s).2.good L Q := by
  unfold imageSee
  repeat' first | with_reducible assumption | with_reducible apply flashSee_good

theorem journalPut_good (k : JKind) (s : State) (hs : s.good L Q) :
    (journalPut k s).good L Q := by
  unfold journalPut
  dsimp only
  repeat' first
     | with_reducible assumption | with_reducible apply ite_good | with_reducible apply State.setFlash_good


theorem copyMark_good (c : Option (Nat × Bool × Nat)) (s : State) (hs : s.good L Q) :
    (copyMark c s).good L Q := by
  unfold copyMark
  repeat' first | with_reducible assumption | simp only [good_mk]

theorem stageTo_good (n : Nat) (s : State) (hs : s.good L Q) :
    (stageTo n s).good L Q := by
  unfold stageTo
  dsimp only
  repeat' first
     | intro _ | with_reducible assumption | with_reducible apply when_good
     | with_reducible apply State.setStage_good | with_reducible apply journalPut_good | simp only [good_mk]

theorem intrShow_good (s : State) (hs : s.good L Q) :
    (intrShow s).good L Q := by
  unfold intrShow
  dsimp only
  repeat' first | intro _ | with_reducible assumption | with_reducible apply ite_good | with_reducible apply State.setReg_good

theorem markSector_good (n : Nat) (s : State) (hs : s.good L Q) :
    (markSector n s).good L Q := by
  unfold markSector
  repeat' first
     | with_reducible assumption | with_reducible apply ite_good | with_reducible apply State.setFlash_good
     | with_reducible apply journalPut_good | with_reducible apply intrShow_good

theorem flashStart_good (kind addr : Nat) (data : List Word) (autosusp : Bool) (by_ : FlashBy) (s : State) (hs : s.good L Q) :
    (flashStart kind addr data autosusp by_ s).good L Q := by
  unfold flashStart
  dsimp only
  repeat' first
     | intro _ | with_reducible assumption | with_reducible apply ite_good | with_reducible apply State.setReg_good
     | with_reducible apply forAll_good | with_reducible apply State.setFlash_good

theorem cleanErrs_good (p : Nat → Bool) (s : State) (hs : s.good L Q) :
    (cleanErrs p s).good L Q := by
  unfold cleanErrs
  repeat' first | intro _ | with_reducible assumption | with_reducible apply State.setFlash_good

theorem putLine_good (a : Nat) (l : List Word) (s : State) (hs : s.good L Q) :
    (putLine a l s).good L Q := by
  unfold putLine
  exact cleanErrs_good _ _ (Good.setWords _ _ _ hs)

theorem eraseCells_good (n : Nat) (s : State) (hs : s.good L Q) :
    (eraseCells n s).good L Q := by
  unfold eraseCells
  have h := when_good (L := L) (Q := Q) (s.flash.marks.contains n) (journalPut (.unmark n)) _ (fun y hy => journalPut_good _ _ hy)
    (cleanErrs_good (inRange (sectorBase n) 0x1000) s hs)
  exact intrShow_good _ (Good.clear _ _ h)

theorem flashEffect_good (o : FlashOp) (s : State) (hs : s.good L Q) :
    (flashEffect o s).good L Q := by
  unfold flashEffect
  dsimp only
  repeat' first
     | intro _ | with_reducible assumption | with_reducible apply putLine_good | with_reducible apply eraseCells_good
     | split


theorem flashSpoil_good (o : FlashOp) (s : State) (hs : s.good L Q) :
    (flashSpoil o s).good L Q := by
  unfold flashSpoil
  dsimp only
  repeat' first
     | with_reducible assumption | with_reducible apply State.setFlash_good | simp only [good_mk] | split



theorem pulseEnd_good (ok : Bool) (s : State) (hs : s.good L Q) :
    (pulseEnd ok s).good L Q := by
  unfold pulseEnd
  dsimp only
  repeat' first
     | with_reducible assumption | with_reducible apply ite_good | with_reducible apply State.setFld_good
     | with_reducible apply State.setBit_good | with_reducible apply State.setFlash_good
     | with_reducible apply flashEffect_good | with_reducible apply flashSpoil_good | simp only [good_mk] | split



theorem dbgLand_good (s : State) (hs : s.good L Q) :
    (dbgLand s).good L Q := by
  unfold dbgLand
  dsimp only
  repeat' first
     | with_reducible assumption | with_reducible apply ite_good | with_reducible apply memRead_good
     | simp only [good_mk] | simp only [good_raw] | with_reducible apply Good.setWord
     | with_reducible apply Good.setOctet | with_reducible apply Good.clear | with_reducible apply Good.loseLink
     | with_reducible apply State.good.raw | split


theorem suspend_good (how : Nat) (s : State) (hs : s.good L Q) :
    (suspend how s).good L Q := by
  unfold suspend
  repeat' first
     | with_reducible assumption | with_reducible apply State.setBit_good | with_reducible apply State.setFlash_good
     | with_reducible apply dbgLand_good

theorem unsuspend_good (s : State) (hs : s.good L Q) :
    (unsuspend s).good L Q := by
  unfold unsuspend
  repeat' first
     | with_reducible assumption | with_reducible apply State.setBit_good | with_reducible apply State.setFlash_good


theorem stageReply_good (r status : Nat) (res : List Octet) (s : State) (hs : s.good L Q) :
    (stageReply r status res s).good L Q := by
  unfold stageReply
  repeat' first
     | with_reducible assumption | with_reducible apply finalReply_good | with_reducible apply State.setStage_good


theorem jobNext_good (j : StageJob) (s : State) (hs : s.good L Q) :
    (jobNext j s).good L Q := by
  unfold jobNext
  repeat' first
     | with_reducible assumption | with_reducible apply engWrite_good | with_reducible apply State.setStage_good


theorem countLine_good (i : Nat) (s : State) (hs : s.good L Q) :
    (countLine i s).good L Q := by
  unfold countLine
  repeat' first
     | with_reducible assumption | with_reducible apply ite_good | with_reducible apply State.setStage_good


theorem stageGo_good  (x0 : Nat) (x1 : State) (hx1 : x1.good L Q) :
    (stageGo x0 x1).good L Q := by
  induction x0 generalizing x1 with
  | zero =>
    unfold stageGo
    try dsimp only
    repeat' first
       | with_reducible assumption





  | succ n ih =>
    unfold stageGo
    try dsimp only
    repeat' first
       | with_reducible assumption | with_reducible apply ite_good | with_reducible apply State.count_good
       | with_reducible apply flashSee_good | with_reducible apply State.setStage_good
       | with_reducible apply stageTo_good | with_reducible apply flashStart_good
       | with_reducible apply stageReply_good | with_reducible apply jobNext_good | with_reducible apply countLine_good
       | with_reducible apply ih | simp only [good_mk] | split


theorem stageDone_good (res : Nat) (s : State) (hs : s.good L Q) :
    (stageDone res s).good L Q := by
  unfold stageDone
  dsimp only
  repeat' first
     | with_reducible assumption | with_reducible apply ite_good | with_reducible apply State.setStage_good
     | with_reducible apply stageTo_good | with_reducible apply stageReply_good | with_reducible apply jobNext_good
     | with_reducible apply countLine_good | with_reducible apply stageGo_good | simp only [good_mk] | split



theorem setCopy_good (c : Option CopyJob) (s : State) (hs : s.good L Q) :
    (setCopy c s).good L Q := by
  unfold setCopy
  repeat' first | with_reducible assumption | with_reducible apply State.setStage_good

theorem noteCopy_good (c : CopyJob) (s : State) (hs : s.good L Q) :
    (noteCopy c s).good L Q := by
  unfold noteCopy
  repeat' first | with_reducible assumption | with_reducible apply copyMark_good | with_reducible apply setCopy_good

theorem eraseSector_good (c : CopyJob) (s : State) (hs : s.good L Q) :
    (eraseSector c s).good L Q := by
  unfold eraseSector
  repeat' first
     | with_reducible assumption | with_reducible apply journalPut_good | with_reducible apply flashStart_good
     | with_reducible apply noteCopy_good

theorem copyGo_good  (x0 : Nat) (x1 : State) (hx1 : x1.good L Q) :
    (copyGo x0 x1).good L Q := by
  induction x0 generalizing x1 with
  | zero =>
    unfold copyGo
    try dsimp only
    repeat' first
       | with_reducible assumption




  | succ n ih =>
    unfold copyGo
    try dsimp only
    repeat' first
       | with_reducible assumption | with_reducible apply ite_good | with_reducible apply flashSee_good
       | with_reducible apply journalPut_good | with_reducible apply flashStart_good
       | with_reducible apply setCopy_good | with_reducible apply noteCopy_good | with_reducible apply eraseSector_good
       | with_reducible apply ih | simp only [good_mk] | split


theorem copyDone_good (kind res : Nat) (s : State) (hs : s.good L Q) :
    (copyDone kind res s).good L Q := by
  unfold copyDone
  dsimp only
  repeat' first
     | with_reducible assumption | with_reducible apply ite_good | with_reducible apply noteCopy_good
     | with_reducible apply copyGo_good | simp only [good_mk] | split


theorem stageEvent_good (ev : Nat) (s : State) (hs : s.good L Q) :
    (stageEvent ev s).good L Q := by
  unfold stageEvent
  repeat' first | with_reducible assumption | with_reducible apply notice_good

theorem startCores_good (s : State) (hs : s.good L Q) :
    (startCores s).good L Q := by
  unfold startCores
  dsimp only
  repeat' first
     | intro _ | with_reducible assumption | with_reducible apply State.setBit_good
     | with_reducible apply forAll_good | with_reducible apply State.setCore_good
     | with_reducible apply State.setFlash_good

theorem holdApp_good (s : State) (hs : s.good L Q) :
    (holdApp s).good L Q := by
  unfold holdApp
  repeat' first | with_reducible assumption | with_reducible apply State.setBit_good | with_reducible apply faultShow_good

theorem bootApp_good (s : State) (hs : s.good L Q) :
    (bootApp s).good L Q := by
  unfold bootApp
  dsimp only
  repeat' first
     | with_reducible assumption | with_reducible apply ite_good | with_reducible apply imageSee_good
     | with_reducible apply startCores_good | with_reducible apply holdApp_good



theorem copyFrom_good (fails : Nat) (s : State) (hs : s.good L Q) :
    (copyFrom fails s).good L Q := by
  unfold copyFrom
  repeat' first
     | with_reducible assumption | with_reducible apply journalPut_good | with_reducible apply noteCopy_good


theorem bootCheck_good (s : State) (hs : s.good L Q) :
    (bootCheck s).good L Q := by
  unfold bootCheck
  dsimp only
  repeat' first
     | with_reducible assumption | with_reducible apply ite_good | with_reducible apply State.setBit_good
     | with_reducible apply State.setStage_good | with_reducible apply stageTo_good
     | with_reducible apply setCopy_good | with_reducible apply copyGo_good | with_reducible apply stageEvent_good
     | with_reducible apply bootApp_good | with_reducible apply copyFrom_good | simp only [good_mk] | split



theorem copyEnd_good (c : CopyJob) (s0 : State) (hs0 : s0.good L Q) :
    (copyEnd c s0).good L Q := by
  unfold copyEnd
  dsimp only
  have h := imageSee_good (slotBase (s0.imageType stageBase)) s0 hs0
  generalize imageSee (slotBase (s0.imageType stageBase)) s0 = p at h ⊢
  obtain ⟨bad, s⟩ := p
  dsimp only at h ⊢
  with_reducible apply ite_good
  · with_reducible apply startCores_good
    with_reducible apply stageEvent_good
    with_reducible apply stageTo_good
    with_reducible apply journalPut_good
    with_reducible apply copyMark_good
    with_reducible apply State.setStage_good
    exact Good.otp rfl h
  · with_reducible apply ite_good
    · with_reducible apply copyGo_good
      with_reducible apply copyFrom_good
      exact h
    · with_reducible apply holdApp_good
      with_reducible apply stageTo_good
      with_reducible apply copyMark_good
      with_reducible apply State.setStage_good
      exact h

theorem giveStatus_good (k : Fin 4) (st : Nat) (s : State) (hs : s.good L Q) :
    (giveStatus k st s).good L Q := by
  unfold giveStatus
  repeat' first
     | with_reducible assumption | with_reducible apply ite_good | with_reducible apply svcReturn_good
     | with_reducible apply State.setFlash_good

theorem fcDrop_good (o : FlashOp) (s : State) (hs : s.good L Q) :
    (fcDrop o s).good L Q := by
  unfold fcDrop
  dsimp only
  repeat' first
     | intro _ | with_reducible assumption | with_reducible apply ite_good | with_reducible apply State.setFlash_good


theorem orphan_good (b : FlashBy) (s : State) (hs : s.good L Q) :
    (orphan b s).good L Q := by
  unfold orphan
  dsimp only
  repeat' first
     | with_reducible assumption | with_reducible apply ite_good | with_reducible apply State.setFlash_good
     | simp only [good_mk] | split


theorem disownCopy_good (s : State) (hs : s.good L Q) :
    (disownCopy s).good L Q := by
  unfold disownCopy
  repeat' first | with_reducible assumption | with_reducible apply orphan_good

theorem flashNext_good (s : State) (hs : s.good L Q) :
    (flashNext s).good L Q := by
  unfold flashNext
  repeat' first
     | with_reducible assumption | with_reducible apply ite_good | with_reducible apply stageGo_good
     | with_reducible apply copyGo_good

theorem flashEnd_good (res : Nat) (s : State) (hs : s.good L Q) :
    (flashEnd res s).good L Q := by
  unfold flashEnd
  dsimp only
  repeat' first
     | intro _ | with_reducible assumption | with_reducible apply ite_good | with_reducible apply State.setReg_good
     | with_reducible apply when_good | with_reducible apply forAll_good | with_reducible apply fire_good
     | with_reducible apply State.setFlash_good | with_reducible apply dbgLand_good
     | with_reducible apply stageDone_good | with_reducible apply copyDone_good
     | with_reducible apply giveStatus_good | with_reducible apply fcDrop_good | with_reducible apply flashNext_good
     | simp only [good_mk] | split


theorem flashAbandon_good (s : State) (hs : s.good L Q) :
    (flashAbandon s).good L Q := by
  unfold flashAbandon
  dsimp only
  repeat' first
     | intro _ | with_reducible assumption | with_reducible apply ite_good | with_reducible apply State.setFlash_good
     | with_reducible apply markSector_good | with_reducible apply flashSpoil_good
     | with_reducible apply flashEnd_good | simp only [good_mk] | split


theorem flashReset_good (s : State) (hs : s.good L Q) :
    (flashReset s).good L Q := by
  unfold flashReset
  dsimp only
  repeat' first
     | intro _ | with_reducible assumption | with_reducible apply ite_good | with_reducible apply when_good
     | with_reducible apply State.setFlash_good | with_reducible apply State.setStage_good
     | with_reducible apply stageTo_good | with_reducible apply intrShow_good | with_reducible apply flashSpoil_good
     | simp only [good_mk] | split


theorem svcByCore_good (k : Fin 4) (body : Word → Word → Word → State → SvcOut × State) (s : State) (hbody : ∀ (y0 : Word) (y1 : Word) (y2 : Word) (y3 : State), y3.good L Q → (body y0 y1 y2 y3).2.good L Q) (hs : s.good L Q) :
    (svcByCore k body s).good L Q := by
  unfold svcByCore
  dsimp only
  repeat' first
     | intro _ | with_reducible assumption | with_reducible apply ite_good | with_reducible apply ite_good2
     | with_reducible apply State.setCore_good | with_reducible apply svcAnswer_good | with_reducible apply hbody
     | simp only [good_mk] | split


theorem svcByLink_good (n : Nat) (w : Who) (a2 a3 a4 : Word) (body : Word → Word → Word → State → SvcOut × State) (s : State) (hbody : ∀ (y0 : Word) (y1 : Word) (y2 : Word) (y3 : State), y3.good L Q → (body y0 y1 y2 y3).2.good L Q) (hs : s.good L Q) :
    (svcByLink n w a2 a3 a4 body s).good L Q := by
  unfold svcByLink
  dsimp only
  repeat' first
     | intro _ | with_reducible assumption | with_reducible apply ite_good | with_reducible apply ite_good2
     | with_reducible apply hbody | simp only [good_mk] | split


theorem svcCall_good (n : Nat) (w : Who) (a2 a3 a4 : Word) (body : Word → Word → Word → State → SvcOut × State) (s : State) (hbody : ∀ (y0 : Word) (y1 : Word) (y2 : Word) (y3 : State), y3.good L Q → (body y0 y1 y2 y3).2.good L Q) (hs : s.good L Q) :
    OutGood L Q ((svcCall n w a2 a3 a4 body s)) := by
  unfold svcCall
  try dsimp only
  repeat' first
     | intro _ | with_reducible assumption | with_reducible apply outGood_next | with_reducible apply ite_outGood
     | with_reducible apply ite_good | with_reducible apply ite_good2 | with_reducible apply act_good
     | with_reducible apply svcByCore_good | with_reducible apply svcByLink_good | with_reducible apply hbody | split



theorem svcStart_good (w : Who) (nowait : Bool) (kind addr : Nat) (data : List Word) (autosusp : Bool) (s : State) (hs : s.good L Q) :
    (svcStart w nowait kind addr data autosusp s).2.good L Q := by
  unfold svcStart
  dsimp only
  repeat' first
     | with_reducible assumption | with_reducible apply ite_good | with_reducible apply ite_good2
     | with_reducible apply flashStart_good


theorem fsErase_good (w : Who) (a2 a3 _a4 : Word) (s : State) (hs : s.good L Q) :
    (fsErase w a2 a3 _a4 s).2.good L Q := by
  unfold fsErase
  repeat' first
     | with_reducible assumption | with_reducible apply ite_good | with_reducible apply ite_good2
     | with_reducible apply svcStart_good

theorem svcSource_good (w : Who) (a : Nat) (x0 : Nat) (x1 : State) (hx1 : x1.good L Q) :
    (svcSource w a x0 x1).2.2.good L Q := by
  induction x0 generalizing w a x1 with
  | zero =>
    unfold svcSource
    try dsimp only
    repeat' first
       | intro _ | with_reducible assumption


  | succ n ih =>
    unfold svcSource
    try dsimp only
    repeat' first
       | intro _ | with_reducible assumption | with_reducible apply memRead_good | with_reducible apply ih | split



theorem fsProgram_good (w : Who) (a2 a3 a4 : Word) (s : State) (hs : s.good L Q) :
    (fsProgram w a2 a3 a4 s).2.good L Q := by
  unfold fsProgram
  dsimp only
  repeat' first
     | intro _ | with_reducible assumption | with_reducible apply ite_good | with_reducible apply ite_good2
     | with_reducible apply flashSee_good | with_reducible apply svcStart_good | with_reducible apply svcSource_good
     | split | with_reducible refine good_of_eq2 ‹_› ?_ | with_reducible refine good_of_eq3 ‹_› ?_


theorem fsRefresh_good (w : Who) (a2 _a3 _a4 : Word) (s : State) (hs : s.good L Q) :
    (fsRefresh w a2 _a3 _a4 s).2.good L Q := by
  unfold fsRefresh
  dsimp only
  repeat' first
     | with_reducible assumption | with_reducible apply ite_good | with_reducible apply ite_good2
     | with_reducible apply State.drawn_good | with_reducible apply flashSee_good
     | with_reducible apply svcStart_good


theorem fsInfo_good (a2 _a3 _a4 : Word) (s : State) (hs : s.good L Q) :
    (fsInfo a2 _a3 _a4 s).2.good L Q := by
  unfold fsInfo
  try dsimp only
  repeat' first
     | with_reducible assumption | with_reducible apply ite_good | with_reducible apply ite_good2
     | with_reducible apply State.drawn_good | simp only [good_mk] | simp only [good_raw]
     | with_reducible apply Good.setWord | with_reducible apply Good.setOctet | with_reducible apply Good.clear
     | with_reducible apply Good.loseLink | with_reducible apply State.good.raw | split



theorem fsStatus_good (_a2 _a3 _a4 : Word) (s : State) (hs : s.good L Q) :
    (fsStatus _a2 _a3 _a4 s).2.good L Q := by
  unfold fsStatus
  repeat' first
     | with_reducible assumption


theorem fsSuspend_good (w : Who) (_a2 _a3 _a4 : Word) (s : State) (hs : s.good L Q) :
    (fsSuspend w _a2 _a3 _a4 s).2.good L Q := by
  unfold fsSuspend
  dsimp only
  repeat' first
     | with_reducible assumption | with_reducible apply ite_good | with_reducible apply ite_good2
     | with_reducible apply State.setFlash_good | with_reducible apply suspend_good | simp only [good_mk] | split



theorem fsResume_good (_a2 _a3 _a4 : Word) (s : State) (hs : s.good L Q) :
    (fsResume _a2 _a3 _a4 s).2.good L Q := by
  unfold fsResume
  repeat' first
     | with_reducible assumption | with_reducible apply ite_good | with_reducible apply ite_good2
     | with_reducible apply unsuspend_good

theorem fsAbandon_good (_a2 _a3 _a4 : Word) (s : State) (hs : s.good L Q) :
    (fsAbandon _a2 _a3 _a4 s).2.good L Q := by
  unfold fsAbandon
  repeat' first | with_reducible assumption | with_reducible apply flashAbandon_good

theorem repairRow_good (verified : Bool) (a2 a3 _a4 : Word) (s : State) (hs : s.good L Q) :
    (repairRow verified a2 a3 _a4 s).2.good L Q := by
  unfold repairRow
  dsimp only
  repeat' first
     | with_reducible assumption | with_reducible apply ite_good | with_reducible apply ite_good2
     | with_reducible apply repairBankRow_good

theorem State.setPwr_good (s : State) (p : PowerState) (hs : s.good L Q) :
    (State.setPwr s p).good L Q := by
  unfold State.setPwr
  repeat' first | with_reducible assumption | simp only [good_mk]

theorem State.setBkp_good (s : State) (b : BackupState) (hs : s.good L Q) :
    (State.setBkp s b).good L Q := by
  unfold State.setBkp
  repeat' first | with_reducible assumption | simp only [good_mk]

theorem setChange_good (f : ModeChange → ModeChange) (s : State) (hs : s.good L Q) :
    (setChange f s).good L Q := by
  unfold setChange
  repeat' first | with_reducible assumption | with_reducible apply State.setPwr_good

theorem endChange_good (s : State) (hs : s.good L Q) :
    (endChange s).good L Q := by
  unfold endChange
  dsimp only
  repeat' first
     | with_reducible assumption | with_reducible apply State.setReg_good | with_reducible apply State.setFld_good
     | with_reducible apply State.setPwr_good

theorem gateGo_good (s : State) (hs : s.good L Q) :
    (gateGo s).good L Q := by
  unfold gateGo
  dsimp only
  repeat' first
     | with_reducible assumption | with_reducible apply ite_good | with_reducible apply requestMode_good
     | with_reducible apply State.setPwr_good

theorem cancelChange_good (agent reason : Nat) (s : State) (hs : s.good L Q) :
    (cancelChange agent reason s).good L Q := by
  unfold cancelChange
  dsimp only
  repeat' first
     | intro _ | with_reducible assumption | with_reducible apply ite_good | with_reducible apply State.setReg_good
     | with_reducible apply fire_good | with_reducible apply noticeFor_good | with_reducible apply finishRun_good
     | with_reducible apply endChange_good | with_reducible apply gateGo_good | with_reducible apply command_good
     | simp only [good_mk] | split


theorem agentAccept_good (a load : Nat) (s : State) (hs : s.good L Q) :
    (agentAccept a load s).good L Q := by
  unfold agentAccept
  dsimp only
  repeat' first
     | intro _ | with_reducible assumption | with_reducible apply ite_good | with_reducible apply State.setReg_good
     | with_reducible apply State.setBit_good | with_reducible apply forAll_good
     | with_reducible apply finishRun_good | with_reducible apply writeBack_good
     | with_reducible apply State.setPwr_good | with_reducible apply setChange_good
     | with_reducible apply command_good | simp only [good_mk] | split


theorem agentAnswer_good (a : Nat) (ans : AgentAnswer) (load : Nat) (s : State) (hs : s.good L Q) :
    (agentAnswer a ans load s).good L Q := by
  unfold agentAnswer
  dsimp only
  repeat' first
     | intro _ | with_reducible assumption | with_reducible apply ite_good | with_reducible apply State.setPwr_good
     | with_reducible apply setChange_good | with_reducible apply cancelChange_good
     | with_reducible apply agentAccept_good | simp only [good_mk] | split


theorem delayExpiry_good (a : Nat) (s : State) (hs : s.good L Q) :
    (delayExpiry a s).good L Q := by
  unfold delayExpiry
  dsimp only
  repeat' first
     | with_reducible assumption | with_reducible apply ite_good | with_reducible apply cancelChange_good
     | with_reducible apply agentAccept_good | split


theorem loseBanks_good (s : State) (hs : s.good L Q) :
    (loseBanks s).good L Q := by
  unfold loseBanks
  dsimp only
  repeat' first
     | intro _ | with_reducible assumption | with_reducible apply ite_good | with_reducible apply State.setBit_good
     | with_reducible apply forAll_good | with_reducible apply State.setEcc_good
     | with_reducible apply clearBank_good | with_reducible apply reindexAll_good | simp only [good_mk]
     | simp only [good_raw] | with_reducible apply Good.setWord | with_reducible apply Good.setOctet
     | with_reducible apply Good.clear | with_reducible apply Good.loseLink | with_reducible apply State.good.raw


theorem upBanks_good (s : State) (hs : s.good L Q) :
    (upBanks s).good L Q := by
  unfold upBanks
  dsimp only
  repeat' first
     | intro _ | with_reducible assumption | with_reducible apply State.setEcc_good
     | with_reducible apply applyFuses_good

theorem initBanks_good (s : State) (hs : s.good L Q) :
    (initBanks s).good L Q := by
  unfold initBanks
  repeat' first
     | intro _ | with_reducible assumption | with_reducible apply ite_good | with_reducible apply State.setBit_good
     | with_reducible apply forAll_good

theorem dropBand_good (b : Nat) (s : State) (hs : s.good L Q) :
    (dropBand b s).good L Q := by
  unfold dropBand
  repeat' first
     | intro _ | with_reducible assumption | with_reducible apply ite_good | with_reducible apply State.setFld_good
     | with_reducible apply forAll_good | with_reducible apply dropSyn_good

theorem dropLanes_good (s : State) (hs : s.good L Q) :
    (dropLanes s).good L Q := by
  unfold dropLanes
  repeat' first | intro _ | with_reducible assumption | with_reducible apply forAll_good | with_reducible apply dropFrame_good

theorem isolate_good (s : State) (hs : s.good L Q) :
    (isolate s).good L Q := by
  unfold isolate
  dsimp only
  repeat' first
     | intro _ | with_reducible assumption | with_reducible apply ite_good | with_reducible apply gateSync_good
     | with_reducible apply State.setPwr_good | with_reducible apply setChange_good
     | with_reducible apply dropBand_good | with_reducible apply dropLanes_good

theorem hibernate_good (s : State) (hs : s.good L Q) :
    (hibernate s).good L Q := by
  unfold hibernate
  dsimp only
  repeat' first
     | intro _ | with_reducible assumption | with_reducible apply State.setBit_good
     | with_reducible apply forAll_good | with_reducible apply State.setCore_good | with_reducible apply landAll_good
     | with_reducible apply State.setPwr_good | with_reducible apply loseBanks_good

theorem State.setLsup_good (s : State) (l : LsupState) (hs : s.good L Q) :
    (State.setLsup s l).good L Q := by
  unfold State.setLsup
  repeat' first | with_reducible assumption | simp only [good_mk]

theorem setTimer_good (b on : Bool) (s : State) (hs : s.good L Q) :
    (setTimer b on s).good L Q := by
  unfold setTimer
  repeat' first
     | with_reducible assumption | with_reducible apply ite_good | with_reducible apply State.setLsup_good


theorem standbyHeld_good (s : State) (hs : s.good L Q) :
    (standbyHeld s).good L Q := by
  unfold standbyHeld
  repeat' first
     | with_reducible assumption | with_reducible apply State.setFld_good | with_reducible apply State.setBit_good
     | with_reducible apply setTimer_good

theorem standbyRestart_good (s : State) (hs : s.good L Q) :
    (standbyRestart s).good L Q := by
  unfold standbyRestart
  dsimp only
  repeat' first
     | with_reducible assumption | with_reducible apply ite_good | with_reducible apply State.setFld_good
     | with_reducible apply State.setBit_good | with_reducible apply setTimer_good | simp only [good_mk]

theorem receiveTunes_good (old : Nat) (s : State) (hs : s.good L Q) :
    (receiveTunes old s).good L Q := by
  unfold receiveTunes
  repeat' first
     | intro _ | with_reducible assumption | with_reducible apply ite_good | with_reducible apply forAll_good
     | with_reducible apply tuneSyn_good | with_reducible apply tunePaths_good

theorem modeChanged_good (old : Nat) (kind : ChangeBy) (s : State) (hs : s.good L Q) :
    (modeChanged old kind s).good L Q := by
  unfold modeChanged
  dsimp only
  repeat' first
     | with_reducible assumption | with_reducible apply noticeFor_good



theorem wakeRecord_good (kind : ChangeBy) (s : State) (hs : s.good L Q) :
    (wakeRecord kind s).good L Q := by
  unfold wakeRecord
  dsimp only
  repeat' first
     | intro _ | with_reducible assumption | with_reducible apply ite_good | with_reducible apply State.setReg_good
     | with_reducible apply State.setMulti_good | split


theorem modeEnter_good (s : State) (hs : s.good L Q) :
    (modeEnter s).good L Q := by
  unfold modeEnter
  dsimp only
  repeat' first
     | intro _ | with_reducible assumption | with_reducible apply ite_good | with_reducible apply State.setFld_good
     | with_reducible apply State.setBit_good | with_reducible apply when_good | with_reducible apply fire_good
     | with_reducible apply notice_good | with_reducible apply finishRun_good | with_reducible apply bucketSync_good
     | with_reducible apply lanesShow_good | with_reducible apply gateSync_good
     | with_reducible apply State.setPwr_good | with_reducible apply endChange_good
     | with_reducible apply gateGo_good | with_reducible apply upBanks_good | with_reducible apply dropLanes_good
     | with_reducible apply hibernate_good | with_reducible apply standbyHeld_good
     | with_reducible apply standbyRestart_good | with_reducible apply receiveTunes_good
     | with_reducible apply modeChanged_good | with_reducible apply wakeRecord_good | simp only [good_mk] | split



theorem startWake_good (code t : Nat) (s : State) (hs : s.good L Q) :
    (startWake code t s).good L Q := by
  unfold startWake
  dsimp only
  repeat' first
     | with_reducible assumption | with_reducible apply ite_good | with_reducible apply State.setReg_good
     | with_reducible apply State.setFld_good | with_reducible apply State.setPwr_good

theorem wakeSource_good (s : State) (hs : s.good L Q) :
    (wakeSource s).good L Q := by
  unfold wakeSource
  dsimp only
  repeat' first
     | intro _ | with_reducible assumption | with_reducible apply outGood_next | with_reducible apply ite_outGood
     | with_reducible apply optGood_some | exact optGood_none | with_reducible apply ite_optGood
     | with_reducible apply optGood_bind | with_reducible apply optGood_map | with_reducible apply ite_good
     | with_reducible apply ite_good2 | with_reducible apply ite_good3 | with_reducible apply State.setPwr_good
     | with_reducible apply modeEnter_good | with_reducible apply startWake_good | simp only [good_mk]
     | simp only [good_raw] | with_reducible apply Good.setWord | with_reducible apply Good.setOctet
     | with_reducible apply Good.clear | with_reducible apply Good.loseLink | with_reducible apply State.good.raw
     | split


theorem regTimeout_good (s : State) (hs : s.good L Q) :
    (regTimeout s).good L Q := by
  unfold regTimeout
  dsimp only
  repeat' first
     | with_reducible assumption | with_reducible apply ite_good | with_reducible apply State.setFld_good
     | with_reducible apply State.setBit_good | with_reducible apply State.setMt_good
     | with_reducible apply lanesShow_good | with_reducible apply gateSync_good | with_reducible apply faultShow_good
     | with_reducible apply State.setPwr_good | with_reducible apply endChange_good
     | with_reducible apply dropBand_good | with_reducible apply dropLanes_good | with_reducible apply hibernate_good


theorem xoReady_good (s : State) (hs : s.good L Q) :
    (xoReady s).good L Q := by
  unfold xoReady
  dsimp only
  repeat' first
     | with_reducible assumption | with_reducible apply ite_good | with_reducible apply State.setBit_good
     | with_reducible apply when_good | with_reducible apply State.setMt_good
     | with_reducible apply State.setPwr_good | with_reducible apply receiveTunes_good

theorem pllLock_good (s : State) (hs : s.good L Q) :
    (pllLock s).good L Q := by
  unfold pllLock
  dsimp only
  repeat' first
     | with_reducible assumption | with_reducible apply ite_good | with_reducible apply State.setBit_good
     | with_reducible apply State.setMt_good | with_reducible apply initBanks_good

theorem referenceFailure_good (s : State) (hs : s.good L Q) :
    (referenceFailure s).good L Q := by
  unfold referenceFailure
  dsimp only
  repeat' first
     | with_reducible assumption | with_reducible apply State.setBit_good | with_reducible apply State.setMt_good


theorem tclkWindow_good (count : Nat) (s : State) (hs : s.good L Q) :
    (tclkWindow count s).good L Q := by
  unfold tclkWindow
  dsimp only
  repeat' first
     | with_reducible assumption | with_reducible apply ite_good | with_reducible apply State.setFld_good
     | with_reducible apply State.setBit_good | with_reducible apply State.count_good
     | with_reducible apply State.setPwr_good

theorem abortTx_good (t : Nat) (tag : Octet) (b : Nat) (s : State) (hs : s.good L Q) :
    (abortTx t tag b s).good L Q := by
  unfold abortTx
  dsimp only
  repeat' first
     | intro _ | with_reducible assumption | with_reducible apply ite_good | with_reducible apply State.count_good
     | with_reducible apply when_good | with_reducible apply State.setBand_good | with_reducible apply cmdTxEnd_good
     | with_reducible apply endUnsent_good | with_reducible apply reqEnd_good | with_reducible apply command_good
     | simp only [good_mk] | split


theorem abortCal_good (b kind item : Nat) (s : State) (hs : s.good L Q) :
    (abortCal b kind item s).good L Q := by
  unfold abortCal
  dsimp only
  repeat' first
     | intro _ | with_reducible assumption | with_reducible apply ite_good | with_reducible apply State.setBand_good
     | with_reducible apply calStat_good | with_reducible apply leaveSlice_good | simp only [good_mk] | split



theorem abortMeasure_good (t : Nat) (tag : Octet) (s : State) (hs : s.good L Q) :
    (abortMeasure t tag s).good L Q := by
  unfold abortMeasure
  try dsimp only
  repeat' first
     | intro _ | with_reducible assumption | with_reducible apply freeLane_good | split



theorem swapCancel_good (s : State) (hs : s.good L Q) :
    (swapCancel s).good L Q := by
  unfold swapCancel
  repeat' first
     | with_reducible assumption | with_reducible apply State.setBit_good | with_reducible apply State.setGates_good


theorem disown_good (s : State) (hs : s.good L Q) :
    (disown s).good L Q := by
  unfold disown
  repeat' first | with_reducible assumption | with_reducible apply orphan_good

theorem abortStage_good (s : State) (hs : s.good L Q) :
    (abortStage s).good L Q := by
  unfold abortStage
  try dsimp only
  repeat' first
     | with_reducible assumption | with_reducible apply ite_good | with_reducible apply stageReply_good
     | with_reducible apply flashAbandon_good | with_reducible apply disown_good | simp only [good_mk] | split



theorem abortEffect_good (r : Nat) (s : State) (hs : s.good L Q) :
    (abortEffect r s).good L Q := by
  unfold abortEffect
  dsimp only
  repeat' first
     | intro _ | with_reducible assumption | with_reducible apply State.setMt_good
     | with_reducible apply mtCtrlWrite_good | with_reducible apply State.setCmdp_good
     | with_reducible apply State.setBand_good | with_reducible apply keyCommitWrite_good
     | with_reducible apply endChange_good | with_reducible apply abortTx_good | with_reducible apply abortCal_good
     | with_reducible apply abortMeasure_good | with_reducible apply swapCancel_good
     | with_reducible apply abortStage_good | simp only [good_mk] | split


theorem abortRecord_good (r : Nat) (s : State) (hs : s.good L Q) :
    (abortRecord r s).good L Q := by
  unfold abortRecord
  repeat' first
     | with_reducible assumption | with_reducible apply ite_good | with_reducible apply finalReply_good
     | with_reducible apply abortEffect_good

theorem dropTransport_good (t : Nat) (s : State) (hs : s.good L Q) :
    (dropTransport t s).good L Q := by
  unfold dropTransport
  dsimp only
  repeat' first
     | intro _ | with_reducible assumption | with_reducible apply ite_good | with_reducible apply State.setBit_good
     | with_reducible apply forAll_good | with_reducible apply setRecState_good
     | with_reducible apply State.setCmdp_good | with_reducible apply abortRecord_good

theorem State.setDma_good (s : State) (n : Nat) (x : DmaCh) (hs : s.good L Q) :
    (State.setDma s n x).good L Q := by
  unfold State.setDma
  repeat' first | with_reducible assumption | simp only [good_mk]

theorem State.setDmaSt_good (s : State) (n x : Nat) (hs : s.good L Q) :
    (State.setDmaSt s n x).good L Q := by
  unfold State.setDmaSt
  repeat' first | with_reducible assumption | with_reducible apply State.setFld_good

theorem dmaNext_good (n k : Nat) (s : State) (hs : s.good L Q) :
    (dmaNext n k s).good L Q := by
  unfold dmaNext
  dsimp only
  repeat' first
     | with_reducible assumption | with_reducible apply ite_good | with_reducible apply State.setReg_good
     | with_reducible apply State.setDmaSt_good

theorem dmaFault_good (n code a : Nat) (s : State) (hs : s.good L Q) :
    (dmaFault n code a s).good L Q := by
  unfold dmaFault
  dsimp only
  repeat' first
     | with_reducible assumption | with_reducible apply State.setReg_good | with_reducible apply State.setFld_good
     | with_reducible apply fire_good | with_reducible apply State.setDma_good
     | with_reducible apply State.setDmaSt_good

theorem dmaEcc_good (n a w : Nat) (s : State) (hs : s.good L Q) :
    (dmaEcc n a w s).good L Q := by
  unfold dmaEcc
  repeat' first | with_reducible assumption | with_reducible apply eccSignal_good | with_reducible apply dmaFault_good

theorem frameFollow_good (a : Nat) (s : State) (hs : s.good L Q) :
    (frameFollow a s).2.good L Q := by
  unfold frameFollow
  dsimp only
  repeat' first
     | with_reducible assumption | with_reducible apply ite_good | with_reducible apply ite_good2
     | with_reducible apply memRead_good


theorem unitAddr_good (w0 : Word) (dst : Bool) (a : Nat) (s : State) (hs : s.good L Q) :
    (unitAddr w0 dst a s).2.good L Q := by
  unfold unitAddr
  repeat' first
     | with_reducible assumption | with_reducible apply ite_good | with_reducible apply ite_good2
     | with_reducible apply frameFollow_good

theorem writeUnits_good (put : Word → Nat → Word → State → State) (w0 : Word) (x0 : List Word) (x1 : Nat) (x2 : Option Nat) (x3 : State) (hput : ∀ (y0 : Word) (y1 : Nat) (y2 : Word) (y3 : State), y3.good L Q → (put y0 y1 y2 y3).good L Q) (hx3 : x3.good L Q) :
    (writeUnits put w0 x0 x1 x2 x3).2.2.2.2.good L Q := by
  induction x0 generalizing put w0 x1 x2 x3 with
  | nil =>
    unfold writeUnits
    try dsimp only
    repeat' first
       | intro _ | with_reducible assumption


  | cons v t ih =>
    unfold writeUnits
    try dsimp only
    repeat' first
       | intro _ | with_reducible assumption | with_reducible apply unitAddr_good | with_reducible apply hput
       | with_reducible apply ih | split | with_reducible refine good_of_eq2 ‹_› ?_


theorem burstFault_good (n : Nat) (e : BurstEnd) (s : State) (hs : s.good L Q) :
    (burstFault n e s).good L Q := by
  unfold burstFault
  dsimp only
  repeat' first
     | intro _ | with_reducible assumption | with_reducible apply dmaFault_good | with_reducible apply dmaEcc_good
     | simp only [good_mk] | split


theorem writeOldest_good (put : UnitPut) (s : State) (hput : ∀ (y0 : Nat) (y1 : Word) (y2 : Nat) (y3 : Word) (y4 : State), y4.good L Q → (put y0 y1 y2 y3 y4).good L Q) (hs : s.good L Q) :
    (writeOldest put s).good L Q := by
  unfold writeOldest
  dsimp only
  repeat' first
     | intro _ | with_reducible assumption | with_reducible apply ite_good | with_reducible apply State.setReg_good
     | with_reducible apply State.setDma_good | with_reducible apply dmaNext_good
     | with_reducible apply writeUnits_good | with_reducible apply burstFault_good | with_reducible apply hput
     | simp only [good_mk] | split


theorem writeSome_good (put : UnitPut) (x0 : Nat) (x1 : State) (hput : ∀ (y0 : Nat) (y1 : Word) (y2 : Nat) (y3 : Word) (y4 : State), y4.good L Q → (put y0 y1 y2 y3 y4).good L Q) (hx1 : x1.good L Q) :
    (writeSome put x0 x1).good L Q := by
  induction x0 generalizing put x1 with
  | zero =>
    unfold writeSome
    try dsimp only
    repeat' first
       | intro _ | with_reducible assumption


  | succ n ih =>
    unfold writeSome
    try dsimp only
    repeat' first
       | intro _ | with_reducible assumption | with_reducible apply writeOldest_good | with_reducible apply hput
       | with_reducible apply ih


theorem writeThrough_good (put : UnitPut) (n : Nat) (x0 : Nat) (x1 : State) (hput : ∀ (y0 : Nat) (y1 : Word) (y2 : Nat) (y3 : Word) (y4 : State), y4.good L Q → (put y0 y1 y2 y3 y4).good L Q) (hx1 : x1.good L Q) :
    (writeThrough put n x0 x1).good L Q := by
  induction x0 generalizing put n x1 with
  | zero =>
    unfold writeThrough
    try dsimp only
    repeat' first
       | intro _ | with_reducible assumption


  | succ n ih =>
    unfold writeThrough
    try dsimp only
    repeat' first
       | intro _ | with_reducible assumption | with_reducible apply ite_good | with_reducible apply writeOldest_good
       | with_reducible apply hput | with_reducible apply ih


theorem flushCh_good (put : UnitPut) (n : Nat) (s : State) (hput : ∀ (y0 : Nat) (y1 : Word) (y2 : Nat) (y3 : Word) (y4 : State), y4.good L Q → (put y0 y1 y2 y3 y4).good L Q) (hs : s.good L Q) :
    (flushCh put n s).good L Q := by
  unfold flushCh
  repeat' first | intro _ | with_reducible assumption | with_reducible apply writeThrough_good | with_reducible apply hput

theorem memPut_good (n : Nat) (w0 : Word) (x : Nat) (v : Word) (s : State) (hs : s.good L Q) :
    (memPut n w0 x v s).good L Q := by
  unfold memPut
  dsimp only
  repeat' first | intro _ | with_reducible assumption | with_reducible apply ite_good | with_reducible apply portAccept_good

theorem syncLand_good (n : Nat) (s : State) (hs : s.good L Q) :
    (syncLand n s).good L Q := by
  unfold syncLand
  try dsimp only
  repeat' first
     | with_reducible assumption | with_reducible apply drainBank_good | with_reducible apply landBank_good | split

theorem dmaIdle_good (n : Nat) (s : State) (hs : s.good L Q) :
    (dmaIdle n s).good L Q := by
  unfold dmaIdle
  dsimp only
  simp only [good_mk]
  with_reducible apply State.setFld_good
  with_reducible apply when_good
  · intro y hy
    exact State.setReg_good _ _ _ (syncLand_good _ _ hy)
  · exact flushCh_good _ _ _ (fun _ _ _ _ _ hy => memPut_good _ _ _ _ _ hy) hs

theorem appCores_good (cause : Nat) (s : State) (hs : s.good L Q) :
    (appCores cause s).good L Q := by
  unfold appCores
  dsimp only
  repeat' first
     | intro _ | with_reducible assumption | with_reducible apply State.setFld_good
     | with_reducible apply State.setBit_good | with_reducible apply State.resetRegs_good
     | with_reducible apply forAll_good | with_reducible apply State.setCore_good
     | with_reducible apply State.setStage_good | with_reducible apply faultShow_good
     | with_reducible apply disownCopy_good | with_reducible apply dmaIdle_good | simp only [good_mk]

theorem holdShow_good (s : State) (hs : s.good L Q) :
    (holdShow s).good L Q := by
  unfold holdShow
  repeat' first
     | intro _ | with_reducible assumption | with_reducible apply outGood_next | with_reducible apply ite_outGood
     | with_reducible apply optGood_some | exact optGood_none | with_reducible apply ite_optGood
     | with_reducible apply optGood_bind | with_reducible apply optGood_map | with_reducible apply ite_good
     | with_reducible apply ite_good2 | with_reducible apply ite_good3 | with_reducible apply State.setBit_good
     | with_reducible apply when_good





theorem appReset_good (cause : Nat) (s : State) (hs : s.good L Q) :
    (appReset cause s).good L Q := by
  unfold appReset
  dsimp only
  repeat' first
     | with_reducible assumption | with_reducible apply forAll_good | with_reducible apply State.setCmdp_good
     | with_reducible apply dropTransport_good | with_reducible apply appCores_good
     | with_reducible apply holdShow_good

theorem loadBoot_good (s : State) (hs : s.good L Q) :
    (loadBoot s).good L Q := by
  unfold loadBoot
  dsimp only
  repeat' first
     | intro _ | with_reducible assumption | with_reducible apply ite_good | with_reducible apply forAll_good
     | with_reducible apply plainWrite_good | with_reducible apply State.setCmdp_good

theorem linkEngines_good (dom : Nat) (s : State) (hs : s.good L Q) :
    (linkEngines dom s).good L Q := by
  unfold linkEngines
  dsimp only
  repeat' first
     | intro _ | with_reducible assumption | with_reducible apply ite_good | with_reducible apply forAll_good
     | with_reducible apply setRecState_good | with_reducible apply dmaIdle_good | with_reducible apply loadBoot_good
     | simp only [good_mk]

theorem linkReset_good (cause : Nat) (s : State) (hs : s.good L Q) :
    (linkReset cause s).good L Q := by
  unfold linkReset
  dsimp only
  repeat' first
     | intro _ | with_reducible assumption | with_reducible apply ite_good | with_reducible apply State.setReg_good
     | with_reducible apply State.setFld_good | with_reducible apply State.setBit_good
     | with_reducible apply State.resetRegs_good | with_reducible apply when_good
     | with_reducible apply lanesShow_good | with_reducible apply reindexAll_good
     | with_reducible apply State.setStage_good | with_reducible apply faultShow_good
     | with_reducible apply holdShow_good | with_reducible apply linkEngines_good

theorem firstStart_good (s : State) (hs : s.good L Q) :
    (firstStart s).good L Q := by
  unfold firstStart
  dsimp only
  repeat' first | intro _ | with_reducible assumption | with_reducible apply forAll_good | with_reducible apply engWrite_good

theorem chipStart_good (s : State) (hs : s.good L Q) :
    (chipStart s).good L Q := by
  unfold chipStart
  dsimp only
  repeat' first
     | with_reducible assumption | with_reducible apply ite_good | with_reducible apply notice_good
     | with_reducible apply lanesShow_good | with_reducible apply reindexAll_good
     | with_reducible apply State.setPwr_good | with_reducible apply upBanks_good
     | with_reducible apply holdShow_good | with_reducible apply firstStart_good

theorem dutyFresh_good (s : State) (hs : s.good L Q) :
    (dutyFresh s).good L Q := by
  unfold dutyFresh
  dsimp only
  repeat' first
     | with_reducible assumption | with_reducible apply bucketSync_good | simp only [good_mk] | simp only [good_raw]
     | with_reducible apply Good.setWord | with_reducible apply Good.setOctet | with_reducible apply Good.clear
     | with_reducible apply Good.loseLink | with_reducible apply State.good.raw

theorem chipReset_good (cause : Nat) (s0 : State) (hs0 : s0.good L Q) :
    (chipReset cause s0).good L Q := by
  unfold chipReset
  dsimp only
  repeat' first
     | intro _ | with_reducible assumption | with_reducible apply ite_good | with_reducible apply State.setReg_good
     | with_reducible apply State.setFld_good | with_reducible apply State.resetRegs_good
     | with_reducible apply drainAll_good | with_reducible apply landAll_good | with_reducible apply flashReset_good
     | with_reducible apply appCores_good | with_reducible apply linkEngines_good
     | with_reducible apply dutyFresh_good | simp only [good_mk]



theorem chipCycle_good (cause : Nat) (s : State) (hs : s.good L Q) :
    (chipCycle cause s).good L Q := by
  unfold chipCycle
  repeat' first | with_reducible assumption | with_reducible apply chipStart_good | with_reducible apply chipReset_good

theorem domainReset_good (dom cause : Nat) (s : State) (hs : s.good L Q) :
    (domainReset dom cause s).good L Q := by
  unfold domainReset
  try dsimp only
  repeat' first
     | with_reducible assumption | with_reducible apply appReset_good | with_reducible apply linkReset_good
     | with_reducible apply chipCycle_good | split


theorem vmainLoss_keeps (e : Host.Cell)
    (h : ((decide (3 * 0x100000 ≤ e.1) && decide (e.1 < 3 * 0x500000)) ||
      (decide (3 * 0xA00000 ≤ e.1) && decide (e.1 < 3 * 0xA02000))) = true) :
    e.1 < 3 * 0x850000 ∨ 3 * 0x860000 ≤ e.1 := by
  simp only [Bool.or_eq_true, Bool.and_eq_true, decide_eq_true_eq] at h
  omega

theorem vmainLoss_good (s : State) (hs : s.good L Q) : (vmainLoss s).good L Q := by
  unfold vmainLoss
  have h0 : ({ s with ecc := { s.ecc with merge := [] }, dmaPost := [] } : State).good L Q := hs
  have hr := chipReset_good 1 _ h0
  generalize chipReset 1 { s with ecc := { s.ecc with merge := [] }, dmaPost := [] } = r at hr ⊢
  apply State.setFld_good
  apply State.setReg_good
  apply State.setReg_good
  simp only [good_raw]
  apply Good.keep
  · exact hr
  · exact vmainLoss_keeps

theorem powerOn_good (s : State) (hs : s.good L Q) :
    (powerOn s).good L Q := by
  unfold powerOn
  dsimp only
  repeat' first
     | with_reducible assumption | with_reducible apply ite_good | with_reducible apply State.setPwr_good
     | with_reducible apply chipStart_good | with_reducible apply chipReset_good
     | with_reducible apply vmainLoss_good

theorem tapLoad_good (ir : Octet) (s : State) (hs : s.good L Q) :
    (tapLoad ir s).good L Q := by
  unfold tapLoad
  dsimp only
  repeat' first
     | with_reducible assumption | with_reducible apply ite_good | with_reducible apply State.setPwr_good
     | with_reducible apply chipStart_good | with_reducible apply chipReset_good | simp only [good_mk]

theorem almFire_good (k : Nat) (skip : Bool) (s : State) (hs : s.good L Q) :
    (almFire k skip s).good L Q := by
  unfold almFire
  dsimp only
  repeat' first
     | with_reducible assumption | with_reducible apply ite_good | with_reducible apply State.setBit_good
     | with_reducible apply fire_good

theorem setPrev_good (k : Nat) (b : Bool) (s : State) (hs : s.good L Q) :
    (setPrev k b s).good L Q := by
  unfold setPrev
  repeat' first
     | with_reducible assumption | with_reducible apply ite_good | with_reducible apply State.setBkp_good


theorem almTick_good (k : Nat) (s : State) (hs : s.good L Q) :
    (almTick k s).good L Q := by
  unfold almTick
  dsimp only
  repeat' first
     | with_reducible assumption | with_reducible apply ite_good | with_reducible apply almFire_good
     | with_reducible apply setPrev_good

theorem almAdjust_good (c : BitVec 48) (d : Int) (k : Nat) (s : State) (hs : s.good L Q) :
    (almAdjust c d k s).good L Q := by
  unfold almAdjust
  dsimp only
  repeat' first
     | with_reducible assumption | with_reducible apply ite_good | with_reducible apply almFire_good
     | with_reducible apply setPrev_good

theorem rtcTick_good (s : State) (hs : s.good L Q) :
    (rtcTick s).good L Q := by
  unfold rtcTick
  dsimp only
  repeat' first
     | with_reducible assumption | with_reducible apply ite_good | with_reducible apply State.setBkp_good
     | with_reducible apply almTick_good | with_reducible apply almAdjust_good | simp only [good_mk] | split



theorem rtcCtrlWrite_good (v : Word) (s : State) (hs : s.good L Q) :
    (rtcCtrlWrite v s).good L Q := by
  unfold rtcCtrlWrite
  dsimp only
  repeat' first
     | with_reducible assumption | with_reducible apply ite_good | with_reducible apply plainWrite_good
     | with_reducible apply trimStart_good | with_reducible apply State.setBkp_good

theorem trimWindow_good (s : State) (hs : s.good L Q) :
    (trimWindow s).good L Q := by
  unfold trimWindow
  dsimp only
  repeat' first
     | intro _ | with_reducible assumption | with_reducible apply ite_good | with_reducible apply State.setReg_good
     | with_reducible apply State.setFld_good | with_reducible apply State.drawn_good
     | with_reducible apply trimStart_good | split


theorem backupReset_good (s : State) (hs : s.good L Q) :
    (backupReset s).good L Q := by
  unfold backupReset
  dsimp only
  repeat' first
     | with_reducible assumption | with_reducible apply State.resetRegs_good | with_reducible apply applyFuses_good
     | with_reducible apply clearBank_good | with_reducible apply State.setBkp_good

theorem pmuReqWrite_good (v : Word) (s : State) (hs : s.good L Q) :
    (pmuReqWrite v s).good L Q := by
  unfold pmuReqWrite
  dsimp only
  repeat' first
     | with_reducible assumption | with_reducible apply ite_good | with_reducible apply plainWrite_good
     | with_reducible apply requestMode_good

theorem modeCommit_good (s : State) (hs : s.good L Q) :
    (modeCommit s).good L Q := by
  unfold modeCommit
  dsimp only
  repeat' first
     | with_reducible assumption | with_reducible apply ite_good | with_reducible apply State.setFld_good
     | with_reducible apply State.setMt_good | with_reducible apply cancelChange_good | simp only [good_mk] | split



theorem State.wakePinAt_good (s : State) (code : Octet) (hs : s.good L Q) :
    (State.wakePinAt s code).good L Q := by
  unfold State.wakePinAt
  dsimp only
  repeat' first | with_reducible assumption | with_reducible apply ite_good | simp only [good_mk]

theorem wakeEdge_good (k : Nat) (rising : Bool) (s : State) (hs : s.good L Q) :
    (wakeEdge k rising s).good L Q := by
  unfold wakeEdge
  dsimp only
  repeat' first
     | with_reducible assumption | with_reducible apply ite_good | with_reducible apply State.setBit_good
     | simp only [good_mk]

theorem regRetry_good (s : State) (hs : s.good L Q) :
    (regRetry s).good L Q := by
  unfold regRetry
  dsimp only
  repeat' first
     | with_reducible assumption | with_reducible apply State.setPwr_good | with_reducible apply startWake_good


theorem resetPinLow_good (s : State) (hs : s.good L Q) :
    (resetPinLow s).good L Q := by
  unfold resetPinLow
  dsimp only
  repeat' first
     | with_reducible assumption | with_reducible apply ite_good | with_reducible apply State.setPwr_good
     | with_reducible apply chipReset_good

theorem rstctrlWrite_good (v : Word) (s : State) (hs : s.good L Q) :
    (rstctrlWrite v s).good L Q := by
  unfold rstctrlWrite
  dsimp only
  repeat' first
     | with_reducible assumption | with_reducible apply ite_good | with_reducible apply plainWrite_good
     | with_reducible apply domainReset_good

theorem vioLoss_good (second : Bool) (s : State) (hs : s.good L Q) :
    (vioLoss second s).good L Q := by
  unfold vioLoss
  dsimp only
  repeat' first
     | intro _ | with_reducible assumption | with_reducible apply ite_good | with_reducible apply forAll_good
     | with_reducible apply pinEdge_good | with_reducible apply State.setPwr_good | with_reducible apply tapLoad_good
     | with_reducible apply wakeEdge_good | simp only [good_mk]

theorem vioReturn_good (second : Bool) (s : State) (hs : s.good L Q) :
    (vioReturn second s).good L Q := by
  unfold vioReturn
  dsimp only
  repeat' first
     | with_reducible assumption | with_reducible apply ite_good | with_reducible apply State.setPwr_good
     | with_reducible apply chipStart_good

end Sys2Proof.Machine
end

