-- ==== Sys2Proof/Laws/GoodCmd.lean ====
section
/-! SUPPORT. The invariant of Laws/Good.lean over every operation of the command port, the supervisor, the bus, the DMA engine and the cores' memory and coprocessor instructions: one lemma per operation, named after it with `_good`. -/
namespace Sys2Proof.Machine

open Sys2Proof

variable {L : Nat} {Q : List Instr}

theorem tCount_good (t m : Nat) (s : State) (hs : s.good L Q) :
    (tCount t m s).good L Q := by
  unfold tCount
  repeat' first | with_reducible assumption | with_reducible apply State.count_good

theorem journal_good (p : Packet) (r : Nat) (s : State) (hs : s.good L Q) :
    (journal p r s).good L Q := by
  unfold journal
  dsimp only
  repeat' first
     | with_reducible assumption | with_reducible apply ite_good | with_reducible apply engWrites_good
     | with_reducible apply State.setCmdp_good | with_reducible apply tCount_good

theorem mailboxPost_good (k : Nat) (v : Word) (s : State) (hs : s.good L Q) :
    (mailboxPost k v s).good L Q := by
  unfold mailboxPost
  repeat' first
     | with_reducible assumption | with_reducible apply State.setBit_good | with_reducible apply State.setCmdp_good


theorem portWords_good  (x0 : Nat) (x1 : Nat) (x2 : State) (hx2 : x2.good L Q) :
    (portWords x0 x1 x2).2.good L Q := by
  induction x1 generalizing x0 x2 with
  | zero =>
    unfold portWords
    try dsimp only
    repeat' first
       | with_reducible assumption


  | succ n ih =>
    unfold portWords
    try dsimp only
    repeat' first
       | with_reducible assumption | with_reducible apply memRead_good | with_reducible apply ih

theorem fwReads_good  (x0 : List Nat) (x1 : State) (hx1 : x1.good L Q) :
    (fwReads x0 x1).2.good L Q := by
  induction x0 generalizing x1 with
  | nil =>
    unfold fwReads
    try dsimp only
    repeat' first
       | with_reducible assumption


  | cons v t ih =>
    unfold fwReads
    try dsimp only
    repeat' first
       | with_reducible assumption | with_reducible apply memRead_good | with_reducible apply ih



theorem fwTouch_good (p : Nat → Bool) (s : State) (hs : s.good L Q) :
    (fwTouch p s).2.good L Q := by
  unfold fwTouch
  repeat' first | intro _ | with_reducible assumption | with_reducible apply fwReads_good

theorem startCmd_good (opc : Nat) (check : List Octet → State → Nat) (body : Nat → List Octet → State → State) (r : Nat) (s : State) (hbody : ∀ (y0 : Nat) (y1 : List Octet) (y2 : State), y2.good L Q → (body y0 y1 y2).good L Q) (hs : s.good L Q) :
    (startCmd opc check body r s).good L Q := by
  unfold startCmd
  dsimp only
  repeat' first
     | intro _ | with_reducible assumption | with_reducible apply ite_good | with_reducible apply finalReply_good
     | with_reducible apply fwTouch_good | with_reducible apply hbody | split
     | with_reducible refine good_of_eq2 ‹_› ?_


theorem command_good (opc : Nat) (check : List Octet → State → Nat) (body : Nat → List Octet → State → State) (t : Transport) (tag : Octet)
    (s : State) (hbody : ∀ (y0 : Nat) (y1 : List Octet) (y2 : State), y2.good L Q → (body y0 y1 y2).good L Q) (hs : s.good L Q) :
    OutGood L Q ((command opc check body t tag s)) := by
  unfold command
  try dsimp only
  repeat' first
     | intro _ | with_reducible assumption | with_reducible apply outGood_next | with_reducible apply ite_outGood
     | with_reducible apply act_good | with_reducible apply startCmd_good | with_reducible apply hbody | split



theorem started_good (r : Nat) (s : State) (hs : s.good L Q) :
    (started r s).good L Q := by
  unfold started
  repeat' first | with_reducible assumption | with_reducible apply startedReply_good

theorem executing_good (r : Nat) (s : State) (hs : s.good L Q) :
    (executing r s).good L Q := by
  unfold executing
  repeat' first | with_reducible assumption | with_reducible apply State.setCmdp_good

theorem done_good (r : Nat) (res : List Octet) (s : State) (hs : s.good L Q) :
    (done r res s).good L Q := by
  unfold done
  repeat' first | with_reducible assumption | with_reducible apply finalReply_good

theorem fwWords_good  (x0 : Nat) (x1 : Nat) (x2 : State) (hx2 : x2.good L Q) :
    (fwWords x0 x1 x2).2.2.good L Q := by
  induction x1 generalizing x0 x2 with
  | zero =>
    unfold fwWords
    try dsimp only
    repeat' first
       | with_reducible assumption


  | succ n ih =>
    unfold fwWords
    try dsimp only
    repeat' first
       | with_reducible assumption | with_reducible apply memRead_good | with_reducible apply ih



theorem replyWords_good (r a n : Nat) (before : List Octet) (s : State) (hs : s.good L Q) :
    (replyWords r a n before s).good L Q := by
  unfold replyWords
  try dsimp only
  repeat' first
     | with_reducible assumption | with_reducible apply finalReply_good | with_reducible apply done_good
     | with_reducible apply fwWords_good | split | with_reducible refine good_of_eq2 ‹_› ?_
     | with_reducible refine good_of_eq3 ‹_› ?_

theorem abortBody_good (r : Nat) (p : List Octet) (s : State) (hs : s.good L Q) :
    (abortBody r p s).good L Q := by
  unfold abortBody
  dsimp only
  repeat' first
     | intro _ | with_reducible assumption | with_reducible apply State.setFld_good
     | with_reducible apply State.drawn_good | with_reducible apply forAll_good
     | with_reducible apply abortRecord_good | with_reducible apply tCount_good | with_reducible apply done_good

theorem pingBody_good (r : Nat) (_p : List Octet) (s : State) (hs : s.good L Q) :
    (pingBody r _p s).good L Q := by
  unfold pingBody
  repeat' first | with_reducible assumption | with_reducible apply done_good

theorem getInfoBody_good (r : Nat) (_p : List Octet) (s : State) (hs : s.good L Q) :
    (getInfoBody r _p s).good L Q := by
  unfold getInfoBody
  repeat' first | with_reducible assumption | with_reducible apply ite_good | with_reducible apply done_good

theorem resetDomainBody_good (r : Nat) (p : List Octet) (s : State) (hs : s.good L Q) :
    (resetDomainBody r p s).good L Q := by
  unfold resetDomainBody
  dsimp only
  repeat' first
     | with_reducible assumption | with_reducible apply State.setCmdp_good | with_reducible apply done_good


theorem getCauseBody_good (r : Nat) (_p : List Octet) (s : State) (hs : s.good L Q) :
    (getCauseBody r _p s).good L Q := by
  unfold getCauseBody
  repeat' first | with_reducible assumption | with_reducible apply done_good

theorem setModeBody_good (r : Nat) (p : List Octet) (s : State) (hs : s.good L Q) :
    (setModeBody r p s).good L Q := by
  unfold setModeBody
  repeat' first
     | with_reducible assumption | with_reducible apply ite_good | with_reducible apply requestMode_good
     | with_reducible apply command_good | with_reducible apply started_good | with_reducible apply done_good

theorem getModeBody_good (r : Nat) (_p : List Octet) (s : State) (hs : s.good L Q) :
    (getModeBody r _p s).good L Q := by
  unfold getModeBody
  repeat' first | with_reducible assumption | with_reducible apply ite_good | with_reducible apply done_good

theorem wakeRecordBody_good (r : Nat) (_p : List Octet) (s : State) (hs : s.good L Q) :
    (wakeRecordBody r _p s).good L Q := by
  unfold wakeRecordBody
  repeat' first | with_reducible assumption | with_reducible apply done_good

theorem mtGetBody_good (r : Nat) (_p : List Octet) (s : State) (hs : s.good L Q) :
    (mtGetBody r _p s).good L Q := by
  unfold mtGetBody
  repeat' first | with_reducible assumption | with_reducible apply readNow0_good | with_reducible apply done_good

theorem mtStepBody_good (r : Nat) (p : List Octet) (s : State) (hs : s.good L Q) :
    (mtStepBody r p s).good L Q := by
  unfold mtStepBody
  dsimp only
  repeat' first
     | with_reducible assumption | with_reducible apply ite_good | with_reducible apply State.setMulti_good
     | with_reducible apply State.setMt_good | with_reducible apply finalReply_good
     | with_reducible apply applyStep_good

theorem mtSlewBody_good (r : Nat) (p : List Octet) (s : State) (hs : s.good L Q) :
    (mtSlewBody r p s).good L Q := by
  unfold mtSlewBody
  dsimp only
  repeat' first
     | with_reducible assumption | with_reducible apply ite_good | with_reducible apply slew0Write_good
     | with_reducible apply slewcfgWrite_good | with_reducible apply finalReply_good
     | with_reducible apply slewReplace_good | with_reducible apply started_good

theorem requalify_good (s : State) (hs : s.good L Q) :
    (requalify s).good L Q := by
  unfold requalify
  repeat' first | intro _ | with_reducible assumption | with_reducible apply State.setMt_good

theorem sourceBody_good (r : Nat) (p : List Octet) (s : State) (hs : s.good L Q) :
    (sourceBody r p s).good L Q := by
  unfold sourceBody
  dsimp only
  repeat' first
     | with_reducible assumption | with_reducible apply ite_good | with_reducible apply State.setReg_good
     | with_reducible apply State.setFld_good | with_reducible apply State.setBit_good
     | with_reducible apply State.setMt_good | with_reducible apply State.setCmdp_good
     | with_reducible apply finalReply_good | with_reducible apply stratumShow_good
     | with_reducible apply sourceLost_good | with_reducible apply done_good | with_reducible apply requalify_good


theorem mtStatusBody_good (r : Nat) (_p : List Octet) (s : State) (hs : s.good L Q) :
    (mtStatusBody r _p s).good L Q := by
  unfold mtStatusBody
  repeat' first | intro _ | with_reducible assumption | with_reducible apply ite_good | with_reducible apply done_good

theorem radioConfigBody_good (r : Nat) (p : List Octet) (s : State) (hs : s.good L Q) :
    (radioConfigBody r p s).good L Q := by
  unfold radioConfigBody
  dsimp only
  repeat' first
     | with_reducible assumption | with_reducible apply ite_good | with_reducible apply State.setFld_good
     | with_reducible apply State.setBand_good | with_reducible apply feEnable_good
     | with_reducible apply started_good | with_reducible apply done_good

theorem tuneBody_good (r : Nat) (p : List Octet) (s : State) (hs : s.good L Q) :
    (tuneBody r p s).good L Q := by
  unfold tuneBody
  dsimp only
  repeat' first
     | intro _ | with_reducible assumption | with_reducible apply forAll_good
     | with_reducible apply State.setCmdp_good | with_reducible apply tuneSyn_good
     | with_reducible apply executing_good

theorem calibrateBody_good (r : Nat) (p : List Octet) (s : State) (hs : s.good L Q) :
    (calibrateBody r p s).good L Q := by
  unfold calibrateBody
  dsimp only
  repeat' first
     | with_reducible assumption | with_reducible apply ite_good | with_reducible apply dropBackground_good
     | with_reducible apply sliceStart_good | with_reducible apply armPachk_good
     | with_reducible apply fullStart_good | with_reducible apply started_good | with_reducible apply done_good
     | simp only [good_mk] | split


theorem calPolicyBody_good (r : Nat) (p : List Octet) (s : State) (hs : s.good L Q) :
    (calPolicyBody r p s).good L Q := by
  unfold calPolicyBody
  repeat' first
     | with_reducible assumption | with_reducible apply State.setReg_good | with_reducible apply State.setFld_good
     | with_reducible apply done_good

theorem setTxPowerBody_good (r : Nat) (p : List Octet) (s : State) (hs : s.good L Q) :
    (setTxPowerBody r p s).good L Q := by
  unfold setTxPowerBody
  dsimp only
  repeat' first | with_reducible assumption | with_reducible apply State.setReg_good | with_reducible apply done_good

theorem powerCurveBody_good (r : Nat) (p : List Octet) (s : State) (hs : s.good L Q) :
    (powerCurveBody r p s).good L Q := by
  unfold powerCurveBody
  repeat' first | with_reducible assumption | with_reducible apply engWrites_good | with_reducible apply done_good

theorem laneAssignBody_good (r : Nat) (p : List Octet) (s : State) (hs : s.good L Q) :
    (laneAssignBody r p s).good L Q := by
  unfold laneAssignBody
  dsimp only
  repeat' first
     | with_reducible assumption | with_reducible apply bindLane_good | with_reducible apply tunePaths_good
     | with_reducible apply preemptUses_good | with_reducible apply done_good

theorem laneReleaseBody_good (r : Nat) (p : List Octet) (s : State) (hs : s.good L Q) :
    (laneReleaseBody r p s).good L Q := by
  unfold laneReleaseBody
  dsimp only
  repeat' first
     | with_reducible assumption | with_reducible apply ite_good | with_reducible apply State.setBit_good
     | with_reducible apply State.setLane_good | with_reducible apply freeLane_good
     | with_reducible apply started_good | with_reducible apply done_good

theorem measureBody_good (r : Nat) (p : List Octet) (s : State) (hs : s.good L Q) :
    (measureBody r p s).good L Q := by
  unfold measureBody
  dsimp only
  apply ite_good
  · exact finalReply_good _ _ _ _ hs
  · split
    · exact finalReply_good _ _ _ _ hs
    · next n s1 heq =>
      have h1 : s1.good L Q := by
        split at heq
        · next n' _ =>
          split at heq
          · cases heq
          · obtain ⟨t, ht, he⟩ := Option.map_eq_some_iff.1 heq
            simp only [Prod.mk.injEq] at he
            obtain ⟨-, rfl⟩ := he
            exact good_of_some ht (claimRx_good _ _ _ _ _ _ _ _ _ _ hs)
        · cases heq
      exact started_good _ _ (State.setLane_good _ _ _ h1)

theorem txFrameBody_good (r : Nat) (p : List Octet) (s : State) (hs : s.good L Q) :
    (txFrameBody r p s).good L Q := by
  unfold txFrameBody
  dsimp only
  repeat' first
     | with_reducible assumption | with_reducible apply ite_good | with_reducible apply engWrite_good
     | with_reducible apply storeFrame_good | with_reducible apply finalReply_good
     | with_reducible apply reqWait_good | with_reducible apply command_good | with_reducible apply started_good
     | split | with_reducible refine good_of_eq2 ‹_› ?_


theorem soundOnce_good (r : Nat) (p : List Octet) (s : State) (hs : s.good L Q) :
    (soundOnce r p s).good L Q := by
  unfold soundOnce
  dsimp only
  repeat' first
     | with_reducible assumption | with_reducible apply engWrite_good | with_reducible apply storeFrame_good
     | with_reducible apply finalReply_good | with_reducible apply soundReq_good | with_reducible apply command_good
     | with_reducible apply started_good | split | with_reducible refine good_of_eq2 ‹_› ?_


theorem soundBody_good (r : Nat) (p : List Octet) (s : State) (hs : s.good L Q) :
    (soundBody r p s).good L Q := by
  unfold soundBody
  dsimp only
  repeat' first
     | intro _ | with_reducible assumption | with_reducible apply ite_good | with_reducible apply State.setLink_good
     | with_reducible apply setNbr_good | with_reducible apply done_good | with_reducible apply soundOnce_good

theorem gateWriteBody_good (r : Nat) (p : List Octet) (s : State) (hs : s.good L Q) :
    (gateWriteBody r p s).good L Q := by
  unfold gateWriteBody
  dsimp only
  repeat' first
     | intro _ | with_reducible assumption | with_reducible apply ite_good | with_reducible apply State.setReg_good
     | with_reducible apply forAll_good | with_reducible apply finalReply_good
     | with_reducible apply gateCommitWrite_good

theorem gateReadBody_good (r : Nat) (p : List Octet) (s : State) (hs : s.good L Q) :
    (gateReadBody r p s).good L Q := by
  unfold gateReadBody
  repeat' first | with_reducible assumption | with_reducible apply replyWords_good

theorem courseConfigBody_good (r : Nat) (p : List Octet) (s : State) (hs : s.good L Q) :
    (courseConfigBody r p s).good L Q := by
  unfold courseConfigBody
  dsimp only
  repeat' first
     | with_reducible assumption | with_reducible apply State.setFld_good | with_reducible apply State.setMulti_good
     | with_reducible apply periodFloor_good | with_reducible apply done_good

theorem courseStartBody_good (r : Nat) (p : List Octet) (s : State) (hs : s.good L Q) :
    (courseStartBody r p s).good L Q := by
  unfold courseStartBody
  repeat' first | with_reducible assumption | with_reducible apply startCourse_good | with_reducible apply done_good

theorem courseStopBody_good (r : Nat) (p : List Octet) (s : State) (hs : s.good L Q) :
    (courseStopBody r p s).good L Q := by
  unfold courseStopBody
  dsimp only
  repeat' first
     | with_reducible assumption | with_reducible apply ite_good | with_reducible apply courseCfgWrite_good
     | with_reducible apply done_good

theorem hopseqBody_good (r : Nat) (p : List Octet) (s : State) (hs : s.good L Q) :
    (hopseqBody r p s).good L Q := by
  unfold hopseqBody
  dsimp only
  repeat' first
     | intro _ | with_reducible assumption | with_reducible apply State.setFld_good
     | with_reducible apply engWrites_good | with_reducible apply done_good

theorem nbrReadBody_good (r : Nat) (p : List Octet) (s : State) (hs : s.good L Q) :
    (nbrReadBody r p s).good L Q := by
  unfold nbrReadBody
  dsimp only
  repeat' first
     | with_reducible assumption | with_reducible apply ite_good | with_reducible apply finalReply_good
     | with_reducible apply replyWords_good | split


theorem firmNbr_good (n mask : Nat) (m0 : Word) (norec : Bool) (words : List Word) (s : State) (hs : s.good L Q) :
    (firmNbr n mask m0 norec words s).good L Q := by
  unfold firmNbr
  dsimp only
  repeat' first
     | intro _ | with_reducible assumption | with_reducible apply ite_good | with_reducible apply State.setReg_good
     | with_reducible apply forAll_good | with_reducible apply nbrCommitWrite_good

theorem nbrWriteBody_good (r : Nat) (p : List Octet) (s : State) (hs : s.good L Q) :
    (nbrWriteBody r p s).good L Q := by
  unfold nbrWriteBody
  repeat' first | with_reducible assumption | with_reducible apply done_good | with_reducible apply firmNbr_good

theorem nbrEvictBody_good (r : Nat) (p : List Octet) (s : State) (hs : s.good L Q) :
    (nbrEvictBody r p s).good L Q := by
  unfold nbrEvictBody
  repeat' first | with_reducible assumption | with_reducible apply done_good | with_reducible apply firmNbr_good

theorem routeWriteBody_good (r : Nat) (p : List Octet) (s : State) (hs : s.good L Q) :
    (routeWriteBody r p s).good L Q := by
  unfold routeWriteBody
  dsimp only
  repeat' first
     | intro _ | with_reducible assumption | with_reducible apply ite_good | with_reducible apply State.setReg_good
     | with_reducible apply forAll_good | with_reducible apply finalReply_good
     | with_reducible apply routeCommitWrite_good

theorem routeReadBody_good (r : Nat) (p : List Octet) (s : State) (hs : s.good L Q) :
    (routeReadBody r p s).good L Q := by
  unfold routeReadBody
  repeat' first | with_reducible assumption | with_reducible apply replyWords_good

theorem tonemapWriteBody_good (r : Nat) (p : List Octet) (s : State) (hs : s.good L Q) :
    (tonemapWriteBody r p s).good L Q := by
  unfold tonemapWriteBody
  dsimp only
  repeat' first
     | with_reducible assumption | with_reducible apply ite_good | with_reducible apply engWrite_good
     | with_reducible apply engWrites_good | with_reducible apply State.setLink_good | with_reducible apply done_good


theorem tonemapReadBody_good (r : Nat) (p : List Octet) (s : State) (hs : s.good L Q) :
    (tonemapReadBody r p s).good L Q := by
  unfold tonemapReadBody
  repeat' first | with_reducible assumption | with_reducible apply replyWords_good

theorem firstLimit_good (k : Nat) (s : State) (hs : s.good L Q) :
    (firstLimit k s).good L Q := by
  unfold firstLimit
  repeat' first | with_reducible assumption | with_reducible apply State.setMulti_good | with_reducible apply State.drawn_good

theorem keyLoadBody_good (r : Nat) (p : List Octet) (s : State) (hs : s.good L Q) :
    (keyLoadBody r p s).good L Q := by
  unfold keyLoadBody
  dsimp only
  repeat' first
     | intro _ | with_reducible assumption | with_reducible apply ite_good | with_reducible apply forAll_good
     | with_reducible apply keyCommitWrite_good | with_reducible apply keyStageWrite_good
     | with_reducible apply started_good | with_reducible apply done_good | with_reducible apply firstLimit_good

theorem moveKey_good (a net from_ to_ : Nat) (e : Nat × State) (he : e.2.good L Q) :
    (moveKey a net from_ to_ e).2.good L Q := by
  unfold moveKey
  dsimp only
  apply ite_good2
  · exact engWrite_good _ _ _ he
  · exact he

theorem keySelectBody_good (r : Nat) (p : List Octet) (s : State) (hs : s.good L Q) :
    (keySelectBody r p s).good L Q := by
  unfold keySelectBody
  dsimp only
  apply ite_good
  · exact finalReply_good _ _ _ _ hs
  · apply done_good
    exact foldl_pair_good _ (fun e a he => moveKey_good _ _ _ _ e he) _ _ hs

theorem secStatusBody_good (r : Nat) (p : List Octet) (s : State) (hs : s.good L Q) :
    (secStatusBody r p s).good L Q := by
  unfold secStatusBody
  dsimp only
  repeat' first | with_reducible assumption | with_reducible apply done_good

theorem firmWindow_good (i : Nat) (w : List Word) (s : State) (hs : s.good L Q) :
    (firmWindow i w s).good L Q := by
  unfold firmWindow
  repeat' first
     | intro _ | with_reducible assumption | with_reducible apply State.setReg_good
     | with_reducible apply forAll_good | with_reducible apply windowCommitWrite_good

theorem windowDefineBody_good (r : Nat) (p : List Octet) (s : State) (hs : s.good L Q) :
    (windowDefineBody r p s).good L Q := by
  unfold windowDefineBody
  repeat' first | with_reducible assumption | with_reducible apply done_good | with_reducible apply firmWindow_good

theorem windowCloseBody_good (r : Nat) (p : List Octet) (s : State) (hs : s.good L Q) :
    (windowCloseBody r p s).good L Q := by
  unfold windowCloseBody
  dsimp only
  repeat' first
     | intro _ | with_reducible assumption | with_reducible apply ite_good | with_reducible apply executing_good
     | with_reducible apply done_good | with_reducible apply firmWindow_good

theorem windowOpBody_good (r : Nat) (p : List Octet) (s : State) (hs : s.good L Q) :
    (windowOpBody r p s).good L Q := by
  unfold windowOpBody
  dsimp only
  repeat' first
     | with_reducible assumption | with_reducible apply ite_good | with_reducible apply engWrite_good
     | with_reducible apply storeFrame_good | with_reducible apply hwPush_good
     | with_reducible apply State.setCmdp_good | with_reducible apply finalReply_good
     | with_reducible apply started_good | simp only [good_mk] | split | with_reducible refine good_of_eq2 ‹_› ?_

theorem setLinkVer_good (b : Bool) (v : Word) (s : State) (hs : s.good L Q) :
    (setLinkVer b v s).good L Q := by
  unfold setLinkVer
  repeat' first
     | with_reducible assumption | with_reducible apply ite_good | with_reducible apply State.setLsup_good


theorem heartbeat_good (b : Bool) (v : Word) (s : State) (hs : s.good L Q) :
    (heartbeat b v s).good L Q := by
  unfold heartbeat
  repeat' first
     | with_reducible assumption | with_reducible apply ite_good | with_reducible apply State.setReg_good
     | with_reducible apply setTimer_good

theorem beat_good (b : Bool) (s : State) (hs : s.good L Q) :
    (beat b s).good L Q := by
  unfold beat
  repeat' first | with_reducible assumption | with_reducible apply State.drawn_good | with_reducible apply heartbeat_good

theorem standbyLoad_good (src : Nat) (rcd : Option Nat) (s : State) (hs : s.good L Q) :
    (standbyLoad src rcd s).good L Q := by
  unfold standbyLoad
  dsimp only
  repeat' first
     | with_reducible assumption | with_reducible apply ite_good | with_reducible apply State.setFld_good
     | with_reducible apply State.setBit_good | with_reducible apply State.setLsup_good
     | with_reducible apply setTimer_good

theorem stbycmdWrite_good (w : Who) (v : Word) (s : State) (hs : s.good L Q) :
    (stbycmdWrite w v s).good L Q := by
  unfold stbycmdWrite
  dsimp only
  repeat' first
     | with_reducible assumption | with_reducible apply ite_good | with_reducible apply plainWrite_good
     | with_reducible apply standbyLoad_good

theorem loadEnds_good (rcd : Option Nat) (st : Nat) (res : List Octet) (s : State) (hs : s.good L Q) :
    (loadEnds rcd st res s).good L Q := by
  unfold loadEnds
  try dsimp only
  repeat' first
     | with_reducible assumption | with_reducible apply finalReply_good | split



theorem standbyUp_good (v : Word) (rcd : Option Nat) (s : State) (hs : s.good L Q) :
    (standbyUp v rcd s).good L Q := by
  unfold standbyUp
  dsimp only
  repeat' first
     | with_reducible assumption | with_reducible apply State.setReg_good | with_reducible apply State.setFld_good
     | with_reducible apply State.setLsup_good | with_reducible apply setLinkVer_good
     | with_reducible apply loadEnds_good

theorem standbyBad_good (result : Nat) (rcd : Option Nat) (s : State) (hs : s.good L Q) :
    (standbyBad result rcd s).good L Q := by
  unfold standbyBad
  dsimp only
  repeat' first
     | with_reducible assumption | with_reducible apply State.setFld_good | with_reducible apply State.setLsup_good
     | with_reducible apply loadEnds_good

theorem standbyReady_good (src : Nat) (rcd : Option Nat) (s : State) (hs : s.good L Q) :
    (standbyReady src rcd s).good L Q := by
  unfold standbyReady
  dsimp only
  repeat' first
     | with_reducible assumption | with_reducible apply ite_good | with_reducible apply imageSee_good
     | with_reducible apply standbyUp_good | with_reducible apply standbyBad_good | split



theorem moveToken_good (cause : Nat) (s : State) (hs : s.good L Q) :
    (moveToken cause s).good L Q := by
  unfold moveToken
  dsimp only
  repeat' first
     | with_reducible assumption | with_reducible apply ite_good | with_reducible apply State.setFld_good
     | with_reducible apply State.setBit_good | with_reducible apply fire_good
     | with_reducible apply State.setLsup_good | with_reducible apply setTimer_good

theorem supervisorTimeout_good (b : Bool) (s : State) (hs : s.good L Q) :
    (supervisorTimeout b s).good L Q := by
  unfold supervisorTimeout
  repeat' first
     | with_reducible assumption | with_reducible apply ite_good | with_reducible apply State.setBit_good
     | with_reducible apply State.count_good | with_reducible apply linkReset_good
     | with_reducible apply standbyLoad_good | with_reducible apply moveToken_good

theorem stbyrptWrite_good (w : Who) (v : Word) (s : State) (hs : s.good L Q) :
    (stbyrptWrite w v s).good L Q := by
  unfold stbyrptWrite
  dsimp only
  repeat' first
     | intro _ | with_reducible assumption | with_reducible apply outGood_next | with_reducible apply ite_outGood
     | with_reducible apply optGood_some | exact optGood_none | with_reducible apply ite_optGood
     | with_reducible apply optGood_bind | with_reducible apply optGood_map | with_reducible apply ite_good
     | with_reducible apply ite_good2 | with_reducible apply ite_good3 | with_reducible apply State.setFld_good
     | with_reducible apply when_good | with_reducible apply plainWrite_good





theorem lsupCtrlWrite_good (w : Who) (v : Word) (s : State) (hs : s.good L Q) :
    (lsupCtrlWrite w v s).good L Q := by
  unfold lsupCtrlWrite
  dsimp only
  repeat' first
     | intro _ | with_reducible assumption | with_reducible apply ite_good | with_reducible apply State.setReg_good
     | with_reducible apply forAll_good | with_reducible apply plainWrite_good | with_reducible apply moveToken_good

theorem swapRequest_good (n : Nat) (s : State) (hs : s.good L Q) :
    (swapRequest n s).good L Q := by
  unfold swapRequest
  dsimp only
  repeat' first
     | intro _ | with_reducible assumption | with_reducible apply ite_good | with_reducible apply State.setBit_good
     | with_reducible apply forAll_good | with_reducible apply State.setGates_good | with_reducible apply rebank_good


theorem bankswapWrite_good (v : Word) (s : State) (hs : s.good L Q) :
    (bankswapWrite v s).good L Q := by
  unfold bankswapWrite
  dsimp only
  repeat' first
     | with_reducible assumption | with_reducible apply ite_good | with_reducible apply plainWrite_good
     | with_reducible apply swapCancel_good | with_reducible apply swapRequest_good | split

theorem stageBeginBody_good (r : Nat) (p : List Octet) (s : State) (hs : s.good L Q) :
    (stageBeginBody r p s).good L Q := by
  unfold stageBeginBody
  dsimp only
  repeat' first
     | with_reducible assumption | with_reducible apply State.count_good | with_reducible apply State.setStage_good
     | with_reducible apply stageTo_good | with_reducible apply stageReply_good | with_reducible apply stageGo_good
     | with_reducible apply started_good | simp only [good_mk] | split


theorem stageWriteBody_good (r : Nat) (p : List Octet) (s : State) (hs : s.good L Q) :
    (stageWriteBody r p s).good L Q := by
  unfold stageWriteBody
  dsimp only
  repeat' first
     | with_reducible assumption | with_reducible apply State.count_good | with_reducible apply State.setStage_good
     | with_reducible apply stageGo_good | with_reducible apply started_good

theorem stageCommitBody_good (r : Nat) (_p : List Octet) (s : State) (hs : s.good L Q) :
    (stageCommitBody r _p s).good L Q := by
  unfold stageCommitBody
  repeat' first
     | with_reducible assumption | with_reducible apply ite_good | with_reducible apply State.setStage_good
     | with_reducible apply stageTo_good | with_reducible apply stageReply_good

theorem stageStatusBody_good (r : Nat) (_p : List Octet) (s : State) (hs : s.good L Q) :
    (stageStatusBody r _p s).good L Q := by
  unfold stageStatusBody
  dsimp only
  repeat' first | with_reducible assumption | with_reducible apply ite_good | with_reducible apply done_good

theorem linkfwLoadBody_good (r : Nat) (p : List Octet) (s : State) (hs : s.good L Q) :
    (linkfwLoadBody r p s).good L Q := by
  unfold linkfwLoadBody
  repeat' first
     | with_reducible assumption | with_reducible apply State.setFld_good | with_reducible apply started_good
     | with_reducible apply standbyLoad_good

theorem linkfwSwapBody_good (r : Nat) (_p : List Octet) (s : State) (hs : s.good L Q) :
    (linkfwSwapBody r _p s).good L Q := by
  unfold linkfwSwapBody
  repeat' first
     | with_reducible assumption | with_reducible apply executing_good | with_reducible apply beat_good
     | with_reducible apply moveToken_good

theorem tableSwapBody_good (r : Nat) (p : List Octet) (s : State) (hs : s.good L Q) :
    (tableSwapBody r p s).good L Q := by
  unfold tableSwapBody
  dsimp only
  repeat' first
     | with_reducible assumption | with_reducible apply State.setFld_good | with_reducible apply started_good
     | with_reducible apply swapRequest_good

theorem selftestBody_good (r : Nat) (p : List Octet) (s : State) (hs : s.good L Q) :
    (selftestBody r p s).good L Q := by
  unfold selftestBody
  dsimp only
  repeat' first
     | with_reducible assumption | with_reducible apply State.drawn_good | with_reducible apply State.setCmdp_good
     | with_reducible apply started_good

theorem clearBlock_good (i : Nat) (s : State) (hs : s.good L Q) :
    (clearBlock i s).good L Q := by
  unfold clearBlock
  repeat' first
     | intro _ | with_reducible assumption | with_reducible apply ite_good | with_reducible apply State.setReg_good
     | with_reducible apply forAll_good

theorem clearCountersBody_good (r : Nat) (p : List Octet) (s : State) (hs : s.good L Q) :
    (clearCountersBody r p s).good L Q := by
  unfold clearCountersBody
  repeat' first
     | intro _ | with_reducible assumption | with_reducible apply forAll_good | with_reducible apply done_good
     | with_reducible apply clearBlock_good

theorem echoBody_good (r : Nat) (p : List Octet) (s : State) (hs : s.good L Q) :
    (echoBody r p s).good L Q := by
  unfold echoBody
  repeat' first | with_reducible assumption | with_reducible apply done_good

theorem dmaStart_good (n : Nat) (resume : Bool) (s : State) (hs : s.good L Q) :
    (dmaStart n resume s).good L Q := by
  unfold dmaStart
  dsimp only
  repeat' first
     | with_reducible assumption | with_reducible apply ite_good | with_reducible apply State.setReg_good
     | with_reducible apply State.setFld_good | with_reducible apply resume_good
     | with_reducible apply State.setDma_good | with_reducible apply State.setDmaSt_good

theorem dmaEnable_good (n : Nat) (v : Word) (s : State) (hs : s.good L Q) :
    (dmaEnable n v s).good L Q := by
  unfold dmaEnable
  dsimp only
  repeat' first
     | with_reducible assumption | with_reducible apply State.setDma_good | with_reducible apply State.setDmaSt_good
     | with_reducible apply dmaStart_good | simp only [good_mk] | split


theorem chctrlWrite_good (n : Nat) (v : Word) (s : State) (hs : s.good L Q) :
    (chctrlWrite n v s).good L Q := by
  unfold chctrlWrite
  dsimp only
  repeat' first
     | with_reducible assumption | with_reducible apply ite_good | with_reducible apply State.setFld_good
     | with_reducible apply plainWrite_good | with_reducible apply dmaTrig_good | with_reducible apply dmaEnable_good

theorem dmaLockedWrite_good (n a : Nat) (v : Word) (s : State) (hs : s.good L Q) :
    (dmaLockedWrite n a v s).good L Q := by
  unfold dmaLockedWrite
  repeat' first
     | with_reducible assumption | with_reducible apply ite_good | with_reducible apply plainWrite_good
     | with_reducible apply State.setDma_good

theorem forgetCore_good (k : Fin 4) (s : State) (hs : s.good L Q) :
    (forgetCore k s).good L Q := by
  unfold forgetCore
  repeat' first | intro _ | with_reducible assumption | simp only [good_mk]

theorem coreOff_good (k : Fin 4) (s : State) (hs : s.good L Q) :
    (coreOff k s).good L Q := by
  unfold coreOff
  dsimp only
  repeat' first
     | with_reducible assumption | with_reducible apply ite_good | with_reducible apply State.setBit_good
     | with_reducible apply State.setCore_good | with_reducible apply dropTransport_good
     | with_reducible apply forgetCore_good

theorem restartCore_good (k : Fin 4) (s : State) (hs : s.good L Q) :
    (restartCore k s).good L Q := by
  unfold restartCore
  dsimp only
  repeat' first
     | with_reducible assumption | with_reducible apply State.setCore_good | with_reducible apply forgetCore_good


theorem coreOn_good (k : Fin 4) (s : State) (hs : s.good L Q) :
    (coreOn k s).good L Q := by
  unfold coreOn
  repeat' first
     | with_reducible assumption | with_reducible apply ite_good | with_reducible apply State.setBit_good
     | with_reducible apply restartCore_good

theorem corectlWrite_good (v : Word) (s : State) (hs : s.good L Q) :
    (corectlWrite v s).good L Q := by
  unfold corectlWrite
  repeat' first
     | intro _ | with_reducible assumption | with_reducible apply ite_good | with_reducible apply forAll_good
     | with_reducible apply plainWrite_good | with_reducible apply coreOff_good | with_reducible apply coreOn_good

theorem wdExpire_good (k : Fin 4) (s : State) (hs : s.good L Q) :
    (wdExpire k s).good L Q := by
  unfold wdExpire
  dsimp only
  repeat' first
     | with_reducible assumption | with_reducible apply ite_good | with_reducible apply State.setFld_good
     | with_reducible apply State.setBit_good | with_reducible apply dropTransport_good
     | with_reducible apply appReset_good | with_reducible apply restartCore_good

theorem wdKick_good (k : Fin 4) (v : Word) (s : State) (hs : s.good L Q) :
    (wdKick k v s).good L Q := by
  unfold wdKick
  repeat' first
     | with_reducible assumption | with_reducible apply ite_good | with_reducible apply State.setFld_good
     | with_reducible apply wdExpire_good

theorem dbgRegRead_good (s : State) (hs : s.good L Q) :
    (dbgRegRead s).2.good L Q := by
  unfold dbgRegRead
  try dsimp only
  repeat' first
     | with_reducible assumption | with_reducible apply ite_good | with_reducible apply ite_good2
     | with_reducible apply sysRead_good | split


theorem dbgRegWrite_good (v : Word) (s : State) (hs : s.good L Q) :
    (dbgRegWrite v s).good L Q := by
  unfold dbgRegWrite
  dsimp only
  repeat' first
     | with_reducible assumption | with_reducible apply ite_good | with_reducible apply State.setCore_good
     | simp only [good_mk] | split


theorem lhaltWrite_good (v : Word) (s : State) (hs : s.good L Q) :
    (lhaltWrite v s).good L Q := by
  unfold lhaltWrite
  repeat' first
     | intro _ | with_reducible assumption | with_reducible apply ite_good | with_reducible apply State.setBit_good
     | with_reducible apply forAll_good

theorem dbgCtrlWrite_good (v : Word) (s : State) (hs : s.good L Q) :
    (dbgCtrlWrite v s).good L Q := by
  unfold dbgCtrlWrite
  repeat' first
     | with_reducible assumption | with_reducible apply plainWrite_good | with_reducible apply dbgHalt_good
     | with_reducible apply dbgStep_good | with_reducible apply dbgResume_good | with_reducible apply lhaltWrite_good

theorem dbgLevelWrite_good (v : Word) (s : State) (hs : s.good L Q) :
    (dbgLevelWrite v s).good L Q := by
  unfold dbgLevelWrite
  split
  · next h =>
    have e : (BitVec.ofNat 2 v.toNat).toNat = bits v 0 2 := by simp [bits]
    have hl := hs.2.2.1
    refine ⟨hs.1, hs.2.1, ?_, hs.2.2.2⟩
    show L ≤ (BitVec.ofNat 2 v.toNat).toNat
    omega
  · exact hs

theorem writeSys_good (a : Nat) (v : Word) (s : State) (hs : s.good L Q) :
    (writeSys a v s).good L Q := by
  unfold writeSys
  repeat' first
     | with_reducible assumption | with_reducible apply ite_good | with_reducible apply plainWrite_good
     | with_reducible apply faultShow_good | with_reducible apply rtcCtrlWrite_good
     | with_reducible apply pmuReqWrite_good | with_reducible apply rstctrlWrite_good

theorem mtSrcWrite_good (v : Word) (s : State) (hs : s.good L Q) :
    (mtSrcWrite v s).good L Q := by
  unfold mtSrcWrite
  repeat' first | with_reducible assumption | with_reducible apply plainWrite_good | with_reducible apply srcChanged_good

theorem writeMt_good (a : Nat) (v : Word) (s : State) (hs : s.good L Q) :
    (writeMt a v s).good L Q := by
  unfold writeMt
  dsimp only
  repeat' first
     | with_reducible assumption | with_reducible apply ite_good | with_reducible apply plainWrite_good
     | with_reducible apply armCompare_good | with_reducible apply mtcCtrlWrite_good
     | with_reducible apply mtCtrlWrite_good | with_reducible apply rateWrite_good
     | with_reducible apply slew0Write_good | with_reducible apply slewcfgWrite_good
     | with_reducible apply usetWrite_good | with_reducible apply ualarmWrite_good
     | with_reducible apply slewWatch_good | with_reducible apply slewReplace_good
     | with_reducible apply mtSrcWrite_good

theorem dropGateWait_good (b : Nat) (s : State) (hs : s.good L Q) :
    (dropGateWait b s).good L Q := by
  unfold dropGateWait
  dsimp only
  repeat' first
     | with_reducible assumption | with_reducible apply State.setBand_good | simp only [good_mk] | split



theorem gateCtrlWrite_good (v : Word) (s : State) (hs : s.good L Q) :
    (gateCtrlWrite v s).good L Q := by
  unfold gateCtrlWrite
  dsimp only
  repeat' first
     | intro _ | with_reducible assumption | with_reducible apply ite_good | with_reducible apply forAll_good
     | with_reducible apply plainWrite_good | with_reducible apply returnHead_good
     | with_reducible apply releaseAct_good | with_reducible apply clearBlock_good
     | with_reducible apply dropGateWait_good

theorem writeGate_good (a : Nat) (v : Word) (s : State) (hs : s.good L Q) :
    (writeGate a v s).good L Q := by
  unfold writeGate
  dsimp only
  repeat' first
     | with_reducible assumption | with_reducible apply ite_good | with_reducible apply plainWrite_good
     | with_reducible apply courseCfgWrite_good | with_reducible apply coursePlainWrite_good
     | with_reducible apply gateCommitWrite_good | with_reducible apply gateCtrlWrite_good

theorem writeFe_good (a : Nat) (v : Word) (s : State) (hs : s.good L Q) :
    (writeFe a v s).good L Q := by
  unfold writeFe
  dsimp only
  repeat' first
     | with_reducible assumption | with_reducible apply ite_good | with_reducible apply plainWrite_good
     | with_reducible apply calCommitWrite_good | with_reducible apply feCtrlWrite_good

theorem writeLane_good (a : Nat) (v : Word) (s : State) (hs : s.good L Q) :
    (writeLane a v s).good L Q := by
  unfold writeLane
  repeat' first
     | with_reducible assumption | with_reducible apply ite_good | with_reducible apply plainWrite_good
     | with_reducible apply txcCfgWrite_good | with_reducible apply ruleWrite_good
     | with_reducible apply pathGainWrite_good | with_reducible apply oosWrite_good | with_reducible apply halt_good
     | with_reducible apply clearBlock_good

theorem ctrlWrite_good (a i n : Nat) (v : Word) (s : State) (hs : s.good L Q) :
    (ctrlWrite a i n v s).good L Q := by
  unfold ctrlWrite
  repeat' first
     | with_reducible assumption | with_reducible apply ite_good | with_reducible apply plainWrite_good
     | with_reducible apply clearBlock_good

theorem writeFwd_good (a : Nat) (v : Word) (s : State) (hs : s.good L Q) :
    (writeFwd a v s).good L Q := by
  unfold writeFwd
  repeat' first
     | with_reducible assumption | with_reducible apply ite_good | with_reducible apply plainWrite_good
     | with_reducible apply freeChain_good | with_reducible apply qPush_good | with_reducible apply qPushHead_good
     | with_reducible apply windowCommitWrite_good | with_reducible apply routeCommitWrite_good
     | with_reducible apply clearBlock_good | with_reducible apply ctrlWrite_good

theorem postWrite_good (k : Nat) (v : Word) (s : State) (hs : s.good L Q) :
    (postWrite k v s).good L Q := by
  unfold postWrite
  repeat' first
     | with_reducible assumption | with_reducible apply ite_good | with_reducible apply sayReset_good
     | with_reducible apply mailboxPost_good

theorem writeCmdp_good (a : Nat) (v : Word) (s : State) (hs : s.good L Q) :
    (writeCmdp a v s).good L Q := by
  unfold writeCmdp
  repeat' first
     | with_reducible assumption | with_reducible apply ite_good | with_reducible apply plainWrite_good
     | with_reducible apply ctrlWrite_good | with_reducible apply postWrite_good

theorem lsupStatusWrite_good (v : Word) (s : State) (hs : s.good L Q) :
    (lsupStatusWrite v s).good L Q := by
  unfold lsupStatusWrite
  dsimp only
  repeat' first
     | with_reducible assumption | with_reducible apply State.setBit_good | with_reducible apply plainWrite_good
     | with_reducible apply faultShow_good

theorem writeLsup_good (w : Who) (a : Nat) (v : Word) (s : State) (hs : s.good L Q) :
    (writeLsup w a v s).good L Q := by
  unfold writeLsup
  repeat' first
     | with_reducible assumption | with_reducible apply ite_good | with_reducible apply plainWrite_good
     | with_reducible apply heartbeat_good | with_reducible apply stbycmdWrite_good
     | with_reducible apply stbyrptWrite_good | with_reducible apply lsupCtrlWrite_good
     | with_reducible apply bankswapWrite_good | with_reducible apply lsupStatusWrite_good

theorem writeLink_good (a : Nat) (v : Word) (s : State) (hs : s.good L Q) :
    (writeLink a v s).good L Q := by
  unfold writeLink
  dsimp only
  repeat' first
     | with_reducible assumption | with_reducible apply ite_good | with_reducible apply plainWrite_good
     | with_reducible apply ctrLowWrite_good | with_reducible apply ctrCommit_good
     | with_reducible apply keyCommitWrite_good | with_reducible apply keyStageWrite_good
     | with_reducible apply nbrCommitWrite_good | with_reducible apply ctrlWrite_good | split



theorem writeEcc_good (w : Who) (a : Nat) (v : Word) (s : State) (hs : s.good L Q) :
    (writeEcc w a v s).good L Q := by
  unfold writeEcc
  repeat' first
     | with_reducible assumption | with_reducible apply ite_good | with_reducible apply plainWrite_good
     | with_reducible apply offlineWrite_good | with_reducible apply b15Write_good
     | with_reducible apply retainWrite_good | with_reducible apply eccCtrlWrite_good

theorem writeDma_good (a : Nat) (v : Word) (s : State) (hs : s.good L Q) :
    (writeDma a v s).good L Q := by
  unfold writeDma
  dsimp only
  repeat' first
     | with_reducible assumption | with_reducible apply ite_good | with_reducible apply plainWrite_good
     | with_reducible apply chctrlWrite_good | with_reducible apply dmaLockedWrite_good | split



theorem writeFabric_good (a : Nat) (v : Word) (s : State) (hs : s.good L Q) :
    (writeFabric a v s).good L Q := by
  unfold writeFabric
  dsimp only
  repeat' first
     | with_reducible assumption | with_reducible apply ite_good | with_reducible apply plainWrite_good
     | with_reducible apply gtArm_good | with_reducible apply gtTopWrite_good | with_reducible apply gtCfgWrite_good
     | with_reducible apply evfCfgWrite_good | with_reducible apply evfDstWrite_good
     | with_reducible apply lutInWrite_good | with_reducible apply lutCtlWrite_good | split



theorem writeIntc_good (a : Nat) (v : Word) (s : State) (hs : s.good L Q) :
    (writeIntc a v s).good L Q := by
  unfold writeIntc
  dsimp only
  repeat' first
     | with_reducible assumption | with_reducible apply ite_good | with_reducible apply plainWrite_good
     | with_reducible apply setpendWrite_good | with_reducible apply wdCfgWrite_good
     | with_reducible apply corectlWrite_good | with_reducible apply wdKick_good

theorem writeDbg_good (a : Nat) (v : Word) (s : State) (hs : s.good L Q) :
    (writeDbg a v s).good L Q := by
  unfold writeDbg
  repeat' first
     | with_reducible assumption | with_reducible apply ite_good | with_reducible apply plainWrite_good
     | with_reducible apply dbgRegWrite_good | with_reducible apply dbgCtrlWrite_good
     | with_reducible apply dbgLevelWrite_good

theorem regWrite_good (w : Who) (a : Nat) (v : Word) (s : State) (hs : s.good L Q) :
    (regWrite w a v s).good L Q := by
  unfold regWrite
  try dsimp only
  repeat' first
     | with_reducible assumption | with_reducible apply plainWrite_good | with_reducible apply writeSys_good
     | with_reducible apply writeMt_good | with_reducible apply writeGate_good | with_reducible apply writeFe_good
     | with_reducible apply writeLane_good | with_reducible apply writeFwd_good | with_reducible apply writeCmdp_good
     | with_reducible apply writeLsup_good | with_reducible apply writeLink_good | with_reducible apply writeEcc_good
     | with_reducible apply writeDma_good | with_reducible apply writeFabric_good
     | with_reducible apply writeIntc_good | with_reducible apply writeDbg_good | split



theorem laneStatusRead_good (a : Nat) (s : State) (hs : s.good L Q) :
    (laneStatusRead a s).2.good L Q := by
  unfold laneStatusRead
  dsimp only
  repeat' first
     | with_reducible assumption | with_reducible apply ite_good | with_reducible apply ite_good2
     | with_reducible apply State.drawn_good

theorem bkpStatusRead_good (s : State) (hs : s.good L Q) :
    (bkpStatusRead s).2.good L Q := by
  unfold bkpStatusRead
  repeat' first
     | with_reducible assumption | with_reducible apply ite_good | with_reducible apply ite_good2
     | with_reducible apply State.drawn_good

theorem mtRead_good (w : Who) (a : Nat) (s : State) (hs : s.good L Q) :
    (mtRead w a s).2.good L Q := by
  unfold mtRead
  dsimp only
  repeat' first
     | with_reducible assumption | with_reducible apply ite_good | with_reducible apply ite_good2
     | with_reducible apply readCap_good | with_reducible apply readNow0_good | split



theorem rtcRead_good (w : Who) (s : State) (hs : s.good L Q) :
    (rtcRead w s).2.good L Q := by
  unfold rtcRead
  repeat' first | with_reducible assumption | with_reducible apply State.setBkp_good

theorem regRead_good (w : Who) (a : Nat) (s : State) (hs : s.good L Q) :
    (regRead w a s).2.good L Q := by
  unfold regRead
  repeat' first
     | with_reducible assumption | with_reducible apply ite_good | with_reducible apply ite_good2
     | with_reducible apply gtCapRead_good | with_reducible apply qPop_good | with_reducible apply allocRead_good
     | with_reducible apply wdCountRead_good | with_reducible apply dbgRegRead_good
     | with_reducible apply laneStatusRead_good | with_reducible apply bkpStatusRead_good
     | with_reducible apply mtRead_good | with_reducible apply rtcRead_good

theorem busRead_good (w : Who) (a : Nat) (s : State) (hs : s.good L Q) :
    (busRead w a s).2.2.good L Q := by
  have key : ∀ p : Word × State, p.2.good L Q → ((p.1, false, p.2) : Word × Bool × State).2.2.good L Q := fun _ h => h
  by_cases h : regRange a
  · by_cases h2 : s.mayRead w a
    · rw [busRead, if_pos h, if_pos h2]
      exact key _ (regRead_good w a s hs)
    · rw [busRead, if_pos h, if_neg h2]
      exact hs
  · by_cases h2 : s.mpuAllows w a .rd
    · rw [busRead, if_neg h, if_pos h2]
      exact memRead_good _ _ _ hs
    · rw [busRead, if_neg h, if_neg h2]
      exact hs

theorem busWrite_good (w : Who) (a : Nat) (v : Word) (s : State) (hs : s.good L Q) :
    (busWrite w a v s).good L Q := by
  unfold busWrite
  repeat' first
     | with_reducible assumption | with_reducible apply ite_good | with_reducible apply memWrite_good
     | with_reducible apply regWrite_good

theorem busWriteOctet_good (w : Who) (a lane : Nat) (o : Octet) (s : State) (hs : s.good L Q) :
    (busWriteOctet w a lane o s).good L Q := by
  unfold busWriteOctet
  repeat' first
     | with_reducible assumption | with_reducible apply ite_good | with_reducible apply memWriteOctet_good
     | with_reducible apply State.setLane_good | with_reducible apply busWrite_good

theorem busReadOctet_good (w : Who) (a lane : Nat) (s : State) (hs : s.good L Q) :
    (busReadOctet w a lane s).2.2.good L Q := by
  unfold busReadOctet
  dsimp only
  repeat' first
     | with_reducible assumption | with_reducible apply ite_good | with_reducible apply ite_good2
     | with_reducible apply ite_good3 | with_reducible apply memReadOctet_good | with_reducible apply busRead_good



theorem dbgUpdate_good (dr : BitVec 50) (s : State) (hs : s.good L Q) :
    (dbgUpdate dr s).good L Q := by
  unfold dbgUpdate
  dsimp only
  repeat' first
     | with_reducible assumption | with_reducible apply ite_good | with_reducible apply busRead_good
     | with_reducible apply busWrite_good | simp only [good_mk]

theorem busWords_good (w : Who) (x0 : Nat) (x1 : Nat) (x2 : State) (hx2 : x2.good L Q) :
    (busWords w x0 x1 x2).2.good L Q := by
  induction x1 generalizing w x0 x2 with
  | zero =>
    unfold busWords
    try dsimp only
    repeat' first
       | with_reducible assumption


  | succ n ih =>
    unfold busWords
    try dsimp only
    repeat' first
       | with_reducible assumption | with_reducible apply ite_good | with_reducible apply ite_good2
       | with_reducible apply busRead_good | with_reducible apply ih | split


theorem getCountersBody_good (r : Nat) (p : List Octet) (s : State) (hs : s.good L Q) :
    (getCountersBody r p s).good L Q := by
  unfold getCountersBody
  dsimp only
  repeat' first
     | with_reducible assumption | with_reducible apply done_good | with_reducible apply busWords_good

theorem judgePacket_good (p : Packet) (s : State) (hs : s.good L Q) :
    (judgePacket p s).good L Q := by
  unfold judgePacket
  dsimp only
  repeat' first
     | with_reducible assumption | with_reducible apply ite_good | with_reducible apply when_good
     | with_reducible apply plainReply_good | with_reducible apply tCount_good | with_reducible apply journal_good
     | split


theorem takeSlots_good (s : State) (hs : s.good L Q) :
    (takeSlots s).good L Q := by
  unfold takeSlots
  dsimp only
  repeat' first
     | with_reducible assumption | with_reducible apply ite_good | with_reducible apply forAll_good
     | with_reducible apply State.setCmdp_good | with_reducible apply judgePacket_good

theorem framePacket_good (p : Packet) (s : State) (hs : s.good L Q) :
    (framePacket p s).good L Q := by
  unfold framePacket
  repeat' first
     | with_reducible assumption | with_reducible apply State.setCmdp_good | with_reducible apply takeSlots_good


theorem spiSays_good (l : List Octet) (s : State) (hs : s.good L Q) :
    (spiSays l s).good L Q := by
  unfold spiSays
  repeat' first | with_reducible assumption | with_reducible apply State.setCmdp_good

theorem spiWrite_good (p : List Octet) (s : State) (hs : s.good L Q) :
    (spiWrite p s).good L Q := by
  unfold spiWrite
  dsimp only
  repeat' first
     | intro _ | with_reducible assumption | with_reducible apply ite_good | with_reducible apply tCount_good
     | with_reducible apply framePacket_good | with_reducible apply spiSays_good

theorem spiRead_good (n : Nat) (s : State) (hs : s.good L Q) :
    (spiRead n s).good L Q := by
  unfold spiRead
  dsimp only
  repeat' first
     | with_reducible assumption | with_reducible apply ite_good | with_reducible apply State.drawn_good
     | with_reducible apply State.setCmdp_good | with_reducible apply sentOut_good
     | with_reducible apply spiSays_good

theorem spiRepeat_good (n : Nat) (s : State) (hs : s.good L Q) :
    (spiRepeat n s).good L Q := by
  unfold spiRepeat
  repeat' first | with_reducible assumption | with_reducible apply State.drawn_good | with_reducible apply spiSays_good

theorem spiStatus_good (op : Octet) (n : Nat) (s : State) (hs : s.good L Q) :
    (spiStatus op n s).good L Q := by
  unfold spiStatus
  repeat' first
     | with_reducible assumption | with_reducible apply ite_good | with_reducible apply tCount_good
     | with_reducible apply spiSays_good

theorem spiAsleep_good (op : Octet) (n : Nat) (s : State) (hs : s.good L Q) :
    (spiAsleep op n s).good L Q := by
  unfold spiAsleep
  repeat' first
     | intro _ | with_reducible assumption | with_reducible apply ite_good | with_reducible apply State.drawn_good
     | with_reducible apply State.setCmdp_good

theorem spiTalk_good (op : Octet) (n : Nat) (f : State → State) (s : State) (hf : ∀ (y0 : State), y0.good L Q → (f y0).good L Q) (hs : s.good L Q) :
    (spiTalk op n f s).good L Q := by
  unfold spiTalk
  repeat' first
     | intro _ | with_reducible assumption | with_reducible apply ite_good | with_reducible apply sayReset_good
     | with_reducible apply spiAsleep_good | with_reducible apply hf

theorem uartSync_good (s : State) (hs : s.good L Q) :
    (uartSync s).good L Q := by
  unfold uartSync
  repeat' first
     | with_reducible assumption | with_reducible apply ite_good | with_reducible apply State.setCmdp_good
     | with_reducible apply tCount_good

theorem uartHunt_good (s : State) (hs : s.good L Q) :
    (uartHunt s).good L Q := by
  unfold uartHunt
  repeat' first | with_reducible assumption | with_reducible apply State.setCmdp_good

theorem uartOctets_good  (x0 : Nat) (x1 : List Octet) (x2 : State) (hx2 : x2.good L Q) :
    (uartOctets x0 x1 x2).good L Q := by
  induction x0 generalizing x1 x2 with
  | zero =>
    unfold uartOctets
    try dsimp only
    repeat' first
       | intro _ | with_reducible assumption




  | succ n ih =>
    unfold uartOctets
    try dsimp only
    repeat' first
       | intro _ | with_reducible assumption | with_reducible apply ite_good | with_reducible apply tCount_good
       | with_reducible apply framePacket_good | with_reducible apply uartSync_good
       | with_reducible apply uartHunt_good | with_reducible apply ih | simp only [good_mk] | split



theorem uartPacket_good (l : List Octet) (s : State) (hs : s.good L Q) :
    (uartPacket l s).good L Q := by
  unfold uartPacket
  repeat' first | with_reducible assumption | with_reducible apply uartOctets_good

theorem uartReply_good (s : State) (hs : s.good L Q) :
    (uartReply s).good L Q := by
  unfold uartReply
  repeat' first
     | with_reducible assumption | with_reducible apply State.setCmdp_good | with_reducible apply sentOut_good


theorem ctsChange_good (low : Bool) (s : State) (hs : s.good L Q) :
    (ctsChange low s).good L Q := by
  unfold ctsChange
  dsimp only
  repeat' first
     | with_reducible assumption | with_reducible apply ite_good | with_reducible apply State.drawn_good
     | with_reducible apply State.setCmdp_good | simp only [good_mk]

theorem mailboxCopy_good (k a : Nat) (s : State) (hs : s.good L Q) :
    (mailboxCopy k a s).good L Q := by
  unfold mailboxCopy
  dsimp only
  repeat' first
     | with_reducible assumption | with_reducible apply ite_good | with_reducible apply State.setBit_good
     | with_reducible apply State.setCmdp_good | with_reducible apply tCount_good
     | with_reducible apply portWords_good | with_reducible apply framePacket_good



theorem ringWord_good (a : Nat) (v : Word) (s : State) (hs : s.good L Q) :
    (ringWord a v s).good L Q := by
  unfold ringWord
  repeat' first | with_reducible assumption | with_reducible apply ite_good | with_reducible apply portWrite_good

theorem ringWords_good  (x0 : Nat) (x1 : List Word) (x2 : State) (hx2 : x2.good L Q) :
    (ringWords x0 x1 x2).good L Q := by
  induction x1 generalizing x0 x2 with
  | nil =>
    unfold ringWords
    try dsimp only
    repeat' first
       | with_reducible assumption


  | cons v t ih =>
    unfold ringWords
    try dsimp only
    repeat' first
       | with_reducible assumption | with_reducible apply ringWord_good | with_reducible apply ih



theorem mailboxReply_good (k : Nat) (s : State) (hs : s.good L Q) :
    (mailboxReply k s).good L Q := by
  unfold mailboxReply
  dsimp only
  repeat' first
     | with_reducible assumption | with_reducible apply ite_good | with_reducible apply State.setFld_good
     | with_reducible apply fire_good | with_reducible apply sentOut_good | with_reducible apply ringWord_good
     | with_reducible apply ringWords_good | split


theorem deferredStart_good (s : State) (hs : s.good L Q) :
    (deferredStart s).good L Q := by
  unfold deferredStart
  dsimp only
  repeat' first
     | intro _ | with_reducible assumption | with_reducible apply State.setCmdp_good
     | with_reducible apply setChange_good | with_reducible apply domainReset_good | simp only [good_mk] | split



theorem lateOut_good (s : State) (hs : s.good L Q) :
    (lateOut s).good L Q := by
  unfold lateOut
  dsimp only
  repeat' first
     | intro _ | with_reducible assumption | with_reducible apply forAll_good | with_reducible apply noticeFor_good
     | with_reducible apply State.setCmdp_good | with_reducible apply finalReply_good

theorem takeUp_good (s : State) (hs : s.good L Q) :
    (takeUp s).good L Q := by
  unfold takeUp
  dsimp only
  repeat' first
     | intro _ | with_reducible assumption | with_reducible apply forAll_good | with_reducible apply firmTakes_good
     | with_reducible apply State.setStage_good | with_reducible apply stageGo_good
     | with_reducible apply stageDone_good | simp only [good_mk] | split


theorem hostCommand_good {opc : Nat} {check : List Octet → State → Nat} {body : Nat → List Octet → State → State}
    (h : hostCommand opc = some (check, body)) (r : Nat) (p : List Octet) (s : State) (hs : s.good L Q) : (body r p s).good L Q := by
  unfold hostCommand at h
  split at h
  · cases h; exact pingBody_good _ _ _ hs
  · cases h; exact getInfoBody_good _ _ _ hs
  · cases h; exact resetDomainBody_good _ _ _ hs
  · cases h; exact getCauseBody_good _ _ _ hs
  · cases h; exact setModeBody_good _ _ _ hs
  · cases h; exact getModeBody_good _ _ _ hs
  · cases h; exact wakeRecordBody_good _ _ _ hs
  · cases h; exact radioConfigBody_good _ _ _ hs
  · cases h; exact tuneBody_good _ _ _ hs
  · cases h; exact calibrateBody_good _ _ _ hs
  · cases h; exact calPolicyBody_good _ _ _ hs
  · cases h; exact setTxPowerBody_good _ _ _ hs
  · cases h; exact powerCurveBody_good _ _ _ hs
  · cases h; exact laneAssignBody_good _ _ _ hs
  · cases h; exact laneReleaseBody_good _ _ _ hs
  · cases h; exact txFrameBody_good _ _ _ hs
  · cases h; exact measureBody_good _ _ _ hs
  · cases h; exact soundBody_good _ _ _ hs
  · cases h; exact mtGetBody_good _ _ _ hs
  · cases h; exact mtStepBody_good _ _ _ hs
  · cases h; exact mtSlewBody_good _ _ _ hs
  · cases h; exact sourceBody_good _ _ _ hs
  · cases h; exact mtStatusBody_good _ _ _ hs
  · cases h; exact gateWriteBody_good _ _ _ hs
  · cases h; exact gateReadBody_good _ _ _ hs
  · cases h; exact courseConfigBody_good _ _ _ hs
  · cases h; exact courseStartBody_good _ _ _ hs
  · cases h; exact courseStopBody_good _ _ _ hs
  · cases h; exact hopseqBody_good _ _ _ hs
  · cases h; exact nbrReadBody_good _ _ _ hs
  · cases h; exact nbrWriteBody_good _ _ _ hs
  · cases h; exact nbrEvictBody_good _ _ _ hs
  · cases h; exact routeWriteBody_good _ _ _ hs
  · cases h; exact routeReadBody_good _ _ _ hs
  · cases h; exact tonemapWriteBody_good _ _ _ hs
  · cases h; exact tonemapReadBody_good _ _ _ hs
  · cases h; exact keyLoadBody_good _ _ _ hs
  · cases h; exact keySelectBody_good _ _ _ hs
  · cases h; exact secStatusBody_good _ _ _ hs
  · cases h; exact windowDefineBody_good _ _ _ hs
  · cases h; exact windowCloseBody_good _ _ _ hs
  · cases h; exact windowOpBody_good _ _ _ hs
  · cases h; exact stageBeginBody_good _ _ _ hs
  · cases h; exact stageWriteBody_good _ _ _ hs
  · cases h; exact stageCommitBody_good _ _ _ hs
  · cases h; exact stageStatusBody_good _ _ _ hs
  · cases h; exact linkfwLoadBody_good _ _ _ hs
  · cases h; exact linkfwSwapBody_good _ _ _ hs
  · cases h; exact tableSwapBody_good _ _ _ hs
  · cases h; exact selftestBody_good _ _ _ hs
  · cases h; exact getCountersBody_good _ _ _ hs
  · cases h; exact clearCountersBody_good _ _ _ hs
  · cases h; exact echoBody_good _ _ _ hs
  · cases h

theorem runRec_good (r : Nat) (s : State) (hs : s.good L Q) :
    (runRec r s).good L Q := by
  unfold runRec
  with_reducible apply ite_good
  · exact abortBody_good _ _ _ hs
  · split
    · next check body h =>
      exact startCmd_good _ _ _ _ _ (fun r p y hy => hostCommand_good h r p y hy) hs
    · exact hs

theorem openOctets_good (n : Nat) (s : State) (hs : s.good L Q) :
    (openOctets n s).2.good L Q := by
  unfold openOctets
  repeat' first | intro _ | with_reducible assumption | simp only [good_mk]

theorem effectResult_good (r : Nat) (s : State) (hs : s.good L Q) :
    (effectResult r s).2.good L Q := by
  unfold effectResult
  dsimp only
  repeat' first
     | with_reducible assumption | with_reducible apply ite_good | with_reducible apply ite_good2
     | with_reducible apply openOctets_good | split


theorem resumeRec_good (r : Nat) (s : State) (hs : s.good L Q) :
    (resumeRec r s).good L Q := by
  unfold resumeRec
  dsimp only
  repeat' first
     | with_reducible assumption | with_reducible apply ite_good | with_reducible apply State.setCmdp_good
     | with_reducible apply finalReply_good | with_reducible apply runRec_good
     | with_reducible apply effectResult_good | simp only [good_mk] | split



theorem takeoverResume_good (cause dur : Nat) (s : State) (hs : s.good L Q) :
    (takeoverResume cause dur s).good L Q := by
  unfold takeoverResume
  dsimp only
  repeat' first
     | intro _ | with_reducible assumption | with_reducible apply ite_good | with_reducible apply State.setReg_good
     | with_reducible apply State.setBit_good | with_reducible apply State.countBy_good
     | with_reducible apply State.count_good | with_reducible apply forAll_good | with_reducible apply notice_good
     | with_reducible apply State.setCmdp_good | with_reducible apply parentLookAll_good
     | with_reducible apply State.setLsup_good | with_reducible apply beat_good | with_reducible apply takeSlots_good
     | with_reducible apply lateOut_good | with_reducible apply takeUp_good | with_reducible apply resumeRec_good

theorem dmaIllegal_good (n : Nat) (s : State) (hs : s.good L Q) :
    (dmaIllegal n s).good L Q := by
  unfold dmaIllegal
  repeat' first | with_reducible assumption | with_reducible apply dmaFault_good

theorem dmaFetch_good (a : Nat) (s : State) (hs : s.good L Q) :
    (dmaFetch a s).2.2.good L Q := by
  unfold dmaFetch
  repeat' first
     | with_reducible assumption | with_reducible apply ite_good | with_reducible apply ite_good2
     | with_reducible apply ite_good3 | with_reducible apply memRead_good

theorem dmaFetches_good  (x0 : Nat) (x1 : Nat) (x2 : State) (hx2 : x2.good L Q) :
    (dmaFetches x0 x1 x2).2.2.good L Q := by
  induction x1 generalizing x0 x2 with
  | zero =>
    unfold dmaFetches
    try dsimp only
    repeat' first
       | with_reducible assumption



  | succ n ih =>
    unfold dmaFetches
    try dsimp only
    repeat' first
       | with_reducible assumption | with_reducible apply ite_good | with_reducible apply ite_good2
       | with_reducible apply ite_good3 | with_reducible apply dmaFetch_good | with_reducible apply ih



theorem dmaInstr_good (n op words : Nat) (body : List Word → State → State) (s : State) (hbody : ∀ (y0 : List Word) (y1 : State), y1.good L Q → (body y0 y1).good L Q) (hs : s.good L Q) :
    (dmaInstr n op words body s).good L Q := by
  unfold dmaInstr
  dsimp only
  repeat' first
     | intro _ | with_reducible assumption | with_reducible apply ite_good | with_reducible apply dmaEcc_good
     | with_reducible apply dmaIllegal_good | with_reducible apply dmaFetch_good
     | with_reducible apply dmaFetches_good | with_reducible apply hbody | split
     | with_reducible refine good_of_eq2 ‹_› ?_ | with_reducible refine good_of_eq3 ‹_› ?_


theorem dmaMove_good (n : Nat) (l : List Word) (s : State) (hs : s.good L Q) :
    (dmaMove n l s).good L Q := by
  unfold dmaMove
  dsimp only
  repeat' first
     | with_reducible assumption | with_reducible apply ite_good | with_reducible apply State.setReg_good
     | with_reducible apply State.setDma_good | with_reducible apply dmaNext_good
     | with_reducible apply dmaIllegal_good

theorem unitRead_good (n : Fin 32) (w0 : Word) (a : Nat) (s : State) (hs : s.good L Q) :
    (unitRead n w0 a s).2.2.good L Q := by
  unfold unitRead
  dsimp only
  repeat' first
     | with_reducible assumption | with_reducible apply ite_good | with_reducible apply ite_good2
     | with_reducible apply ite_good3 | with_reducible apply busRead_good | with_reducible apply busReadOctet_good



theorem unitPut_good (n : Nat) (w0 : Word) (x : Nat) (v : Word) (s : State) (hs : s.good L Q) :
    (unitPut n w0 x v s).good L Q := by
  unfold unitPut
  repeat' first
     | with_reducible assumption | with_reducible apply ite_good | with_reducible apply memPut_good
     | with_reducible apply busWrite_good | with_reducible apply busWriteOctet_good

theorem readUnits_good (n : Fin 32) (w0 : Word) (x0 : Nat) (x1 : Nat) (x2 : State) (hx2 : x2.good L Q) :
    (readUnits n w0 x0 x1 x2).2.2.2.good L Q := by
  induction x0 generalizing x1 x2 with
  | zero => exact hx2
  | succ k ih =>
    unfold readUnits
    have h1 := unitAddr_good w0 false x1 x2 hx2
    generalize unitAddr w0 false x1 x2 = p at h1 ⊢
    obtain ⟨e, s1⟩ := p
    rcases e with (_ | lw) | x
    · exact h1
    · exact h1
    · have h2 := unitRead_good n w0 x s1 h1
      dsimp only at h1 h2 ⊢
      generalize unitRead n w0 x s1 = q at h2 ⊢
      obtain ⟨v, err, s2⟩ := q
      dsimp only at h2 ⊢
      split
      · exact h2
      · exact ih _ _ h2

theorem readBurst_good (n : Fin 32) (k : Nat) (s : State) (hs : s.good L Q) :
    (readBurst n k s).good L Q := by
  unfold readBurst
  dsimp only
  repeat' first
     | with_reducible assumption | with_reducible apply ite_good | with_reducible apply State.setReg_good
     | with_reducible apply burstFault_good | with_reducible apply flushCh_good | with_reducible apply unitPut_good
     | with_reducible apply readUnits_good | simp only [good_mk] | split


theorem newWindow_good (fresh : Bool) (s : State) (hs : s.good L Q) :
    (newWindow fresh s).good L Q := by
  unfold newWindow
  repeat' first | with_reducible assumption | with_reducible apply ite_good | simp only [good_mk]

theorem turnTaken_good (n : Nat) (s : State) (hs : s.good L Q) :
    (turnTaken n s).good L Q := by
  unfold turnTaken
  repeat' first | with_reducible assumption | with_reducible apply ite_good | simp only [good_mk]

theorem rwinTurn_good (c0 : Bool) (s : State) (hs : s.good L Q) :
    (rwinTurn c0 s).good L Q := by
  unfold rwinTurn
  repeat' first | with_reducible assumption | with_reducible apply ite_good | simp only [good_mk]

theorem dmaBurst_good (n : Fin 32) (at_ : BurstTime) (s : State) (hs : s.good L Q) :
    (dmaBurst n at_ s).good L Q := by
  unfold dmaBurst
  dsimp only
  repeat' first
     | with_reducible assumption | with_reducible apply ite_good | with_reducible apply writeOldest_good
     | with_reducible apply writeSome_good | with_reducible apply flushCh_good | with_reducible apply unitPut_good
     | with_reducible apply readBurst_good | with_reducible apply newWindow_good
     | with_reducible apply turnTaken_good | simp only [good_mk]

theorem dmaLoop_good (n : Nat) (l : List Word) (s : State) (hs : s.good L Q) :
    (dmaLoop n l s).good L Q := by
  unfold dmaLoop
  dsimp only
  repeat' first
     | with_reducible assumption | with_reducible apply ite_good | with_reducible apply State.setReg_good
     | with_reducible apply State.count_good | with_reducible apply State.setDma_good
     | with_reducible apply dmaNext_good | with_reducible apply dmaIllegal_good

theorem dmaHold_good (n : Nat) (w0 w1 : Word) (s : State) (hs : s.good L Q) :
    (dmaHold n w0 w1 s).good L Q := by
  unfold dmaHold
  repeat' first
     | with_reducible assumption | with_reducible apply State.setDma_good | with_reducible apply State.setDmaSt_good


theorem takeTrig_good (n : Nat) (s : State) (hs : s.good L Q) :
    (takeTrig n s).good L Q := by
  unfold takeTrig
  repeat' first | with_reducible assumption | with_reducible apply State.setFld_good

theorem popDreg_good (n q : Nat) (s : State) (hs : s.good L Q) :
    (popDreg n q s).good L Q := by
  unfold popDreg
  dsimp only
  repeat' first
     | with_reducible assumption | with_reducible apply State.setReg_good | with_reducible apply qPop_good



theorem dmaGoOn_good (n : Nat) (w0 : Word) (s : State) (hs : s.good L Q) :
    (dmaGoOn n w0 s).good L Q := by
  unfold dmaGoOn
  repeat' first
     | with_reducible assumption | with_reducible apply ite_good | with_reducible apply dmaNext_good
     | with_reducible apply takeTrig_good | with_reducible apply popDreg_good

theorem dmaWait_good (n : Nat) (l : List Word) (s : State) (hs : s.good L Q) :
    (dmaWait n l s).good L Q := by
  unfold dmaWait
  dsimp only
  repeat' first
     | with_reducible assumption | with_reducible apply ite_good | with_reducible apply dmaIllegal_good
     | with_reducible apply dmaHold_good | with_reducible apply dmaGoOn_good

theorem dmaTimeout_good (n : Nat) (s : State) (hs : s.good L Q) :
    (dmaTimeout n s).good L Q := by
  unfold dmaTimeout
  repeat' first | with_reducible assumption | with_reducible apply dmaFault_good

theorem dmaPush_good (n : Fin 32) (q : Nat) (v : Word) (s : State) (hs : s.good L Q) :
    (dmaPush n q v s).good L Q := by
  unfold dmaPush
  dsimp only
  repeat' first
     | with_reducible assumption | with_reducible apply ite_good | with_reducible apply State.setBit_good
     | with_reducible apply when_good | with_reducible apply freeChain_good | with_reducible apply qPush_good



theorem dmaFlag_good (n : Nat) (s : State) (hs : s.good L Q) :
    (dmaFlag n s).good L Q := by
  unfold dmaFlag
  dsimp only
  repeat' first
     | with_reducible assumption | with_reducible apply ite_good | with_reducible apply State.setBit_good
     | with_reducible apply fire_good

theorem dmaSignal_good (n : Fin 32) (l : List Word) (s : State) (hs : s.good L Q) :
    (dmaSignal n l s).good L Q := by
  unfold dmaSignal
  dsimp only
  repeat' first
     | with_reducible assumption | with_reducible apply ite_good | with_reducible apply fire_good
     | with_reducible apply dmaNext_good | with_reducible apply dmaIllegal_good | with_reducible apply dmaPush_good
     | with_reducible apply dmaFlag_good | split


theorem dmaQpop_good (n : Fin 32) (l : List Word) (s : State) (hs : s.good L Q) :
    (dmaQpop n l s).good L Q := by
  unfold dmaQpop
  dsimp only
  repeat' first
     | with_reducible assumption | with_reducible apply ite_good | with_reducible apply State.setReg_good
     | with_reducible apply dmaNext_good | with_reducible apply dmaIllegal_good | with_reducible apply dmaHold_good
     | with_reducible apply dmaGoOn_good

theorem dmaQpush_good (n : Fin 32) (l : List Word) (s : State) (hs : s.good L Q) :
    (dmaQpush n l s).good L Q := by
  unfold dmaQpush
  dsimp only
  repeat' first
     | with_reducible assumption | with_reducible apply ite_good | with_reducible apply dmaNext_good
     | with_reducible apply dmaIllegal_good | with_reducible apply dmaPush_good

theorem dmaSync_good (n : Nat) (l : List Word) (s : State) (hs : s.good L Q) :
    (dmaSync n l s).good L Q := by
  unfold dmaSync
  dsimp only
  repeat' first
     | with_reducible assumption | with_reducible apply ite_good | with_reducible apply State.setDma_good
     | with_reducible apply dmaNext_good | with_reducible apply dmaIllegal_good | simp only [good_mk] | split



theorem dmaSyncDone_good (n : Fin 32) (s : State) (hs : s.good L Q) :
    (dmaSyncDone n s).good L Q := by
  unfold dmaSyncDone
  dsimp only
  repeat' first
     | with_reducible assumption | with_reducible apply ite_good | with_reducible apply State.setReg_good
     | with_reducible apply State.setDma_good | with_reducible apply dmaEcc_good | with_reducible apply syncLand_good
     | with_reducible apply busRead_good


theorem dmaEnd_good (n : Nat) (l : List Word) (s : State) (hs : s.good L Q) :
    (dmaEnd n l s).good L Q := by
  unfold dmaEnd
  repeat' first
     | with_reducible assumption | with_reducible apply ite_good | with_reducible apply State.drawn_good
     | with_reducible apply State.setDmaSt_good | with_reducible apply dmaNext_good
     | with_reducible apply dmaIllegal_good

theorem dmaStopped_good (n : Nat) (s0 : State) (hs0 : s0.good L Q) :
    (dmaStopped n s0).good L Q := by
  unfold dmaStopped
  dsimp only
  repeat' first
     | intro _ | with_reducible assumption | with_reducible apply outGood_next | with_reducible apply ite_outGood
     | with_reducible apply optGood_some | exact optGood_none | with_reducible apply ite_optGood
     | with_reducible apply optGood_bind | with_reducible apply optGood_map | with_reducible apply ite_good
     | with_reducible apply ite_good2 | with_reducible apply ite_good3 | with_reducible apply when_good
     | with_reducible apply State.setDma_good | with_reducible apply State.setDmaSt_good
     | with_reducible apply flushCh_good | with_reducible apply dmaStart_good | with_reducible apply unitPut_good
     | simp only [good_mk] | simp only [good_raw] | with_reducible apply Good.setWord
     | with_reducible apply Good.setOctet | with_reducible apply Good.clear | with_reducible apply Good.loseLink
     | with_reducible apply State.good.raw | split

theorem cleanLine_good (k : Fin 4) (a : Nat) (s : State) (hs : s.good L Q) :
    (cleanLine k a s).2.good L Q := by
  unfold cleanLine
  try dsimp only
  repeat' first
     | with_reducible assumption | with_reducible apply writeBack_good | split



theorem flushLine_good (k : Fin 4) (a : Nat) (s : State) (hs : s.good L Q) :
    (flushLine k a s).2.good L Q := by
  unfold flushLine
  dsimp only
  repeat' first
     | with_reducible assumption | with_reducible apply dropLine_good | with_reducible apply cleanLine_good



theorem makeRoom_good (k : Fin 4) (a : Nat) (s : State) (hs : s.good L Q) :
    (makeRoom k a s).2.good L Q := by
  unfold makeRoom
  dsimp only
  repeat' first
     | intro _ | with_reducible assumption | with_reducible apply ite_good | with_reducible apply ite_good2
     | with_reducible apply State.drawn_good | with_reducible apply dropLine_good
     | with_reducible apply writeBack_good | split


theorem fillWords_good (k : Fin 4) (x0 : Nat) (x1 : Nat) (x2 : State) (hx2 : x2.good L Q) :
    (fillWords k x0 x1 x2).2.2.good L Q := by
  induction x1 generalizing k x0 x2 with
  | zero =>
    unfold fillWords
    try dsimp only
    repeat' first
       | with_reducible assumption



  | succ n ih =>
    unfold fillWords
    try dsimp only
    repeat' first
       | with_reducible assumption | with_reducible apply ite_good | with_reducible apply ite_good2
       | with_reducible apply ite_good3 | with_reducible apply memRead_good | with_reducible apply ih



theorem fillLine_good (k : Fin 4) (a : Nat) (s : State) (hs : s.good L Q) :
    (fillLine k a s).2.good L Q := by
  unfold fillLine
  dsimp only
  repeat' first
     | intro _ | with_reducible assumption | with_reducible apply State.setCore_good
     | with_reducible apply makeRoom_good | with_reducible apply fillWords_good | simp only [good_mk] | split
     | with_reducible refine good_of_eq2 ‹_› ?_ | with_reducible refine good_of_eq3 ‹_› ?_


theorem dPut_good (k : Fin 4) (a : Nat) (v : Word) (s : State) (hs : s.good L Q) :
    (dPut k a v s).good L Q := by
  unfold dPut
  repeat' first
     | intro _ | with_reducible assumption | with_reducible apply ite_good | with_reducible apply State.setCore_good


theorem dEnsure_good (k : Fin 4) (a : Nat) (s : State) (hs : s.good L Q) :
    (dEnsure k a s).2.good L Q := by
  unfold dEnsure
  try dsimp only
  repeat' first
     | with_reducible assumption | with_reducible apply ite_good | with_reducible apply ite_good2
     | with_reducible apply dropLine_good | with_reducible apply fillLine_good | split



theorem rawRead_good (k : Fin 4) (a : Nat) (s : State) (hs : s.good L Q) :
    (rawRead k a s).2.2.good L Q := by
  unfold rawRead
  dsimp only
  repeat' first
     | with_reducible assumption | with_reducible apply ite_good | with_reducible apply ite_good2
     | with_reducible apply ite_good3 | with_reducible apply busRead_good | with_reducible apply dEnsure_good



theorem dRead_good (k : Fin 4) (a : Nat) (s : State) (hs : s.good L Q) :
    (dRead k a s).2.2.good L Q := by
  unfold dRead
  dsimp only
  repeat' first
     | with_reducible assumption | with_reducible apply watch_good | with_reducible apply rawRead_good



theorem dReadOctet_good (k : Fin 4) (a lane : Nat) (s : State) (hs : s.good L Q) :
    (dReadOctet k a lane s).2.2.good L Q := by
  unfold dReadOctet
  dsimp only
  repeat' first
     | with_reducible assumption | with_reducible apply ite_good | with_reducible apply ite_good2
     | with_reducible apply ite_good3 | with_reducible apply watch_good | with_reducible apply busReadOctet_good
     | with_reducible apply rawRead_good


theorem rawWrite_good (k : Fin 4) (a : Nat) (v : Word) (s : State) (hs : s.good L Q) :
    (rawWrite k a v s).good L Q := by
  unfold rawWrite
  try dsimp only
  repeat' first
     | with_reducible assumption | with_reducible apply ite_good | with_reducible apply memWrite_good
     | with_reducible apply busWrite_good | with_reducible apply dPut_good | with_reducible apply dEnsure_good
     | split | with_reducible refine good_of_eq2 ‹_› ?_


theorem watchWrite_good (k : Fin 4) (a : Nat) (v : Word) (s : State) (hs : s.good L Q) :
    (watchWrite k a v s).good L Q := by
  unfold watchWrite
  repeat' first | with_reducible assumption | with_reducible apply watch_good

theorem dWrite_good (k : Fin 4) (a : Nat) (v : Word) (s : State) (hs : s.good L Q) :
    (dWrite k a v s).good L Q := by
  unfold dWrite
  repeat' first | with_reducible assumption | with_reducible apply rawWrite_good | with_reducible apply watchWrite_good

theorem rawWriteOctet_good (k : Fin 4) (a lane : Nat) (o : Octet) (s : State) (hs : s.good L Q) :
    (rawWriteOctet k a lane o s).good L Q := by
  unfold rawWriteOctet
  try dsimp only
  repeat' first
     | with_reducible assumption | with_reducible apply ite_good | with_reducible apply memWriteOctet_good
     | with_reducible apply State.setLane_good | with_reducible apply busWriteOctet_good
     | with_reducible apply dPut_good | with_reducible apply dEnsure_good | split
     | with_reducible refine good_of_eq2 ‹_› ?_


theorem dReads_good (k : Fin 4) (x0 : Nat) (x1 : Nat) (x2 : State) (hx2 : x2.good L Q) :
    (dReads k x0 x1 x2).2.2.good L Q := by
  induction x1 generalizing k x0 x2 with
  | zero =>
    unfold dReads
    try dsimp only
    repeat' first
       | with_reducible assumption


  | succ n ih =>
    unfold dReads
    try dsimp only
    repeat' first
       | with_reducible assumption | with_reducible apply dRead_good | with_reducible apply ih | split
       | with_reducible refine good_of_eq2 ‹_› ?_ | with_reducible refine good_of_eq3 ‹_› ?_


theorem rawWrites_good (k : Fin 4) (x0 : Nat) (x1 : List Word) (x2 : State) (hx2 : x2.good L Q) :
    (rawWrites k x0 x1 x2).good L Q := by
  induction x1 generalizing k x0 x2 with
  | nil =>
    unfold rawWrites
    try dsimp only
    repeat' first
       | with_reducible assumption


  | cons v t ih =>
    unfold rawWrites
    try dsimp only
    repeat' first
       | with_reducible assumption | with_reducible apply rawWrite_good | with_reducible apply ih



theorem watchWrites_good (k : Fin 4) (x0 : Nat) (x1 : List Word) (x2 : State) (hx2 : x2.good L Q) :
    (watchWrites k x0 x1 x2).good L Q := by
  induction x1 generalizing k x0 x2 with
  | nil =>
    unfold watchWrites
    try dsimp only
    repeat' first
       | with_reducible assumption


  | cons v t ih =>
    unfold watchWrites
    try dsimp only
    repeat' first
       | with_reducible assumption | with_reducible apply watchWrite_good | with_reducible apply ih



theorem makeRooms_good (k : Fin 4) (a : Nat) (x0 : Nat) (x1 : State) (hx1 : x1.good L Q) :
    (makeRooms k a x0 x1).2.good L Q := by
  induction x0 generalizing k a x1 with
  | zero =>
    unfold makeRooms
    try dsimp only
    repeat' first
       | with_reducible assumption



  | succ n ih =>
    unfold makeRooms
    try dsimp only
    repeat' first
       | with_reducible assumption | with_reducible apply ite_good | with_reducible apply ite_good2
       | with_reducible apply makeRoom_good | with_reducible apply ih | split
       | with_reducible refine good_of_eq2 ‹_› ?_


theorem eccData_good (k : Fin 4) (a : Nat) (s : State) (hs : s.good L Q) :
    (eccData k a s).good L Q := by
  unfold eccData
  repeat' first | with_reducible assumption | with_reducible apply raise_good

theorem eccOr_good (k : Fin 4) (f : State → State) (r : Option Nat × State) (hf : ∀ y : State, y.good L Q → (f y).good L Q)
    (hr : r.2.good L Q) : (eccOr k f r).good L Q := by
  obtain ⟨e, t⟩ := r
  cases e with
  | none => exact hf _ hr
  | some e => exact eccData_good _ _ _ hr

theorem storeWords_good (k : Fin 4) (a : Nat) (l : List Word) (s : State) (hs : s.good L Q) :
    (storeWords k a l s).good L Q := by
  unfold storeWords
  repeat' first
     | intro _ | with_reducible assumption | with_reducible apply nextPc_good | with_reducible apply rawWrites_good
     | with_reducible apply watchWrites_good | with_reducible apply makeRooms_good | with_reducible apply eccOr_good

theorem memInstr_good (k : Fin 4) (word : Word) (legal priv : Bool) (spans : State → List (Nat × Nat)) (body : State → State) (s : State) (hbody : ∀ (y0 : State), y0.good L Q → (body y0).good L Q) (hs : s.good L Q) :
    OutGood L Q ((memInstr k word legal priv spans body s)) := by
  unfold memInstr
  repeat' first
     | intro _ | with_reducible assumption | with_reducible apply outGood_next | with_reducible apply ite_outGood
     | with_reducible apply ite_good | with_reducible apply fetch_good | with_reducible apply resume_good
     | with_reducible apply coreInstr_good | with_reducible apply hbody

theorem loadOctet_good (k : Fin 4) (d a : BitVec 4) (imm : BitVec 10) (f : Octet → Word) (s : State) (hs : s.good L Q) :
    (loadOctet k d a imm f s).good L Q := by
  unfold loadOctet
  try dsimp only
  repeat' first
     | with_reducible assumption | with_reducible apply putReg_good | with_reducible apply dReadOctet_good
     | with_reducible apply eccData_good | split | with_reducible refine good_of_eq2 ‹_› ?_
     | with_reducible refine good_of_eq3 ‹_› ?_

theorem swapPast_good (k : Fin 4) (d : BitVec 4) (a : Nat) (s : State) (hs : s.good L Q) :
    (swapPast k d a s).good L Q := by
  unfold swapPast
  dsimp only
  repeat' first
     | with_reducible assumption | with_reducible apply ite_good | with_reducible apply putReg_good
     | with_reducible apply watch_good | with_reducible apply busRead_good | with_reducible apply busWrite_good
     | with_reducible apply watchWrite_good | with_reducible apply eccData_good



theorem swap_good (k : Fin 4) (d : BitVec 4) (a : Nat) (s : State) (hs : s.good L Q) :
    (swap k d a s).good L Q := by
  unfold swap
  repeat' first
     | with_reducible assumption | with_reducible apply flushLine_good | with_reducible apply eccOr_good
     | with_reducible apply swapPast_good

theorem lineOp_good (k : Fin 4) (op : BitVec 4) (priv : Bool) (kd : AccKind) (a : BitVec 4) (imm : BitVec 10) (f : Nat → State → State)
    (s : State) (hf : ∀ (y0 : Nat) (y1 : State), y1.good L Q → (f y0 y1).good L Q) (hs : s.good L Q) :
    OutGood L Q ((lineOp k op priv kd a imm f s)) := by
  unfold lineOp
  dsimp only
  repeat' first
     | intro _ | with_reducible assumption | with_reducible apply outGood_next | with_reducible apply ite_outGood
     | with_reducible apply ite_good | with_reducible apply nextPc_good | with_reducible apply coreInstr_good
     | with_reducible apply hf

theorem cacheOp_good (k : Fin 4) (op : BitVec 4) (priv : Bool) (a : BitVec 4) (imm : BitVec 10) (f : State → State) (s : State) (hf : ∀ (y0 : State), y0.good L Q → (f y0).good L Q) (hs : s.good L Q) :
    OutGood L Q ((cacheOp k op priv a imm f s)) := by
  unfold cacheOp
  repeat' first
     | intro _ | with_reducible assumption | with_reducible apply outGood_next | with_reducible apply ite_outGood
     | with_reducible apply nextPc_good | with_reducible apply coreInstr_good | with_reducible apply hf

theorem cleanOp_good (k : Fin 4) (op a : BitVec 4) (imm : BitVec 10) (f : Nat → State → Option Nat × State) (s : State) (hf : ∀ (y0 : Nat) (y1 : State), y1.good L Q → (f y0 y1).2.good L Q) (hs : s.good L Q) :
    OutGood L Q ((cleanOp k op a imm f s)) := by
  unfold cleanOp
  dsimp only
  repeat' first
     | intro _ | with_reducible assumption | with_reducible apply outGood_next | with_reducible apply ite_outGood
     | with_reducible apply ite_good | with_reducible apply ite_good2 | with_reducible apply nextPc_good
     | with_reducible apply coreInstr_good | with_reducible apply eccOr_good | with_reducible apply hf

theorem dropAll_good (k : Fin 4) (s : State) (hs : s.good L Q) :
    (dropAll k s).good L Q := by
  unfold dropAll
  repeat' first | with_reducible assumption | with_reducible apply State.setCore_good

theorem withOctets_good (k : Fin 4) (x n : Nat) (f : List Octet → State → State) (s : State) (hf : ∀ (y0 : List Octet) (y1 : State), y1.good L Q → (f y0 y1).good L Q) (hs : s.good L Q) :
    (withOctets k x n f s).good L Q := by
  unfold withOctets
  try dsimp only
  repeat' first
     | intro _ | with_reducible assumption | with_reducible apply dReads_good | with_reducible apply eccData_good
     | with_reducible apply hf | split | with_reducible refine good_of_eq2 ‹_› ?_
     | with_reducible refine good_of_eq3 ‹_› ?_

theorem modOp_good (k : Fin 4) (d a b : BitVec 4) (f : Nat → Nat → Nat → Nat) (s : State) (hs : s.good L Q) :
    (modOp k d a b f s).good L Q := by
  unfold modOp
  dsimp only
  repeat' first
     | intro _ | with_reducible assumption | with_reducible apply storeWords_good
     | with_reducible apply withOctets_good

theorem setVpos_good (k : Fin 4) (v : Word) (s : State) (hs : s.good L Q) :
    (setVpos k v s).good L Q := by
  unfold setVpos
  repeat' first | with_reducible assumption | with_reducible apply State.setCore_good

theorem vecDone_good (k : Fin 4) (pc : Word) (s : State) (hs : s.good L Q) :
    (vecDone k pc s).good L Q := by
  unfold vecDone
  repeat' first
     | with_reducible assumption | with_reducible apply ite_good | with_reducible apply nextPc_good
     | with_reducible apply setVpos_good

theorem vecShare_good (k : Fin 4) (n : Nat) (s : State) (hs : s.good L Q) :
    (vecShare k n s).2.good L Q := by
  unfold vecShare
  repeat' first
     | with_reducible assumption | with_reducible apply ite_good | with_reducible apply ite_good2
     | with_reducible apply State.drawn_good

theorem vecElems_good (k : Fin 4) (pc : Word) (dst x : Nat) (y : Option Nat) (f : Word → Word → Word) (x0 : Nat) (x1 : Nat) (x2 : State) (hx2 : x2.good L Q) :
    (vecElems k pc dst x y f x0 x1 x2).good L Q := by
  induction x0 generalizing k pc dst x y f x1 x2 with
  | zero =>
    unfold vecElems
    try dsimp only
    repeat' first
       | intro _ | with_reducible assumption | with_reducible apply ite_good | with_reducible apply dRead_good
       | with_reducible apply dWrite_good | with_reducible apply makeRooms_good | with_reducible apply eccData_good
       | with_reducible apply setVpos_good | with_reducible apply vecDone_good


  | succ n ih =>
    unfold vecElems
    try dsimp only
    repeat' first
       | intro _ | with_reducible assumption | with_reducible apply ite_good | with_reducible apply dRead_good
       | with_reducible apply dWrite_good | with_reducible apply makeRooms_good | with_reducible apply eccData_good
       | with_reducible apply setVpos_good | with_reducible apply vecDone_good | with_reducible apply ih | split
       | with_reducible refine good_of_eq2 ‹_› ?_ | with_reducible refine good_of_eq3 ‹_› ?_


theorem vecOp_good (k : Fin 4) (d a : BitVec 4) (y : Option Nat) (f : Word → Word → Word) (s : State) (hs : s.good L Q) :
    (vecOp k d a y f s).good L Q := by
  unfold vecOp
  dsimp only
  repeat' first
     | with_reducible assumption | with_reducible apply vecShare_good | with_reducible apply vecElems_good



theorem dotElems_good (k : Fin 4) (x y : Nat) (x0 : Nat) (x1 : Nat) (x2 : Int) (x3 : Int) (x4 : State) (hx4 : x4.good L Q) :
    (dotElems k x y x0 x1 x2 x3 x4).2.2.2.2.good L Q := by
  induction x0 generalizing k x y x1 x2 x3 x4 with
  | zero =>
    unfold dotElems
    try dsimp only
    repeat' first
       | with_reducible assumption


  | succ n ih =>
    unfold dotElems
    try dsimp only
    repeat' first
       | with_reducible assumption | with_reducible apply dRead_good | with_reducible apply ih | split
       | with_reducible refine good_of_eq2 ‹_› ?_ | with_reducible refine good_of_eq3 ‹_› ?_


theorem setVec_good (k : Fin 4) (p : Option VecPart) (s : State) (hs : s.good L Q) :
    (setVec k p s).good L Q := by
  unfold setVec
  repeat' first | with_reducible assumption | with_reducible apply State.setCore_good

theorem vecDot_good (k : Fin 4) (d a b : BitVec 4) (s : State) (hs : s.good L Q) :
    (vecDot k d a b s).good L Q := by
  unfold vecDot
  dsimp only
  generalize hp : (if ((s.core k).sysReg 0x055).toNat = 0 then ((0 : Int), (0 : Int), s) else
      match (s.core k).vecFind ((s.core k).vecKey 8 d a b ((s.core k).sysReg 0x055).toNat) with
      | some p => (p.re, p.im, s)
      | none => (Config.freeInt s.draws, Config.freeInt (s.draws + 1), s.drawn.drawn)) = p
  have h0 : p.2.2.good L Q := by
    rw [← hp]
    split
    · exact hs
    · split
      · exact hs
      · exact State.drawn_good _ (State.drawn_good _ hs)
  obtain ⟨re, im, s0⟩ := p
  dsimp only at h0 ⊢
  have h1 := vecShare_good k ((s.core k).vl - ((s.core k).sysReg 0x055).toNat) s0 h0
  generalize vecShare k ((s.core k).vl - ((s.core k).sysReg 0x055).toNat) s0 = q at h1 ⊢
  obtain ⟨n, s1⟩ := q
  dsimp only at h1 ⊢
  have h2 := dotElems_good k ((s.core k).at_ a) ((s.core k).at_ b) n ((s.core k).sysReg 0x055).toNat re im s1 h1
  generalize dotElems k ((s.core k).at_ a) ((s.core k).at_ b) n ((s.core k).sysReg 0x055).toNat re im s1 = r at h2 ⊢
  obtain ⟨e, x, y, j, t⟩ := r
  dsimp only at h2
  cases e with
  | some e => exact eccData_good _ _ _ (setVpos_good _ _ _ (setVec_good _ _ _ h2))
  | none =>
    dsimp only
    with_reducible apply ite_good
    · exact setVpos_good _ _ _ (setVec_good _ _ _ h2)
    · exact putReg_good _ _ _ _ (setVpos_good _ _ _ h2)

theorem freeWords_good  (x0 : Nat) (x1 : State) (hx1 : x1.good L Q) :
    (freeWords x0 x1).2.good L Q := by
  induction x0 generalizing x1 with
  | zero =>
    unfold freeWords
    try dsimp only
    repeat' first
       | with_reducible assumption


  | succ n ih =>
    unfold freeWords
    try dsimp only
    repeat' first
       | with_reducible assumption | with_reducible apply State.drawn_good | with_reducible apply ih



theorem vecFft_good (inverse : Bool) (k : Fin 4) (a : BitVec 4) (s : State) (hs : s.good L Q) :
    (vecFft inverse k a s).good L Q := by
  unfold vecFft
  dsimp only
  repeat' first
     | with_reducible assumption | with_reducible apply ite_good | with_reducible apply State.drawn_good
     | with_reducible apply nextPc_good | with_reducible apply dReads_good | with_reducible apply rawWrites_good
     | with_reducible apply watchWrites_good | with_reducible apply eccData_good
     | with_reducible apply storeWords_good | with_reducible apply setVpos_good | with_reducible apply vecShare_good
     | with_reducible apply setVec_good | with_reducible apply freeWords_good | simp only [good_mk] | split
     | with_reducible refine good_of_eq2 ‹_› ?_ | with_reducible refine good_of_eq3 ‹_› ?_

end Sys2Proof.Machine
end

