-- ==== Sys2Proof/Laws/State.lean ====
section
/-! SUPPORT. What each update of State leaves alone and what it sets: one lemma for each field and update, so that no proof unfolds a
record update. -/
namespace Sys2Proof.Machine

open Sys2Proof

variable (s : State)


@[simp] theorem State.setReg_mem (a : Nat) (v : Word) : (s.setReg a v).mem = s.mem := rfl
@[simp] theorem State.setReg_ecc (a : Nat) (v : Word) : (s.setReg a v).ecc = s.ecc := rfl
@[simp] theorem State.setReg_otp (a : Nat) (v : Word) : (s.setReg a v).otp = s.otp := rfl
@[simp] theorem State.setReg_mt (a : Nat) (v : Word) : (s.setReg a v).mt = s.mt := rfl
@[simp] theorem State.setReg_fab (a : Nat) (v : Word) : (s.setReg a v).fab = s.fab := rfl
@[simp] theorem State.setReg_tmr (a : Nat) (v : Word) : (s.setReg a v).tmr = s.tmr := rfl
@[simp] theorem State.setReg_pwr (a : Nat) (v : Word) : (s.setReg a v).pwr = s.pwr := rfl
@[simp] theorem State.setReg_bkp (a : Nat) (v : Word) : (s.setReg a v).bkp = s.bkp := rfl
@[simp] theorem State.setReg_dbg (a : Nat) (v : Word) : (s.setReg a v).dbg = s.dbg := rfl
@[simp] theorem State.setReg_pins (a : Nat) (v : Word) : (s.setReg a v).pins = s.pins := rfl
@[simp] theorem State.setReg_cores (a : Nat) (v : Word) : (s.setReg a v).cores = s.cores := rfl
@[simp] theorem State.setReg_cmdp (a : Nat) (v : Word) : (s.setReg a v).cmdp = s.cmdp := rfl
@[simp] theorem State.setReg_qm (a : Nat) (v : Word) : (s.setReg a v).qm = s.qm := rfl
@[simp] theorem State.setReg_fwd (a : Nat) (v : Word) : (s.setReg a v).fwd = s.fwd := rfl
@[simp] theorem State.setReg_gates (a : Nat) (v : Word) : (s.setReg a v).gates = s.gates := rfl
@[simp] theorem State.setReg_bandS (a : Nat) (v : Word) : (s.setReg a v).bandS = s.bandS := rfl
@[simp] theorem State.setReg_bandG (a : Nat) (v : Word) : (s.setReg a v).bandG = s.bandG := rfl
@[simp] theorem State.setReg_link (a : Nat) (v : Word) : (s.setReg a v).link = s.link := rfl
@[simp] theorem State.setReg_rwin (a : Nat) (v : Word) : (s.setReg a v).rwin = s.rwin := rfl
@[simp] theorem State.setReg_flash (a : Nat) (v : Word) : (s.setReg a v).flash = s.flash := rfl
@[simp] theorem State.setReg_stage (a : Nat) (v : Word) : (s.setReg a v).stage = s.stage := rfl
@[simp] theorem State.setReg_lsup (a : Nat) (v : Word) : (s.setReg a v).lsup = s.lsup := rfl
@[simp] theorem State.setReg_dma (a : Nat) (v : Word) : (s.setReg a v).dma = s.dma := rfl
@[simp] theorem State.setReg_dmaTurn (a : Nat) (v : Word) : (s.setReg a v).dmaTurn = s.dmaTurn := rfl
@[simp] theorem State.setReg_rdata (a : Nat) (v : Word) : (s.setReg a v).rdata = s.rdata := rfl
@[simp] theorem State.setReg_draws (a : Nat) (v : Word) : (s.setReg a v).draws = s.draws := rfl
@[simp] theorem State.setReg_pending (a : Nat) (v : Word) : (s.setReg a v).pending = s.pending := rfl

@[simp] theorem State.setFld_mem (a lo len x : Nat) : (s.setFld a lo len x).mem = s.mem := rfl
@[simp] theorem State.setFld_ecc (a lo len x : Nat) : (s.setFld a lo len x).ecc = s.ecc := rfl
@[simp] theorem State.setFld_otp (a lo len x : Nat) : (s.setFld a lo len x).otp = s.otp := rfl
@[simp] theorem State.setFld_mt (a lo len x : Nat) : (s.setFld a lo len x).mt = s.mt := rfl
@[simp] theorem State.setFld_fab (a lo len x : Nat) : (s.setFld a lo len x).fab = s.fab := rfl
@[simp] theorem State.setFld_tmr (a lo len x : Nat) : (s.setFld a lo len x).tmr = s.tmr := rfl
@[simp] theorem State.setFld_pwr (a lo len x : Nat) : (s.setFld a lo len x).pwr = s.pwr := rfl
@[simp] theorem State.setFld_bkp (a lo len x : Nat) : (s.setFld a lo len x).bkp = s.bkp := rfl
@[simp] theorem State.setFld_dbg (a lo len x : Nat) : (s.setFld a lo len x).dbg = s.dbg := rfl
@[simp] theorem State.setFld_pins (a lo len x : Nat) : (s.setFld a lo len x).pins = s.pins := rfl
@[simp] theorem State.setFld_cores (a lo len x : Nat) : (s.setFld a lo len x).cores = s.cores := rfl
@[simp] theorem State.setFld_cmdp (a lo len x : Nat) : (s.setFld a lo len x).cmdp = s.cmdp := rfl
@[simp] theorem State.setFld_qm (a lo len x : Nat) : (s.setFld a lo len x).qm = s.qm := rfl
@[simp] theorem State.setFld_fwd (a lo len x : Nat) : (s.setFld a lo len x).fwd = s.fwd := rfl
@[simp] theorem State.setFld_gates (a lo len x : Nat) : (s.setFld a lo len x).gates = s.gates := rfl
@[simp] theorem State.setFld_bandS (a lo len x : Nat) : (s.setFld a lo len x).bandS = s.bandS := rfl
@[simp] theorem State.setFld_bandG (a lo len x : Nat) : (s.setFld a lo len x).bandG = s.bandG := rfl
@[simp] theorem State.setFld_link (a lo len x : Nat) : (s.setFld a lo len x).link = s.link := rfl
@[simp] theorem State.setFld_rwin (a lo len x : Nat) : (s.setFld a lo len x).rwin = s.rwin := rfl
@[simp] theorem State.setFld_flash (a lo len x : Nat) : (s.setFld a lo len x).flash = s.flash := rfl
@[simp] theorem State.setFld_stage (a lo len x : Nat) : (s.setFld a lo len x).stage = s.stage := rfl
@[simp] theorem State.setFld_lsup (a lo len x : Nat) : (s.setFld a lo len x).lsup = s.lsup := rfl
@[simp] theorem State.setFld_dma (a lo len x : Nat) : (s.setFld a lo len x).dma = s.dma := rfl
@[simp] theorem State.setFld_dmaTurn (a lo len x : Nat) : (s.setFld a lo len x).dmaTurn = s.dmaTurn := rfl
@[simp] theorem State.setFld_rdata (a lo len x : Nat) : (s.setFld a lo len x).rdata = s.rdata := rfl
@[simp] theorem State.setFld_draws (a lo len x : Nat) : (s.setFld a lo len x).draws = s.draws := rfl
@[simp] theorem State.setFld_pending (a lo len x : Nat) : (s.setFld a lo len x).pending = s.pending := rfl

@[simp] theorem State.setBit_mem (a i : Nat) (b : Bool) : (s.setBit a i b).mem = s.mem := rfl
@[simp] theorem State.setBit_ecc (a i : Nat) (b : Bool) : (s.setBit a i b).ecc = s.ecc := rfl
@[simp] theorem State.setBit_otp (a i : Nat) (b : Bool) : (s.setBit a i b).otp = s.otp := rfl
@[simp] theorem State.setBit_mt (a i : Nat) (b : Bool) : (s.setBit a i b).mt = s.mt := rfl
@[simp] theorem State.setBit_fab (a i : Nat) (b : Bool) : (s.setBit a i b).fab = s.fab := rfl
@[simp] theorem State.setBit_tmr (a i : Nat) (b : Bool) : (s.setBit a i b).tmr = s.tmr := rfl
@[simp] theorem State.setBit_pwr (a i : Nat) (b : Bool) : (s.setBit a i b).pwr = s.pwr := rfl
@[simp] theorem State.setBit_bkp (a i : Nat) (b : Bool) : (s.setBit a i b).bkp = s.bkp := rfl
@[simp] theorem State.setBit_dbg (a i : Nat) (b : Bool) : (s.setBit a i b).dbg = s.dbg := rfl
@[simp] theorem State.setBit_pins (a i : Nat) (b : Bool) : (s.setBit a i b).pins = s.pins := rfl
@[simp] theorem State.setBit_cores (a i : Nat) (b : Bool) : (s.setBit a i b).cores = s.cores := rfl
@[simp] theorem State.setBit_cmdp (a i : Nat) (b : Bool) : (s.setBit a i b).cmdp = s.cmdp := rfl
@[simp] theorem State.setBit_qm (a i : Nat) (b : Bool) : (s.setBit a i b).qm = s.qm := rfl
@[simp] theorem State.setBit_fwd (a i : Nat) (b : Bool) : (s.setBit a i b).fwd = s.fwd := rfl
@[simp] theorem State.setBit_gates (a i : Nat) (b : Bool) : (s.setBit a i b).gates = s.gates := rfl
@[simp] theorem State.setBit_bandS (a i : Nat) (b : Bool) : (s.setBit a i b).bandS = s.bandS := rfl
@[simp] theorem State.setBit_bandG (a i : Nat) (b : Bool) : (s.setBit a i b).bandG = s.bandG := rfl
@[simp] theorem State.setBit_link (a i : Nat) (b : Bool) : (s.setBit a i b).link = s.link := rfl
@[simp] theorem State.setBit_rwin (a i : Nat) (b : Bool) : (s.setBit a i b).rwin = s.rwin := rfl
@[simp] theorem State.setBit_flash (a i : Nat) (b : Bool) : (s.setBit a i b).flash = s.flash := rfl
@[simp] theorem State.setBit_stage (a i : Nat) (b : Bool) : (s.setBit a i b).stage = s.stage := rfl
@[simp] theorem State.setBit_lsup (a i : Nat) (b : Bool) : (s.setBit a i b).lsup = s.lsup := rfl
@[simp] theorem State.setBit_dma (a i : Nat) (b : Bool) : (s.setBit a i b).dma = s.dma := rfl
@[simp] theorem State.setBit_dmaTurn (a i : Nat) (b : Bool) : (s.setBit a i b).dmaTurn = s.dmaTurn := rfl
@[simp] theorem State.setBit_rdata (a i : Nat) (b : Bool) : (s.setBit a i b).rdata = s.rdata := rfl
@[simp] theorem State.setBit_draws (a i : Nat) (b : Bool) : (s.setBit a i b).draws = s.draws := rfl
@[simp] theorem State.setBit_pending (a i : Nat) (b : Bool) : (s.setBit a i b).pending = s.pending := rfl

@[simp] theorem State.drawn_regs : s.drawn.regs = s.regs := rfl
@[simp] theorem State.drawn_mem : s.drawn.mem = s.mem := rfl
@[simp] theorem State.drawn_ecc : s.drawn.ecc = s.ecc := rfl
@[simp] theorem State.drawn_otp : s.drawn.otp = s.otp := rfl
@[simp] theorem State.drawn_mt : s.drawn.mt = s.mt := rfl
@[simp] theorem State.drawn_fab : s.drawn.fab = s.fab := rfl
@[simp] theorem State.drawn_tmr : s.drawn.tmr = s.tmr := rfl
@[simp] theorem State.drawn_pwr : s.drawn.pwr = s.pwr := rfl
@[simp] theorem State.drawn_bkp : s.drawn.bkp = s.bkp := rfl
@[simp] theorem State.drawn_dbg : s.drawn.dbg = s.dbg := rfl
@[simp] theorem State.drawn_pins : s.drawn.pins = s.pins := rfl
@[simp] theorem State.drawn_cores : s.drawn.cores = s.cores := rfl
@[simp] theorem State.drawn_cmdp : s.drawn.cmdp = s.cmdp := rfl
@[simp] theorem State.drawn_qm : s.drawn.qm = s.qm := rfl
@[simp] theorem State.drawn_fwd : s.drawn.fwd = s.fwd := rfl
@[simp] theorem State.drawn_gates : s.drawn.gates = s.gates := rfl
@[simp] theorem State.drawn_bandS : s.drawn.bandS = s.bandS := rfl
@[simp] theorem State.drawn_bandG : s.drawn.bandG = s.bandG := rfl
@[simp] theorem State.drawn_link : s.drawn.link = s.link := rfl
@[simp] theorem State.drawn_rwin : s.drawn.rwin = s.rwin := rfl
@[simp] theorem State.drawn_flash : s.drawn.flash = s.flash := rfl
@[simp] theorem State.drawn_stage : s.drawn.stage = s.stage := rfl
@[simp] theorem State.drawn_lsup : s.drawn.lsup = s.lsup := rfl
@[simp] theorem State.drawn_dma : s.drawn.dma = s.dma := rfl
@[simp] theorem State.drawn_dmaTurn : s.drawn.dmaTurn = s.dmaTurn := rfl
@[simp] theorem State.drawn_rdata : s.drawn.rdata = s.rdata := rfl
@[simp] theorem State.drawn_draws : s.drawn.draws = s.draws + 1 := rfl
@[simp] theorem State.drawn_pending : s.drawn.pending = s.pending := rfl

@[simp] theorem State.setCore_regs (k : Fin 4) (c : Core) : (s.setCore k c).regs = s.regs := rfl
@[simp] theorem State.setCore_mem (k : Fin 4) (c : Core) : (s.setCore k c).mem = s.mem := rfl
@[simp] theorem State.setCore_ecc (k : Fin 4) (c : Core) : (s.setCore k c).ecc = s.ecc := rfl
@[simp] theorem State.setCore_otp (k : Fin 4) (c : Core) : (s.setCore k c).otp = s.otp := rfl
@[simp] theorem State.setCore_mt (k : Fin 4) (c : Core) : (s.setCore k c).mt = s.mt := rfl
@[simp] theorem State.setCore_fab (k : Fin 4) (c : Core) : (s.setCore k c).fab = s.fab := rfl
@[simp] theorem State.setCore_tmr (k : Fin 4) (c : Core) : (s.setCore k c).tmr = s.tmr := rfl
@[simp] theorem State.setCore_pwr (k : Fin 4) (c : Core) : (s.setCore k c).pwr = s.pwr := rfl
@[simp] theorem State.setCore_bkp (k : Fin 4) (c : Core) : (s.setCore k c).bkp = s.bkp := rfl
@[simp] theorem State.setCore_dbg (k : Fin 4) (c : Core) : (s.setCore k c).dbg = s.dbg := rfl
@[simp] theorem State.setCore_pins (k : Fin 4) (c : Core) : (s.setCore k c).pins = s.pins := rfl
@[simp] theorem State.setCore_cmdp (k : Fin 4) (c : Core) : (s.setCore k c).cmdp = s.cmdp := rfl
@[simp] theorem State.setCore_qm (k : Fin 4) (c : Core) : (s.setCore k c).qm = s.qm := rfl
@[simp] theorem State.setCore_fwd (k : Fin 4) (c : Core) : (s.setCore k c).fwd = s.fwd := rfl
@[simp] theorem State.setCore_gates (k : Fin 4) (c : Core) : (s.setCore k c).gates = s.gates := rfl
@[simp] theorem State.setCore_bandS (k : Fin 4) (c : Core) : (s.setCore k c).bandS = s.bandS := rfl
@[simp] theorem State.setCore_bandG (k : Fin 4) (c : Core) : (s.setCore k c).bandG = s.bandG := rfl
@[simp] theorem State.setCore_link (k : Fin 4) (c : Core) : (s.setCore k c).link = s.link := rfl
@[simp] theorem State.setCore_rwin (k : Fin 4) (c : Core) : (s.setCore k c).rwin = s.rwin := rfl
@[simp] theorem State.setCore_flash (k : Fin 4) (c : Core) : (s.setCore k c).flash = s.flash := rfl
@[simp] theorem State.setCore_stage (k : Fin 4) (c : Core) : (s.setCore k c).stage = s.stage := rfl
@[simp] theorem State.setCore_lsup (k : Fin 4) (c : Core) : (s.setCore k c).lsup = s.lsup := rfl
@[simp] theorem State.setCore_dma (k : Fin 4) (c : Core) : (s.setCore k c).dma = s.dma := rfl
@[simp] theorem State.setCore_dmaTurn (k : Fin 4) (c : Core) : (s.setCore k c).dmaTurn = s.dmaTurn := rfl
@[simp] theorem State.setCore_rdata (k : Fin 4) (c : Core) : (s.setCore k c).rdata = s.rdata := rfl
@[simp] theorem State.setCore_draws (k : Fin 4) (c : Core) : (s.setCore k c).draws = s.draws := rfl
@[simp] theorem State.setCore_pending (k : Fin 4) (c : Core) : (s.setCore k c).pending = s.pending := rfl

@[simp] theorem State.setEcc_regs (x : EccState) : (s.setEcc x).regs = s.regs := rfl
@[simp] theorem State.setEcc_mem (x : EccState) : (s.setEcc x).mem = s.mem := rfl
@[simp] theorem State.setEcc_ecc (x : EccState) : (s.setEcc x).ecc = x := rfl
@[simp] theorem State.setEcc_otp (x : EccState) : (s.setEcc x).otp = s.otp := rfl
@[simp] theorem State.setEcc_mt (x : EccState) : (s.setEcc x).mt = s.mt := rfl
@[simp] theorem State.setEcc_fab (x : EccState) : (s.setEcc x).fab = s.fab := rfl
@[simp] theorem State.setEcc_tmr (x : EccState) : (s.setEcc x).tmr = s.tmr := rfl
@[simp] theorem State.setEcc_pwr (x : EccState) : (s.setEcc x).pwr = s.pwr := rfl
@[simp] theorem State.setEcc_bkp (x : EccState) : (s.setEcc x).bkp = s.bkp := rfl
@[simp] theorem State.setEcc_dbg (x : EccState) : (s.setEcc x).dbg = s.dbg := rfl
@[simp] theorem State.setEcc_pins (x : EccState) : (s.setEcc x).pins = s.pins := rfl
@[simp] theorem State.setEcc_cores (x : EccState) : (s.setEcc x).cores = s.cores := rfl
@[simp] theorem State.setEcc_cmdp (x : EccState) : (s.setEcc x).cmdp = s.cmdp := rfl
@[simp] theorem State.setEcc_qm (x : EccState) : (s.setEcc x).qm = s.qm := rfl
@[simp] theorem State.setEcc_fwd (x : EccState) : (s.setEcc x).fwd = s.fwd := rfl
@[simp] theorem State.setEcc_gates (x : EccState) : (s.setEcc x).gates = s.gates := rfl
@[simp] theorem State.setEcc_bandS (x : EccState) : (s.setEcc x).bandS = s.bandS := rfl
@[simp] theorem State.setEcc_bandG (x : EccState) : (s.setEcc x).bandG = s.bandG := rfl
@[simp] theorem State.setEcc_link (x : EccState) : (s.setEcc x).link = s.link := rfl
@[simp] theorem State.setEcc_rwin (x : EccState) : (s.setEcc x).rwin = s.rwin := rfl
@[simp] theorem State.setEcc_flash (x : EccState) : (s.setEcc x).flash = s.flash := rfl
@[simp] theorem State.setEcc_stage (x : EccState) : (s.setEcc x).stage = s.stage := rfl
@[simp] theorem State.setEcc_lsup (x : EccState) : (s.setEcc x).lsup = s.lsup := rfl
@[simp] theorem State.setEcc_dma (x : EccState) : (s.setEcc x).dma = s.dma := rfl
@[simp] theorem State.setEcc_dmaTurn (x : EccState) : (s.setEcc x).dmaTurn = s.dmaTurn := rfl
@[simp] theorem State.setEcc_rdata (x : EccState) : (s.setEcc x).rdata = s.rdata := rfl
@[simp] theorem State.setEcc_draws (x : EccState) : (s.setEcc x).draws = s.draws := rfl
@[simp] theorem State.setEcc_pending (x : EccState) : (s.setEcc x).pending = s.pending := rfl

@[simp] theorem State.setMt_regs (x : MtState) : (s.setMt x).regs = s.regs := rfl
@[simp] theorem State.setMt_mem (x : MtState) : (s.setMt x).mem = s.mem := rfl
@[simp] theorem State.setMt_ecc (x : MtState) : (s.setMt x).ecc = s.ecc := rfl
@[simp] theorem State.setMt_otp (x : MtState) : (s.setMt x).otp = s.otp := rfl
@[simp] theorem State.setMt_mt (x : MtState) : (s.setMt x).mt = x := rfl
@[simp] theorem State.setMt_fab (x : MtState) : (s.setMt x).fab = s.fab := rfl
@[simp] theorem State.setMt_tmr (x : MtState) : (s.setMt x).tmr = s.tmr := rfl
@[simp] theorem State.setMt_pwr (x : MtState) : (s.setMt x).pwr = s.pwr := rfl
@[simp] theorem State.setMt_bkp (x : MtState) : (s.setMt x).bkp = s.bkp := rfl
@[simp] theorem State.setMt_dbg (x : MtState) : (s.setMt x).dbg = s.dbg := rfl
@[simp] theorem State.setMt_pins (x : MtState) : (s.setMt x).pins = s.pins := rfl
@[simp] theorem State.setMt_cores (x : MtState) : (s.setMt x).cores = s.cores := rfl
@[simp] theorem State.setMt_cmdp (x : MtState) : (s.setMt x).cmdp = s.cmdp := rfl
@[simp] theorem State.setMt_qm (x : MtState) : (s.setMt x).qm = s.qm := rfl
@[simp] theorem State.setMt_fwd (x : MtState) : (s.setMt x).fwd = s.fwd := rfl
@[simp] theorem State.setMt_gates (x : MtState) : (s.setMt x).gates = s.gates := rfl
@[simp] theorem State.setMt_bandS (x : MtState) : (s.setMt x).bandS = s.bandS := rfl
@[simp] theorem State.setMt_bandG (x : MtState) : (s.setMt x).bandG = s.bandG := rfl
@[simp] theorem State.setMt_link (x : MtState) : (s.setMt x).link = s.link := rfl
@[simp] theorem State.setMt_rwin (x : MtState) : (s.setMt x).rwin = s.rwin := rfl
@[simp] theorem State.setMt_flash (x : MtState) : (s.setMt x).flash = s.flash := rfl
@[simp] theorem State.setMt_stage (x : MtState) : (s.setMt x).stage = s.stage := rfl
@[simp] theorem State.setMt_lsup (x : MtState) : (s.setMt x).lsup = s.lsup := rfl
@[simp] theorem State.setMt_dma (x : MtState) : (s.setMt x).dma = s.dma := rfl
@[simp] theorem State.setMt_dmaTurn (x : MtState) : (s.setMt x).dmaTurn = s.dmaTurn := rfl
@[simp] theorem State.setMt_rdata (x : MtState) : (s.setMt x).rdata = s.rdata := rfl
@[simp] theorem State.setMt_draws (x : MtState) : (s.setMt x).draws = s.draws := rfl
@[simp] theorem State.setMt_pending (x : MtState) : (s.setMt x).pending = s.pending := rfl

@[simp] theorem State.setFab_regs (x : FabricState) : (s.setFab x).regs = s.regs := rfl
@[simp] theorem State.setFab_mem (x : FabricState) : (s.setFab x).mem = s.mem := rfl
@[simp] theorem State.setFab_ecc (x : FabricState) : (s.setFab x).ecc = s.ecc := rfl
@[simp] theorem State.setFab_otp (x : FabricState) : (s.setFab x).otp = s.otp := rfl
@[simp] theorem State.setFab_mt (x : FabricState) : (s.setFab x).mt = s.mt := rfl
@[simp] theorem State.setFab_fab (x : FabricState) : (s.setFab x).fab = x := rfl
@[simp] theorem State.setFab_tmr (x : FabricState) : (s.setFab x).tmr = s.tmr := rfl
@[simp] theorem State.setFab_pwr (x : FabricState) : (s.setFab x).pwr = s.pwr := rfl
@[simp] theorem State.setFab_bkp (x : FabricState) : (s.setFab x).bkp = s.bkp := rfl
@[simp] theorem State.setFab_dbg (x : FabricState) : (s.setFab x).dbg = s.dbg := rfl
@[simp] theorem State.setFab_pins (x : FabricState) : (s.setFab x).pins = s.pins := rfl
@[simp] theorem State.setFab_cores (x : FabricState) : (s.setFab x).cores = s.cores := rfl
@[simp] theorem State.setFab_cmdp (x : FabricState) : (s.setFab x).cmdp = s.cmdp := rfl
@[simp] theorem State.setFab_qm (x : FabricState) : (s.setFab x).qm = s.qm := rfl
@[simp] theorem State.setFab_fwd (x : FabricState) : (s.setFab x).fwd = s.fwd := rfl
@[simp] theorem State.setFab_gates (x : FabricState) : (s.setFab x).gates = s.gates := rfl
@[simp] theorem State.setFab_bandS (x : FabricState) : (s.setFab x).bandS = s.bandS := rfl
@[simp] theorem State.setFab_bandG (x : FabricState) : (s.setFab x).bandG = s.bandG := rfl
@[simp] theorem State.setFab_link (x : FabricState) : (s.setFab x).link = s.link := rfl
@[simp] theorem State.setFab_rwin (x : FabricState) : (s.setFab x).rwin = s.rwin := rfl
@[simp] theorem State.setFab_flash (x : FabricState) : (s.setFab x).flash = s.flash := rfl
@[simp] theorem State.setFab_stage (x : FabricState) : (s.setFab x).stage = s.stage := rfl
@[simp] theorem State.setFab_lsup (x : FabricState) : (s.setFab x).lsup = s.lsup := rfl
@[simp] theorem State.setFab_dma (x : FabricState) : (s.setFab x).dma = s.dma := rfl
@[simp] theorem State.setFab_dmaTurn (x : FabricState) : (s.setFab x).dmaTurn = s.dmaTurn := rfl
@[simp] theorem State.setFab_rdata (x : FabricState) : (s.setFab x).rdata = s.rdata := rfl
@[simp] theorem State.setFab_draws (x : FabricState) : (s.setFab x).draws = s.draws := rfl
@[simp] theorem State.setFab_pending (x : FabricState) : (s.setFab x).pending = s.pending := rfl

@[simp] theorem State.setPwr_regs (x : PowerState) : (s.setPwr x).regs = s.regs := rfl
@[simp] theorem State.setPwr_mem (x : PowerState) : (s.setPwr x).mem = s.mem := rfl
@[simp] theorem State.setPwr_ecc (x : PowerState) : (s.setPwr x).ecc = s.ecc := rfl
@[simp] theorem State.setPwr_otp (x : PowerState) : (s.setPwr x).otp = s.otp := rfl
@[simp] theorem State.setPwr_mt (x : PowerState) : (s.setPwr x).mt = s.mt := rfl
@[simp] theorem State.setPwr_fab (x : PowerState) : (s.setPwr x).fab = s.fab := rfl
@[simp] theorem State.setPwr_tmr (x : PowerState) : (s.setPwr x).tmr = s.tmr := rfl
@[simp] theorem State.setPwr_pwr (x : PowerState) : (s.setPwr x).pwr = x := rfl
@[simp] theorem State.setPwr_bkp (x : PowerState) : (s.setPwr x).bkp = s.bkp := rfl
@[simp] theorem State.setPwr_dbg (x : PowerState) : (s.setPwr x).dbg = s.dbg := rfl
@[simp] theorem State.setPwr_pins (x : PowerState) : (s.setPwr x).pins = s.pins := rfl
@[simp] theorem State.setPwr_cores (x : PowerState) : (s.setPwr x).cores = s.cores := rfl
@[simp] theorem State.setPwr_cmdp (x : PowerState) : (s.setPwr x).cmdp = s.cmdp := rfl
@[simp] theorem State.setPwr_qm (x : PowerState) : (s.setPwr x).qm = s.qm := rfl
@[simp] theorem State.setPwr_fwd (x : PowerState) : (s.setPwr x).fwd = s.fwd := rfl
@[simp] theorem State.setPwr_gates (x : PowerState) : (s.setPwr x).gates = s.gates := rfl
@[simp] theorem State.setPwr_bandS (x : PowerState) : (s.setPwr x).bandS = s.bandS := rfl
@[simp] theorem State.setPwr_bandG (x : PowerState) : (s.setPwr x).bandG = s.bandG := rfl
@[simp] theorem State.setPwr_link (x : PowerState) : (s.setPwr x).link = s.link := rfl
@[simp] theorem State.setPwr_rwin (x : PowerState) : (s.setPwr x).rwin = s.rwin := rfl
@[simp] theorem State.setPwr_flash (x : PowerState) : (s.setPwr x).flash = s.flash := rfl
@[simp] theorem State.setPwr_stage (x : PowerState) : (s.setPwr x).stage = s.stage := rfl
@[simp] theorem State.setPwr_lsup (x : PowerState) : (s.setPwr x).lsup = s.lsup := rfl
@[simp] theorem State.setPwr_dma (x : PowerState) : (s.setPwr x).dma = s.dma := rfl
@[simp] theorem State.setPwr_dmaTurn (x : PowerState) : (s.setPwr x).dmaTurn = s.dmaTurn := rfl
@[simp] theorem State.setPwr_rdata (x : PowerState) : (s.setPwr x).rdata = s.rdata := rfl
@[simp] theorem State.setPwr_draws (x : PowerState) : (s.setPwr x).draws = s.draws := rfl
@[simp] theorem State.setPwr_pending (x : PowerState) : (s.setPwr x).pending = s.pending := rfl

@[simp] theorem State.setBkp_regs (x : BackupState) : (s.setBkp x).regs = s.regs := rfl
@[simp] theorem State.setBkp_mem (x : BackupState) : (s.setBkp x).mem = s.mem := rfl
@[simp] theorem State.setBkp_ecc (x : BackupState) : (s.setBkp x).ecc = s.ecc := rfl
@[simp] theorem State.setBkp_otp (x : BackupState) : (s.setBkp x).otp = s.otp := rfl
@[simp] theorem State.setBkp_mt (x : BackupState) : (s.setBkp x).mt = s.mt := rfl
@[simp] theorem State.setBkp_fab (x : BackupState) : (s.setBkp x).fab = s.fab := rfl
@[simp] theorem State.setBkp_tmr (x : BackupState) : (s.setBkp x).tmr = s.tmr := rfl
@[simp] theorem State.setBkp_pwr (x : BackupState) : (s.setBkp x).pwr = s.pwr := rfl
@[simp] theorem State.setBkp_bkp (x : BackupState) : (s.setBkp x).bkp = x := rfl
@[simp] theorem State.setBkp_dbg (x : BackupState) : (s.setBkp x).dbg = s.dbg := rfl
@[simp] theorem State.setBkp_pins (x : BackupState) : (s.setBkp x).pins = s.pins := rfl
@[simp] theorem State.setBkp_cores (x : BackupState) : (s.setBkp x).cores = s.cores := rfl
@[simp] theorem State.setBkp_cmdp (x : BackupState) : (s.setBkp x).cmdp = s.cmdp := rfl
@[simp] theorem State.setBkp_qm (x : BackupState) : (s.setBkp x).qm = s.qm := rfl
@[simp] theorem State.setBkp_fwd (x : BackupState) : (s.setBkp x).fwd = s.fwd := rfl
@[simp] theorem State.setBkp_gates (x : BackupState) : (s.setBkp x).gates = s.gates := rfl
@[simp] theorem State.setBkp_bandS (x : BackupState) : (s.setBkp x).bandS = s.bandS := rfl
@[simp] theorem State.setBkp_bandG (x : BackupState) : (s.setBkp x).bandG = s.bandG := rfl
@[simp] theorem State.setBkp_link (x : BackupState) : (s.setBkp x).link = s.link := rfl
@[simp] theorem State.setBkp_rwin (x : BackupState) : (s.setBkp x).rwin = s.rwin := rfl
@[simp] theorem State.setBkp_flash (x : BackupState) : (s.setBkp x).flash = s.flash := rfl
@[simp] theorem State.setBkp_stage (x : BackupState) : (s.setBkp x).stage = s.stage := rfl
@[simp] theorem State.setBkp_lsup (x : BackupState) : (s.setBkp x).lsup = s.lsup := rfl
@[simp] theorem State.setBkp_dma (x : BackupState) : (s.setBkp x).dma = s.dma := rfl
@[simp] theorem State.setBkp_dmaTurn (x : BackupState) : (s.setBkp x).dmaTurn = s.dmaTurn := rfl
@[simp] theorem State.setBkp_rdata (x : BackupState) : (s.setBkp x).rdata = s.rdata := rfl
@[simp] theorem State.setBkp_draws (x : BackupState) : (s.setBkp x).draws = s.draws := rfl
@[simp] theorem State.setBkp_pending (x : BackupState) : (s.setBkp x).pending = s.pending := rfl

@[simp] theorem State.setCmdp_regs (x : CmdpState) : (s.setCmdp x).regs = s.regs := rfl
@[simp] theorem State.setCmdp_mem (x : CmdpState) : (s.setCmdp x).mem = s.mem := rfl
@[simp] theorem State.setCmdp_ecc (x : CmdpState) : (s.setCmdp x).ecc = s.ecc := rfl
@[simp] theorem State.setCmdp_otp (x : CmdpState) : (s.setCmdp x).otp = s.otp := rfl
@[simp] theorem State.setCmdp_mt (x : CmdpState) : (s.setCmdp x).mt = s.mt := rfl
@[simp] theorem State.setCmdp_fab (x : CmdpState) : (s.setCmdp x).fab = s.fab := rfl
@[simp] theorem State.setCmdp_tmr (x : CmdpState) : (s.setCmdp x).tmr = s.tmr := rfl
@[simp] theorem State.setCmdp_pwr (x : CmdpState) : (s.setCmdp x).pwr = s.pwr := rfl
@[simp] theorem State.setCmdp_bkp (x : CmdpState) : (s.setCmdp x).bkp = s.bkp := rfl
@[simp] theorem State.setCmdp_dbg (x : CmdpState) : (s.setCmdp x).dbg = s.dbg := rfl
@[simp] theorem State.setCmdp_pins (x : CmdpState) : (s.setCmdp x).pins = s.pins := rfl
@[simp] theorem State.setCmdp_cores (x : CmdpState) : (s.setCmdp x).cores = s.cores := rfl
@[simp] theorem State.setCmdp_cmdp (x : CmdpState) : (s.setCmdp x).cmdp = x := rfl
@[simp] theorem State.setCmdp_qm (x : CmdpState) : (s.setCmdp x).qm = s.qm := rfl
@[simp] theorem State.setCmdp_fwd (x : CmdpState) : (s.setCmdp x).fwd = s.fwd := rfl
@[simp] theorem State.setCmdp_gates (x : CmdpState) : (s.setCmdp x).gates = s.gates := rfl
@[simp] theorem State.setCmdp_bandS (x : CmdpState) : (s.setCmdp x).bandS = s.bandS := rfl
@[simp] theorem State.setCmdp_bandG (x : CmdpState) : (s.setCmdp x).bandG = s.bandG := rfl
@[simp] theorem State.setCmdp_link (x : CmdpState) : (s.setCmdp x).link = s.link := rfl
@[simp] theorem State.setCmdp_rwin (x : CmdpState) : (s.setCmdp x).rwin = s.rwin := rfl
@[simp] theorem State.setCmdp_flash (x : CmdpState) : (s.setCmdp x).flash = s.flash := rfl
@[simp] theorem State.setCmdp_stage (x : CmdpState) : (s.setCmdp x).stage = s.stage := rfl
@[simp] theorem State.setCmdp_lsup (x : CmdpState) : (s.setCmdp x).lsup = s.lsup := rfl
@[simp] theorem State.setCmdp_dma (x : CmdpState) : (s.setCmdp x).dma = s.dma := rfl
@[simp] theorem State.setCmdp_dmaTurn (x : CmdpState) : (s.setCmdp x).dmaTurn = s.dmaTurn := rfl
@[simp] theorem State.setCmdp_rdata (x : CmdpState) : (s.setCmdp x).rdata = s.rdata := rfl
@[simp] theorem State.setCmdp_draws (x : CmdpState) : (s.setCmdp x).draws = s.draws := rfl
@[simp] theorem State.setCmdp_pending (x : CmdpState) : (s.setCmdp x).pending = s.pending := rfl

@[simp] theorem State.setFwd_regs (x : FwdState) : (s.setFwd x).regs = s.regs := rfl
@[simp] theorem State.setFwd_mem (x : FwdState) : (s.setFwd x).mem = s.mem := rfl
@[simp] theorem State.setFwd_ecc (x : FwdState) : (s.setFwd x).ecc = s.ecc := rfl
@[simp] theorem State.setFwd_otp (x : FwdState) : (s.setFwd x).otp = s.otp := rfl
@[simp] theorem State.setFwd_mt (x : FwdState) : (s.setFwd x).mt = s.mt := rfl
@[simp] theorem State.setFwd_fab (x : FwdState) : (s.setFwd x).fab = s.fab := rfl
@[simp] theorem State.setFwd_tmr (x : FwdState) : (s.setFwd x).tmr = s.tmr := rfl
@[simp] theorem State.setFwd_pwr (x : FwdState) : (s.setFwd x).pwr = s.pwr := rfl
@[simp] theorem State.setFwd_bkp (x : FwdState) : (s.setFwd x).bkp = s.bkp := rfl
@[simp] theorem State.setFwd_dbg (x : FwdState) : (s.setFwd x).dbg = s.dbg := rfl
@[simp] theorem State.setFwd_pins (x : FwdState) : (s.setFwd x).pins = s.pins := rfl
@[simp] theorem State.setFwd_cores (x : FwdState) : (s.setFwd x).cores = s.cores := rfl
@[simp] theorem State.setFwd_cmdp (x : FwdState) : (s.setFwd x).cmdp = s.cmdp := rfl
@[simp] theorem State.setFwd_qm (x : FwdState) : (s.setFwd x).qm = s.qm := rfl
@[simp] theorem State.setFwd_fwd (x : FwdState) : (s.setFwd x).fwd = x := rfl
@[simp] theorem State.setFwd_gates (x : FwdState) : (s.setFwd x).gates = s.gates := rfl
@[simp] theorem State.setFwd_bandS (x : FwdState) : (s.setFwd x).bandS = s.bandS := rfl
@[simp] theorem State.setFwd_bandG (x : FwdState) : (s.setFwd x).bandG = s.bandG := rfl
@[simp] theorem State.setFwd_link (x : FwdState) : (s.setFwd x).link = s.link := rfl
@[simp] theorem State.setFwd_rwin (x : FwdState) : (s.setFwd x).rwin = s.rwin := rfl
@[simp] theorem State.setFwd_flash (x : FwdState) : (s.setFwd x).flash = s.flash := rfl
@[simp] theorem State.setFwd_stage (x : FwdState) : (s.setFwd x).stage = s.stage := rfl
@[simp] theorem State.setFwd_lsup (x : FwdState) : (s.setFwd x).lsup = s.lsup := rfl
@[simp] theorem State.setFwd_dma (x : FwdState) : (s.setFwd x).dma = s.dma := rfl
@[simp] theorem State.setFwd_dmaTurn (x : FwdState) : (s.setFwd x).dmaTurn = s.dmaTurn := rfl
@[simp] theorem State.setFwd_rdata (x : FwdState) : (s.setFwd x).rdata = s.rdata := rfl
@[simp] theorem State.setFwd_draws (x : FwdState) : (s.setFwd x).draws = s.draws := rfl
@[simp] theorem State.setFwd_pending (x : FwdState) : (s.setFwd x).pending = s.pending := rfl

@[simp] theorem State.setGates_regs (x : GateState) : (s.setGates x).regs = s.regs := rfl
@[simp] theorem State.setGates_mem (x : GateState) : (s.setGates x).mem = s.mem := rfl
@[simp] theorem State.setGates_ecc (x : GateState) : (s.setGates x).ecc = s.ecc := rfl
@[simp] theorem State.setGates_otp (x : GateState) : (s.setGates x).otp = s.otp := rfl
@[simp] theorem State.setGates_mt (x : GateState) : (s.setGates x).mt = s.mt := rfl
@[simp] theorem State.setGates_fab (x : GateState) : (s.setGates x).fab = s.fab := rfl
@[simp] theorem State.setGates_tmr (x : GateState) : (s.setGates x).tmr = s.tmr := rfl
@[simp] theorem State.setGates_pwr (x : GateState) : (s.setGates x).pwr = s.pwr := rfl
@[simp] theorem State.setGates_bkp (x : GateState) : (s.setGates x).bkp = s.bkp := rfl
@[simp] theorem State.setGates_dbg (x : GateState) : (s.setGates x).dbg = s.dbg := rfl
@[simp] theorem State.setGates_pins (x : GateState) : (s.setGates x).pins = s.pins := rfl
@[simp] theorem State.setGates_cores (x : GateState) : (s.setGates x).cores = s.cores := rfl
@[simp] theorem State.setGates_cmdp (x : GateState) : (s.setGates x).cmdp = s.cmdp := rfl
@[simp] theorem State.setGates_qm (x : GateState) : (s.setGates x).qm = s.qm := rfl
@[simp] theorem State.setGates_fwd (x : GateState) : (s.setGates x).fwd = s.fwd := rfl
@[simp] theorem State.setGates_gates (x : GateState) : (s.setGates x).gates = x := rfl
@[simp] theorem State.setGates_bandS (x : GateState) : (s.setGates x).bandS = s.bandS := rfl
@[simp] theorem State.setGates_bandG (x : GateState) : (s.setGates x).bandG = s.bandG := rfl
@[simp] theorem State.setGates_link (x : GateState) : (s.setGates x).link = s.link := rfl
@[simp] theorem State.setGates_rwin (x : GateState) : (s.setGates x).rwin = s.rwin := rfl
@[simp] theorem State.setGates_flash (x : GateState) : (s.setGates x).flash = s.flash := rfl
@[simp] theorem State.setGates_stage (x : GateState) : (s.setGates x).stage = s.stage := rfl
@[simp] theorem State.setGates_lsup (x : GateState) : (s.setGates x).lsup = s.lsup := rfl
@[simp] theorem State.setGates_dma (x : GateState) : (s.setGates x).dma = s.dma := rfl
@[simp] theorem State.setGates_dmaTurn (x : GateState) : (s.setGates x).dmaTurn = s.dmaTurn := rfl
@[simp] theorem State.setGates_rdata (x : GateState) : (s.setGates x).rdata = s.rdata := rfl
@[simp] theorem State.setGates_draws (x : GateState) : (s.setGates x).draws = s.draws := rfl
@[simp] theorem State.setGates_pending (x : GateState) : (s.setGates x).pending = s.pending := rfl

@[simp] theorem State.setLink_regs (x : LinkState) : (s.setLink x).regs = s.regs := rfl
@[simp] theorem State.setLink_mem (x : LinkState) : (s.setLink x).mem = s.mem := rfl
@[simp] theorem State.setLink_ecc (x : LinkState) : (s.setLink x).ecc = s.ecc := rfl
@[simp] theorem State.setLink_otp (x : LinkState) : (s.setLink x).otp = s.otp := rfl
@[simp] theorem State.setLink_mt (x : LinkState) : (s.setLink x).mt = s.mt := rfl
@[simp] theorem State.setLink_fab (x : LinkState) : (s.setLink x).fab = s.fab := rfl
@[simp] theorem State.setLink_tmr (x : LinkState) : (s.setLink x).tmr = s.tmr := rfl
@[simp] theorem State.setLink_pwr (x : LinkState) : (s.setLink x).pwr = s.pwr := rfl
@[simp] theorem State.setLink_bkp (x : LinkState) : (s.setLink x).bkp = s.bkp := rfl
@[simp] theorem State.setLink_dbg (x : LinkState) : (s.setLink x).dbg = s.dbg := rfl
@[simp] theorem State.setLink_pins (x : LinkState) : (s.setLink x).pins = s.pins := rfl
@[simp] theorem State.setLink_cores (x : LinkState) : (s.setLink x).cores = s.cores := rfl
@[simp] theorem State.setLink_cmdp (x : LinkState) : (s.setLink x).cmdp = s.cmdp := rfl
@[simp] theorem State.setLink_qm (x : LinkState) : (s.setLink x).qm = s.qm := rfl
@[simp] theorem State.setLink_fwd (x : LinkState) : (s.setLink x).fwd = s.fwd := rfl
@[simp] theorem State.setLink_gates (x : LinkState) : (s.setLink x).gates = s.gates := rfl
@[simp] theorem State.setLink_bandS (x : LinkState) : (s.setLink x).bandS = s.bandS := rfl
@[simp] theorem State.setLink_bandG (x : LinkState) : (s.setLink x).bandG = s.bandG := rfl
@[simp] theorem State.setLink_link (x : LinkState) : (s.setLink x).link = x := rfl
@[simp] theorem State.setLink_rwin (x : LinkState) : (s.setLink x).rwin = s.rwin := rfl
@[simp] theorem State.setLink_flash (x : LinkState) : (s.setLink x).flash = s.flash := rfl
@[simp] theorem State.setLink_stage (x : LinkState) : (s.setLink x).stage = s.stage := rfl
@[simp] theorem State.setLink_lsup (x : LinkState) : (s.setLink x).lsup = s.lsup := rfl
@[simp] theorem State.setLink_dma (x : LinkState) : (s.setLink x).dma = s.dma := rfl
@[simp] theorem State.setLink_dmaTurn (x : LinkState) : (s.setLink x).dmaTurn = s.dmaTurn := rfl
@[simp] theorem State.setLink_rdata (x : LinkState) : (s.setLink x).rdata = s.rdata := rfl
@[simp] theorem State.setLink_draws (x : LinkState) : (s.setLink x).draws = s.draws := rfl
@[simp] theorem State.setLink_pending (x : LinkState) : (s.setLink x).pending = s.pending := rfl

@[simp] theorem State.setRwin_regs (x : RwinState) : (s.setRwin x).regs = s.regs := rfl
@[simp] theorem State.setRwin_mem (x : RwinState) : (s.setRwin x).mem = s.mem := rfl
@[simp] theorem State.setRwin_ecc (x : RwinState) : (s.setRwin x).ecc = s.ecc := rfl
@[simp] theorem State.setRwin_otp (x : RwinState) : (s.setRwin x).otp = s.otp := rfl
@[simp] theorem State.setRwin_mt (x : RwinState) : (s.setRwin x).mt = s.mt := rfl
@[simp] theorem State.setRwin_fab (x : RwinState) : (s.setRwin x).fab = s.fab := rfl
@[simp] theorem State.setRwin_tmr (x : RwinState) : (s.setRwin x).tmr = s.tmr := rfl
@[simp] theorem State.setRwin_pwr (x : RwinState) : (s.setRwin x).pwr = s.pwr := rfl
@[simp] theorem State.setRwin_bkp (x : RwinState) : (s.setRwin x).bkp = s.bkp := rfl
@[simp] theorem State.setRwin_dbg (x : RwinState) : (s.setRwin x).dbg = s.dbg := rfl
@[simp] theorem State.setRwin_pins (x : RwinState) : (s.setRwin x).pins = s.pins := rfl
@[simp] theorem State.setRwin_cores (x : RwinState) : (s.setRwin x).cores = s.cores := rfl
@[simp] theorem State.setRwin_cmdp (x : RwinState) : (s.setRwin x).cmdp = s.cmdp := rfl
@[simp] theorem State.setRwin_qm (x : RwinState) : (s.setRwin x).qm = s.qm := rfl
@[simp] theorem State.setRwin_fwd (x : RwinState) : (s.setRwin x).fwd = s.fwd := rfl
@[simp] theorem State.setRwin_gates (x : RwinState) : (s.setRwin x).gates = s.gates := rfl
@[simp] theorem State.setRwin_bandS (x : RwinState) : (s.setRwin x).bandS = s.bandS := rfl
@[simp] theorem State.setRwin_bandG (x : RwinState) : (s.setRwin x).bandG = s.bandG := rfl
@[simp] theorem State.setRwin_link (x : RwinState) : (s.setRwin x).link = s.link := rfl
@[simp] theorem State.setRwin_rwin (x : RwinState) : (s.setRwin x).rwin = x := rfl
@[simp] theorem State.setRwin_flash (x : RwinState) : (s.setRwin x).flash = s.flash := rfl
@[simp] theorem State.setRwin_stage (x : RwinState) : (s.setRwin x).stage = s.stage := rfl
@[simp] theorem State.setRwin_lsup (x : RwinState) : (s.setRwin x).lsup = s.lsup := rfl
@[simp] theorem State.setRwin_dma (x : RwinState) : (s.setRwin x).dma = s.dma := rfl
@[simp] theorem State.setRwin_dmaTurn (x : RwinState) : (s.setRwin x).dmaTurn = s.dmaTurn := rfl
@[simp] theorem State.setRwin_rdata (x : RwinState) : (s.setRwin x).rdata = s.rdata := rfl
@[simp] theorem State.setRwin_draws (x : RwinState) : (s.setRwin x).draws = s.draws := rfl
@[simp] theorem State.setRwin_pending (x : RwinState) : (s.setRwin x).pending = s.pending := rfl

@[simp] theorem State.setFlash_regs (x : FlashState) : (s.setFlash x).regs = s.regs := rfl
@[simp] theorem State.setFlash_mem (x : FlashState) : (s.setFlash x).mem = s.mem := rfl
@[simp] theorem State.setFlash_ecc (x : FlashState) : (s.setFlash x).ecc = s.ecc := rfl
@[simp] theorem State.setFlash_otp (x : FlashState) : (s.setFlash x).otp = s.otp := rfl
@[simp] theorem State.setFlash_mt (x : FlashState) : (s.setFlash x).mt = s.mt := rfl
@[simp] theorem State.setFlash_fab (x : FlashState) : (s.setFlash x).fab = s.fab := rfl
@[simp] theorem State.setFlash_tmr (x : FlashState) : (s.setFlash x).tmr = s.tmr := rfl
@[simp] theorem State.setFlash_pwr (x : FlashState) : (s.setFlash x).pwr = s.pwr := rfl
@[simp] theorem State.setFlash_bkp (x : FlashState) : (s.setFlash x).bkp = s.bkp := rfl
@[simp] theorem State.setFlash_dbg (x : FlashState) : (s.setFlash x).dbg = s.dbg := rfl
@[simp] theorem State.setFlash_pins (x : FlashState) : (s.setFlash x).pins = s.pins := rfl
@[simp] theorem State.setFlash_cores (x : FlashState) : (s.setFlash x).cores = s.cores := rfl
@[simp] theorem State.setFlash_cmdp (x : FlashState) : (s.setFlash x).cmdp = s.cmdp := rfl
@[simp] theorem State.setFlash_qm (x : FlashState) : (s.setFlash x).qm = s.qm := rfl
@[simp] theorem State.setFlash_fwd (x : FlashState) : (s.setFlash x).fwd = s.fwd := rfl
@[simp] theorem State.setFlash_gates (x : FlashState) : (s.setFlash x).gates = s.gates := rfl
@[simp] theorem State.setFlash_bandS (x : FlashState) : (s.setFlash x).bandS = s.bandS := rfl
@[simp] theorem State.setFlash_bandG (x : FlashState) : (s.setFlash x).bandG = s.bandG := rfl
@[simp] theorem State.setFlash_link (x : FlashState) : (s.setFlash x).link = s.link := rfl
@[simp] theorem State.setFlash_rwin (x : FlashState) : (s.setFlash x).rwin = s.rwin := rfl
@[simp] theorem State.setFlash_flash (x : FlashState) : (s.setFlash x).flash = x := rfl
@[simp] theorem State.setFlash_stage (x : FlashState) : (s.setFlash x).stage = s.stage := rfl
@[simp] theorem State.setFlash_lsup (x : FlashState) : (s.setFlash x).lsup = s.lsup := rfl
@[simp] theorem State.setFlash_dma (x : FlashState) : (s.setFlash x).dma = s.dma := rfl
@[simp] theorem State.setFlash_dmaTurn (x : FlashState) : (s.setFlash x).dmaTurn = s.dmaTurn := rfl
@[simp] theorem State.setFlash_rdata (x : FlashState) : (s.setFlash x).rdata = s.rdata := rfl
@[simp] theorem State.setFlash_draws (x : FlashState) : (s.setFlash x).draws = s.draws := rfl
@[simp] theorem State.setFlash_pending (x : FlashState) : (s.setFlash x).pending = s.pending := rfl

@[simp] theorem State.setStage_regs (x : StageState) : (s.setStage x).regs = s.regs := rfl
@[simp] theorem State.setStage_mem (x : StageState) : (s.setStage x).mem = s.mem := rfl
@[simp] theorem State.setStage_ecc (x : StageState) : (s.setStage x).ecc = s.ecc := rfl
@[simp] theorem State.setStage_otp (x : StageState) : (s.setStage x).otp = s.otp := rfl
@[simp] theorem State.setStage_mt (x : StageState) : (s.setStage x).mt = s.mt := rfl
@[simp] theorem State.setStage_fab (x : StageState) : (s.setStage x).fab = s.fab := rfl
@[simp] theorem State.setStage_tmr (x : StageState) : (s.setStage x).tmr = s.tmr := rfl
@[simp] theorem State.setStage_pwr (x : StageState) : (s.setStage x).pwr = s.pwr := rfl
@[simp] theorem State.setStage_bkp (x : StageState) : (s.setStage x).bkp = s.bkp := rfl
@[simp] theorem State.setStage_dbg (x : StageState) : (s.setStage x).dbg = s.dbg := rfl
@[simp] theorem State.setStage_pins (x : StageState) : (s.setStage x).pins = s.pins := rfl
@[simp] theorem State.setStage_cores (x : StageState) : (s.setStage x).cores = s.cores := rfl
@[simp] theorem State.setStage_cmdp (x : StageState) : (s.setStage x).cmdp = s.cmdp := rfl
@[simp] theorem State.setStage_qm (x : StageState) : (s.setStage x).qm = s.qm := rfl
@[simp] theorem State.setStage_fwd (x : StageState) : (s.setStage x).fwd = s.fwd := rfl
@[simp] theorem State.setStage_gates (x : StageState) : (s.setStage x).gates = s.gates := rfl
@[simp] theorem State.setStage_bandS (x : StageState) : (s.setStage x).bandS = s.bandS := rfl
@[simp] theorem State.setStage_bandG (x : StageState) : (s.setStage x).bandG = s.bandG := rfl
@[simp] theorem State.setStage_link (x : StageState) : (s.setStage x).link = s.link := rfl
@[simp] theorem State.setStage_rwin (x : StageState) : (s.setStage x).rwin = s.rwin := rfl
@[simp] theorem State.setStage_flash (x : StageState) : (s.setStage x).flash = s.flash := rfl
@[simp] theorem State.setStage_stage (x : StageState) : (s.setStage x).stage = x := rfl
@[simp] theorem State.setStage_lsup (x : StageState) : (s.setStage x).lsup = s.lsup := rfl
@[simp] theorem State.setStage_dma (x : StageState) : (s.setStage x).dma = s.dma := rfl
@[simp] theorem State.setStage_dmaTurn (x : StageState) : (s.setStage x).dmaTurn = s.dmaTurn := rfl
@[simp] theorem State.setStage_rdata (x : StageState) : (s.setStage x).rdata = s.rdata := rfl
@[simp] theorem State.setStage_draws (x : StageState) : (s.setStage x).draws = s.draws := rfl
@[simp] theorem State.setStage_pending (x : StageState) : (s.setStage x).pending = s.pending := rfl

@[simp] theorem State.setLsup_regs (x : LsupState) : (s.setLsup x).regs = s.regs := rfl
@[simp] theorem State.setLsup_mem (x : LsupState) : (s.setLsup x).mem = s.mem := rfl
@[simp] theorem State.setLsup_ecc (x : LsupState) : (s.setLsup x).ecc = s.ecc := rfl
@[simp] theorem State.setLsup_otp (x : LsupState) : (s.setLsup x).otp = s.otp := rfl
@[simp] theorem State.setLsup_mt (x : LsupState) : (s.setLsup x).mt = s.mt := rfl
@[simp] theorem State.setLsup_fab (x : LsupState) : (s.setLsup x).fab = s.fab := rfl
@[simp] theorem State.setLsup_tmr (x : LsupState) : (s.setLsup x).tmr = s.tmr := rfl
@[simp] theorem State.setLsup_pwr (x : LsupState) : (s.setLsup x).pwr = s.pwr := rfl
@[simp] theorem State.setLsup_bkp (x : LsupState) : (s.setLsup x).bkp = s.bkp := rfl
@[simp] theorem State.setLsup_dbg (x : LsupState) : (s.setLsup x).dbg = s.dbg := rfl
@[simp] theorem State.setLsup_pins (x : LsupState) : (s.setLsup x).pins = s.pins := rfl
@[simp] theorem State.setLsup_cores (x : LsupState) : (s.setLsup x).cores = s.cores := rfl
@[simp] theorem State.setLsup_cmdp (x : LsupState) : (s.setLsup x).cmdp = s.cmdp := rfl
@[simp] theorem State.setLsup_qm (x : LsupState) : (s.setLsup x).qm = s.qm := rfl
@[simp] theorem State.setLsup_fwd (x : LsupState) : (s.setLsup x).fwd = s.fwd := rfl
@[simp] theorem State.setLsup_gates (x : LsupState) : (s.setLsup x).gates = s.gates := rfl
@[simp] theorem State.setLsup_bandS (x : LsupState) : (s.setLsup x).bandS = s.bandS := rfl
@[simp] theorem State.setLsup_bandG (x : LsupState) : (s.setLsup x).bandG = s.bandG := rfl
@[simp] theorem State.setLsup_link (x : LsupState) : (s.setLsup x).link = s.link := rfl
@[simp] theorem State.setLsup_rwin (x : LsupState) : (s.setLsup x).rwin = s.rwin := rfl
@[simp] theorem State.setLsup_flash (x : LsupState) : (s.setLsup x).flash = s.flash := rfl
@[simp] theorem State.setLsup_stage (x : LsupState) : (s.setLsup x).stage = s.stage := rfl
@[simp] theorem State.setLsup_lsup (x : LsupState) : (s.setLsup x).lsup = x := rfl
@[simp] theorem State.setLsup_dma (x : LsupState) : (s.setLsup x).dma = s.dma := rfl
@[simp] theorem State.setLsup_dmaTurn (x : LsupState) : (s.setLsup x).dmaTurn = s.dmaTurn := rfl
@[simp] theorem State.setLsup_rdata (x : LsupState) : (s.setLsup x).rdata = s.rdata := rfl
@[simp] theorem State.setLsup_draws (x : LsupState) : (s.setLsup x).draws = s.draws := rfl
@[simp] theorem State.setLsup_pending (x : LsupState) : (s.setLsup x).pending = s.pending := rfl

@[simp] theorem State.setDma_regs (n : Nat) (x : DmaCh) : (s.setDma n x).regs = s.regs := rfl
@[simp] theorem State.setDma_mem (n : Nat) (x : DmaCh) : (s.setDma n x).mem = s.mem := rfl
@[simp] theorem State.setDma_ecc (n : Nat) (x : DmaCh) : (s.setDma n x).ecc = s.ecc := rfl
@[simp] theorem State.setDma_otp (n : Nat) (x : DmaCh) : (s.setDma n x).otp = s.otp := rfl
@[simp] theorem State.setDma_mt (n : Nat) (x : DmaCh) : (s.setDma n x).mt = s.mt := rfl
@[simp] theorem State.setDma_fab (n : Nat) (x : DmaCh) : (s.setDma n x).fab = s.fab := rfl
@[simp] theorem State.setDma_tmr (n : Nat) (x : DmaCh) : (s.setDma n x).tmr = s.tmr := rfl
@[simp] theorem State.setDma_pwr (n : Nat) (x : DmaCh) : (s.setDma n x).pwr = s.pwr := rfl
@[simp] theorem State.setDma_bkp (n : Nat) (x : DmaCh) : (s.setDma n x).bkp = s.bkp := rfl
@[simp] theorem State.setDma_dbg (n : Nat) (x : DmaCh) : (s.setDma n x).dbg = s.dbg := rfl
@[simp] theorem State.setDma_pins (n : Nat) (x : DmaCh) : (s.setDma n x).pins = s.pins := rfl
@[simp] theorem State.setDma_cores (n : Nat) (x : DmaCh) : (s.setDma n x).cores = s.cores := rfl
@[simp] theorem State.setDma_cmdp (n : Nat) (x : DmaCh) : (s.setDma n x).cmdp = s.cmdp := rfl
@[simp] theorem State.setDma_qm (n : Nat) (x : DmaCh) : (s.setDma n x).qm = s.qm := rfl
@[simp] theorem State.setDma_fwd (n : Nat) (x : DmaCh) : (s.setDma n x).fwd = s.fwd := rfl
@[simp] theorem State.setDma_gates (n : Nat) (x : DmaCh) : (s.setDma n x).gates = s.gates := rfl
@[simp] theorem State.setDma_bandS (n : Nat) (x : DmaCh) : (s.setDma n x).bandS = s.bandS := rfl
@[simp] theorem State.setDma_bandG (n : Nat) (x : DmaCh) : (s.setDma n x).bandG = s.bandG := rfl
@[simp] theorem State.setDma_link (n : Nat) (x : DmaCh) : (s.setDma n x).link = s.link := rfl
@[simp] theorem State.setDma_rwin (n : Nat) (x : DmaCh) : (s.setDma n x).rwin = s.rwin := rfl
@[simp] theorem State.setDma_flash (n : Nat) (x : DmaCh) : (s.setDma n x).flash = s.flash := rfl
@[simp] theorem State.setDma_stage (n : Nat) (x : DmaCh) : (s.setDma n x).stage = s.stage := rfl
@[simp] theorem State.setDma_lsup (n : Nat) (x : DmaCh) : (s.setDma n x).lsup = s.lsup := rfl
@[simp] theorem State.setDma_dmaTurn (n : Nat) (x : DmaCh) : (s.setDma n x).dmaTurn = s.dmaTurn := rfl
@[simp] theorem State.setDma_rdata (n : Nat) (x : DmaCh) : (s.setDma n x).rdata = s.rdata := rfl
@[simp] theorem State.setDma_draws (n : Nat) (x : DmaCh) : (s.setDma n x).draws = s.draws := rfl
@[simp] theorem State.setDma_pending (n : Nat) (x : DmaCh) : (s.setDma n x).pending = s.pending := rfl

@[simp] theorem State.setBand_regs (b : Nat) (x : BandSt) : (s.setBand b x).regs = s.regs := by unfold State.setBand; split <;> rfl
@[simp] theorem State.setBand_mem (b : Nat) (x : BandSt) : (s.setBand b x).mem = s.mem := by unfold State.setBand; split <;> rfl
@[simp] theorem State.setBand_ecc (b : Nat) (x : BandSt) : (s.setBand b x).ecc = s.ecc := by unfold State.setBand; split <;> rfl
@[simp] theorem State.setBand_otp (b : Nat) (x : BandSt) : (s.setBand b x).otp = s.otp := by unfold State.setBand; split <;> rfl
@[simp] theorem State.setBand_mt (b : Nat) (x : BandSt) : (s.setBand b x).mt = s.mt := by unfold State.setBand; split <;> rfl
@[simp] theorem State.setBand_fab (b : Nat) (x : BandSt) : (s.setBand b x).fab = s.fab := by unfold State.setBand; split <;> rfl
@[simp] theorem State.setBand_tmr (b : Nat) (x : BandSt) : (s.setBand b x).tmr = s.tmr := by unfold State.setBand; split <;> rfl
@[simp] theorem State.setBand_pwr (b : Nat) (x : BandSt) : (s.setBand b x).pwr = s.pwr := by unfold State.setBand; split <;> rfl
@[simp] theorem State.setBand_bkp (b : Nat) (x : BandSt) : (s.setBand b x).bkp = s.bkp := by unfold State.setBand; split <;> rfl
@[simp] theorem State.setBand_dbg (b : Nat) (x : BandSt) : (s.setBand b x).dbg = s.dbg := by unfold State.setBand; split <;> rfl
@[simp] theorem State.setBand_pins (b : Nat) (x : BandSt) : (s.setBand b x).pins = s.pins := by unfold State.setBand; split <;> rfl
@[simp] theorem State.setBand_cores (b : Nat) (x : BandSt) : (s.setBand b x).cores = s.cores := by unfold State.setBand; split <;> rfl
@[simp] theorem State.setBand_cmdp (b : Nat) (x : BandSt) : (s.setBand b x).cmdp = s.cmdp := by unfold State.setBand; split <;> rfl
@[simp] theorem State.setBand_qm (b : Nat) (x : BandSt) : (s.setBand b x).qm = s.qm := by unfold State.setBand; split <;> rfl
@[simp] theorem State.setBand_fwd (b : Nat) (x : BandSt) : (s.setBand b x).fwd = s.fwd := by unfold State.setBand; split <;> rfl
@[simp] theorem State.setBand_gates (b : Nat) (x : BandSt) : (s.setBand b x).gates = s.gates := by unfold State.setBand; split <;> rfl
@[simp] theorem State.setBand_link (b : Nat) (x : BandSt) : (s.setBand b x).link = s.link := by unfold State.setBand; split <;> rfl
@[simp] theorem State.setBand_rwin (b : Nat) (x : BandSt) : (s.setBand b x).rwin = s.rwin := by unfold State.setBand; split <;> rfl
@[simp] theorem State.setBand_flash (b : Nat) (x : BandSt) : (s.setBand b x).flash = s.flash := by unfold State.setBand; split <;> rfl
@[simp] theorem State.setBand_stage (b : Nat) (x : BandSt) : (s.setBand b x).stage = s.stage := by unfold State.setBand; split <;> rfl
@[simp] theorem State.setBand_lsup (b : Nat) (x : BandSt) : (s.setBand b x).lsup = s.lsup := by unfold State.setBand; split <;> rfl
@[simp] theorem State.setBand_dma (b : Nat) (x : BandSt) : (s.setBand b x).dma = s.dma := by unfold State.setBand; split <;> rfl
@[simp] theorem State.setBand_dmaTurn (b : Nat) (x : BandSt) : (s.setBand b x).dmaTurn = s.dmaTurn := by unfold State.setBand; split <;> rfl
@[simp] theorem State.setBand_rdata (b : Nat) (x : BandSt) : (s.setBand b x).rdata = s.rdata := by unfold State.setBand; split <;> rfl
@[simp] theorem State.setBand_draws (b : Nat) (x : BandSt) : (s.setBand b x).draws = s.draws := by unfold State.setBand; split <;> rfl
@[simp] theorem State.setBand_pending (b : Nat) (x : BandSt) : (s.setBand b x).pending = s.pending := by unfold State.setBand; split <;> rfl

end Sys2Proof.Machine
end

