-- ==== Sys2Proof/WellFormed.lean ====
section
/-! DEFINITION. Which commands are well-formed: a write that its row names by a bit carries that bit, a core instruction keeps the
fields that the spec reserves (R307, R325), and an event's operands lie in the ranges that the spec gives them. An ill-formed
core instruction still has its meaning: the exception of R325. -/
namespace Sys2Proof

/-- A pair register: even, 2 to 12 (R305). -/
def isPair (d : BitVec 4) : Bool := d.toNat % 2 == 0 && 2 ≤ d.toNat && d.toNat ≤ 12

/-- The lane field of an octet form names lane 0, 1 or 2 (R311). -/
def laneNamed (imm : BitVec 10) : Bool := imm.toNat / 256 != 3

/-- imm[9:5] = 0, as the immediate shifts need (R310). -/
def noHigh (imm : BitVec 10) : Bool := imm.toNat < 32

/-- EXT.K's least significant bit lies in the word (R310). -/
def extLsbOk (imm : BitVec 10) : Bool := imm.toNat % 32 < 24

/-- A system register that the table of 12_qoris24_cores.md lists. -/
def sysNamed (imm : BitVec 10) : Bool :=
  imm.toNat ≤ 2 || (0x010 ≤ imm.toNat && imm.toNat ≤ 0x018) || imm.toNat == 0x020 ||
    (0x030 ≤ imm.toNat && imm.toNat ≤ 0x055)

/-- A full calibration's results: at most 255, each for an entry below 1,024 and of three words (R99). -/
def calResultsOk (results : List (Nat × List Word)) : Bool :=
  results.length ≤ 255 && results.all (fun e => decide (e.1 < 1024) && e.2.length == 3)

/-- The command is one that its row of the table admits. -/
def Instr.wf : Instr → Bool
  | .mtTick => true
  | .lfTick => true
  | .readMtNow0 _ => true
  | .mtCtrlStep _ v => v.getLsbD 0
  | .mtStepApply => true
  | .slewStart _ _ => true
  | .slewstop _ v => v.getLsbD 1
  | .mtSlewDone => true
  | .mtRateCommit _ _ => true
  | .mtUsetWrite _ _ => true
  | .mtUalarmWrite _ _ => true
  | .lfWindowEnd => true
  | .bridgeEnter => true
  | .bridgeExit => true
  | .armCompare _ _ _ => true
  | .compareDisarm _ _ v => v.getLsbD 1
  | .compareMatch _ => true
  | .ppsPulseEnd => true
  | .captureEvent _ _ => true
  | .readCapture _ _ => true
  | .disciplineSample _ => true
  | .sourceLost src => src != 0
  | .ptpEventStamp => true
  | .courseRunWrite _ _ v => v.getLsbD 0
  | .courseStopWrite _ _ v => !v.getLsbD 0
  | .courseStopnow _ _ v => v.getLsbD 3
  | .courseBoundary _ => true
  | .gateCommit _ v => v.getLsbD 12
  | .guardEvaluation _ _ => true
  | .gatePretune _ _ => true
  | .rxListen _ _ => true
  | .rxExpect _ _ => true
  | .rxSound _ _ => true
  | .txQueue _ _ => true
  | .txBeacon _ _ => true
  | .txSound _ _ => true
  | .emitEvent _ _ => true
  | .gateWinEnd _ _ => true
  | .gateTune _ _ => true
  | .gateCalibrate _ _ => true
  | .wakeApp _ _ => true
  | .rxWindowClose _ _ => true
  | .ackWaitEnd _ => true
  | .synthLock _ _ => true
  | .synthColdFallback _ _ => true
  | .calCommit _ _ v => v.getLsbD 10
  | .calSliceStart _ => true
  | .calSliceDone _ res _ _ _ => res.all (fun t => t.isEmpty || t.length == 3)
  | .fullCalStart _ _ v => v.getLsbD 1
  | .fullCalDone _ e results => e.trim.length == 3 && calResultsOk results
  | .calstop _ _ v => v.getLsbD 2
  | .calageTick _ => true
  | .sensorRefresh _ _ _ => true
  | .txRampUp _ => true
  | .txLate _ => true
  | .txEnd _ _ => true
  | .blankEnd _ => true
  | .txHalt _ _ v => v.getLsbD 0
  | .ccaDone _ _ => true
  | .offminEnd _ _ => true
  | .bucketEntry _ _ => true
  | .pathAgcWindow _ _ _ _ => true
  | .gainApply _ => true
  | .preambleDetect _ _ _ _ _ _ => true
  | .headerDecode _ _ _ => true
  | .codewordDecode _ _ _ => true
  | .frameEnd _ psdu _ _ _ => psdu.length ≤ 4095
  | .laneOosWrite _ _ => true
  | .spanApply _ => true
  | .frameAccept => true
  | .ackTransmit _ => true
  | .keyLoadCommit _ v => v.getLsbD 9
  | .keyClear _ v => v.getLsbD 10
  | .keyWalkDone _ => true
  | .txctrCommit _ _ _ => true
  | .txlimCommit _ _ _ => true
  | .nbrCommit _ v => v.getLsbD 13
  | .heardRefresh => true
  | .tonemapCompute => true
  | .tonemapFeedback _ _ => true
  | .soundingPolicyTick _ => true
  | .fwdProcess _ => true
  | .routeCommit _ v => v.getLsbD 14
  | .queuePush _ _ _ => true
  | .queuePushhead _ _ _ => true
  | .queuePop _ _ => true
  | .queuePeek _ _ => true
  | .queueClassWrite _ _ _ => true
  | .freebuf _ _ => true
  | .alloc _ => true
  | .qmTimeout _ => true
  | .rwinRequest => true
  | .rwRead _ => true
  | .rwWrite _ => true
  | .rwAdd _ => true
  | .rwSwap _ => true
  | .rwinReadbackDone _ => true
  | .rwinResponse => true
  | .rwinTimeout _ => true
  | .windowCommit _ v => v.getLsbD 6
  | .spiWrite _ => true
  | .spiRead _ => true
  | .spiStatus _ _ => true
  | .spiRepeat _ => true
  | .uartPacket _ => true
  | .uartGapTimeout => true
  | .uartReplySent => true
  | .mailboxPost _ _ _ => true
  | .mailboxCopyDone _ => true
  | .mailboxReplyWrite _ => true
  | .ping _ _ => true
  | .getInfo _ _ => true
  | .resetDomain _ _ => true
  | .deferredResetStart => true
  | .getResetCause _ _ => true
  | .setMode _ _ => true
  | .getMode _ _ => true
  | .getWakeRecord _ _ => true
  | .radioConfig _ _ => true
  | .tune _ _ => true
  | .calibrate _ _ => true
  | .setCalPolicy _ _ => true
  | .setTxPower _ _ => true
  | .loadPowerCurve _ _ => true
  | .laneAssign _ _ => true
  | .laneRelease _ _ => true
  | .txFrame _ _ => true
  | .txFrameRetry _ _ => true
  | .measureChannel _ _ => true
  | .measureDone _ _ _ _ _ => true
  | .sound _ _ => true
  | .mtGet _ _ => true
  | .mtStep _ _ => true
  | .mtSlew _ _ => true
  | .mtSource _ _ => true
  | .mtStatus _ _ => true
  | .gateWrite _ _ => true
  | .gateRead _ _ => true
  | .courseConfig _ _ => true
  | .courseStart _ _ => true
  | .courseStop _ _ => true
  | .hopseqWrite _ _ => true
  | .nbrRead _ _ => true
  | .nbrWrite _ _ => true
  | .nbrEvict _ _ => true
  | .routeWrite _ _ => true
  | .routeRead _ _ => true
  | .tonemapWrite _ _ => true
  | .tonemapRead _ _ => true
  | .keyLoad _ _ => true
  | .keySelect _ _ => true
  | .secStatus _ _ => true
  | .windowDefine _ _ => true
  | .windowClose _ _ => true
  | .windowOp _ _ => true
  | .stageBegin _ _ => true
  | .stageWrite _ _ => true
  | .stageCommit _ _ => true
  | .stageStatus _ _ => true
  | .linkfwLoad _ _ => true
  | .linkfwSwap _ _ => true
  | .tableBankSwap _ _ => true
  | .selftest _ _ => true
  | .getCounters _ _ => true
  | .clearCounters _ _ => true
  | .echo _ _ => true
  | .abort _ _ => true
  | .heartbeat _ _ => true
  | .supervisorTimeout _ => true
  | .takeoverResume _ => true
  | .swapgo _ v => v.getLsbD 1
  | .standbyLoad _ v => v.getLsbD 2
  | .standbyReady => true
  | .bankswapGo _ v => v.getLsbD 4
  | .bankswapCancel _ v => v.getLsbD 5
  | .interruptTake _ => true
  | .add _ _ _ _ => true
  | .sub _ _ _ _ => true
  | .andR _ _ _ _ => true
  | .orR _ _ _ _ => true
  | .xorR _ _ _ _ => true
  | .nor _ _ _ _ => true
  | .lts _ _ _ _ => true
  | .ltu _ _ _ _ => true
  | .shl _ _ _ _ => true
  | .shr _ _ _ _ => true
  | .sar _ _ _ _ => true
  | .ror _ _ _ _ => true
  | .minS _ _ _ _ => true
  | .maxS _ _ _ _ => true
  | .minu _ _ _ _ => true
  | .maxu _ _ _ _ => true
  | .adds _ _ _ _ => true
  | .subs _ _ _ _ => true
  | .abs _ _ _ b => b == 0
  | .clz _ _ _ b => b == 0
  | .popc _ _ _ b => b == 0
  | .revo _ _ _ b => b == 0
  | .sexo _ _ _ b => b == 0
  | .sex12 _ _ _ b => b == 0
  | .addK _ _ _ _ => true
  | .andK _ _ _ _ => true
  | .orK _ _ _ _ => true
  | .xorK _ _ _ _ => true
  | .ltsK _ _ _ _ => true
  | .ltuK _ _ _ _ => true
  | .shlK _ _ _ imm => noHigh imm
  | .shrK _ _ _ imm => noHigh imm
  | .sarK _ _ _ imm => noHigh imm
  | .rorK _ _ _ imm => noHigh imm
  | .whi _ _ _ => true
  | .adh _ _ _ => true
  | .addsK _ _ _ _ => true
  | .rsbK _ _ _ _ => true
  | .extK _ _ _ imm => extLsbOk imm
  | .ldw _ _ _ _ => true
  | .stw _ _ _ _ => true
  | .ldo _ _ _ imm => laneNamed imm
  | .ldos _ _ _ imm => laneNamed imm
  | .sto _ _ _ imm => laneNamed imm
  | .ldp _ d _ _ => isPair d
  | .stp _ d _ _ => isPair d
  | .swp _ _ _ _ => true
  | .cbEq _ _ _ _ => true
  | .cbNe _ _ _ _ => true
  | .cbLt _ _ _ _ => true
  | .cbGe _ _ _ _ => true
  | .cbLtu _ _ _ _ => true
  | .cbGeu _ _ _ _ => true
  | .cbDec _ _ b _ => b == 0
  | .cbAny _ _ _ _ => true
  | .jmp _ _ => true
  | .call _ _ => true
  | .jmpr _ d _ _ => d == 0
  | .callr _ d _ _ => d == 0
  | .trap _ _ => true
  | .bkpt _ _ => true
  | .xret _ rest => rest == 0
  | .wait _ rest => rest == 0
  | .fence _ rest => rest == 0
  | .ei _ rest => rest == 0
  | .di _ _ rest => rest == 0
  | .iline _ _ _ => true
  | .dclean _ _ _ => true
  | .dflush _ _ _ => true
  | .dinv _ _ _ => true
  | .iall _ _ _ => true
  | .dcleanall _ _ _ => true
  | .dflushall _ _ _ => true
  | .dinvall _ _ _ => true
  | .fcinv _ _ _ => true
  | .mfs _ _ a imm => a == 0 && sysNamed imm
  | .mts _ d _ imm => d == 0 && sysNamed imm
  | .mul _ _ _ _ => true
  | .mulh _ _ _ _ => true
  | .mulhu _ _ _ _ => true
  | .mull _ d _ _ => isPair d
  | .mullu _ d _ _ => isPair d
  | .div _ _ _ _ => true
  | .divu _ _ _ _ => true
  | .rem _ _ _ _ => true
  | .remu _ _ _ _ => true
  | .mulK _ _ _ _ => true
  | .divl _ d a _ => isPair d && isPair a
  | .divlu _ d a _ => isPair d && isPair a
  | .fmul _ _ _ _ => true
  | .fmult _ _ _ _ => true
  | .mac _ _ _ _ => true
  | .msu _ _ _ _ => true
  | .macz _ d _ _ => d == 0
  | .accr _ _ a b => a == 0 && b == 0
  | .accw _ d _ b => d == 0 && b == 0
  | .accsh _ d a _ => d == 0 && a == 0
  | .cadd _ _ _ _ => true
  | .cadds _ _ _ _ => true
  | .csub _ _ _ _ => true
  | .csubs _ _ _ _ => true
  | .cconj _ _ _ b => b == 0
  | .cmul _ _ _ _ => true
  | .hint _ _ => true
  | .aeskey _ d _ b => d == 0 && b == 0
  | .aesenc _ _ _ b => b == 0
  | .aesdec _ _ _ b => b == 0
  | .shainit _ d a b => d == 0 && a == 0 && b == 0
  | .shablk _ d _ b => d == 0 && b == 0
  | .shaout _ _ a b => a == 0 && b == 0
  | .modsel _ d _ b => d == 0 && b == 0
  | .modmul _ _ _ _ => true
  | .modadd _ _ _ _ => true
  | .modsub _ _ _ _ => true
  | .rand _ _ a b => a == 0 && b == 0
  | .vsetl _ d _ b => d == 0 && b == 0
  | .vadd _ _ _ _ => true
  | .vsub _ _ _ _ => true
  | .vmul _ _ _ _ => true
  | .vmulc _ _ _ _ => true
  | .vscale _ _ _ _ => true
  | .vpow _ _ _ b => b == 0
  | .vdot _ _ _ _ => true
  | .vfft _ d _ b => d == 0 && b == 0
  | .vifft _ d _ b => d == 0 && b == 0
  | .setpend _ _ _ => true
  | .coreOffline _ _ => true
  | .coreRestart _ _ => true
  | .watchdogKick _ _ _ => true
  | .watchdogWarn _ => true
  | .watchdogExpire _ => true
  | .debugHalt v => v.extractLsb' 8 4 != 0
  | .debugStep _ => true
  | .debugResume _ => true
  | .lhalt _ => true
  | .dbgaccUpdate _ => true
  | .debugLevelWrite _ => true
  | .mergeDrain _ => true
  | .groomRead => true
  | .bankOffline _ _ => true
  | .bankIsolated _ => true
  | .bankOnline _ _ => true
  | .bankInitDone _ => true
  | .repairRow _ _ _ _ => true
  | .fsInfo _ _ => true
  | .fsErase _ _ _ => true
  | .fsProgram _ _ _ _ => true
  | .fsStatus _ => true
  | .fsSuspend _ => true
  | .fsResume _ => true
  | .fsAbandon _ => true
  | .fsRefresh _ _ => true
  | .flashDone => true
  | .autoSuspend => true
  | .autoResume => true
  | .startHouseCopy => true
  | .copyComplete => true
  | .dmaMove _ => true
  | .dmaLoop _ => true
  | .dmaWait _ => true
  | .dmaWaitEnd _ => true
  | .dmaTimeout _ => true
  | .dmaSignal _ => true
  | .dmaQpop _ => true
  | .dmaQpush _ => true
  | .dmaSync _ => true
  | .dmaSyncDone _ => true
  | .dmaEnd _ => true
  | .dmaBurst _ _ => true
  | .channelStart _ _ v => v.getLsbD 0
  | .channelStop _ _ v => !v.getLsbD 0
  | .channelStopped _ => true
  | .swtrig _ _ v => v.getLsbD 3
  | .clrpend _ _ v => v.getLsbD 4
  | .fabricChannelEvent _ => true
  | .fabricHeldEmit _ => true
  | .taskDeliver _ => true
  | .lutUpdate => true
  | .lutCtlWrite _ _ _ => true
  | .fabricLock _ _ v => v.getLsbD 23
  | .pinEvent _ _ => true
  | .gtArm _ _ => true
  | .gtAdvance _ => true
  | .gtEnd _ => true
  | .gtCascadeWrap _ => true
  | .gtTopWrite _ _ _ => true
  | .gtCapture _ => true
  | .gtCapRead _ _ => true
  | .modeRequest _ v => v.getLsbD 23
  | .agentAnswer _ _ _ => true
  | .agentDelayExpiry _ => true
  | .modeChangeTimeout => true
  | .modeCommit => true
  | .domainIsolate => true
  | .modeChangeComplete => true
  | .wakeSource _ => true
  | .wakePinEdge _ _ => true
  | .regulatorReady => true
  | .regulatorTimeout => true
  | .regRetry => true
  | .xoReady => true
  | .xoTimeout => true
  | .xoRetry => true
  | .pllLock => true
  | .tclkTrimWindow _ => true
  | .por => true
  | .brownoutMain => true
  | .brownoutLp => true
  | .resetPinAssert => true
  | .resetPinRelease => true
  | .rstctrlGo _ v => v.getLsbD 2
  | .vmainLoss => true
  | .supplySwitch _ => true
  | .backupReset => true
  | .rtcTick => true
  | .rtcAlarm _ => true
  | .adjgo _ v => v.getLsbD 0
  | .rtcTrimWindow => true
  | .tapInstructionLoad _ => true
  | .tapReset => true
  | .registerWrite _ _ _ => true
  | .tuneHoldEnd _ _ => true
  | .femLeadSwitch _ => true
  | .femLagReturn _ => true
  | .tmholdExpiry _ => true
  | .flashPulseEnd _ => true
  | .uartSyncOctet => true
  | .hostCtsNChange _ => true
  | .vioLoss _ => true
  | .vioReturn _ => true
  | .referenceFailure => true
  | .lfOscillatorReady => true
  | .madcSequenceEnd _ => true
  | .peripheralServiceRequest _ => true

end Sys2Proof
end

