-- ==== Sys2Proof/Tests/Slice0.lean ====
section
/-! SUPPORT. The model's own tests: ill-formed commands that WellFormed refuses, published and hand-computed results, and for every
obligation with hypotheses a state and operands that meet them. -/
namespace Sys2Proof.Machine.Tests

set_option Elab.async false

open Sys2Proof Sys2Proof.Machine

/-! ## Small states -/

abbrev s0 : State := State.reset

/-- After the boot ROM's check (R382): the application cores run. -/
abbrev booted : State := { s0 with stage := { s0.stage with boot := false } }

/-- The part in mode `m` (R424): 1 HIBERNATE, 2 DOZE, 3 LISTEN, 4 RUN, 5 FULL. -/
def inMode (m : Nat) : State := s0.setFld R.pmuMode 0 3 m

/-- Core 0 at program counter `pc` with g1 and g2. -/
def coreAt (pc g1 g2 : Word) : State := booted.setCore 0 { (((s0.core 0).setG 1 g1).setG 2 g2) with pc := pc }

/-- Core 0 at the service's entry word `n` (R362). -/
def calls (n : Nat) : State := booted.setCore 0 { s0.core 0 with pc := W (0x100 + n) }

/-- Mesh time at `ns`. -/
def atNs (ns : Nat) (s : State) : State := s.setMt { s.mt with ctr := BitVec.ofNat 72 (256 * ns) }

/-- Word `a` of memory holds `v`. -/
def holding (a : Nat) (v : Word) (s : State) : State := { s with mem := s.mem.setWord a v }

/-- An activation of gate 0 in iteration 0, of action `act`, in phase `ph`. -/
def activation (act ph : Nat) : Activ :=
  { gate := 0, iter := 0, w := [W (2 ^ 17 + 16 * act), 0, 0, 0xC00000, 0, 0], inst := 0, guard := 0, pre := 0, phase := ph,
    bank := false, chan := 0, lane := none, desc := none, late := false }

/-- A transmission on the chain, raised or not. -/
def sending (src : TxBy) (up : Bool) : TxReq :=
  { src := src, cls := 0, chan := 0, prof := 0, mode := 0, port := 1, routine := 0, bank := false, psdu := [], seal_ := none, hdr := 0,
    air := 0, freq := 0, trim := 0, inst := 0, latest := 0, ramp := 0, pwr := 0, drive := 0, bias := 0, cca := false, expect := none,
    ackLane := none, desc := none, tuned := true, up := up, begun := false, launch := 0, retry := false, codes := [], fb := [], sent := none }

/-- The gate engine runs with that activation, band 0's synthesizers locked, and chain 0 raised for it. -/
def gateWith (act ph : Nat) : State :=
  let s := (((s0.setBit R.gateCtrl 0 true).setBit (R.feSynCh 0 0) 23 true).setBit (R.feSynCh 0 1) 23 true)
  { s with gates := { s.gates with acts := [activation act ph] },
           bandS := { s.bandS with chain := some (sending (.gate 0 0) true) } }

/-- The gate engine with course 0 running and gate 0 holding action `act`, at the gate's first instant's pre-tune. -/
def gateDue (act : Nat) : State :=
  let s := holding 0x828000 (W (2 ^ 17 + 16 * act)) ((s0.setBit R.gateCtrl 0 true).setBit (R.courseCfg 0) 0 true)
  holding 0x828001 0x800000 s

/-- A frame that lane 0 is receiving. -/
def frameIn (hdr : Option (BitVec 52)) : RxFrame :=
  { ts := 0, slot := 0, mode := 0, rssi1 := 0, rssi2 := 0, snr := 0, bank := false, hdr := hdr, len := 0, codes := [], left := 0,
    failed := false, toCome := 0, acts := [], hcls := 0, chan := 0, prof := 0, input := 0, twins := [], bufs := [] }

def laneWith (l : LaneSt) : State := s0.setLink { s0.link with lanes := [(0, l)] }

def idleLane : LaneSt := { frame := none, susp := none, drain := false, measure := none, gain := 0 }

/-- Band 0 as `b`, its front end on. -/
def bandWith (b : BandSt) : State := { (s0.setBit (R.feCtrl 0) 0 true).setBit (R.feSynCh 0 2) 23 true with bandS := b }

/-- A mode change in progress, of phase `ph` in PMU.STATUS (1 asking, 2 entering). -/
def changing (ph : Nat) (c : ModeChange) : State :=
  ((inMode 4).setFld R.pmuStatus 22 2 ph).setPwr { s0.pwr with change := some c }

def aChange : ModeChange := { kind := .firmware, delayed := 0, isolated := false, replyHold := false, said := false }

def aFlashOp (result : Option Nat) : FlashOp :=
  { kind := 2, addr := 0xA00000, data := [], autosusp := true, by_ := .stage, pulses := 1, result := result, abandon := false }

def flashWith (op : Option FlashOp) (susp : Nat) : State := { s0 with flash := { s0.flash with op := op, susp := susp } }

/-- DMA channel 0 in state `st` of CHSTATUS. -/
def dmaIn (st : Nat) (c : DmaCh) : State := ((s0.setFld (R.dmaChstatus 0) 0 3 st).setBit R.dmaCtrl 0 true).setDma 0 c

def aDma : DmaCh :=
  { on0 := false, on1 := false, moving := false, last := none, sync := false, held := none, insn := 0, arg := 0 }

/-- The fabric runs: XO ready, and mesh time not bridged (R408). -/
def fabricOn : State := s0.setBit R.clkStatus 0 true

/-- The debug port open: DBGACC in the instruction register (R466). -/
def debugOpen : State := { s0 with dbg := { s0.dbg with ir := 0x20 } }

/-- A remote-window operation of opcode `op`. -/
def anOp (e : List Octet) : RwinOp :=
  { desc := 0, cls := 0, orig := 0, noalt := false, own := false, key := 0, nbr := 0, ts := [], elem := e }

def rwinWith (e : List Octet) : State :=
  { s0.setBit R.rwinCtrl 0 true with rwin := { s0.rwin with c0 := [anOp e] } }

/-- A command that the SPI port has had accepted with tag 1, in record 0, and nothing else. -/
def queued (opc : Nat) (ps : List Octet) (s : State) : State :=
  journal { t := 0, octets := natLe 2 (4 + ps.length) ++ [O opc, 1] ++ ps ++ [0, 0], whole := true } 0 s

/-- Link firmware starts the command, and the words that it reads are sound. -/
def begins (opc : Nat) (s : State) : Bool :=
  (s.recOf (tNum .spi) 1 == some 0) && s.serves && s.recOpc 0 == opc && s.recState 0 == 1 &&
    (opc == 0x7F || (s.nextCmd == some 0 && !s.cmdWaits opc 0)) && !(fwTouch (cmdReads opc (s.recParams 0) s) s).1

/-- It starts and passes its checks; it starts and does not. -/
def passes (opc : Nat) (check : List Octet → State → Nat) (ps : List Octet) (s : State) : Bool :=
  let q := queued opc ps s
  begins opc q && check (q.recParams 0) (fwTouch (cmdReads opc (q.recParams 0) q) q).2 == St.done
def fails (opc : Nat) (check : List Octet → State → Nat) (ps : List Octet) (s : State) : Bool :=
  let q := queued opc ps s
  begins opc q && check (q.recParams 0) (fwTouch (cmdReads opc (q.recParams 0) q) q).2 != St.done

/-- A LINKFW image in its slot, for every table format. -/
def linkSlot : State :=
  holding (slotBase 2) 0x495456 (holding (slotBase 2 + 1) 0x4B0000 (holding (slotBase 2 + 2) 0x201 (holding (slotBase 2 + 32) 0xFF00 s0)))

/-- Band 0's front end on, and channel 0 at 868 MHz in its calibration table (R79). -/
def bandReady (v : Word) : State := holding 0x854001 v (holding 0x854000 3472000 (s0.setBit (R.feCtrl 0) 0 true))

/-- The state after a command; the state itself where it answered none. -/
def after (i : Instr) (s : State) : State := match exec i s with | .next t => t | _ => s

/-! ## Ill-formed commands, one for each check of WellFormed -/

/-- Writes that their row names by a bit, without it. -/
theorem test_wf_row_bits :
    [Instr.mtCtrlStep .lcA 0, .slewstop .lcA 0, .compareDisarm .lcA 0 0, .courseRunWrite .lcA 0 0, .courseStopWrite .lcA 0 1,
      .courseStopnow .lcA 0 0, .gateCommit .lcA 0, .calCommit .lcA 0 0, .fullCalStart .lcA 0 0, .calstop .lcA 0 0,
      .txHalt .lcA 0 0, .keyLoadCommit .lcA 0, .keyClear .lcA 0, .nbrCommit .lcA 0, .routeCommit .lcA 0, .windowCommit .lcA 0,
      .swapgo .lcA 0, .standbyLoad .lcA 0, .bankswapGo .lcA 0, .bankswapCancel .lcA 0, .debugHalt 0, .channelStart .lcA 0 0,
      .channelStop .lcA 0 1, .swtrig .lcA 0 0, .clrpend .lcA 0 0, .fabricLock .lcA 0 0, .modeRequest .lcA 0, .rstctrlGo .lcA 0,
      .adjgo .lcA 0].all (fun i => !i.wf) = true := by decide +kernel

/-- The same writes with the bit. -/
theorem test_wf_row_bits_set :
    [Instr.mtCtrlStep .lcA 1, .slewstop .lcA 2, .compareDisarm .lcA 31 2, .courseRunWrite .lcA 15 1, .courseStopWrite .lcA 15 0,
      .courseStopnow .lcA 15 8, .gateCommit .lcA 0x1FFF, .calCommit .lcA 1 0x7FF, .fullCalStart .lcA 1 2, .calstop .lcA 1 4,
      .txHalt .lcA 1 1, .keyLoadCommit .lcA 0x2FF, .keyClear .lcA 0x40F, .nbrCommit .lcA 0x3FFF, .routeCommit .lcA 0x7FFF,
      .windowCommit .lcA 0x7F, .debugHalt 0xF00, .channelStart .dbg 31 1, .fabricLock .lcA 63 0x800000,
      .modeRequest .lcA 0x800005].all Instr.wf = true := by decide +kernel

/-- Operands of events outside their ranges: source 0 of a loss, trims that are not three words, an item's result of two words, of
entry 1,024, more than 255 results, a slice that gives two trims, and a PSDU of 4,096 octets. -/
theorem test_wf_events :
    [Instr.sourceLost 0, .fullCalDone 0 ⟨[0, 0], 6⟩ [], .fullCalDone 0 ⟨[0, 0, 0], 6⟩ [(0, [0, 0])],
      .fullCalDone 0 ⟨[0, 0, 0], 6⟩ [(1024, [0, 0, 0])], .fullCalDone 0 ⟨[0, 0, 0], 6⟩ (List.replicate 256 (0, [0, 0, 0])),
      .calSliceDone 0 (some [0, 0]) 0 0 0, .frameEnd 0 (List.replicate 4096 0) true 0 []].all
      (fun i => !i.wf) = true := by decide +kernel

/-- Core instructions with a reserved field set (R325): a field that must be 0, a shift of 32, an EXT from bit 24, lane 3, a pair
register that is odd, g0 or g14, and a system register that does not exist (R307, R310, R311). -/
theorem test_wf_core :
    [Instr.abs 0 1 1 1, .clz 0 1 1 1, .popc 0 1 1 1, .revo 0 1 1 1, .sexo 0 1 1 1, .sex12 0 1 1 1, .shlK 0 1 1 32, .shrK 0 1 1 32,
      .sarK 0 1 1 32, .rorK 0 1 1 1023, .extK 0 1 1 24, .ldo 0 1 1 0x300, .ldos 0 1 1 0x300, .sto 0 1 1 0x3FF, .ldp 0 1 1 0,
      .stp 0 14 1 0, .cbDec 0 1 1 0, .jmpr 0 1 1 0, .callr 0 1 1 0, .xret 0 1, .wait 0 1, .fence 0 1, .ei 0 1, .di 0 1 1,
      .mfs 0 1 1 0x10, .mfs 0 1 0 0x56, .mts 0 1 1 0x10, .mts 0 0 1 0x21, .mull 0 0 1 1, .mullu 0 3 1 1, .divl 0 2 1 1,
      .divlu 0 1 2 1, .macz 0 1 1 1, .accr 0 1 1 0, .accr 0 1 0 1, .accw 0 1 1 0, .accw 0 0 1 1, .accsh 0 1 0 1, .accsh 0 0 1 1,
      .cconj 0 1 1 1, .aeskey 0 1 1 0, .aesenc 0 1 1 1, .aesdec 0 1 1 1, .shainit 0 1 0 0, .shainit 0 0 1 0, .shainit 0 0 0 1,
      .shablk 0 0 1 1, .shaout 0 1 1 0, .modsel 0 1 1 0, .rand 0 1 0 1, .vsetl 0 0 1 1, .vpow 0 1 1 1, .vfft 0 1 1 0,
      .vifft 0 0 1 1].all (fun i => !i.wf) = true := by decide +kernel

/-- Their greatest legal fields. -/
theorem test_wf_core_legal :
    [Instr.shlK 0 1 1 31, .extK 0 1 1 0x3F7, .ldo 0 1 1 0x2FF, .ldp 0 12 15 0, .mfs 3 15 0 0x55, .mts 3 0 15 0x30, .divl 0 12 12 15,
      .add 3 15 15 15, .trap 3 0xFFF].all Instr.wf = true := by decide +kernel

/-! ## The spec's worked examples -/

/-- 09_command_port.md: the CRC over 04 00 00 01 is 0x5E10 (R249). -/
theorem test_crc16 : crc 16 0x1021 0xFFFF [4, 0, 0, 1] = 0x5E10 := by decide +kernel

/-- Gate 101 of 02_gates_and_courses.md. -/
def gate101 : List Word := [0x026422, 0x312D00, 1, 0x002301, 0x800039, 0x640FA0]

/-- Its fields (R53). -/
theorem test_gate_fields :
    gEnable gate101 = true ∧
    [gLane gate101, gClass gate101, gAction gate101, gCourse gate101, gOffset gate101, gChofs gate101, gHop gate101, gMod gate101,
      gNbr gate101, gGuard gate101, gDur gate101] = [3, 1, 2, 2, 20000000, 2, 3, 1, 57, 100, 4000] := by decide +kernel

/-- Course 2 and hop sequence 3 of the same example, MT_UNCERT at 40 ns, and neighbour 57 last heard 4,578 units of bits [47:24]
before the instant, with a drift uncertainty of 150. -/
def course2 : State :=
  let s := ((s0.setMulti (R.coursePeriod 2 0) 2 100000000).setMulti (R.courseStart 2 0) 3 (256 * 5000000000000)).setFld
    (R.gateHoplen 3) 0 8 5
  let heard := (256 * 5123720000000 / 2 ^ 24 + 2 ^ 24 - 4578) % 2 ^ 24
  holding (nbrAddr 57 9) (W heard) (holding (nbrAddr 57 10) (W (150 * 2 ^ 16))
    (holding 0x861302 27 (holding 0x861304 33 (s.setReg R.mtUncert 40))))

/-- Iteration 1,237: the instant, the channel seq[4], the guard of 100,491 ns, its evaluation and the pre-tune (R48, R56 to R61). -/
theorem test_gate_instants :
    course2.instant gate101 1237 = 5123720000000 ∧ course2.chanFor gate101 1237 = 33 ∧
    course2.guardFor gate101 5123720000000 = (100491, false) ∧ course2.evalAt 101 gate101 1237 = 5123714950000 ∧
    course2.pretuneAt gate101 1237 100491 = 5123719849509 := by decide +kernel

/-- 03_radio_front_ends.md: the rule of 10 % an hour, 323,980 ms used, of which 20,000 ms in the oldest bucket. -/
def dutyRule : State :=
  let r := fun (a : Nat) (v : Word) (t : State) => t.setReg a v
  let s := atNs 7200000000000 (r (R.txcRule0 0 0) 0x351060 (r (R.txcRule1 0 0) 0x351448 (r (R.txcRule2 0 0) 0xE10
    (r (R.txcRule3 0 0) 0x57E40 (r (R.txcRule4 0 0) 0x8CA0 (r (R.txcRule7 0 0) 1 s0))))))
  let n := s.bucketNow 0 0
  setSlot 0 0 ((n - 15) % 16) 20000000 (n - 15) (setSlot 0 0 (n % 16) 303980000 n (bucketSync 0 s))

/-- A class-2 frame of 45 ms is refused, a class-0 alarm of 12 ms admitted (R111). -/
theorem test_duty :
    (dutyAdmit 0 2 0 0x351200 45000 dutyRule).1 = false ∧
    (dutyAdmit 0 0 0 0x351200 12000 (atNs 7200400000000 dutyRule)).1 = true := by decide +kernel

/-- At the next bucket boundary, 7,425 s, the oldest bucket drops out and the class-2 frame passes (R110). -/
theorem test_duty_bucket :
    let t := (dutyAdmit 0 0 0 0x351200 12000 (atNs 7200400000000 dutyRule)).2
    (atNs 7424999999999 t).bucketDue 0 0 = false ∧ (bucketSync 0 (atNs 7425000000000 t)).ruleUse 0 0 = 303992000 ∧
    (dutyAdmit 0 2 0 0x351200 45000 (atNs 7425000000000 t)).1 = true := by decide +kernel

/-- 05_waveforms.md: per-tone SNRs of 24, 18, 12 and 6 dB over 13 tones each. -/
def tones5 : List Word := [192, 144, 96, 48].flatMap (List.replicate 13)

/-- Twelfths of data bits per symbol at the four rates: 182, 208, 195 and 216.7 bits; rate 5/6 wins with 8, 6, 4 and 2 bits a tone
(R160). -/
theorem test_tone_map :
    (List.range 4).map (fun r => rateBits r (s0.toneCodes false tones5 r)) = [2184, 2496, 2340, 2600] ∧
    s0.bestRate false tones5 = some 3 ∧ (s0.toneCodes false tones5 3).eraseDups = [5, 4, 3, 2] := by decide +kernel

/-- 5 codewords, and 4,250 µs of airtime (R147, R151). -/
theorem test_tl_airtime : tlCodewords 1000 3 true = 5 ∧ tlAirtime 0 1000 3 true false 260 false = 4250 := by decide +kernel

/-- 07_forwarding_classes_queues.md: 112 octets of 2-FSK at 200 kb/s take 4,480 µs. -/
theorem test_fsk_airtime :
    (holding 0x851400 0x13 (holding 0x851403 8 s0)).airtime false 0 100 none false = 4480 := by decide +kernel

/-- 06_frames_and_neighbours.md: neighbour 57 with H = 1,000,040 and a bitmap. -/
def nbr57 (h w7 : Word) : State := holding (nbrAddr 57 5) h (holding (nbrAddr 57 7) w7 s0)

/-- Steps 1, 3, 4 and 5 of the example: the window after each counter (R192). -/
theorem test_window_update :
    (windowUpdate 57 0 1000041 (nbr57 0x0F4268 0xF)).nbr 57 7 = 0x1F ∧
    (windowUpdate 57 0 1000045 (nbr57 0x0F4269 0x1F)).nbr 57 7 = 0x1F1 ∧
    (windowUpdate 57 0 1000043 (nbr57 0x0F426D 0x1F1)).nbr 57 7 = 0x1F5 ∧
    (windowUpdate 57 0 1000000 (nbr57 0x0F426D 0x1F5)).nbr 57 8 = 0x200000 := by decide +kernel

/-- Steps 2 and 6: a duplicate, and a counter beyond the window. -/
theorem test_window_judgement :
    (match (nbr57 0x0F4269 0x1F).replay 57 0 1000041 with | .duplicate => true | _ => false) = true ∧
    (match (nbr57 0x0F426D 0x1F5).replay 57 0 999990 with | .old => true | _ => false) = true := by decide +kernel

/-- 08_remote_windows.md: window 5, and the request that adds 5 to the word at offset 0x2A. -/
def window5 : State :=
  let s := holding 0x860028 0x8A5310 (holding 0x860029 0x7C0000 (holding 0x86002A 0x100 (holding 0x86002B 0x1FF s0)))
  let t := holding 0x7C002A 0x3E7 (s.setBit R.rwinCtrl 0 true)
  { t with rwin := { t.rwin with c0 :=
      [{ anOp [3, 5, 0x41, 0, 0x2A, 0, 0, 1, 5, 0, 0] with desc := 0xFFFFFF, orig := 0x102, key := 1, ts := [0, 0, 0] }] } }

/-- 0x000_3E7 becomes 0x000_3EC, and the response will carry the old word (R240, R241). -/
theorem test_rw_add :
    (after (.rwAdd true) window5).mw 0x7C002A = 0x3EC ∧
    (after (.rwAdd true) window5).rwin.busyC0.map (fun b => (b.base, b.words, b.data)) = some (0x7C002A, 1, [0xE7, 3, 0]) := by
  decide +kernel

/-- 10_command_reference.md: GATE_WRITE of gate 101 with neighbour 57 PINNED writes the entry. -/
theorem test_gate_write :
    (after (.gateWrite .spi 1) (queued 0x30 ([0x65, 0] ++ gate101.flatMap word3) (holding (nbrAddr 57 0) 0xA s0))).gateWord 101 4 =
      0x800039 := by decide +kernel

/-- Not PINNED: BAD_PARAM. -/
theorem test_gate_write_unpinned :
    ((after (.gateWrite .spi 1) (queued 0x30 ([0x65, 0] ++ gate101.flatMap word3) s0)).replies 0).map (·.status) = [0x13] := by
  decide +kernel

/-- 11_link_cores_and_live_change.md: a replayed MT_STEP whose GUARD is not STEPCNT any more does not step again (R299). -/
theorem test_mt_step_replayed :
    let s := (queued 0x21 (List.replicate 9 0) (s0.setFld R.mtStatus 16 8 0x2C)).setFld R.mtStatus 16 8 0x2D
    let t := after (.mtStep .spi 1) { s with cmdp := { s.cmdp with replay := [0] } }
    t.fld R.mtStatus 16 8 = 0x2D ∧ (t.replies 0).map (fun r => (r.status, r.result)) = [(0, [0x2D])] := by decide +kernel

/-- 12_qoris24_cores.md: WHI g3, 0x1255 gives 0x495_400. -/
theorem test_whi : ((after (.whi 0 3 0x1255) booted).core 0).reg 3 = 0x495400 := by decide +kernel

/-- OR.K g3, g3, 0x056 is encoded as 0x0CC_C56. -/
theorem test_encoding_orK : fmtI 0x03 3 3 0x056 = 0x0CCC56 := by decide +kernel

/-- The application's store to link memory is ignored under R4. -/
theorem test_stw_link_memory :
    (after (.stw 0 2 1 0) (coreAt 0 0x800010 0x495456)).mem = s0.mem := by decide +kernel

/-- 13_memory_and_ecc.md: with FLIPD = 1 armed on bank 3, a store of 0x123_456 to w:660_010 stores 0x123_457 and disarms. -/
theorem test_ecc_store :
    let t := after (.stw 0 2 1 0) (((coreAt 0 0x660010 0x123456).setReg R.eccFlipd 1).setReg R.eccFlipsel 0x103)
    t.mem.word 0x660010 = 0x123457 ∧ t.bit R.eccFlipsel 8 = false := by decide +kernel

/-- The load returns 0x123_456 and writes it back; CE counts and CEADDR has the address. -/
theorem test_ecc_load :
    let s := holding 0x660010 0x123457 (coreAt 0 0x660010 0)
    let t := after (.ldw 0 5 1 0) { s with ecc := { s.ecc with flips := [(0x660010, 1)] } }
    (t.core 0).reg 5 = 0x123456 ∧ t.mw 0x660010 = 0x123456 ∧ t.reg (R.eccCounters 0) = 1 ∧ t.reg R.eccCeaddr = 0x660010 := by
  decide +kernel

/-- Two wrong bits: ECC_DATA with XVAL, and UE counts. -/
theorem test_ecc_double :
    let s := holding 0x660010 0x123455 (coreAt 0 0x660010 0)
    let t := after (.ldw 0 5 1 0) { s with ecc := { s.ecc with flips := [(0x660010, 3)] } }
    (t.core 0).pc = 40 ∧ (t.core 0).sysReg 0x014 = 0x660010 ∧ (t.core 0).reg 5 = 0 ∧ t.reg (R.eccCounters 1) = 1 := by
  decide +kernel

/-- 15_dma.md: the MOVE of the program, on channel 3. -/
def ringMove : State :=
  let p := fun (e : Nat × Word) (t : State) => holding (0x7C0000 + e.1) e.2 t
  let s := p (2, 0x160084) (p (3, 0xF0BE48) (p (5, 4) s0))
  (((s.setFld (R.dmaChstatus 3) 0 3 1).setBit R.dmaCtrl 0 true).setReg (R.dmaPc 3) 0x7C0002).setReg (R.dmaPtrs 3 1) 0x7C10FC

/-- It keeps DPTR and takes SRC and COUNT. -/
theorem test_dma_move :
    let t := after (.dmaMove 3) ringMove
    (t.reg (R.dmaPtrs 3 0), t.reg (R.dmaPtrs 3 1), t.reg (R.dmaPtrs 3 2), t.reg (R.dmaPc 3)) =
      (0xF0BE48, 0x7C10FC, 4, 0x7C0002) := by decide +kernel

/-- One burst pops four words off queue 100 into the ring, whose pointer wraps after 256 words. -/
theorem test_dma_burst :
    let s := (ringMove.setQueue 100 { cells := [(0, 11), (1, 12), (2, 13), (3, 14)], tmo := 0, fired := false }).setDma 3
      { aDma with moving := true, insn := 0x160084 }
    let t := after (.dmaBurst 3 ⟨false, 1⟩) ((s.setReg (R.dmaPtrs 3 0) 0xF0BE48).setReg (R.dmaPtrs 3 2) 4)
    (t.reg (R.dmaPtrs 3 1), t.qCount 100, t.reg (R.dmaPc 3)) = (0x7C1000, 0, 0x7C0006) := by decide +kernel

/-- 17_power_clocks_backup.md: the two alarms. -/
def alarms (rtc : BitVec 48) : State :=
  let s := (((s0.setReg (R.rtcAlmCfg 0) 0x1B8).setReg (R.rtcAlmCmp 1 0) 0x8000).setReg (R.rtcAlmCmp 1 1) 0x60).setReg
    (R.rtcAlmCfg 1) 0x180
  s.setBkp { s.bkp with rtc := rtc }

/-- Alarm 0 fires at count 0x00_0060_000_000, not before. -/
theorem test_rtc_alarm :
    (after .rtcTick (alarms 0x005FFFFFFE)).reg R.rtcAlmstat = 0 ∧ (after .rtcTick (alarms 0x005FFFFFFF)).reg R.rtcAlmstat = 1 := by
  decide +kernel

/-- An adjustment of 49,152 passes over alarm 1, which fires with SKIP1 and clears its EN; alarm 0 does not fire. -/
theorem test_rtc_adjust :
    let s := alarms 0x0060004000
    let t := after .rtcTick (s.setBkp { s.bkp with adj := some 0xC000 })
    t.bkp.rtc = 0x0060010000 ∧ t.reg R.rtcAlmstat = 0xA ∧ t.reg (R.rtcAlmCfg 0) = 0x1B8 ∧ t.reg (R.rtcAlmCfg 1) = 0x100 := by
  decide +kernel

/-! ## Published vectors -/

/-- FIPS 197, appendix C.1. -/
theorem test_aes :
    aesEnc ((List.range 16).map O) ((List.range 16).map (fun i => O (17 * i))) =
      [0x69, 0xC4, 0xE0, 0xD8, 0x6A, 0x7B, 0x04, 0x30, 0xD8, 0xCD, 0xB7, 0x80, 0x70, 0xB4, 0xC5, 0x5A] := by decide +kernel

/-- FIPS 180-4's message "abc". -/
theorem test_sha256 :
    sha256 [0x61, 0x62, 0x63] =
      [0xBA, 0x78, 0x16, 0xBF, 0x8F, 0x01, 0xCF, 0xEA, 0x41, 0x41, 0x40, 0xDE, 0x5D, 0xAE, 0x22, 0x23,
        0xB0, 0x03, 0x61, 0xA3, 0x96, 0x17, 0x7A, 0x9C, 0xB4, 0x10, 0xFF, 0x61, 0xF2, 0x00, 0x15, 0xAD] := by decide +kernel

/-! ## Core instructions, by hand -/

/-- The general register d of core 0 after an instruction on g1 and g2. -/
def gives (i : Instr) (x y : Word) (d : Nat) : Word := ((after i (coreAt 0 x y)).core 0).reg d

/-- Register ALU: wraps, saturation, shifts by the low five bits, and a write to g0 (R305, R309). -/
theorem test_alu :
    gives (.add 0 3 1 2) 0xFFFFFF 2 3 = 1 ∧ gives (.subs 0 3 1 2) 0x800000 1 3 = 0x800000 ∧
    gives (.sar 0 3 1 2) 0x800000 31 3 = 0xFFFFFF ∧ gives (.ror 0 3 1 2) 1 25 3 = 0x800000 ∧ gives (.abs 0 3 1 0) 0x800000 0 3 = 0x7FFFFF ∧
    gives (.revo 0 3 1 0) 0x123456 0 3 = 0x563412 ∧ gives (.add 0 0 1 2) 5 6 0 = 0 := by decide +kernel

/-- Products, quotients and their corners (R317, R318). -/
theorem test_mul_div :
    gives (.mulh 0 3 1 2) 0x800000 0x800000 3 = 0x400000 ∧ gives (.div 0 3 1 2) 7 0 3 = 0xFFFFFF ∧
    gives (.div 0 3 1 2) 0xFFFFF9 2 3 = 0xFFFFFD ∧ gives (.rem 0 3 1 2) 0xFFFFF9 2 3 = 0xFFFFFF ∧
    gives (.fmul 0 3 1 2) 0x800000 0x800000 3 = 0x7FFFFF := by decide +kernel

/-- An operation whose source is its destination, and LDP's pair. -/
theorem test_same_register :
    gives (.sub 0 1 2 1) 3 10 1 = 7 ∧
    ((after (.ldp 0 2 1 0) (holding 0x600000 0x111111 (holding 0x600001 0x222222 (coreAt 0 0x600000 0)))).core 0).reg 3 = 0x222222 := by
  decide +kernel

/-- Branches go from their own address; CALL leaves the next one in g14 (R313). -/
theorem test_branches :
    ((after (.cbLt 0 1 2 0x3FF) (coreAt 8 0x800000 0)).core 0).pc = 7 ∧ ((after (.cbLtu 0 1 2 0x3FF) (coreAt 8 0x800000 0)).core 0).pc = 9 ∧
    ((after (.call 0 0x3FFFF) (coreAt 8 0 0)).core 0).pc = 7 ∧ ((after (.call 0 0x3FFFF) (coreAt 8 0 0)).core 0).reg 14 = 9 := by
  decide +kernel

/-- TRAP from the reset state: cause, saved program counter and entry (R330). -/
theorem test_trap :
    let c := (after (.trap 0 0xABC) (coreAt 8 0 0)).core 0
    c.sysReg 0x013 = 0xABC003 + bits ((coreAt 8 0 0).core 0 |>.sysReg 0x010) 2 1 * 16 ∧ c.sysReg 0x012 = 8 ∧ c.pc = 24 := by
  decide +kernel

/-- A word written to SRAM reads back, lane 0 lowest (R1). -/
theorem test_octets :
    gives (.ldo 0 3 1 0x200) 0x600000 0 3 = 0 ∧
    ((after (.ldos 0 3 1 0x200) (holding 0x600000 0x8034FF (coreAt 0 0x600000 0))).core 0).reg 3 = 0xFFFF80 := by decide +kernel

/-! ## Witnesses: states and operands that meet the hypotheses of the obligations -/

/-- Hypotheses: a queue that is empty; a step that answers a next state, from a state in canonical form. -/
theorem wit_IdleStepChangesNothing : s0.pending = [] := rfl
theorem wit_CommandsKeepTheQueue : ∃ t, exec (.setpend (.app 3) 3 127) s0 = .next t := ⟨_, rfl⟩
theorem wit_StepKeepsCanonicalForm :
    (s0.withPending [.por]).canonical ∧ ∃ t, step (s0.withPending [.por]) = .next t := by
  refine ⟨?_, _, rfl⟩
  unfold State.canonical
  decide +kernel
theorem wit_DebugLevelNeverFalls : ∃ t, step (debugOpen.withPending [.debugLevelWrite 2]) = .next t := ⟨_, rfl⟩
theorem wit_WordWriteReadsBack : (0xFFFFFF * 3 + 2) / 3 ≠ 0xFFFFFE ∧ (2 : Nat) < 3 := by decide
theorem wit_FetchKeepsTheCores : (3 : Fin 4) ≠ 0 := by decide

/-- After the boot ROM's check every core is ready at its first word. -/
theorem wit_ready : booted.ready 0 ∧ booted.ready 3 := by
  unfold State.ready
  decide +kernel
theorem wit_RegisterAluResults : booted.ready 0 ∧ booted.ready 3 := wit_ready
theorem wit_ImmediateAluResults : booted.ready 0 ∧ (31 : BitVec 10).toNat < 32 ∧ (0x3F7 : BitVec 10).toNat % 32 < 24 :=
  ⟨wit_ready.1, by decide⟩
theorem wit_BranchAndJumpResults : booted.ready 0 := wit_ready.1
theorem wit_MultiplyDivideResults : booted.ready 0 ∧ pairOk 2 = true ∧ pairOk 12 = true := ⟨wit_ready.1, by decide⟩
theorem wit_FixedPointResults : booted.ready 3 := wit_ready.2
theorem wit_HintsAreNoOperations : booted.ready 3 := wit_ready.2

/-- A breakpoint with DBG.CTRL's bit of the core set, and with it clear. -/
theorem wit_TrapAndBreak :
    booted.ready 0 ∧ (booted.fetched 0).bit R.dbgCtrl 4 = false ∧
    (booted.setBit R.dbgCtrl 7 true).ready 3 ∧ ((booted.setBit R.dbgCtrl 7 true).fetched 3).bit R.dbgCtrl 7 = true := by
  unfold State.ready
  decide +kernel
theorem wit_ExceptionReturn :
    booted.ready 0 ∧ ((booted.fetched 0).core 0).sup = true ∧ (booted.fetched 0).flash.rets = [] := by
  unfold State.ready
  decide +kernel

/-- Input 127 pends in core 0, enabled at priority 1, and the core takes interrupts. -/
def interrupted : State :=
  let s := ((booted.setBit (R.intcEn 0 5) 7 true).setBit (R.intcPend 0 5) 7 true).setFld (R.intcPrio 0 15) 21 3 1
  s.setCore 0 ((s.core 0).setSys 0x010 3)

theorem wit_InterruptEntry :
    interrupted.takeable 0 = some 127 ∧
    (interrupted.coreOnline 0 && !interrupted.halted 0 && (interrupted.core 0).ie && !interrupted.vectorsBusy 0) = true := by
  decide +kernel
theorem wit_InterruptTakeCompletes :
    interrupted.intcPending 0 127 = true ∧ (interrupted.core 0).ipl < interrupted.inputPrio 0 127 ∧
    (List.range 128).all (fun m => m == 127 || !interrupted.intcPending 0 m) = true ∧ interrupted.coreOnline 0 = true ∧
    interrupted.halted 0 = false ∧ (interrupted.core 0).ie = true ∧ interrupted.vectorsBusy 0 = false := by decide +kernel
theorem wit_HighestInputIsTaken :
    interrupted.takeable 0 = some 127 ∧ interrupted.intcPending 0 127 = true ∧ interrupted.inputPrio 0 127 ≠ 0 := by
  decide +kernel
theorem wit_ReservedFieldsAreIllegal :
    booted.ready 0 ∧ (15 : BitVec 4) ≠ 0 ∧ (0xFFF : BitVec 12) ≠ 0 ∧ (1 : BitVec 8) ≠ 0 ∧ sysExists 0x003 = false ∧ sysExists 0x056 = false ∧
    32 ≤ (32 : BitVec 10).toNat ∧ 24 ≤ (0x3F8 : BitVec 10).toNat % 32 ∧ (0x300 : BitVec 10).toNat / 256 = 3 ∧
    (14 : BitVec 4).toNat = 14 ∧ pairOk 14 = false := ⟨wit_ready.1, by decide⟩

/-- Core 0 in user mode. -/
def userMode : State := booted.setCore 0 ((booted.core 0).setSys 0x010 0)

theorem wit_PrivilegedInUserMode :
    userMode.ready 0 ∧ ((userMode.fetched 0).core 0).sup = false ∧ sysExists 0x010 = true ∧ sysExists 0x055 = true := by
  unfold State.ready
  decide +kernel

/-- A fetch from an address that holds no code, and one of a word with two wrong bits. -/
theorem wit_RefusedFetch :
    let s := coreAt 0x900000 0 0
    let t := { coreAt 0x600000 0 0 with ecc := { booted.ecc with flips := [(0x600000, 3)] } }
    (s.coreRuns 0 = true ∧ s.fetchWaits 0 = false ∧ (fetch 0 (resume 0 s)).1 = 1) ∧
    (t.coreRuns 0 = true ∧ t.fetchWaits 0 = false ∧ (fetch 0 (resume 0 t)).1 = 2) := by decide +kernel
theorem wit_StoppedCoreExecutesNothing :
    (booted.setBit R.intcCorectl 8 true).offline 0 = true ∧
    ((booted.setBit R.dbgStat 3 true).halted 3 = true ∧ bitOf (booted.setBit R.dbgStat 3 true).dbg.stepReq 3 = false) ∧
    ({ booted.core 0 with svc := [0x100] } : Core).inService = true ∧
    (((booted.setCore 0 { booted.core 0 with waiting := true }).core 0).waiting = true ∧
      (booted.setCore 0 { booted.core 0 with waiting := true }).takeable 0 = none) := by decide +kernel
theorem wit_SystemFunctions : booted.ready 0 ∧ ((booted.fetched 0).core 0).sup = true := ⟨wit_ready.1, by decide +kernel⟩
theorem wit_SystemRegisterMoves :
    booted.ready 0 ∧ ((booted.fetched 0).core 0).sup = true ∧ (0x030 ≤ (0x030 : BitVec 10).toNat ∧ (0x050 : BitVec 10).toNat ≤ 0x050) :=
  ⟨wit_ready.1, by decide +kernel, by decide⟩
theorem wit_CacheMaintenance :
    booted.ready 0 ∧ ((booted.fetched 0).core 0).sup = true ∧ (cleanCore 0 (booted.fetched 0)).1 = none := ⟨wit_ready.1, by decide +kernel⟩

/-- The first and the last pair of words of application SRAM. -/
theorem wit_LoadsAndStoresOnPlainRam :
    ((coreAt 0 0x600000 0).ready 0 ∧ ((coreAt 0 0x600000 0).fetched 0).plainRam 0 0x600000 ∧
      ((coreAt 0 0x600000 0).fetched 0).plainRam 0 0x600001) ∧
    ((coreAt 0 0x7FFFFE 0).ready 0 ∧ ((coreAt 0 0x7FFFFE 0).fetched 0).plainRam 0 0x7FFFFE ∧
      ((coreAt 0 0x7FFFFE 0).fetched 0).plainRam 0 0x7FFFFF) ∧ pairOk 12 = true := by
  unfold State.ready State.plainRam
  decide +kernel
theorem wit_OctetAccessesOnPlainRam :
    (coreAt 0 0x7FFFFF 0).ready 0 ∧ ((coreAt 0 0x7FFFFF 0).fetched 0).plainRam 0 0x7FFFFF ∧ (0x200 : BitVec 10).toNat / 256 = 2 := by
  unfold State.ready State.plainRam
  decide +kernel

/-- Reads that succeed, and reads of a word with two wrong bits. -/
theorem wit_LoadsAndStoresComplete :
    let s := coreAt 0 0x600000 0
    let t := { s with ecc := { s.ecc with flips := [(0x600000, 3)] } }
    s.dataWaits 0 (ea (s.core 0) 1 0) 2 = false ∧ s.dataWaits 0 (eaOctet (s.core 0) 1 0x200) 1 = false ∧
    (dRead 0 0x600000 (s.fetched 0)).2.1 = none ∧ (dRead 0 0x600000 (t.fetched 0)).2.1 = some 0x600000 ∧
    (dReadOctet 0 0x600000 2 (s.fetched 0)).2.1 = none ∧ (dReadOctet 0 0x600000 2 (t.fetched 0)).2.1 = some 0x600000 ∧
    (dReads 0 0x600000 2 (s.fetched 0)).1.length = 2 ∧ (dReads 0 0x600000 2 (s.fetched 0)).2.1 = none ∧
    (dReads 0 0x600000 2 (t.fetched 0)).2.1 = some 0x600000 := by decide +kernel
theorem wit_LoadsAndStoresComplete_ready :
    (coreAt 0 0x600000 0).ready 0 ∧ { coreAt 0 0x600000 0 with ecc := { booted.ecc with flips := [(0x600000, 3)] } }.ready 0 := by
  unfold State.ready
  decide +kernel
theorem wit_CryptoCoprocessor :
    booted.ready 0 ∧ booted.dataWaits 0 ((booted.core 0).reg 1).toNat 6 = false ∧ booted.dataWaits 0 ((booted.core 0).reg 1).toNat 22 = false ∧
    booted.dataWaits 0 ((booted.core 0).reg 2).toNat 11 = false := ⟨wit_ready.1, by decide +kernel⟩
theorem wit_VectorCoprocessor :
    booted.ready 0 ∧ booted.dataWaits 0 (vecSpan 0 1 booted).1 (vecSpan 0 1 booted).2 = false ∧
    booted.dataWaits 0 (vecSpan 0 2 booted).1 (vecSpan 0 2 booted).2 = false := ⟨wit_ready.1, by decide +kernel⟩

theorem wit_MeshTimeSnapshots :
    s0.mayRead (.app 3) R.mtNow0 = true ∧ s0.mayRead (.app 3) R.mtNow1 = true ∧ s0.mayRead (.app 3) R.mtNow2 = true ∧
    (Who.dma 31 ≠ Who.app 3) := by decide +kernel
theorem wit_RateIsClamped : s0.mayWrite .lcA R.mtRate1 = true := by decide +kernel

/-- A value at the counter, one unit behind, the last that counts as past, and the first that is ahead. -/
theorem wit_CompareArming :
    let b := fun (ctr : BitVec 72) => (ctr - ((0 : Word) ++ s0.reg (R.mtcCmp 31 1) ++ s0.reg (R.mtcCmp 31 0) : BitVec 72)).toNat
    s0.mayWrite .lcA (R.mtcCmp 31 2) = true ∧ s0.mayWrite .lcA (R.mtcCtrl 31) = true ∧ s0.multi (R.mtcIvl 31 0) 2 = 0 ∧
    ¬ (1 ≤ b 0 ∧ b 0 < 2 ^ 71) ∧ (1 ≤ b 1 ∧ b 1 < 2 ^ 71) ∧ (1 ≤ b (2 ^ 71 - 1) ∧ b (2 ^ 71 - 1) < 2 ^ 71) ∧
    ¬ (1 ≤ b (2 ^ 71) ∧ b (2 ^ 71) < 2 ^ 71) := by decide +kernel
theorem wit_QueueOperations :
    s0.mayWrite .lcA (R.qPush 127) = true ∧ s0.mayWrite .lcA (R.qPushhead 127) = true ∧ s0.mayRead .lcA (R.qPop 127) = true ∧
    s0.mayRead .lcA (R.qPeek 127) = true ∧ (0xFFFFFE : Word) ≠ 0xFFFFFF ∧ s0.qFull 127 = false ∧
    s0.cellOk (s0.qClass 127) = true ∧ s0.postedAt 0x840000 = false := by decide +kernel

/-- A timer stopped, and one running with TOP at its count and just ahead. -/
theorem wit_GeneralTimers :
    s0.mayWrite .lcA (R.gtCtrl 15) = true ∧ s0.gtRun 15 = false ∧ (s0.setBit (R.gtStat 15) 4 true).gtRun 15 = true ∧
    s0.mayWrite .lcA (R.gtTop 15) = true ∧ ¬ (1 ≤ (s0.reg (R.gtCount 15) - 0).toNat ∧ (s0.reg (R.gtCount 15) - 0).toNat < 2 ^ 23) ∧
    ¬ (s0.reg (R.gtCount 15) - 1).toNat < 2 ^ 23 ∧ (fabricOn.alive && fabricOn.fabricRuns) = true ∧
    fabricOn.bit (R.gtStat 15) 1 = false ∧ (fabricOn.setBit (R.gtStat 15) 1 true).bit (R.gtStat 15) 1 = true ∧
    s0.mayRead .lcA (R.gtCap 15) = true := by decide +kernel

/-- A running timer at 0 with TOP at its reset value, and one with TOP = 1. -/
theorem wit_GeneralTimers_advance :
    let r := s0.setBit (R.gtStat 15) 4 true
    let ok := fun (s : State) => s.alive = true ∧ s.gtRun 15 = true ∧ s.gtClk 15 = 0 ∧ s.fld (R.gtCfg 15) 0 8 = 0 ∧
      s.gtLower 15 = false ∧ s.reg (R.gtCount 15) ≠ s.reg (R.gtTop 15)
    (ok r ∧ r.reg (R.gtCount 15) + 1 ≠ r.reg (R.gtTop 15)) ∧
    (ok (r.setReg (R.gtTop 15) 1) ∧ (r.setReg (R.gtTop 15) 1).reg (R.gtCount 15) + 1 = (r.setReg (R.gtTop 15) 1).reg (R.gtTop 15)) := by
  decide +kernel
theorem wit_RtcTicksAndAdjustment :
    s0.almOn 0 = false ∧ s0.almOn 1 = false ∧ s0.bkp.adj = none ∧ s0.bkp.trimAcc = 0 ∧ s0.rtcTrimVal = 0 ∧
    s0.mayWrite .lcA R.rtcCtrl = true := by decide +kernel

/-- A loop counter that ends, one that counts, and the greatest and smallest BACK. -/
theorem wit_DmaLoopCounts :
    (0x3FFFF : BitVec 18) ≠ 0 ∧ (1 : BitVec 18) ≠ 0 ∧ (s0.dmaCh 31).on 1 = false ∧ (0 : Word) = 0 ∧ (0xFFFFFF : Word) ≠ 0 := by
  decide +kernel
theorem wit_WatchdogKicks :
    (booted.setBit (R.wdCfg 3) 20 true).mayWrite (.app 3) (R.wdKick 3) = true ∧ (0x5A50A4 : Word) ≠ 0x5A50A5 ∧
    (booted.setBit (R.wdCfg 3) 20 true).wdRuns 3 = true := by decide +kernel

/-- A core online that enables an input; the same core offline, whose inputs go to the lowest core that is online. -/
theorem wit_InputsPend :
    let u := s0.setBit (R.intcEn 3 5) 7 true
    let off := u.setBit R.intcCorectl 11 true
    u.offline 3 = false ∧ u.intcEnabled 3 127 = true ∧ s0.mayWrite (.app 3) (R.intcSetpend 3) = true ∧
    off.mayWrite (.app 0) (R.intcSetpend 3) = true ∧ off.offline 3 = true ∧ off.intcEnabled 3 127 = true ∧ off.fallback = some 0 := by
  decide +kernel

/-- Core 0 in user mode with its MPU on and no region. -/
def userMpu : State := s0.setCore 0 (((s0.core 0).setSys 0x010 0).setSys 0x020 1)

/-- A register that does not exist, one of a domain without power, and an address that a core's MPU denies in user mode. -/
theorem wit_RefusedAccesses :
    regRow 0xFFFFFF = none ∧ s0.mayWrite .lcA 0xFFFFFF = false ∧ regRow R.gateCtrl ≠ none ∧
    (inMode 1).regPowered R.gateCtrl = false ∧ (userMpu.core 0).mpuOk 0x600000 .wr = false ∧
    (userMpu.core 0).mpuOk 0x600000 .rd = false ∧ (0x800000 ≤ 0x87FFFF ∧ 0x87FFFF < 0x880000) := by decide +kernel
theorem wit_AccessCodesOfAWrite : (regRow R.mtRate0).isSome = true := by decide +kernel

/-- Each bit of a code word, and the last two. -/
theorem wit_SingleErrorsAreCorrected :
    s0.octMode 0x7FFFFF = false ∧ s0.bit R.eccFlipsel 8 = false ∧ tabLook (0 : BitVec 32) [(0x7FFFFF, 1#32 <<< 30)] 0x7FFFFF = 1#32 <<< 30 ∧
    tabLook (0 : BitVec 32) [(0x7FFFFF, (1#32 <<< 29) ||| (1#32 <<< 30))] 0x7FFFFF = (1#32 <<< 29) ||| (1#32 <<< 30) := by decide +kernel
theorem wit_PingAndEchoReply : (queued 0x00 [] s0).startsNext .spi 1 0x00 0 ∧ (queued 0x73 [1, 2] s0).startsNext .spi 1 0x73 0 := by
  unfold State.startsNext
  decide +kernel

/-- A packet on SPI with its CRC. -/
def packet (opc : Nat) (ps : List Octet) : Packet :=
  let b := natLe 2 (4 + ps.length) ++ [O opc, 1] ++ ps
  { t := 0, octets := b ++ natLe 2 (crc 16 0x1021 0xFFFF b), whole := true }

/-- An unknown opcode, a RESET_DOMAIN of a domain that does not exist, and a PING. -/
theorem wit_PacketsAreJudged :
    s0.packetStatus (packet 0xFF []) ≠ St.done ∧
    (s0.packetStatus (packet 0x02 [3]) = St.done ∧ s0.cmdStatus 0 0x02 [3] ≠ St.done ∧ pParams (packet 0x02 [3]) = [3]) ∧
    (s0.packetStatus (packet 0x00 []) = St.done ∧ s0.cmdStatus 0 0x00 [] = St.done ∧ s0.freeRec 0 = some 0) := by decide +kernel
/-! ## Witnesses for the completion statements: for every row a state and operands at which its condition holds -/

/-- readMtNow0, mtCtrlStep, mtRateCommit, mtUsetWrite, mtUalarmWrite, lfWindowEnd, armCompare, compareDisarm, compareMatch,
ppsPulseEnd, captureEvent, readCapture, ptpEventStamp, mtTick. -/
theorem wit_MeshTimeCommands :
    [(let w : Who := .lcA; (s0.mayRead w R.mtNow0)), (let w : Who := .lcA; (s0.mayWrite w R.mtCtrl)),
      (let w : Who := .lcA; (s0.mayWrite w R.mtRate1)), (let w : Who := .lcA; (s0.mayWrite w R.mtUset)),
      (let w : Who := .lcA; (s0.mayWrite w R.mtUalarm)), ((s0.alive)),
      (let w : Who := .lcA; let n : Fin 32 := 0; (s0.mayWrite w (R.mtcCmp n.val 2))),
      (let w : Who := .lcA; let n : Fin 32 := 0; (s0.mayWrite w (R.mtcCtrl n.val))),
      (let n : Fin 32 := 31; let s : State := s0.setBit (R.mtcCtrl 31) 0 true; (s.alive && s.armed n.val && s.reached n.val)),
      (let s : State := atNs 100 (s0.setMt { s0.mt with pps := [(0, 1)] }); (s.alive && s.ppsLeft != s.mt.pps)),
      (let n : Fin 8 := 7; let e : CapEdge := ⟨true, 24⟩; let s : State := s0.setFld (R.mtCapCfg 7) 0 2 3; (s.alive && (3 ≤ n.val || s.pwr.vio2) && s.capTakes n.val e.rising)),
      (let w : Who := .lcA; let n : Fin 8 := 0; (s0.mayRead w (R.mtCap n.val 0))),
      (let s : State := inMode 5; (s.alive && s.mode == 5 && !s.pwr.xoFail)), ((s0.refRuns))].all id = true := by decide +kernel

/-- lfTick, mtStepApply, slewStart, slewstop, mtSlewDone, bridgeEnter, bridgeExit, disciplineSample, sourceLost. -/
theorem wit_MeshTimeCommands_2 :
    [(let s : State := s0.setBit R.mtStatus 0 true; (s.alive)),
      (let s : State := s0.setMt { s0.mt with stepPend := true }; (s.alive && s.mt.stepPend)),
      (let w : Who := .lcA; (s0.mayWrite w R.mtSlew1)), (let w : Who := .lcA; (s0.mayWrite w R.mtCtrl)),
      (let s : State := s0.setBit R.mtStatus 1 true; (s.alive && !s.bridged && ((s.slewing && s.slewRem == 0) || s.mt.slewZero))),
      ((s0.alive)), ((s0.alive)), ((s0.serves && !s0.bridged)),
      (let src : BitVec 2 := 1; (s0.serves && src != 0 && (src != 3 || (s0.bit R.mtParent 13 && s0.nbrState (s0.fld R.mtParent 0 13) == 4))))].all id = true := by decide +kernel

/-- courseRunWrite, courseStopWrite, courseStopnow, courseBoundary, gateCommit, guardEvaluation, gatePretune, frameAccept,
rxListen, rxExpect, rxSound, txQueue, txBeacon. -/
theorem wit_GateCommands :
    [(let w : Who := .lcA; let n : Fin 16 := 0; (s0.mayWrite w (R.courseCfg n.val))),
      (let w : Who := .lcA; let n : Fin 16 := 0; (s0.mayWrite w (R.courseCfg n.val))),
      (let w : Who := .lcA; let n : Fin 16 := 0; (s0.mayWrite w (R.courseCfg n.val))),
      (let n : Fin 16 := 0; (s0.linkRuns && !s0.bridged && nsLe (s0.cstart n.val) s0.now && s0.dueNow (s0.lastBoundary n.val))),
      (let w : Who := .lcA; (s0.mayWrite w R.gateCommit)),
      (let g : BitVec 12 := 0; let it : BitVec 48 := 0; let s : State := atNs 3338608 (gateDue 2); let w : List Word := s.gateEntry 0; (decide (w = s.gateEntry g.toNat)) && (driftGuard w && s.mayMake g.toNat it.toNat w && s.dueNow (s.evalAt g.toNat w it.toNat) && (s.activ g.toNat it.toNat).isNone && s.afterStart g.toNat w (s.pretuneAt w it.toNat (s.guardFor w (s.instant w it.toNat)).1))),
      (let g : BitVec 12 := 0; let it : BitVec 48 := 0; let s : State := gateWith 1 0; let a : Activ := activation 1 0; (decide (s.activ g.toNat it.toNat = some a)) && (s.gatesRun && a.phase == 0 && s.dueNow a.pre && !beforeMark s.gates.floor 16 a.inst)),
      (let g : BitVec 12 := 0; let it : BitVec 48 := 0; let s : State := atNs 8338608 (gateDue 1); let w : List Word := s.gateEntry 0; let gd : Nat := 0; let pre : Nat := s.pretuneAt w 0 0; (decide (s.activ g.toNat it.toNat = none)) && (decide (w = s.gateEntry g.toNat)) && (decide (gd = (s.guardFor w (s.instant w it.toNat)).1)) && (decide (pre = s.pretuneAt w it.toNat gd)) && (!driftGuard w && s.mayMake g.toNat it.toNat w && s.dueNow pre && s.afterStart g.toNat w pre)),
      (let s : State := (let t := s0.setBit R.linkCtrl 0 true; t.setLink { t.link with inbox := [{ lane := 0, band := 0, status := 0, fr := frameIn none, psdu := [], ended := 0, cls := 0, spread := 0, tones := [] }] }); (s.linkRuns && s.bit R.linkCtrl 0 && !s.link.inbox.isEmpty)),
      (let g : BitVec 12 := 0; let i : BitVec 48 := 0; let s : State := gateWith 1 1; let a : Activ := activation 1 1; (decide (s.actFor g.toNat i.toNat (fun a => gAction a.w == 1 && s.mayOpen a) = some a)) && (s.gatesRun)),
      (let g : BitVec 12 := 0; let i : BitVec 48 := 0; let s : State := gateWith 2 1; let a : Activ := activation 2 1; (decide (s.actFor g.toNat i.toNat (fun a => gAction a.w == 2 && s.mayOpen a) = some a)) && (s.gatesRun)),
      (let g : BitVec 12 := 0; let i : BitVec 48 := 0; let s : State := gateWith 6 1; let a : Activ := activation 6 1; (decide (s.actFor g.toNat i.toNat (fun a => gAction a.w == 6 && s.mayOpen a) = some a)) && (s.gatesRun)),
      (let g : BitVec 12 := 0; let i : BitVec 48 := 0; let s : State := gateWith 3 1; let a : Activ := activation 3 1; (decide (s.actFor g.toNat i.toNat (s.txFires 3) = some a)) && (s.gatesRun)),
      (let g : BitVec 12 := 0; let i : BitVec 48 := 0; let s : State := gateWith 4 1; let a : Activ := activation 4 1; (decide (s.actFor g.toNat i.toNat (s.txFires 4) = some a)) && (s.gatesRun))].all id = true := by decide +kernel

/-- txSound, emitEvent, gateWinEnd, gateTune, gateCalibrate, wakeApp, rxWindowClose, ackWaitEnd, synthLock, calSliceStart,
calSliceDone, fullCalStart, fullCalDone, calstop. -/
theorem wit_GateCommands_2 :
    [(let g : BitVec 12 := 0; let i : BitVec 48 := 0; let s : State := gateWith 5 1; let a : Activ := activation 5 1; (decide (s.actFor g.toNat i.toNat (s.txFires 5) = some a)) && (s.gatesRun)),
      (let g : BitVec 12 := 0; let i : BitVec 48 := 0; let s : State := gateWith 7 1; let a : Activ := activation 7 1; (decide (s.actFor g.toNat i.toNat (s.atInstant 7) = some a)) && (s.gatesRun)),
      (let g : BitVec 12 := 0; let i : BitVec 48 := 0; let s : State := gateWith 7 2; let a : Activ := activation 7 2; (decide (s.actFor g.toNat i.toNat (fun a => gAction a.w == 7 && a.phase == 2 && nsLe (a.inst + durNs a) s.now) = some a)) && (s.gatesRun)),
      (let g : BitVec 12 := 0; let i : BitVec 48 := 0; let s : State := gateWith 8 1; let a : Activ := activation 8 1; (decide (s.actFor g.toNat i.toNat (s.atInstant 8) = some a)) && (s.gatesRun)),
      (let g : BitVec 12 := 0; let i : BitVec 48 := 0; let s : State := gateWith 9 1; let a : Activ := activation 9 1; (decide (s.actFor g.toNat i.toNat (s.atInstant 9) = some a)) && (s.gatesRun)),
      (let g : BitVec 12 := 0; let i : BitVec 48 := 0; let s : State := gateWith 10 1; let a : Activ := activation 10 1; (decide (s.actFor g.toNat i.toNat (s.atInstant 10) = some a)) && (s.gatesRun)),
      (let g : BitVec 12 := 0; let i : BitVec 48 := 0; let s : State := gateWith 1 2; let a : Activ := activation 1 2; (decide (s.actFor g.toNat i.toNat s.mayClose = some a)) && (s.gatesRun)),
      (let band : Fin 2 := 0; let s : State := atNs 100000000 (bandWith { BandSt.idle with wait := some { nbr := 0, ctr := none, sent := 0, elapsed := false, tx := sending .ack true } }); let wt : AckWait := { nbr := 0, ctr := none, sent := 0, elapsed := false, tx := sending .ack true }; (decide ((s.band band.val).wait = some wt)) && (s.linkRuns && !wt.elapsed && nsLe (wt.sent + 1000 * s.ackWaitUs) s.now)),
      (let band : Fin 2 := 0; let syn : Fin 3 := 2; let s : State := { s0 with bandS := { s0.bandS with tune := [(2, 1)] } }; (s.radioOn band.val && s.tuning band.val syn.val != 0)),
      (let band : Fin 2 := 0; let s : State := (bandWith BandSt.idle).setBit (R.feCalpol 0) 0 true; (s.feUp band.val && s.bit (R.feCalpol band.val) 0 && (s.band band.val).slice.isNone)),
      (let band : Fin 2 := 0; let s : State := bandWith { BandSt.idle with slice := some { item := 0, x := 0, asked := false, limit := none } }; (s.radioOn band.val && (s.band band.val).slice.isSome)),
      (let w : Who := .lcA; let band : Fin 2 := 0; (s0.mayWrite w (R.feCtrl band.val))),
      (let band : Fin 2 := 0; let s : State := s0.setBit (R.feStatus 0) 4 true; (s.radioOn band.val && s.fullBusy band.val)),
      (let w : Who := .lcA; let band : Fin 2 := 0; (s0.mayWrite w (R.feCtrl band.val)))].all id = true := by decide +kernel

/-- txRampUp, txLate, txEnd, blankEnd, txHalt, ccaDone, ackTransmit, tuneHoldEnd, femLeadSwitch, femLagReturn. -/
theorem wit_GateCommands_3 :
    [(let band : Fin 2 := 0; let s : State := bandWith { BandSt.idle with chain := some (sending .ack false) }; (s.linkRuns && s.feUp band.val && (s.band band.val).chain.any (fun r => s.mayRamp band.val r))),
      (let band : Fin 2 := 0; let s : State := atNs 1000 (bandWith { BandSt.idle with chain := some { sending .ack false with latest := 1 } }); (s.linkRuns && s.someLate band.val)),
      (let band : Fin 2 := 0; let s : State := bandWith { BandSt.idle with chain := some (sending .ack true) }; (s.linkRuns && s.airDone band.val)),
      (let band : Fin 2 := 0; let s : State := atNs 30000 (bandWith { BandSt.idle with blank := true }); ((s.band band.val).blank && nsLe ((s.band band.val).down + 20000) s.now && (s.band band.val).chain.all (fun r => !r.up))),
      (let w : Who := .lcA; let band : Fin 2 := 0; (s0.mayWrite w (R.txcChctrl band.val))),
      (let band : Fin 2 := 0; let s : State := bandWith { BandSt.idle with chain := some { sending .ack false with cca := true } }; (s.linkRuns && s.synLocked band.val 2 && (s.band band.val).chain.any (fun r => r.cca && r.tuned && !r.up))),
      (let band : Fin 2 := 0; let s : State := bandWith { BandSt.idle with chain := some (sending .ack true) }; (s.linkRuns && s.ackOnAir band.val)),
      (let g : BitVec 12 := 0; let i : BitVec 48 := 0; let s : State := gateWith 8 2; let a : Activ := activation 8 2; (decide (s.actFor g.toNat i.toNat (fun a => gAction a.w == 8 && a.phase == 2 && nsLe (a.inst + durNs a) s.now) = some a)) && (s.gatesRun)),
      (let band : Fin 2 := 0; (s0.radioOn band.val)), (let band : Fin 2 := 0; (s0.radioOn band.val))].all id = true := by decide +kernel

/-- synthColdFallback, calCommit, calageTick, sensorRefresh, offminEnd, bucketEntry, pathAgcWindow, gainApply,
preambleDetect, headerDecode, codewordDecode, frameEnd, laneOosWrite. -/
theorem wit_RadioAndLaneCommands :
    [(let band : Fin 2 := 0; let syn : Fin 3 := 2; let s : State := { s0 with bandS := { s0.bandS with tune := [(2, 1)] } }; (s.radioOn band.val && s.tuning band.val syn.val == 1)),
      (let w : Who := .lcA; let band : Fin 2 := 0; (s0.mayWrite w (R.feCalcommit band.val))),
      (let band : Fin 2 := 0; (s0.radioOn band.val)), (let band : Fin 2 := 0; (s0.radioOn band.val)),
      (let band : Fin 2 := 0; let rule : Fin 4 := 0; (s0.linkRuns && !s0.gapRuns band.val rule.val)),
      (let band : Fin 2 := 0; let rule : Fin 4 := 0; let s : State := s0.setLink { s0.link with bucket := [(0, 1)] }; (s.linkRuns && s.bucketDue band.val rule.val)),
      (let band : Fin 2 := 0; (s0.radioOn band.val)), (let p : Fin 4 := 0; (s0.radioOn (pathBand p.val))),
      (let n : Fin 16 := 0; let m : Metrics := ⟨0x7FFF, 0, 0⟩; let s : State := holding 0x851400 0x21 (((bandWith BandSt.idle).setFld (R.laneBind 0) 18 6 0x21).setBit (R.feSynCh 0 0) 23 true); let i : Nat := 0; (decide (s.winner n.val m.toInts = some i)) && (s.mayDetect n.val)),
      (let n : Fin 16 := 0; let m : Metrics := ⟨0, 0, 0⟩; (decide (s0.winner n.val m.toInts = none))),
      (let n : Fin 16 := 0; let s : State := laneWith { idleLane with frame := some (frameIn none) }; (s.laneLive n.val && (s.lane n.val).frame.any (fun f => f.hdr.isNone))),
      ((s0.linkRuns)),
      (let n : Fin 16 := 0; let s : State := laneWith { idleLane with frame := some (frameIn (some 0)) }; (s.laneLive n.val && s.frameReady n.val)),
      (let w : Who := .lcA; (s0.mayWrite w R.laneOos))].all id = true := by decide +kernel

/-- spanApply. -/
theorem wit_RadioAndLaneCommands_2 :
    [(let band : Fin 2 := 0; let s : State := bandWith { BandSt.idle with span := some 0 }; (s.radioOn band.val && s.bandQuiet band.val && (s.band band.val).span.isSome))].all id = true := by decide +kernel

/-- keyLoadCommit, keyClear, txctrCommit, txlimCommit, keyWalkDone, nbrCommit, heardRefresh, tonemapCompute, tonemapFeedback,
soundingPolicyTick, txFrameRetry, tmholdExpiry. -/
theorem wit_LinkTableCommands :
    [(let w : Who := .lcA; (s0.mayWrite w R.linkKeycommit)), (let w : Who := .lcA; (s0.mayWrite w R.linkKeycommit)),
      (let w : Who := .lcA; let slot : Fin 16 := 0; (s0.mayWrite w (R.keyTxctr slot.val 1))),
      (let w : Who := .lcA; let slot : Fin 16 := 0; (s0.mayWrite w (R.keyTxlim slot.val 1))),
      (let slot : Fin 16 := 15; let s : State := (s0.setBit R.linkCtrl 0 true).setBit (R.keyCfg 15) 21 true; (s.linkRuns && s.bit R.linkCtrl 0 && s.bit (R.keyCfg slot.val) 21)),
      (let w : Who := .lcA; (s0.mayWrite w R.nbrCommit)), ((s0.serves)),
      (let s : State := s0.setQueue (bits s0.tmcfg 0 7) { cells := [(0, 0)], tmo := 0, fired := false }; (s.serves && s.qCount (bits s.tmcfg 0 7) != 0)),
      (let nbr : BitVec 13 := 8191; let elem : List Octet := []; let s : State := (let u := holding (nbrAddr 8191 0) 2 s0; u.setLink { u.link with fbIn := [(8191, [])] }); let t : State := s.setLink { s.link with fbIn := s.link.fbIn.erase (nbr.toNat, elem) }; (decide (t = s.setLink { s.link with fbIn := s.link.fbIn.erase (nbr.toNat, elem) })) && (s.serves && s.link.fbIn.contains (nbr.toNat, elem))),
      (let nbr : BitVec 13 := 8191; let s : State := s0.setLink { s0.link with sounding := [(8191, 0, 0)] }; let e : Nat × Word × Nat := (8191, 0, 0); (decide (s.link.sounding.find? (fun e => e.1 == nbr.toNat && e.2.1 == s.nbr nbr.toNat 11) = some e)) && (decide (s.nbrState nbr.toNat = 0)) && (s.serves)),
      (let nbr : BitVec 13 := 8191; let s : State := holding (nbrAddr 8191 0) 2 (s0.setLink { s0.link with sounding := [(8191, 0, 0)] }); let e : Nat × Word × Nat := (8191, 0, 0); (decide (s.link.sounding.find? (fun e => e.1 == nbr.toNat && e.2.1 == s.nbr nbr.toNat 11) = some e)) && (decide (s.nbrState nbr.toNat ≠ 0)) && (s.serves && s.nbrUsable nbr.toNat)),
      (let t : Transport := .spi; let tag : Octet := 0; let s : State := bandWith { BandSt.idle with waiting := [{ sending (.command 0 0) false with retry := true }] }; let b : Nat := 0; let r : TxReq := { sending (.command 0 0) false with retry := true }; (decide (s.retryOf (tNum t) tag = some (b, r))) && (s.serves && (s.band b).chain.isNone && (s.band b).wait.isNone)),
      (let idx : BitVec 11 := 0; let s : State := s0.setLink { s0.link with old := [0] }; (s.serves && s.link.old.contains idx.toNat && !s.tmNamed idx.toNat && !s.tmHeld idx.toNat))].all id = true := by decide +kernel

/-- fwdProcess, routeCommit, queuePush, queuePushhead, queuePop, queuePeek, queueClassWrite, freebuf, alloc, qmTimeout,
rwinRequest, rwinReadbackDone, rwinResponse, rwinTimeout. -/
theorem wit_ForwardAndQueueCommands :
    [(let s : State := s0.setBit R.fwdCtrl 0 true; (s.linkRuns)), (let w : Who := .lcA; (s0.mayWrite w R.fwdCommit)),
      (let w : Who := .lcA; let n : Fin 128 := 0; (s0.mayWrite w (R.qPush n.val))),
      (let w : Who := .lcA; let n : Fin 128 := 0; (s0.mayWrite w (R.qPushhead n.val))),
      (let w : Who := .lcA; let n : Fin 128 := 0; (s0.mayRead w (R.qPop n.val))),
      (let w : Who := .lcA; let n : Fin 128 := 0; (s0.mayRead w (R.qPeek n.val))),
      (let w : Who := .lcA; let n : Fin 128 := 0; (s0.mayWrite w (R.qCfg n.val))),
      (let w : Who := .lcA; (s0.mayWrite w R.qmFreebuf)), (let w : Who := .lcA; (s0.mayRead w R.qmAlloc)),
      (let n : Fin 128 := 127; let s : State := s0.setQueue 127 { cells := [(0, 0)], tmo := 1, fired := false }; (s.linkRuns && (s.queue n.val).tmo != 0 && !(s.queue n.val).fired)),
      (let s : State := s0.setBit R.rwinCtrl 0 true; (s.rwinOn)),
      (let c0 : Bool := true; let s : State := (let t := s0.setBit R.rwinCtrl 0 true; { t with rwin := { t.rwin with busyC0 := some { op := anOp [], base := 0, words := 0, data := [] } } }); (s.rwinOn && (s.rwinBusy c0).isSome)),
      (let s : State := s0.setBit R.rwinCtrl 0 true; (s.rwinOn)), (let s : State := s0.setBit R.rwinCtrl 0 true; (s.rwinOn))].all id = true := by decide +kernel

/-- windowCommit. -/
theorem wit_ForwardAndQueueCommands_2 :
    [(let w : Who := .lcA; (s0.mayWrite w R.rwinCommit))].all id = true := by decide +kernel

/-- spiWrite, spiRead, spiStatus, spiRepeat, uartPacket, uartGapTimeout, uartReplySent, mailboxPost, mailboxCopyDone,
mailboxReplyWrite, deferredResetStart, takeoverResume, uartSyncOctet, hostCtsNChange. -/
theorem wit_CommandPortEvents :
    [((s0.pwr.vio1)), ((s0.pwr.vio1)), (let op : Octet := 0; (s0.pwr.vio1 && op != 0x01 && op != 0x02 && op != 0x04)),
      ((s0.pwr.vio1)), ((s0.linkRuns && s0.pwr.vio1)),
      (let s : State := { s0 with cmdp := { s0.cmdp with uartIn := true } }; (s.linkRuns && (s.cmdp.uartIn || s.cmdp.uartDrop))),
      (let s : State := { s0 with cmdp := { s0.cmdp with notices := [(1, [[1]])] }, pins := { s0.pins with cts := true } }; ((sayReset 1 s).uartMaySend)),
      (let w : Who := .app 3; let k : Fin 4 := 3; let s : State := (s0.setBit R.cmdpCtrl 0 true).setBit (R.tCfg 5) 0 true; (s.mayWrite w (R.mbPost k.val) && s.accepts (2 + k.val) && !s.bit (R.mbStatus k.val) 0)),
      (let k : Fin 4 := 3; let s : State := { s0 with cmdp := { s0.cmdp with mbCopy := [(3, 0x600000)] } }; let e : Nat × Nat := (3, 0x600000); (decide (s.cmdp.mbCopy.find? (fun e => e.1 == k.val) = some e)) && (s.linkRuns && 0 < s.slotsFree (2 + k.val))),
      (let k : Fin 4 := 0; (s0.linkRuns && !((sayReset (2 + k.val) s0).nextOut (2 + k.val)).isEmpty)),
      (let s : State := { s0 with cmdp := { s0.cmdp with deferred := [(1, 0)] } }; (s.alive && (!s.cmdp.deferred.isEmpty || s.pwr.change.any (fun c => c.replyHold)))),
      (let s : State := s0.setLsup { s0.lsup with move := some 1 }; let c : Nat := 1; (decide (s.lsup.move = some c)) && (s.linkRuns)),
      ((s0.linkRuns && s0.pwr.vio1)), ((s0.pwr.vio1))].all id = true := by decide +kernel

/-- abort. -/
theorem wit_HostCommandsOfTheSystem :
    [(let t : Transport := .spi; let tag : Octet := 1; let s : State := queued 0x7F [1, 0] s0; let r : Nat := 0; (decide (s.recOf (tNum t) tag = some r)) && (s.serves && s.recOpc r == 0x7F && s.recState r == 1))].all id = true := by decide +kernel

/-- measureDone. -/
theorem wit_HostCommandsOfTheRadio :
    [(let t : Transport := .spi; let tag : Octet := 0; let s : State := laneWith { idleLane with measure := some (0, 0) }; let n : Nat := 0; (decide ((List.range 16).find? (fun n => (s.lane n).measure == some (tNum t, tag)) = some n)) && (s.linkRuns))].all id = true := by decide +kernel

/-- heartbeat, supervisorTimeout, swapgo, standbyLoad, standbyReady, bankswapGo, bankswapCancel, setpend, watchdogWarn,
coreOffline, coreRestart, watchdogKick, watchdogExpire, debugHalt. -/
theorem wit_LinkCoreAndCoreControl :
    [(let c : Bool := false; (s0.linkRuns && s0.mayWrite (linkCore c) (R.lsupHb (if c then 1 else 0)) && !s0.bit R.dbgStat (if c then 5 else 4) && (c == s0.ownerB || s0.stby == 2))),
      (let c : Bool := false; let s : State := (s0.setBit R.lsupCtrl 0 true).setLsup { s0.lsup with timerA := true }; (s.linkRuns && s.bit R.lsupCtrl 0 && s.timerOn c && (c == s.ownerB || !s.stbyHeld))),
      (let w : Who := .lcA; (s0.mayWrite w R.lsupCtrl)), (let w : Who := .lcA; (s0.mayWrite w R.lsupStbycmd)),
      (let src : Nat := 3; let rcd : Option Nat := none; (decide (s0.lsup.load = some (src, rcd))) && (s0.linkRuns && 4 ≤ s0.domainMode && !s0.stbyHeld && !s0.loadWaits src)),
      (let w : Who := .lcA; (s0.mayWrite w R.lsupBankswap)), (let w : Who := .lcA; (s0.mayWrite w R.lsupBankswap)),
      (let w : Who := .app 3; let k : Fin 4 := 3; (s0.mayWrite w (R.intcSetpend k.val))),
      (let k : Fin 4 := 3; let s : State := (booted.setReg (R.wdCfg 3) 0x100002).setFld (R.wdCount 3) 0 16 2; (s.wdRuns k && s.wdTimeout k.val / 2 < s.fld (R.wdCount k.val) 0 16)),
      (let w : Who := .lcA; (s0.mayWrite w R.intcCorectl)), (let w : Who := .lcA; (s0.mayWrite w R.intcCorectl)),
      (let w : Who := .app 3; let k : Fin 4 := 3; (s0.mayWrite w (R.wdKick k.val))),
      (let k : Fin 4 := 3; let s : State := (booted.setBit (R.wdCfg 3) 20 true).setFld (R.wdCount 3) 0 16 0; (s.wdRuns k && s.fld (R.wdCount k.val) 0 16 ≤ s.wdTimeout k.val / 2)),
      (let s : State := debugOpen; (s.dbgOpen))].all id = true := by decide +kernel

/-- debugStep, debugResume, lhalt, dbgaccUpdate, debugLevelWrite, registerWrite. -/
theorem wit_LinkCoreAndCoreControl_2 :
    [(let s : State := debugOpen; (s.dbgOpen)), (let s : State := debugOpen; (s.dbgOpen)),
      (let s : State := debugOpen; (s.dbgOpen)), (let s : State := debugOpen; (s.dbgOpen)),
      (let s : State := debugOpen; (s.dbgOpen)), (let w : Who := .lcA; let a : Word := W R.mtRate0; (s0.mayWrite w a.toNat))].all id = true := by decide +kernel

/-- mergeDrain, groomRead, bankOffline, bankIsolated, bankOnline, bankInitDone, repairRow, fsInfo, fsErase. -/
theorem wit_MemoryAndFlashCommands :
    [((s0.alive)), ((s0.chipRuns && s0.fld R.eccGroomRate 0 16 != 0)), (let w : Who := .lcA; (s0.mayWrite w R.eccOffline)),
      (let k : Fin 16 := 15; let s : State := { s0 with ecc := { s0.ecc with isolating := 0x8000 } }; (s.alive && bitOf s.ecc.isolating k.val)),
      (let w : Who := .lcA; (s0.mayWrite w R.eccOffline)),
      (let k : Fin 16 := 15; let s : State := s0.setBit R.eccInitstat 15 true; (s.alive && s.bit R.eccInitstat k.val)),
      (let k : Fin 4 := 0; let s : State := calls 8; (decide (s.atReserved k = false)) && (s.atService k 8)),
      (let w : Who := .lcB; (decide (w = .lcA ∨ w = .lcB)) && (s0.linkRuns)),
      (let k : Fin 4 := 0; let s : State := calls 9; (s.atReserved k)),
      (let k : Fin 4 := 0; let s : State := calls 0; (decide (s.atReserved k = false)) && (s.atService k 0)),
      (let w : Who := .lcB; (decide (w = .lcA ∨ w = .lcB)) && (s0.linkRuns)),
      (let k : Fin 4 := 0; let s : State := calls 9; (s.atReserved k)),
      (let k : Fin 4 := 0; let s : State := calls 1; (decide (s.atReserved k = false)) && (s.atService k 1)),
      (let w : Who := .lcB; (decide (w = .lcA ∨ w = .lcB)) && (s0.linkRuns))].all id = true := by decide +kernel

/-- fsErase, fsProgram, fsStatus, fsSuspend, fsResume, fsAbandon. -/
theorem wit_MemoryAndFlashCommands_2 :
    [(let k : Fin 4 := 0; let s : State := calls 9; (s.atReserved k)),
      (let k : Fin 4 := 0; let s : State := calls 2; (decide (s.atReserved k = false)) && (s.atService k 2)),
      (let w : Who := .lcB; (decide (w = .lcA ∨ w = .lcB)) && (s0.linkRuns)),
      (let k : Fin 4 := 0; let s : State := calls 9; (s.atReserved k)),
      (let k : Fin 4 := 0; let s : State := calls 3; (decide (s.atReserved k = false)) && (s.atService k 3)),
      (let w : Who := .lcB; (decide (w = .lcA ∨ w = .lcB)) && (s0.linkRuns)),
      (let k : Fin 4 := 0; let s : State := calls 9; (s.atReserved k)),
      (let k : Fin 4 := 0; let s : State := calls 4; (decide (s.atReserved k = false)) && (s.atService k 4)),
      (let w : Who := .lcB; (decide (w = .lcA ∨ w = .lcB)) && (s0.linkRuns)),
      (let k : Fin 4 := 0; let s : State := calls 9; (s.atReserved k)),
      (let k : Fin 4 := 0; let s : State := calls 5; (decide (s.atReserved k = false)) && (s.atService k 5)),
      (let w : Who := .lcB; (decide (w = .lcA ∨ w = .lcB)) && (s0.linkRuns)),
      (let k : Fin 4 := 0; let s : State := calls 9; (s.atReserved k)),
      (let k : Fin 4 := 0; let s : State := calls 6; (decide (s.atReserved k = false)) && (s.atService k 6))].all id = true := by decide +kernel

/-- fsAbandon, fsRefresh, flashDone, autoSuspend, autoResume, startHouseCopy, copyComplete, flashPulseEnd. -/
theorem wit_MemoryAndFlashCommands_3 :
    [(let w : Who := .lcB; (decide (w = .lcA ∨ w = .lcB)) && (s0.linkRuns)),
      (let k : Fin 4 := 0; let s : State := calls 9; (s.atReserved k)),
      (let k : Fin 4 := 0; let s : State := calls 7; (decide (s.atReserved k = false)) && (s.atService k 7)),
      (let w : Who := .lcB; (decide (w = .lcA ∨ w = .lcB)) && (s0.linkRuns)),
      (let k : Fin 4 := 0; let s : State := calls 9; (s.atReserved k)),
      (let s : State := flashWith (some (aFlashOp (some 0))) 0; let o : FlashOp := aFlashOp (some 0); let r : Nat := 0; (decide (s.flash.op = some o)) && (decide (o.result = some r)) && (s.alive)),
      (let s : State := flashWith (some (aFlashOp none)) 0; (s.alive && s.flash.susp == 0 && !s.bit R.fcStatus 2 && s.flash.op.any (fun o => o.kind == 2 && o.autosusp && o.result.isNone))),
      (let s : State := flashWith (some (aFlashOp none)) 2; (s.alive && s.flash.susp == 2)),
      ((s0.appRuns && s0.stage.boot && !s0.imageHeld && !s0.bootWaits)),
      (let s : State := { s0 with stage := { s0.stage with copy := some { sector := 4097, erased := true, lines := 0, fails := 0, active := true } } }; let c : CopyJob := { sector := 4097, erased := true, lines := 0, fails := 0, active := true }; (decide (s.stage.copy = some c)) && (s.alive && c.active && s.copySectors ≤ c.sector)),
      (let s : State := flashWith (some (aFlashOp none)) 0; (s.alive && s.flash.susp == 0 && s.flash.op.any (fun o => o.result.isNone)))].all id = true := by decide +kernel

/-- rwRead, rwWrite, rwAdd, rwSwap, dmaMove, dmaLoop, dmaWait, dmaWaitEnd, dmaTimeout, dmaSignal, dmaQpop, dmaQpush, dmaSync,
dmaSyncDone. -/
theorem wit_DmaFabricAndTimerCommands :
    [(let c0 : Bool := true; let s : State := rwinWith [1, 0, 0, 0, 0, 0, 0, 1]; (s.rwinHead c0 1 && !s.rwinWaits c0)),
      (let c0 : Bool := true; let s : State := rwinWith [2, 0, 0, 0, 0, 0, 0, 1, 0, 0, 0]; (s.rwinHead c0 2 && !s.rwinWaits c0)),
      (let c0 : Bool := true; let s : State := rwinWith [3, 0, 0, 0, 0, 0, 0, 1, 0, 0, 0]; (s.rwinHead c0 3 && !s.rwinWaits c0)),
      (let c0 : Bool := true; let s : State := rwinWith [4, 0, 0, 0, 0, 0, 0, 1, 0, 0, 0, 0, 0, 0]; (s.rwinHead c0 4 && !s.rwinWaits c0)),
      (let n : Fin 32 := 0; let s : State := dmaIn 1 aDma; (s.dmaReady n)),
      (let n : Fin 32 := 0; let s : State := dmaIn 1 aDma; (s.dmaReady n)),
      (let n : Fin 32 := 0; let s : State := dmaIn 1 aDma; (s.dmaReady n)),
      (let n : Fin 32 := 0; let s : State := (dmaIn 2 { aDma with insn := 0x300000 }).setFld (R.dmaChstatus 0) 4 4 1; (s.chipRuns && s.dmaSt n == 2 && (s.dmaMet n (s.dmaCh n).insn || isDelay (s.dmaCh n).insn))),
      (let n : Fin 32 := 0; let s : State := dmaIn 2 { aDma with insn := 0x300000, arg := 1 }; (s.chipRuns && s.dmaSt n == 2 && !isDelay (s.dmaCh n).insn && (s.dmaCh n).arg != 0 && !s.dmaMet n (s.dmaCh n).insn)),
      (let n : Fin 32 := 0; let s : State := dmaIn 1 aDma; (s.dmaReady n)),
      (let n : Fin 32 := 0; let s : State := dmaIn 1 aDma; (s.dmaReady n)),
      (let n : Fin 32 := 0; let s : State := dmaIn 1 aDma; (s.dmaReady n)),
      (let n : Fin 32 := 0; let s : State := dmaIn 1 aDma; (s.dmaReady n)),
      (let n : Fin 32 := 0; let s : State := dmaIn 1 { aDma with sync := true }; (s.chipRuns && (s.dmaCh n).sync))].all id = true := by decide +kernel

/-- dmaEnd, dmaBurst, channelStopped, channelStart, channelStop, swtrig, clrpend, fabricChannelEvent, fabricHeldEmit,
taskDeliver, lutUpdate, lutCtlWrite, fabricLock, pinEvent. -/
theorem wit_DmaFabricAndTimerCommands_2 :
    [(let n : Fin 32 := 0; let s : State := dmaIn 1 aDma; (s.dmaReady n)),
      (let n : Fin 32 := 0; let at_ : BurstTime := ⟨false, 1⟩; let s : State := (dmaIn 1 { aDma with moving := true, insn := 0x100000 }).setReg (R.dmaPtrs 0 2) 16; (s.burstOk n at_)),
      (let n : Fin 32 := 0; let s : State := dmaIn 3 aDma; (s.alive && s.dmaSt n.val == 3 && !(s.dmaCh n.val).sync)),
      (let w : Who := .lcA; let n : Fin 32 := 0; (s0.mayWrite w (R.dmaChctrl n.val))),
      (let w : Who := .lcA; let n : Fin 32 := 0; (s0.mayWrite w (R.dmaChctrl n.val))),
      (let w : Who := .lcA; let n : Fin 32 := 0; (s0.mayWrite w (R.dmaChctrl n.val))),
      (let w : Who := .lcA; let n : Fin 32 := 0; (s0.mayWrite w (R.dmaChctrl n.val))),
      (let c : Fin 64 := 63; let s : State := (let t := fabricOn.setReg (R.evfCfg 63) 0x400000; t.setFab { t.fab with arr := [(0, 0)] }); (s.fabricRuns && s.chanEvent 0 c.val && s.chanGate c.val && !s.fab.done.contains c.val)),
      (let s : State := fabricOn; (s.fabricRuns)), (let s : State := fabricOn; (s.fabricRuns)),
      (let s : State := fabricOn; (s.fabricRuns)),
      (let w : Who := .lcA; let j : Fin 32 := 0; (s0.mayWrite w (R.lutCtl j.val))),
      (let w : Who := .lcA; let c : Fin 64 := 0; (s0.mayWrite w (R.evfCfg c.val))), ((s0.pwr.vio2))].all id = true := by decide +kernel

/-- madcSequenceEnd, peripheralServiceRequest, gtArm, gtAdvance, gtEnd, gtCascadeWrap, gtTopWrite, gtCapture, gtCapRead. -/
theorem wit_DmaFabricAndTimerCommands_3 :
    [((s0.chipRuns)), (let src : BitVec 7 := 0x79; (s0.chipRuns && s0.serviceOk src.toNat)),
      (let w : Who := .lcA; let n : Fin 16 := 0; (s0.mayWrite w (R.gtCtrl n.val))), ((s0.alive)),
      (let n : Fin 16 := 15; let s : State := (s0.setBit (R.gtStat 15) 4 true).setReg (R.gtTop 15) (s0.reg (R.gtCount 15)); (s.alive && s.gtRun n.val && !s.gtLower n.val && s.reg (R.gtCount n.val) == s.reg (R.gtTop n.val))),
      (let n : Fin 16 := 0; let s : State := ((s0.setBit (R.gtStat 0) 4 true).setFld (R.gtCfg 1) 22 2 1).setReg (R.gtTop 0) 0; (s.alive && s.gtRun n.val && s.gtLower n.val && s.gtReached n.val (s.reg (R.gtCount n.val) + 1))),
      (let w : Who := .lcA; let n : Fin 16 := 0; (s0.mayWrite w (R.gtTop n.val))),
      (let s : State := fabricOn; (s.alive && s.fabricRuns)),
      (let w : Who := .lcA; let n : Fin 16 := 0; (s0.mayRead w (R.gtCap n.val)))].all id = true := by decide +kernel

/-- modeRequest, agentAnswer, agentDelayExpiry, modeChangeTimeout, modeCommit, domainIsolate, modeChangeComplete, wakeSource,
wakePinEdge, regulatorReady, regulatorTimeout, regRetry, xoReady, xoTimeout. -/
theorem wit_PowerAndClockCommands :
    [(let w : Who := .lcA; (s0.mayWrite w R.pmuReq)),
      (let agent : Fin 19 := 18; let s : State := changing 1 aChange; (s.alive && s.asking && agent != 0)),
      (let agent : Fin 19 := 18; let s : State := changing 1 { aChange with delayed := 0x40000 }; (s.alive && s.asking && s.pwr.change.any (fun c => bitOf c.delayed agent.val) && !s.accepted agent.val)),
      (let s : State := changing 1 aChange; (s.alive && s.asking && !s.waking && !s.allAccepted)),
      (let s : State := (changing 1 aChange).setFld R.pmuStatus 0 18 0x3FFFF; (s.alive && s.asking && s.allAccepted && !s.pwr.change.any (fun c => c.replyHold))),
      (let s : State := changing 2 aChange; (s.alive && s.fld R.pmuStatus 22 2 == 2 && !s.waking && !s.pwr.change.all (fun c => c.isolated))),
      (let s : State := changing 2 { aChange with isolated := true }; (s.alive && s.mayEnter)),
      (let code : Octet := 5; let s : State := ((inMode 2).setBit R.rtcAlmstat 0 true).setBit (R.rtcAlmCfg 0) 8 true; (((s.wakePinAt code).mayWake && (s.wakePinAt code).wakeActive code.toNat))),
      ((s0.pwr.vio1)),
      (let s : State := changing 2 { aChange with isolated := true } |>.setPwr { (changing 2 { aChange with isolated := true }).pwr with regReady := false }; (s.regWaits)),
      (let s : State := changing 2 { aChange with isolated := true } |>.setPwr { (changing 2 { aChange with isolated := true }).pwr with regReady := false }; (s.regWaits)),
      (let s : State := s0.setPwr { s0.pwr with change := none, retry := some 4 }; (s.alive && s.pwr.change.isNone && s.pwr.retry.isSome)),
      ((s0.xoWaits)),
      (let s : State := (let t := (inMode 1).setBit R.clkStatus 0 false; t.setPwr { t.pwr with regReady := true, change := some { aChange with kind := .wake 1 } }); (s.xoWaits && s.waking && s.mode == 1 && !s.pwr.xoFail))].all id = true := by decide +kernel

/-- xoRetry, pllLock, tclkTrimWindow, por, brownoutMain, brownoutLp, resetPinAssert, resetPinRelease, rstctrlGo, vmainLoss,
supplySwitch, backupReset, rtcTick, rtcAlarm. -/
theorem wit_PowerAndClockCommands_2 :
    [((s0.alive && 2 ≤ s0.mode && !s0.bit R.clkStatus 0)),
      (let s : State := ((s0.setBit R.clkStatus 2 false).setBit R.clkStatus 0 true).setPwr { s0.pwr with change := none }; (s.pllWaits)),
      (let s : State := (s0.setBit R.clkStatus 0 true).setBit R.clkTclktrim 23 true; (s.alive && s.bit R.clkStatus 0 && s.bit R.clkTclktrim 23)),
      ((true)), ((s0.pwr.vmain && !s0.pwr.dead)),
      (let s : State := inMode 2; (s.alive && (s.mode == 2 || s.mode == 3) && !s.pwr.dead)), ((!s0.pwr.resetPin)),
      (let s : State := s0.setPwr { s0.pwr with resetPin := true }; (s.pwr.resetPin)),
      (let w : Who := .lcA; (s0.mayWrite w R.sysRstctrl)), ((s0.pwr.vmain)), ((true)), ((true)), ((true)),
      (let k : Fin 2 := 1; let s : State := s0.setFld (R.rtcAlmCfg 1) 0 8 0xBF; (s.almOn k.val && s.almMatch k.val s.bkp.rtc.toNat && !bitOf s.bkp.prev k.val))].all id = true := by decide +kernel

/-- adjgo, rtcTrimWindow, tapInstructionLoad, tapReset, vioLoss, vioReturn, referenceFailure, lfOscillatorReady. -/
theorem wit_PowerAndClockCommands_3 :
    [(let w : Who := .lcA; (s0.mayWrite w R.rtcCtrl)),
      (let s : State := (s0.setBit R.rtcCtrl 2 true).setFld R.mtSrc 8 3 2; (s.alive && s.bit R.rtcCtrl 2 && s.fld R.mtSrc 8 3 == 2)),
      ((s0.pwr.vmain && s0.pwr.vio1)), ((s0.pwr.vmain)), ((true)), ((true)),
      (let s : State := s0.setBit R.clkStatus 0 true; (s.alive && 2 ≤ s.mode && s.bit R.clkStatus 0)), ((s0.alive))].all id = true := by decide +kernel

/-- The start of ping, getInfo, resetDomain, getResetCause, setMode, getMode, getWakeRecord, mtGet, mtStep, mtSlew: with
parameters that pass the checks, and with some that do not. -/
theorem wit_HostCommandsOfTheSystem_starts_1 :
    [passes 0x00 anyParams [] s0, passes 0x01 anyParams [] s0, passes 0x02 checkResetDomain [2] s0,
      fails 0x02 checkResetDomain [3] s0, passes 0x03 anyParams [] s0, passes 0x04 checkSetMode [5] s0,
      fails 0x04 checkSetMode [0] s0, passes 0x05 anyParams [] s0, passes 0x06 anyParams [] s0, passes 0x20 anyParams [] s0,
      passes 0x21 anyParams [] s0, passes 0x22 checkMtSlew [0, 0, 0, 0, 0, 0, 100] s0,
      fails 0x22 checkMtSlew [0, 0, 0, 0, 0, 0, 101] s0].all id = true := by decide +kernel

/-- The start of mtSource, mtStatus, stageBegin, stageWrite, stageCommit, stageStatus, linkfwLoad, linkfwSwap, tableBankSwap,
selftest: with parameters that pass the checks, and with some that do not. -/
theorem wit_HostCommandsOfTheSystem_starts_2 :
    [passes 0x23 checkMtSource [3, 3, 3, 15, 0xFF, 1, 0xFF, 0x1F, 0, 0, 0, 31, 0] s0,
      fails 0x23 checkMtSource [0, 0, 0, 0, 0, 0, 0, 0, 0, 0, 0, 0, 0] s0, passes 0x24 anyParams [] s0,
      passes 0x60 checkStageBegin [] s0, fails 0x60 checkStageBegin [] (s0.setStage { s0.stage with st := 2 }),
      passes 0x61 checkStageWrite [8, 0, 0] (holding (stageBase + 5) 0 (s0.setStage { s0.stage with st := 1 })),
      fails 0x61 checkStageWrite [7, 0, 0] (holding (stageBase + 5) 0 (s0.setStage { s0.stage with st := 1 })),
      passes 0x62 checkStageCommit [] (holding (stageBase + 5) 0 (s0.setStage { s0.stage with st := 1, lines := [0, 1, 2] })),
      fails 0x62 checkStageCommit [] (s0.setStage { s0.stage with job := some { kind := 0, rcd := 0, next := 0, count := 1, base := 0, data := [] } }),
      passes 0x63 anyParams [] s0, passes 0x64 checkLinkfwLoad [0] linkSlot, fails 0x64 checkLinkfwLoad [2] s0,
      passes 0x65 checkLinkfwSwap [] (s0.setFld R.lsupStatus 4 2 2), fails 0x65 checkLinkfwSwap [] s0,
      passes 0x66 checkTableBankSwap [15] (s0.setBit (R.courseCfg 15) 0 true), fails 0x66 checkTableBankSwap [16] s0,
      passes 0x70 checkSelftest [15, 0] s0, fails 0x70 checkSelftest [64, 0] s0].all id = true := by decide +kernel

/-- The start of clearCounters, echo, getCounters: with parameters that pass the checks, and with some that do not. -/
theorem wit_HostCommandsOfTheSystem_starts_3 :
    [passes 0x72 checkClearCounters [0xFF, 7] s0, fails 0x72 checkClearCounters [0, 8] s0, passes 0x73 anyParams [] s0,
      passes 0x71 checkGetCounters [0, 0, 0xF0, 64] s0, fails 0x71 checkGetCounters [0, 0, 0xF0, 65] s0].all id = true := by decide +kernel

/-- The start of radioConfig, tune, calibrate, setCalPolicy, setTxPower, loadPowerCurve, laneAssign, laneRelease, txFrame,
measureChannel: with parameters that pass the checks, and with some that do not. -/
theorem wit_HostCommandsOfTheRadio_starts_1 :
    [passes 0x10 checkRadioConfig [1, 0xFF, 3, 7] s0, fails 0x10 checkRadioConfig [2, 0, 0, 0] s0,
      passes 0x11 checkTune [0, 3, 0, 0] (bandReady 0), fails 0x11 checkTune [2, 0, 0, 0] (bandReady 0),
      passes 0x12 checkCalibrate [0, 0, 4, 0, 0, 0] (bandReady 0), fails 0x12 checkCalibrate [0, 0, 9, 0, 0, 0] (bandReady 0),
      passes 0x13 checkSetCalPolicy [1, 1, 1, 0, 0, 0, 0] s0, fails 0x13 checkSetCalPolicy [1, 2, 1, 0, 0, 0, 0] s0,
      passes 0x14 checkSetTxPower [1, 20, 8, 0] s0, fails 0x14 checkSetTxPower [1, 20, 9, 0] s0,
      passes 0x15 checkLoadPowerCurve [3] s0, fails 0x15 checkLoadPowerCurve [4] s0,
      passes 0x16 checkLaneAssign [15, 0, 0, 0, 0] (bandReady 0), fails 0x16 checkLaneAssign [15, 7, 0, 0, 0] (bandReady 0),
      passes 0x17 checkLaneRelease [15] (s0.setFld (R.laneBind 15) 22 2 2), fails 0x17 checkLaneRelease [16] s0,
      passes 0x18 checkTxFrame [0, 1, 0, 0, 0, 4, 0, 0, 0, 0, 0, 0, 0, 0, 0, 0, 0, 0, 0, 0, 0] (holding 0x850800 0xA00000 (holding 0x851400 0x21 (bandReady 0))),
      fails 0x18 checkTxFrame [2, 1, 0, 0, 0, 4, 0, 0, 0, 0, 0, 0, 0, 0, 0, 0, 0, 0, 0, 0, 0] s0,
      passes 0x19 checkMeasureChannel [0, 0, 0, 0, 128, 0] (bandReady 0),
      fails 0x19 checkMeasureChannel [0, 0, 0, 0, 127, 0] (bandReady 0)].all id = true := by decide +kernel

/-- The start of sound, gateWrite, gateRead, courseConfig, courseStart, courseStop, hopseqWrite, nbrRead, nbrWrite, nbrEvict:
with parameters that pass the checks, and with some that do not. -/
theorem wit_HostCommandsOfTheRadio_starts_2 :
    [passes 0x1A checkSound [0, 0, 0, 1, 0, 0, 0, 0] (holding (nbrAddr 0 0) 2 (holding 0x851400 0x40 (holding 0x851402 800 s0))),
      fails 0x1A checkSound [0, 0, 0, 3, 0, 0, 0, 0] s0, passes 0x30 checkGateWrite [0xFF, 0x0F] s0,
      fails 0x30 checkGateWrite [0, 0x10] s0, passes 0x31 checkGateRead [0xFF, 0x0F] s0, fails 0x31 checkGateRead [0, 0x10] s0,
      passes 0x32 checkCourseConfig [15] s0, fails 0x32 checkCourseConfig [16] s0, passes 0x33 checkCourseStart [15] s0,
      fails 0x33 checkCourseStart [16] s0, passes 0x34 checkCourseStop [15, 1] s0, fails 0x34 checkCourseStop [15, 2] s0,
      passes 0x35 checkHopseqWrite [15, 1, 255, 1, 0xFF, 3] s0, fails 0x35 checkHopseqWrite [15, 1, 255, 2, 0, 0, 0, 0] s0,
      passes 0x40 checkNbrRead [0xFF, 0x1F] s0, fails 0x40 checkNbrRead [0, 0x20] s0,
      passes 0x41 checkNbrWrite [0xFF, 0x1F, 0xFF, 0x0F] s0, fails 0x41 checkNbrWrite [0, 0x20, 0, 0] s0,
      fails 0x42 checkNbrEvict [0xFF, 0x1F, 2] s0].all id = true := by decide +kernel

/-- The start of routeWrite, routeRead, tonemapWrite, tonemapRead, keyLoad, keySelect, secStatus, windowDefine, windowClose,
windowOp: with parameters that pass the checks, and with some that do not. -/
theorem wit_HostCommandsOfTheRadio_starts_3 :
    [passes 0x43 checkRouteWrite [0xFF, 0x3F] s0, fails 0x43 checkRouteWrite [0, 0x40] s0,
      passes 0x44 checkRouteRead [0xFF, 0x3F] s0, fails 0x44 checkRouteRead [0, 0x40] s0,
      passes 0x45 checkTonemapWrite ([0xFF, 7, 0, 0, 0, 0, 1] ++ List.replicate 104 0) s0,
      fails 0x45 checkTonemapWrite [0, 0, 0] s0, passes 0x46 checkTonemapRead [0xFF, 7] s0,
      fails 0x46 checkTonemapRead [0, 8] s0, passes 0x50 checkKeyLoad [15, 15, 3] s0, fails 0x50 checkKeyLoad [16, 0, 0] s0,
      passes 0x51 checkKeySelect [15, 15, 15] s0, fails 0x51 checkKeySelect [0, 0, 16] s0, passes 0x52 checkSecStatus [15] s0,
      fails 0x52 checkSecStatus [16] s0, passes 0x58 checkWindowDefine [63, 0, 0, 0x40] s0,
      fails 0x58 checkWindowDefine [64] s0, passes 0x59 checkWindowClose [63] s0, fails 0x59 checkWindowClose [64] s0,
      passes 0x5A checkWindowOp [0xFF, 0x3F, 7, 0, 1, 0, 0, 0, 0, 0, 0, 1] s0,
      fails 0x5A checkWindowOp [0, 0x40, 0, 0, 1, 0, 0, 0, 0, 0, 0, 1] s0].all id = true := by decide +kernel

/-! ## NBR_EVICT of a neighbour that nobody names -/

/-- With no error in memory and nothing listed below the journal, link memory below the table banks, and the window table, read zero. -/
theorem mw_unlisted (s : State) (hz : s.ecc.flips = []) (h : ∀ c ∈ s.mem.cells, 0x870000 * 3 ≤ c.1) (a : Nat) (ha : 0x500000 ≤ a) (hb : a < 0x870000)
    (hn : a < 0x850000 ∨ 0x860000 ≤ a) : s.mw a = 0 := by
  have ho : ∀ l, l < 3 → s.mem.octet (3 * a + l) = 0 := by
    intro l hl
    have hd : memDefault s.mem.shipped (3 * a + l) = 0 := by
      have : (3 * a + l) / 3 = a := by omega
      simp only [memDefault, this]
      split
      · rename_i h1; simp only [Bool.and_eq_true, decide_eq_true_eq] at h1; omega
      · split
        · rename_i h1; simp only [Bool.and_eq_true, decide_eq_true_eq] at h1; omega
        · split
          · omega
          · rfl
    have hf : ∀ (t : List (Nat × Octet)), (∀ c ∈ t, 0x870000 * 3 ≤ c.1) → tabLook (0 : Octet) t (3 * a + l) = 0 := by
      intro t ht
      induction t with
      | nil => rfl
      | cons e t ih =>
        have he := ht e (by simp)
        have := ih (fun c hc => ht c (by simp [hc]))
        have h3 : e.1 ≠ 3 * a + l := by omega
        simp only [tabLook, h3, if_false]
        exact this
    simpa [Memory.octet, hd] using hf _ h
  have h0 := ho 0 (by omega)
  have h1 := ho 1 (by omega)
  have h2 := ho 2 (by omega)
  simp only [Nat.add_zero] at h0
  have hr : flashRange a = false := by simp [flashRange]; omega
  simp [State.mw, hr, codeWord, Memory.word, h0, h1, h2, hz, tabLook]

/-- Nobody names a neighbour there. -/
theorem nbrNamed_unlisted (s : State) (n : Nat) (hz : s.ecc.flips = []) (h : ∀ c ∈ s.mem.cells, 0x870000 * 3 ≤ c.1) (hp : s.bit R.mtParent 13 = false) :
    s.nbrNamed n = false := by
  have hg : ∀ g ∈ List.range 4096, gEnable (s.gateEntry g) = false := by
    intro g hg
    have : s.gateWord g 0 = 0 := mw_unlisted s hz h _ (by simp at hg; omega) (by simp at hg; omega) (by simp at hg; omega)
    simp [gEnable, gw, State.gateEntry, this]
    decide
  have hr : ∀ i ∈ List.range 16384, bitOf (s.mw (routeAddr i)) 16 = false := by
    intro i hi
    rw [mw_unlisted s hz h (routeAddr i) (by simp [routeAddr]; omega) (by simp [routeAddr] at hi ⊢; omega) (by simp [routeAddr] at hi ⊢; omega)]
    rfl
  have hw : ∀ w ∈ List.range 64, s.winValid w = false := by
    intro w hw
    have : s.win w 0 = 0 := mw_unlisted s hz h _ (by omega) (by simp at hw; omega) (by simp at hw; omega)
    rw [State.winValid, this]
    decide
  unfold State.nbrNamed State.winNames
  simp only [hp, Bool.false_and, Bool.or_false]
  rw [List.any_eq_false.mpr, List.any_eq_false.mpr, List.any_eq_false.mpr]
  · rfl
  · intro w h1; simp [hw w h1]
  · intro i h1; simp [hr i h1]
  · intro g h1; simp [hg g h1]

/-- The start of nbrEvict, its checks passed. -/
theorem wit_HostCommandsOfTheRadio_nbrEvict :
    begins 0x42 (queued 0x42 [0xFF, 0x1F, 1] s0) = true ∧
    legalFree (nbrIs ((queued 0x42 [0xFF, 0x1F, 1] s0).recParams 0) 0 && par1 ((queued 0x42 [0xFF, 0x1F, 1] s0).recParams 0) 2 ≤ 1)
      (!(queued 0x42 [0xFF, 0x1F, 1] s0).nbrNamed (par2 ((queued 0x42 [0xFF, 0x1F, 1] s0).recParams 0) 0)) = St.done := by
  rw [nbrNamed_unlisted _ _ (by decide +kernel) (by decide +kernel) (by decide +kernel)]
  decide +kernel

end Sys2Proof.Machine.Tests
end

/-! # Memory words, access codes and refused accesses

The chapter 00_scope.md: the lane order of a word and its frame (R1), the access codes of a register (R3), and the accesses that
the part does not honour (R4). -/

namespace Sys2Proof.Machine

open Sys2Proof

/-! ## Words and their octets (R1) -/

theorem laneOf_eq_extractLsb' (v : Word) (lane : Nat) : laneOf v lane = v.extractLsb' (8 * lane) 8 := by
  apply BitVec.eq_of_toNat_eq
  simp [laneOf, Nat.shiftRight_eq_div_pow]

/-- A word is put together from its three octets again. -/
theorem word_of_lanes (v : Word) :
    W ((laneOf v 0).toNat + 256 * (laneOf v 1).toNat + 65536 * (laneOf v 2).toNat) = v := by
  apply BitVec.eq_of_toNat_eq
  have hv := v.isLt
  simp only [laneOf, W, BitVec.toNat_ofNat]
  omega

theorem Memory.octet_setWord_lane (m : Memory) (w : Nat) (v : Word) {lane : Nat} (h : lane < 3) :
    (m.setWord w v).octet (3 * w + lane) = laneOf v lane := by
  unfold Memory.setWord
  match lane, h with
  | 0, _ => rw [octet_setOctet_ne _ _ (by omega), octet_setOctet_ne _ _ (by omega), Nat.add_zero, octet_setOctet_self]
  | 1, _ => rw [octet_setOctet_ne _ _ (by omega), octet_setOctet_self]
  | 2, _ => rw [octet_setOctet_self]

theorem Memory.octet_setWord_ne (m : Memory) {w a : Nat} (v : Word) (h : a / 3 ≠ w) :
    (m.setWord w v).octet a = m.octet a := by
  unfold Memory.setWord
  rw [octet_setOctet_ne _ _ (by omega), octet_setOctet_ne _ _ (by omega), octet_setOctet_ne _ _ (by omega)]

@[simp] theorem Memory.word_setWord_self (m : Memory) (w : Nat) (v : Word) : (m.setWord w v).word w = v := by
  have h0 := m.octet_setWord_lane w v (lane := 0) (by omega)
  rw [Nat.add_zero] at h0
  rw [Memory.word, h0, octet_setWord_lane m w v (by omega), octet_setWord_lane m w v (by omega), word_of_lanes]

/-- Settles O9: a word write is three octet writes, which meet no octet of another word. -/
theorem wordWriteReadsBack : Obligations.WordWriteReadsBack := by
  intro m w v
  refine ⟨m.word_setWord_self w v, fun lane h => ?_, fun a h => m.octet_setWord_ne v h⟩
  rw [m.octet_setWord_lane w v h, laneOf_eq_extractLsb']

/-! ## The access codes of a register (R3) -/

/-- The word that a plain write of `v` leaves in a register of row `r` that held `old`. -/
def RegRow.merged (r : RegRow) (old v : Word) : Word :=
  ((old &&& ~~~(W r.rw)) ||| (v &&& W r.rw)) &&& ~~~(v &&& W r.w1c) ||| (v &&& W r.so)

theorem plainWrite_of_regRow {a : Nat} {r : RegRow} (h : regRow a = some r) (v : Word) (s : State) :
    plainWrite a v s = s.setReg a (r.merged (s.reg a) v) := by
  simp only [plainWrite, h, RegRow.merged]

/-- SO goes before W1C, and W1C before RW; a bit of none of them keeps its value. -/
theorem RegRow.getLsbD_merged (r : RegRow) (old v : Word) {i : Nat} (hi : i < 24) :
    (r.merged old v).getLsbD i =
      if (W r.so).getLsbD i && v.getLsbD i then true
      else if (W r.w1c).getLsbD i && v.getLsbD i then false
      else if (W r.rw).getLsbD i then v.getLsbD i else old.getLsbD i := by
  simp only [RegRow.merged, BitVec.getLsbD_or, BitVec.getLsbD_and, BitVec.getLsbD_not, hi, decide_true, Bool.true_and]
  cases v.getLsbD i with
  | false => cases (W r.rw).getLsbD i <;> simp
  | true =>
    cases (W r.so).getLsbD i with
    | true => simp
    | false =>
      cases (W r.w1c).getLsbD i with
      | true => simp
      | false => cases (W r.rw).getLsbD i <;> simp

/-- Settles O45: a plain write stores the merged word in the one register. -/
theorem accessCodesOfAWrite : Obligations.AccessCodesOfAWrite := by
  intro a v s r hr
  rw [plainWrite_of_regRow hr]
  refine ⟨fun i hi => ?_, fun b hb => ?_⟩
  · rw [State.reg_setReg, if_pos rfl, r.getLsbD_merged _ _ hi]
  · rw [State.reg_setReg, if_neg hb]

/-! ## Accesses that the part does not honour (R4) -/

theorem regPowered_of_regRow_none {s : State} {a : Nat} (h : regRow a = none) : s.regPowered a = false := by
  simp only [State.regPowered, h]

theorem mayWrite_of_unpowered {s : State} {a : Nat} (w : Who) (h : s.regPowered a = false) : s.mayWrite w a = false := by
  simp [State.mayWrite, h]

theorem mayRead_of_unpowered {s : State} {a : Nat} (w : Who) (h : s.regPowered a = false) : s.mayRead w a = false := by
  simp [State.mayRead, h]

theorem mayWrite_of_mpuDenied {s : State} {w : Who} {a : Nat} (h : s.mpuAllows w a .wr = false) : s.mayWrite w a = false := by
  simp [State.mayWrite, h]

theorem mayRead_of_mpuDenied {s : State} {w : Who} {a : Nat} (h : s.mpuAllows w a .rd = false) : s.mayRead w a = false := by
  simp [State.mayRead, h]

/-- A refused register write changes nothing. -/
theorem exec_registerWrite_of_refused {s : State} {w : Who} {a : Word} (v : Word) (h : s.mayWrite w a.toNat = false) :
    exec (.registerWrite w a v) s = .next s :=
  act_of_false _ s h

/-- No word from the peripheral registers up is memory (R342): a read there answers 0. -/
theorem memRead_above_memory (init : Nat) {a : Nat} (s : State) (h : 0xF00000 ≤ a) : memRead init a s = (0, false, s) := by
  have hb : bankOf a = none := by
    unfold bankOf
    rw [if_neg (by omega), if_neg (by omega), if_neg (by omega), if_neg (by omega)]
  have hs : s.sramUp a = false := by simp [State.sramUp, hb]
  have hf : flashRange a = false := by simp [flashRange]; omega
  have hr : romRange a = false := by simp [romRange]; omega
  have ho : ospiRange a = false := by simp [ospiRange]; omega
  simp [memRead, hs, hf, hr, ho]

/-- A read from the peripheral registers up that is not honoured, or meets no register at all, answers 0. -/
theorem busRead_of_unpowered (w : Who) {a : Nat} {s : State} (h : s.regPowered a = false) (ha : 0xF00000 ≤ a) :
    busRead w a s = (0, false, s) := by
  unfold busRead
  split
  · rw [mayRead_of_unpowered w h]; rfl
  · split
    · exact memRead_above_memory _ s ha
    · rfl

theorem busRead_of_mpuDenied {w : Who} {a : Nat} {s : State} (h : s.mpuAllows w a .rd = false) :
    busRead w a s = (0, false, s) := by
  simp [busRead, mayRead_of_mpuDenied h, h]

theorem busWrite_of_mpuDenied {w : Who} {a : Nat} (v : Word) {s : State} (h : s.mpuAllows w a .wr = false) :
    busWrite w a v s = s := by
  simp [busWrite, mayWrite_of_mpuDenied h, h]

/-- Link memory takes writes of firmware's initiators only (R290, R387). -/
theorem mayWriteMem_link_of_not_firm {s : State} {w : Who} {a : Nat} (hf : s.firm w = false) (h1 : 0x800000 ≤ a)
    (h2 : a < 0x880000) : s.mayWriteMem w a = false := by
  simp [State.mayWriteMem, h1, h2, hf]

theorem busWrite_link_of_not_firm {s : State} {w : Who} {a : Nat} (v : Word) (hf : s.firm w = false) (h1 : 0x800000 ≤ a)
    (h2 : a < 0x880000) : busWrite w a v s = s := by
  have hr : regRange a = false := by simp [regRange]; omega
  simp [busWrite, hr, memWrite, mayWriteMem_link_of_not_firm hf h1 h2]

/-- Settles O44: each access meets one of the guards of R4. -/
theorem refusedAccesses : Obligations.RefusedAccesses := by
  refine ⟨fun w a v s h => exec_registerWrite_of_refused v h, fun w a v s h => ?_, fun k a v s h => ?_, fun k a s h => ?_,
    fun k a v s h1 h2 => busWrite_link_of_not_firm v rfl h1 h2⟩
  · have hp : s.regPowered a.toNat = false := h.elim regPowered_of_regRow_none id
    exact ⟨exec_registerWrite_of_refused v (mayWrite_of_unpowered w hp), busRead_of_unpowered w hp⟩
  · exact ⟨exec_registerWrite_of_refused v (mayWrite_of_mpuDenied h), busWrite_of_mpuDenied v h⟩
  · exact busRead_of_mpuDenied h

end Sys2Proof.Machine

/-! # Mesh time

The chapter 01_mesh_time.md: what reset leaves (R11), the snapshots of the counter (R12, R13), the rate and its limits (R10), and the
arming of a compare channel (R38, R40). -/

namespace Sys2Proof.Machine

open Sys2Proof

/-! ## Fields of a register that was written -/

/-- A word with one field replaced, as the digits above the field, the field and the digits below it. -/
theorem setBits_eq_digits (v : Word) (lo len x : Nat) :
    setBits v lo len x =
      BitVec.ofNat 24 (2 ^ lo * (2 ^ len * (v.toNat / 2 ^ lo / 2 ^ len) + x % 2 ^ len) + v.toNat % 2 ^ lo) := by
  have hq := Nat.div_add_mod (v.toNat / 2 ^ lo) (2 ^ len)
  have hv : v.toNat =
      bits v lo len * 2 ^ lo + (2 ^ lo * (2 ^ len * (v.toNat / 2 ^ lo / 2 ^ len)) + v.toNat % 2 ^ lo) := by
    calc v.toNat
        = 2 ^ lo * (v.toNat / 2 ^ lo) + v.toNat % 2 ^ lo := (Nat.div_add_mod _ _).symm
      _ = 2 ^ lo * (2 ^ len * (v.toNat / 2 ^ lo / 2 ^ len) + v.toNat / 2 ^ lo % 2 ^ len) + v.toNat % 2 ^ lo := by rw [hq]
      _ = _ := by unfold bits; ring
  have hs : v.toNat - bits v lo len * 2 ^ lo =
      2 ^ lo * (2 ^ len * (v.toNat / 2 ^ lo / 2 ^ len)) + v.toNat % 2 ^ lo := by omega
  unfold setBits
  rw [hs]
  congr 1
  ring

/-- Each bit of a word with one field replaced. -/
theorem getLsbD_setBits (v : Word) (lo len x : Nat) {i : Nat} (hi : i < 24) :
    (setBits v lo len x).getLsbD i = if lo ≤ i ∧ i < lo + len then x.testBit (i - lo) else v.getLsbD i := by
  rw [setBits_eq_digits, BitVec.getLsbD_ofNat, Nat.testBit_two_pow_mul_add _ (Nat.mod_lt _ (by positivity)),
    ← BitVec.testBit_toNat]
  by_cases h1 : i < lo
  · simp [hi, h1, Nat.testBit_mod_two_pow]
  · rw [if_neg h1, Nat.testBit_two_pow_mul_add _ (Nat.mod_lt _ (by positivity))]
    by_cases h2 : i < lo + len
    · have h3 : i - lo < len := by omega
      simp [hi, h2, h3, not_lt.1 h1, Nat.testBit_mod_two_pow]
    · have h3 : ¬ i - lo < len := by omega
      have h4 : i - lo - len + len + lo = i := by omega
      simp [hi, h2, h3, Nat.testBit_div_two_pow, h4]

theorem testBit_bits (v : Word) (lo len i : Nat) : (bits v lo len).testBit i = (decide (i < len) && v.getLsbD (i + lo)) := by
  simp [bits, Nat.testBit_mod_two_pow, Nat.testBit_div_two_pow, BitVec.testBit_toNat]

@[simp] theorem bits_setBits_self (v : Word) {lo len : Nat} (x : Nat) (h : lo + len ≤ 24) :
    bits (setBits v lo len x) lo len = x % 2 ^ len := by
  apply Nat.eq_of_testBit_eq
  intro i
  rw [testBit_bits, Nat.testBit_mod_two_pow]
  by_cases hi : i < len
  · rw [getLsbD_setBits v lo len x (by omega), if_pos (by omega), Nat.add_sub_cancel]
  · simp [hi]

/-- A field keeps its value when a field that shares no bit with it is replaced. -/
theorem bits_setBits_of_disjoint (v : Word) {lo len lo' len' : Nat} (x : Nat) (hd : lo' + len' ≤ lo ∨ lo + len ≤ lo')
    (h : lo' + len' ≤ 24) : bits (setBits v lo len x) lo' len' = bits v lo' len' := by
  apply Nat.eq_of_testBit_eq
  intro i
  rw [testBit_bits, testBit_bits]
  by_cases hi : i < len'
  · rw [getLsbD_setBits v lo len x (by omega), if_neg (by omega)]
  · simp [hi]

variable (s : State)

@[simp] theorem State.reg_setReg_self (a : Nat) (v : Word) : (s.setReg a v).reg a = v := by
  rw [State.reg_setReg, if_pos rfl]

theorem State.reg_setReg_ne {a b : Nat} (v : Word) (h : b ≠ a) : (s.setReg a v).reg b = s.reg b := by
  rw [State.reg_setReg, if_neg h]

theorem State.reg_setFld_ne {a b : Nat} (lo len x : Nat) (h : b ≠ a) : (s.setFld a lo len x).reg b = s.reg b :=
  s.reg_setReg_ne _ h

theorem State.reg_setBit_ne {a b : Nat} (i : Nat) (p : Bool) (h : b ≠ a) : (s.setBit a i p).reg b = s.reg b :=
  s.reg_setFld_ne _ _ _ h

@[simp] theorem State.reg_setMt (m : MtState) (a : Nat) : (s.setMt m).reg a = s.reg a := rfl

variable {s} in
theorem State.reg_setBit_congr {t : State} {b : Nat} (h : t.reg b = s.reg b) (a i : Nat) (p : Bool) :
    (t.setBit a i p).reg b = (s.setBit a i p).reg b := by
  by_cases hb : b = a
  · subst hb
    simp [State.setBit, State.setFld, h]
  · rw [State.reg_setBit_ne _ _ _ hb, State.reg_setBit_ne _ _ _ hb, h]

theorem State.fld_setFld_self (a : Nat) {lo len : Nat} (x : Nat) (h : lo + len ≤ 24) :
    (s.setFld a lo len x).fld a lo len = x % 2 ^ len := by
  simp [State.fld, State.setFld, h]

theorem State.bit_setBit_self (a : Nat) {i : Nat} (p : Bool) (h : i < 24) : (s.setBit a i p).bit a i = p := by
  rw [State.bit, State.setBit, State.fld_setFld_self s a _ (by omega)]
  cases p <;> rfl

theorem State.bit_setBit_ne (a : Nat) {i j : Nat} (p : Bool) (hne : j ≠ i) (h : j < 24) :
    (s.setBit a i p).bit a j = s.bit a j := by
  simp only [State.bit, State.setBit, State.fld, State.setFld, State.reg_setReg_self]
  rw [bits_setBits_of_disjoint _ _ (by omega) (by omega)]

variable {s} in
theorem State.bit_congr {t : State} {a : Nat} (h : t.reg a = s.reg a) (i : Nat) : t.bit a i = s.bit a i := by
  simp only [State.bit, State.fld, h]

variable {s} in
theorem State.fld_congr {t : State} {a : Nat} (h : t.reg a = s.reg a) (lo len : Nat) : t.fld a lo len = s.fld a lo len := by
  simp only [State.fld, h]

/-- Word `i` of a value is its 24 bits from bit 24i up (R2). -/
theorem wordOf_eq_extractLsb' {n : Nat} (v : BitVec n) (i : Nat) : wordOf v i = v.extractLsb' (24 * i) 24 := by
  apply BitVec.eq_of_toNat_eq
  simp [wordOf, Nat.shiftRight_eq_div_pow]

@[simp] theorem wordOf_zero {n : Nat} (i : Nat) : wordOf (0 : BitVec n) i = 0 := by
  simp [wordOf]

theorem toNat_append_eq_add {m n : Nat} (x : BitVec m) (y : BitVec n) : (x ++ y).toNat = x.toNat * 2 ^ n + y.toNat := by
  rw [BitVec.toNat_append, ← Nat.shiftLeft_add_eq_or_of_lt y.isLt, Nat.shiftLeft_eq]

/-! ## What reset leaves (R11) -/

theorem State.reg_reset (a : Nat) : State.reset.reg a = regReset a := rfl

theorem State.core_reset (k : Fin 4) : State.reset.core k = Core.reset := by
  simp [State.core, State.reset]

theorem Core.sysReg_reset (n : Nat) : Core.reset.sysReg n = sysReset n := rfl

theorem regReset_mtUncert : regReset R.mtUncert = 0xFFFFFF := by decide +kernel

theorem mtSrc_state_regReset : bits (regReset R.mtSrc) 8 3 = 0 := by decide +kernel

/-- Settles O8: the registers hold the map's reset values, and every core is `Core.reset`. -/
theorem resetValues : Obligations.ResetValues := by
  refine ⟨rfl, ?_, ?_, fun k => ?_⟩
  · rw [State.reg_reset, regReset_mtUncert]
  · rw [State.fld, State.reg_reset, mtSrc_state_regReset]
  · rw [State.core_reset]
    refine ⟨?_, ?_, ?_, ?_, ?_, rfl, rfl⟩
    · rw [Core.sup, Core.sysReg_reset]; decide
    · rw [Core.ie, Core.sysReg_reset]; decide
    · rw [Core.ipl, Core.sysReg_reset]; decide
    · rw [Core.sysReg_reset]; decide
    · rw [Core.sysReg_reset]; decide

/-! ## Snapshots of the counter (R12, R13) -/

theorem whoId_injective : Function.Injective whoId := by
  intro a b h
  cases a <;> cases b <;> simp [whoId, Fin.ext_iff] at h ⊢ <;> omega

theorem busRead_mtNow1 (w : Who) :
    (busRead w R.mtNow1 s).1 = if s.mayRead w R.mtNow1 then wordOf (tabLook 0 s.mt.snaps (whoId w)) 0 else 0 := by
  unfold busRead
  rw [if_pos (by decide)]
  split <;> rfl

theorem busRead_mtNow2 (w : Who) :
    (busRead w R.mtNow2 s).1 = if s.mayRead w R.mtNow2 then wordOf (tabLook 0 s.mt.snaps (whoId w)) 1 else 0 := by
  unfold busRead
  rw [if_pos (by decide)]
  split <;> rfl

/-- The state once `w` has read MT_NOW0. -/
def State.snapped (w : Who) (s : State) : State := { (readNow0 w s).2 with rdata := (readNow0 w s).1 }

theorem exec_readMtNow0 {w : Who} (h : s.mayRead w R.mtNow0 = true) : exec (.readMtNow0 w) s = .next (s.snapped w) :=
  (reads_of_readCmd (f := readNow0 w) rfl).1 h

theorem State.mayRead_snapped (w w' : Who) (a : Nat) : (s.snapped w).mayRead w' a = s.mayRead w' a := rfl

theorem State.rdata_snapped (w : Who) : (s.snapped w).rdata = s.mt.ctr.extractLsb' 0 24 :=
  wordOf_eq_extractLsb' s.mt.ctr 0

theorem State.snap_snapped_self (w : Who) :
    tabLook 0 (s.snapped w).mt.snaps (whoId w) = s.mt.ctr.extractLsb' 24 48 := by
  have h : tabLook 0 (s.snapped w).mt.snaps (whoId w) = BitVec.ofNat 48 (s.mt.ctr.toNat / 2 ^ 24) :=
    tabLook_tabPut_self _ _ _ _
  rw [h, BitVec.extractLsb', Nat.shiftRight_eq_div_pow]

theorem State.snap_snapped_ne {w w' : Who} (h : w' ≠ w) :
    tabLook 0 (s.snapped w).mt.snaps (whoId w') = tabLook 0 s.mt.snaps (whoId w') :=
  tabLook_tabPut_ne _ _ _ _ (fun e => h (whoId_injective e.symm))

theorem State.snap_reset (w : Who) : tabLook 0 State.reset.mt.snaps (whoId w) = 0 := rfl

theorem snapshotWord_eq_counterWord (c : BitVec 72) {i : Nat} (hi : i < 2) :
    wordOf (c.extractLsb' 24 48) i = c.extractLsb' (24 + 24 * i) 24 := by
  rw [wordOf_eq_extractLsb']
  apply BitVec.eq_of_getLsbD_eq
  intro j hj
  have hlt : 24 * i + j < 48 := by omega
  simp [hj, hlt, Nat.add_assoc]

/-- Settles O35: the read puts the counter's upper bits under the reader's own number, and no two initiators share one. -/
theorem meshTimeSnapshots : Obligations.MeshTimeSnapshots := by
  refine ⟨fun w s h0 h1 h2 => ⟨s.snapped w, exec_readMtNow0 s h0, s.rdata_snapped w, ?_, ?_, rfl, rfl, rfl, fun w' hw => ?_⟩,
    fun w => ⟨?_, ?_⟩⟩
  · rw [busRead_mtNow1, State.mayRead_snapped, if_pos h1, State.snap_snapped_self, snapshotWord_eq_counterWord _ (by omega)]
  · rw [busRead_mtNow2, State.mayRead_snapped, if_pos h2, State.snap_snapped_self, snapshotWord_eq_counterWord _ (by omega)]
  · constructor
    · rw [busRead_mtNow1, busRead_mtNow1, State.mayRead_snapped, State.snap_snapped_ne s hw]
    · rw [busRead_mtNow2, busRead_mtNow2, State.mayRead_snapped, State.snap_snapped_ne s hw]
  · rw [busRead_mtNow1, State.snap_reset, wordOf_zero, ite_self]
  · rw [busRead_mtNow2, State.snap_reset, wordOf_zero, ite_self]

/-! ## The rate and its limits (R10) -/

/-- A field read as two's complement is the field's integer. -/
theorem signed_toNat {n : Nat} (v : BitVec (n + 1)) : signed v.toNat (n + 1) = v.toInt := by
  rw [signed, BitVec.toInt_eq_toNat_cond]
  refine if_congr ?_ rfl rfl
  rw [Nat.add_sub_cancel, pow_succ]
  omega

/-- RATE as MT_RATE1 and MT_RATE0 make it: the low octet of the one above the other. -/
theorem rateOf_eq_toInt (lo hi : Word) : rateOf lo hi = (hi.extractLsb' 0 8 ++ lo).toInt := by
  have ht : (hi.extractLsb' 0 8 ++ lo).toNat = (lo.toNat + 2 ^ 24 * hi.toNat) % 2 ^ 32 := by
    rw [toNat_append_eq_add, BitVec.extractLsb'_toNat]
    simp only [Nat.shiftRight_zero]
    have := lo.isLt
    omega
  rw [← signed_toNat, ht, rateOf]

theorem wordOf_one_of_32 (b : BitVec 32) : wordOf b 1 = (b.extractLsb' 24 8).setWidth 24 := by
  rw [wordOf_eq_extractLsb']
  apply BitVec.eq_of_toNat_eq
  simp [Nat.shiftRight_eq_div_pow]
  omega

/-- A write of MT_RATE1, by the rate it stores. -/
theorem rateWrite_of_clamped {v : Word} {b : BitVec 32}
    (hb : b = BitVec.ofInt 32 (max (-219902325) (min 219902325 (v.extractLsb' 0 8 ++ s.reg R.mtRate0).toInt))) :
    rateWrite v s =
      ((s.setReg R.mtRate0 (b.extractLsb' 0 24)).setReg R.mtRate1 ((b.extractLsb' 24 8).setWidth 24)).setMt
        (if s.bridged then { s.mt with rateNext := some b } else { s.mt with rate := b }) := by
  have h0 : wordOf b 0 = b.extractLsb' 0 24 := wordOf_eq_extractLsb' b 0
  unfold rateWrite
  simp only [rateOf_eq_toInt, ← hb, h0, wordOf_one_of_32, State.setReg_mt]
  split <;> rfl

/-- Settles O36: the clamped rate goes into the two registers and into one field of the unit. -/
theorem rateIsClamped : Obligations.RateIsClamped := by
  intro w v s h r b
  have he : exec (.mtRateCommit w v) s = .next (rateWrite v s) := act_of_true _ s h
  refine ⟨_, he, ?_⟩
  rw [rateWrite_of_clamped s (b := b) rfl]
  refine ⟨?_, ?_, rfl, rfl, fun a h0 h1 => ?_⟩
  · rw [State.reg_setMt, State.reg_setReg_ne _ _ (by decide), State.reg_setReg_self]
  · rw [State.reg_setMt, State.reg_setReg_self]
  · rw [State.reg_setMt, State.reg_setReg_ne _ _ h1, State.reg_setReg_ne _ _ h0]

/-! ## Values of several words -/

variable {s} in
theorem State.multi_congr {t : State} {a n : Nat} (h : ∀ b, a ≤ b → b < a + n → t.reg b = s.reg b) :
    t.multi a n = s.multi a n := by
  induction n generalizing a with
  | zero => rfl
  | succ n ih =>
    rw [State.multi, State.multi, h a (by omega) (by omega), ih (fun b h1 h2 => h b (by omega) (by omega))]

/-- Three registers as one value are the words put side by side, the last one on top. -/
theorem State.ofNat_multi_three (a : Nat) :
    BitVec.ofNat 72 (s.multi a 3) = s.reg (a + 2) ++ s.reg (a + 1) ++ s.reg a := by
  apply BitVec.eq_of_toNat_eq
  rw [toNat_append_eq_add, toNat_append_eq_add, BitVec.toNat_ofNat]
  simp only [State.multi]
  have h0 := (s.reg a).isLt
  have h1 := (s.reg (a + 1)).isLt
  have h2 := (s.reg (a + 1 + 1)).isLt
  have e : a + 1 + 1 = a + 2 := rfl
  rw [e] at h2 ⊢
  omega

/-! ## What a signal source leaves alone -/

/-- An event reaches no register below the interrupt units' pending words. -/
theorem reg_pendEvent_of_lt (n k : Nat) {a : Nat} (h : a < R.intcPend 0 0) : (pendEvent n k s).reg a = s.reg a := by
  have hp : ∀ (j : Nat) (t : State), (pendIn j n t).reg a = t.reg a := fun j t =>
    t.reg_setBit_ne _ _ (ne_of_lt (lt_of_lt_of_le h (by unfold R.intcPend; omega)))
  unfold pendEvent
  split
  · rfl
  · split
    · exact hp _ _
    · split
      · rw [hp, hp]
      · rfl

@[simp] theorem mem_pendEvent (n k : Nat) : (pendEvent n k s).mem = s.mem := by
  unfold pendEvent
  split
  · rfl
  · split
    · rfl
    · split <;> rfl

theorem reg_fire_of_lt (n : Nat) {a : Nat} (h : a < R.intcPend 0 0) : (fire n s).reg a = s.reg a := by
  have hp : (forAll [0, 1, 2, 3] (pendEvent n) s).reg a = s.reg a := by
    simp only [forAll, List.foldl, reg_pendEvent_of_lt _ _ _ h]
  unfold fire
  split
  · exact hp
  · exact hp

@[simp] theorem mem_fire (n : Nat) : (fire n s).mem = s.mem := by
  have hp : (forAll [0, 1, 2, 3] (pendEvent n) s).mem = s.mem := by
    simp only [forAll, List.foldl, mem_pendEvent]
  unfold fire
  split
  · exact hp
  · exact hp

@[simp] theorem cores_fire (n : Nat) : (fire n s).cores = s.cores := (fire_aside n s aside_self).cores

@[simp] theorem mt_fire (n : Nat) : (fire n s).mt = s.mt := (fire_aside n s aside_self).mt

/-! ## A compare channel (R38, R40) -/

theorem mtcCtrl_ne_mtcStat (n : Nat) : R.mtcCtrl n ≠ R.mtcStat n := by unfold R.mtcCtrl R.mtcStat; omega

theorem mtcCtrl_ne_mtcCmp (n : Nat) : R.mtcCtrl n ≠ R.mtcCmp n 2 := by unfold R.mtcCtrl R.mtcCmp; omega

/-- The state with the value of channel `n` committed, SKIP clear and the channel armed, before the value is judged. -/
def State.committed (n : Nat) (v : Word) (s : State) : State :=
  let s1 := s.setReg (R.mtcCmp n 2) v
  let s2 := s1.setMt { s1.mt with cmp := tabPut 0 s1.mt.cmp n (BitVec.ofNat 72 (s1.multi (R.mtcCmp n 0) 3)) }
  (s2.setFld (R.mtcStat n) 0 8 0).setBit (R.mtcCtrl n) 0 true

theorem armCompare_of_ahead {n : Nat} {v : Word} {s : State}
    (h : ¬(1 ≤ (s.committed n v).cmpBehind n ∧ (s.committed n v).cmpBehind n < 2 ^ 71)) :
    armCompare n v s = s.committed n v := if_neg h

theorem armCompare_of_past {n : Nat} {v : Word} {s : State}
    (h : 1 ≤ (s.committed n v).cmpBehind n ∧ (s.committed n v).cmpBehind n < 2 ^ 71) :
    armCompare n v s = compareFire true n (s.committed n v) := if_pos h

theorem State.reg_committed_ne {n a : Nat} (v : Word) (h1 : a ≠ R.mtcCmp n 2) (h2 : a ≠ R.mtcStat n) (h3 : a ≠ R.mtcCtrl n) :
    (s.committed n v).reg a = s.reg a := by
  rw [State.committed, State.reg_setBit_ne _ _ _ h3, State.reg_setFld_ne _ _ _ _ h2, State.reg_setMt, State.reg_setReg_ne _ _ h1]

theorem State.cmpVal_committed (n : Nat) (v : Word) :
    (s.committed n v).cmpVal n = v ++ s.reg (R.mtcCmp n 1) ++ s.reg (R.mtcCmp n 0) := by
  have h : (s.committed n v).cmpVal n = BitVec.ofNat 72 ((s.setReg (R.mtcCmp n 2) v).multi (R.mtcCmp n 0) 3) :=
    tabLook_tabPut_self _ _ _ _
  have h1 : R.mtcCmp n 0 + 1 = R.mtcCmp n 1 := by unfold R.mtcCmp; omega
  have h2 : R.mtcCmp n 0 + 2 = R.mtcCmp n 2 := by unfold R.mtcCmp; omega
  have n0 : R.mtcCmp n 0 ≠ R.mtcCmp n 2 := by unfold R.mtcCmp; omega
  have n1 : R.mtcCmp n 1 ≠ R.mtcCmp n 2 := by unfold R.mtcCmp; omega
  rw [h, State.ofNat_multi_three, h1, h2, State.reg_setReg_self, s.reg_setReg_ne _ n0, s.reg_setReg_ne _ n1]

theorem State.cmpBehind_committed (n : Nat) (v : Word) :
    (s.committed n v).cmpBehind n = (s.mt.ctr - (v ++ s.reg (R.mtcCmp n 1) ++ s.reg (R.mtcCmp n 0))).toNat := by
  rw [State.cmpBehind, State.cmpVal_committed]
  rfl

theorem State.armed_committed (n : Nat) (v : Word) : (s.committed n v).bit (R.mtcCtrl n) 0 = true :=
  State.bit_setBit_self _ _ _ (by omega)

theorem State.late_committed (n : Nat) (v : Word) : (s.committed n v).bit (R.mtcCtrl n) 3 = s.bit (R.mtcCtrl n) 3 := by
  rw [State.committed, State.bit_setBit_ne _ _ _ (by omega) (by omega)]
  apply State.bit_congr
  rw [State.reg_setFld_ne _ _ _ _ (mtcCtrl_ne_mtcStat n), State.reg_setMt, State.reg_setReg_ne _ _ (mtcCtrl_ne_mtcCmp n)]

theorem State.skip_committed (n : Nat) (v : Word) : (s.committed n v).fld (R.mtcStat n) 0 8 = 0 := by
  rw [State.committed, State.fld_congr (State.reg_setBit_ne _ _ _ (mtcCtrl_ne_mtcStat n).symm),
    State.fld_setFld_self _ _ _ (by omega), Nat.zero_mod]

/-- What channel `n` does as it fires late, before its value is reloaded. -/
def State.firedLate (n : Nat) (s : State) : State :=
  ppsStart true n (fire (0x45 + n) ((setMflag n s).setBit (R.mtcCtrl n) 3 true))

theorem compareFire_late (n : Nat) : compareFire true n s = reload n (s.firedLate n) := rfl

@[simp] theorem reg_ppsStart (late : Bool) (n a : Nat) : (ppsStart late n s).reg a = s.reg a := by
  unfold ppsStart; split <;> rfl

@[simp] theorem mem_ppsStart (late : Bool) (n : Nat) : (ppsStart late n s).mem = s.mem := by
  unfold ppsStart; split <;> rfl

@[simp] theorem cores_ppsStart (late : Bool) (n : Nat) : (ppsStart late n s).cores = s.cores := by
  unfold ppsStart; split <;> rfl

@[simp] theorem mem_setMflag (n : Nat) : (setMflag n s).mem = s.mem := by
  unfold setMflag; split <;> rfl

@[simp] theorem cores_setMflag (n : Nat) : (setMflag n s).cores = s.cores := by
  unfold setMflag; split <;> rfl

theorem reg_setMflag_ne (n : Nat) {a : Nat} (h0 : a ≠ R.mtMflag0) (h1 : a ≠ R.mtMflag1) : (setMflag n s).reg a = s.reg a := by
  unfold setMflag
  split
  · exact s.reg_setBit_ne _ _ h0
  · exact s.reg_setBit_ne _ _ h1

/-- Of the channels' registers a late match writes the channel's own MTCn_CTRL alone. -/
theorem State.reg_firedLate (n : Nat) {a : Nat} (h0 : R.mtcCmp 0 0 ≤ a) (h1 : a < R.intcPend 0 0) :
    (s.firedLate n).reg a = (s.setBit (R.mtcCtrl n) 3 true).reg a := by
  have hm : (setMflag n s).reg a = s.reg a :=
    reg_setMflag_ne s n (ne_of_gt (lt_of_lt_of_le (by decide) h0)) (ne_of_gt (lt_of_lt_of_le (by decide) h0))
  rw [State.firedLate, reg_ppsStart, reg_fire_of_lt _ _ h1, State.reg_setBit_congr hm]

@[simp] theorem State.mem_firedLate (n : Nat) : (s.firedLate n).mem = s.mem := by
  simp [State.firedLate]

@[simp] theorem State.cores_firedLate (n : Nat) : (s.firedLate n).cores = s.cores := by
  simp [State.firedLate]

/-- With no interval a match disarms the channel (R40). -/
theorem reload_of_noInterval {n : Nat} {s : State} (h : s.multi (R.mtcIvl n 0) 2 = 0) :
    reload n s = s.setBit (R.mtcCtrl n) 0 false := by
  have he : s.effIvl n = 0 := if_pos h
  unfold reload
  rw [if_pos he]

/-- The interval of a channel outlives the write of its compare value and the late match. -/
theorem State.interval_firedLate_committed {n : Nat} (hn : n < 32) (v : Word) :
    ((s.committed n v).firedLate n).multi (R.mtcIvl n 0) 2 = s.multi (R.mtcIvl n 0) 2 := by
  apply State.multi_congr
  intro a h0 h1
  unfold R.mtcIvl at h0 h1
  rw [State.reg_firedLate _ _ (by unfold R.mtcCmp; omega) (by unfold R.intcPend; omega),
    State.reg_setBit_ne _ _ _ (by unfold R.mtcCtrl; omega)]
  exact s.reg_committed_ne v (by unfold R.mtcCmp; omega) (by unfold R.mtcStat; omega) (by unfold R.mtcCtrl; omega)

/-- A value in the past with no interval: the late match, and the channel is disarmed again. -/
theorem armCompare_of_past_noInterval {n : Nat} (hn : n < 32) {v : Word} {s : State}
    (h : 1 ≤ (s.committed n v).cmpBehind n ∧ (s.committed n v).cmpBehind n < 2 ^ 71) (hi : s.multi (R.mtcIvl n 0) 2 = 0) :
    armCompare n v s = ((s.committed n v).firedLate n).setBit (R.mtcCtrl n) 0 false := by
  rw [armCompare_of_past h, compareFire_late]
  exact reload_of_noInterval ((s.interval_firedLate_committed hn v).trans hi)

theorem State.late_firedLate {n : Nat} (hn : n < 32) : (s.firedLate n).bit (R.mtcCtrl n) 3 = true := by
  rw [State.bit_congr (s.reg_firedLate n (by unfold R.mtcCmp R.mtcCtrl; omega) (by unfold R.intcPend R.mtcCtrl; omega))]
  exact s.bit_setBit_self _ _ (by omega)

theorem State.skip_firedLate {n : Nat} (hn : n < 32) : (s.firedLate n).fld (R.mtcStat n) 0 8 = s.fld (R.mtcStat n) 0 8 := by
  apply State.fld_congr
  rw [State.reg_firedLate _ _ (by unfold R.mtcCmp R.mtcStat; omega) (by unfold R.intcPend R.mtcStat; omega),
    State.reg_setBit_ne _ _ _ (mtcCtrl_ne_mtcStat n).symm]

@[simp] theorem mt_plainWrite (a : Nat) (v : Word) : (plainWrite a v s).mt = s.mt := by
  unfold plainWrite; split <;> rfl

@[simp] theorem fab_plainWrite (a : Nat) (v : Word) : (plainWrite a v s).fab = s.fab := by
  unfold plainWrite; split <;> rfl

theorem reg_plainWrite_ne {a b : Nat} (v : Word) (h : b ≠ a) : (plainWrite a v s).reg b = s.reg b := by
  unfold plainWrite
  split
  · rfl
  · exact s.reg_setReg_ne _ h

/-- A write of MTCn_CTRL with DISARM disarms after the plain write. -/
theorem mtcCtrlWrite_disarm (n : Nat) (v : Word) :
    mtcCtrlWrite n (setBits v 1 1 1) s = (plainWrite (R.mtcCtrl n) (setBits v 1 1 1) s).setBit (R.mtcCtrl n) 0 false := by
  have hv : bitOf (setBits v 1 1 1) 1 = true := by
    rw [bitOf, bits_setBits_self _ _ (by omega)]; rfl
  unfold mtcCtrlWrite
  rw [if_pos hv]

/-- Settles O37: the value is judged once the channel is armed; with no interval the late match's reload disarms it. -/
theorem compareArming : Obligations.CompareArming := by
  intro w n v s
  constructor
  · intro h cmp behind
    have he : exec (.armCompare w n v) s = .next (armCompare n.val v s) := act_of_true _ s h
    have hb : (s.committed n.val v).cmpBehind n.val = behind := s.cmpBehind_committed n.val v
    refine ⟨fun ha => ⟨_, he, ?_⟩, fun hp hi => ⟨_, he, ?_⟩⟩
    · rw [← hb] at ha
      rw [armCompare_of_ahead ha]
      exact ⟨s.armed_committed n.val v, s.skip_committed n.val v, s.cmpVal_committed n.val v, s.late_committed n.val v,
        rfl, rfl, rfl⟩
    · rw [← hb] at hp
      rw [armCompare_of_past_noInterval n.isLt hp hi]
      refine ⟨State.bit_setBit_self _ _ _ (by omega), ?_, ?_, ?_, ?_⟩
      · rw [State.bit_setBit_ne _ _ _ (by omega) (by omega)]
        exact State.late_firedLate _ n.isLt
      · rw [State.fld_congr (State.reg_setBit_ne _ _ _ (mtcCtrl_ne_mtcStat n.val).symm), State.skip_firedLate _ n.isLt]
        exact s.skip_committed n.val v
      · rw [State.setBit_mem, State.mem_firedLate]; rfl
      · rw [State.setBit_cores, State.cores_firedLate]; rfl
  · intro h
    have he : exec (.compareDisarm w n v) s = .next (mtcCtrlWrite n.val (setBits v 1 1 1) s) := act_of_true _ s h
    refine ⟨_, he, ?_⟩
    rw [mtcCtrlWrite_disarm]
    refine ⟨State.bit_setBit_self _ _ _ (by omega), ?_, ?_, fun a ha => ?_⟩
    · rw [State.setBit_mt, mt_plainWrite]
    · rw [State.setBit_fab, fab_plainWrite]
    · rw [State.reg_setBit_ne _ _ _ ha, reg_plainWrite_ne _ _ ha]

end Sys2Proof.Machine

/-! # Queues

The chapter 07_forwarding_classes_queues.md: the cells of a queue and their words (R217), and push, head push, pop and peek (R219,
R221). -/

namespace Sys2Proof.Machine

open Sys2Proof

variable (s : State)

/-! ## A word that a port stores -/

theorem Memory.word_setWord_ne (m : Memory) {w x : Nat} (v : Word) (h : x ≠ w) : (m.setWord w v).word x = m.word x := by
  unfold Memory.word
  rw [m.octet_setWord_ne v (by omega), m.octet_setWord_ne v (by omega), m.octet_setWord_ne v (by omega)]

theorem portStore_mem (w : Nat) (v : Word) :
    (portStore w v s).mem = s.mem.setWord w (if s.flipArmed w then v ^^^ s.reg R.eccFlipd else v) := by
  unfold portStore when
  cases s.flipArmed w <;> cases s.octMode w <;> rfl

theorem portStore_dmaPost (w : Nat) (v : Word) : (portStore w v s).dmaPost = s.dmaPost := by
  unfold portStore when
  cases s.flipArmed w <;> cases s.octMode w <;> rfl

theorem portWrite_mem (w : Nat) (v : Word) :
    (portWrite w v s).mem = s.mem.setWord w (if s.flipArmed w then v ^^^ s.reg R.eccFlipd else v) :=
  portStore_mem _ w v

theorem portWrite_dmaPost (w : Nat) (v : Word) : (portWrite w v s).dmaPost = s.dmaPost := portStore_dmaPost _ w v

theorem portWrite_qm (w : Nat) (v : Word) : (portWrite w v s).qm = s.qm := (portWrite_aside w v s aside_self).qm

theorem State.flipArmed_of_disarmed {s : State} (h : s.bit R.eccFlipsel 8 = false) (w : Nat) : s.flipArmed w = false := by
  rw [State.flipArmed, h, Bool.false_and]

/-! ## The memory of the cells (R217) -/

/-- Word `a` lies in the memory of the cells. -/
def inCells (a : Nat) : Prop := 0x840000 ≤ a ∧ a < 0x850000

theorem inCells_cellAt (c : Nat) : inCells (cellAt c) := by unfold inCells cellAt; omega

theorem inCells_cellAt_succ (c : Nat) : inCells (cellAt c + 1) := by unfold inCells cellAt; omega

/-- The second word of a cell is the first of none. -/
theorem cellAt_ne_cellAt_succ (x c : Nat) : cellAt x ≠ cellAt c + 1 := by unfold cellAt; omega

/-- The cells lie in one bank. -/
theorem bankOf_of_inCells {a : Nat} (h : inCells a) : bankOf a = bankOf 0x840000 := by
  unfold inCells at h
  have hb : 16 + (a - 0x800000) / 0x20000 = 18 := by omega
  unfold bankOf
  rw [if_neg (by omega), if_pos (by omega), hb]
  rfl

/-- `t` differs from `s` neither in a queue nor in the posted writes, and in no memory but that of the cells. -/
structure SameButCells (s t : State) : Prop where
  qm : t.qm = s.qm
  dmaPost : t.dmaPost = s.dmaPost
  octet : ∀ a, a < 3 * 0x840000 ∨ 3 * 0x850000 ≤ a → t.mem.octet a = s.mem.octet a

theorem SameButCells.trans {s t u : State} (h : SameButCells s t) (h' : SameButCells t u) : SameButCells s u :=
  ⟨h'.qm.trans h.qm, h'.dmaPost.trans h.dmaPost, fun a ha => (h'.octet a ha).trans (h.octet a ha)⟩

theorem SameButCells.postedAt {s t : State} (h : SameButCells s t) (a : Nat) : t.postedAt a = s.postedAt a := by
  unfold State.postedAt
  rw [h.dmaPost]

section CellWrite

variable {s} {a : Nat} (v : Word) (ha : inCells a) (hp : s.postedAt 0x840000 = false)

include ha hp

/-- No posted write waits at the cells' port, so a write of a cell is the port's own. -/
theorem engWrite_of_inCells : engWrite a v s = portWrite a v s := by
  have h : s.postedAt a = false := by
    rw [State.postedAt, bankOf_of_inCells ha]
    exact hp
  rw [engWrite, landFor, if_neg (by simp [h])]

theorem sameButCells_engWrite : SameButCells s (engWrite a v s) := by
  rw [engWrite_of_inCells v ha hp]
  refine ⟨portWrite_qm s a v, portWrite_dmaPost s a v, fun b hb => ?_⟩
  rw [portWrite_mem]
  unfold inCells at ha
  exact s.mem.octet_setWord_ne _ (by omega)

theorem word_engWrite_self (hf : s.bit R.eccFlipsel 8 = false) : (engWrite a v s).mem.word a = v := by
  rw [engWrite_of_inCells v ha hp, portWrite_mem, State.flipArmed_of_disarmed hf]
  exact s.mem.word_setWord_self a v

theorem word_engWrite_ne {x : Nat} (hx : x ≠ a) : (engWrite a v s).mem.word x = s.mem.word x := by
  rw [engWrite_of_inCells v ha hp, portWrite_mem, s.mem.word_setWord_ne _ hx]

end CellWrite

/-- `t` is `s` after the cell `c` was written with `v` and linked: its first word holds `v` where no flip is armed (R355). -/
structure CellFilled (c : Nat) (v : Word) (s t : State) : Prop where
  same : SameButCells s t
  word : s.bit R.eccFlipsel 8 = false → t.mem.word (cellAt c) = v

variable {s}

theorem cellFilled_engWrite (c : Nat) (v : Word) (hp : s.postedAt 0x840000 = false) :
    CellFilled c v s (engWrite (cellAt c) v s) :=
  ⟨sameButCells_engWrite v (inCells_cellAt c) hp, word_engWrite_self v (inCells_cellAt c) hp⟩

/-- A link word that is written after the word of a cell leaves that word. -/
theorem CellFilled.link {c : Nat} {v : Word} {t : State} (h : CellFilled c v s t) (hp : s.postedAt 0x840000 = false)
    (x : Nat) (v' : Word) : CellFilled c v s (engWrite (cellAt x + 1) v' t) := by
  have hp' : t.postedAt 0x840000 = false := (h.same.postedAt _).trans hp
  refine ⟨h.same.trans (sameButCells_engWrite v' (inCells_cellAt_succ x) hp'), fun hf => ?_⟩
  rw [word_engWrite_ne v' (inCells_cellAt_succ x) hp' (cellAt_ne_cellAt_succ c x), h.word hf]

theorem CellFilled.linkAfter {c : Nat} {v : Word} {t : State} (h : CellFilled c v s t) (hp : s.postedAt 0x840000 = false)
    (l : List (Nat × Word)) (x : Nat) : CellFilled c v s (linkAfter l x t) := by
  unfold Machine.linkAfter
  cases l.getLast? with
  | none => exact h
  | some e => exact h.link hp e.1 _

/-! ## The cells of a queue -/

theorem State.queue_congr {t : State} (h : t.qm = s.qm) (m : Nat) : t.queue m = s.queue m := by
  rw [State.queue, State.queue, h]

theorem State.queue_setQueue_self (n : Nat) (x : QueueSt) : (s.setQueue n x).queue n = x :=
  tabLook_tabPut_self _ _ _ _

theorem State.queue_setQueue_ne {n m : Nat} (x : QueueSt) (h : m ≠ n) : (s.setQueue n x).queue m = s.queue m :=
  tabLook_tabPut_ne _ _ _ _ h.symm

theorem cells_setCells (n : Nat) (l : List (Nat × Word)) : ((setCells n l s).queue n).cells = l := by
  unfold setCells
  rw [State.queue_setQueue_self]
  cases l with
  | nil => simp [QueueSt.empty]
  | cons e l => cases (s.queue n).cells <;> rfl

theorem queue_setCells_ne {n m : Nat} (l : List (Nat × Word)) (h : m ≠ n) : (setCells n l s).queue m = s.queue m := by
  unfold setCells
  rw [State.queue_setQueue_ne _ h]
  exact State.queue_congr rfl m

/-- Every other queue and all memory but that of the cells are as they were. -/
def QueueFrame (n : Nat) (s t : State) : Prop :=
  (∀ m, m ≠ n → t.queue m = s.queue m) ∧
    ∀ a, a < 3 * 0x840000 ∨ 3 * 0x850000 ≤ a → t.mem.octet a = s.mem.octet a

theorem queueFrame_setCells {t : State} (h : SameButCells s t) (n : Nat) (l : List (Nat × Word)) :
    QueueFrame n s (setCells n l t) :=
  ⟨fun m hm => (queue_setCells_ne l hm).trans (State.queue_congr h.qm m), h.octet⟩

/-! ## Push and head push (R219, R221) -/

theorem qPush_of_room {n : Nat} {v : Word} (hv : v ≠ 0xFFFFFF) (hf : s.qFull n = false)
    (hc : s.cellOk (s.qClass n) = true) :
    qPush n v s = (true, putTail n (s.queue n).cells s.newCell v s.drawn) := by
  unfold qPush
  rw [if_neg (by simpa using hv), hf]
  exact if_pos hc

theorem qPushHead_of_room {n : Nat} {v : Word} (hv : v ≠ 0xFFFFFF) (hf : s.qFull n = false)
    (hc : s.cellOk (s.qClass n) = true) : qPushHead n v s = (true, putHead n v s) := by
  unfold qPushHead
  rw [if_neg (by simpa using hv), if_neg (by simp [hf]), if_pos hc]

theorem qPush_ones (n : Nat) : qPush n 0xFFFFFF s = (false, s.count (R.qmCounters 0)) := rfl

theorem qPushHead_ones (n : Nat) : qPushHead n 0xFFFFFF s = (false, s.count (R.qmCounters 0)) := rfl

/-- The writes of a cell that goes behind a queue. -/
theorem putTail_eq_setCells {n c : Nat} {v : Word} (l : List (Nat × Word)) (hp : s.postedAt 0x840000 = false) :
    ∃ t, CellFilled c v s t ∧ putTail n l c v s = setCells n (l ++ [(c, v)]) t :=
  ⟨_, (cellFilled_engWrite c v hp).linkAfter hp l c, rfl⟩

/-- The writes of a cell that goes before a queue's head. -/
theorem putHead_eq_setCells {n : Nat} {v : Word} (hp : s.postedAt 0x840000 = false) :
    ∃ t, CellFilled s.newCell v s.drawn t ∧ putHead n v s = setCells n ((s.newCell, v) :: (s.queue n).cells) t := by
  have h : CellFilled s.newCell v s.drawn (engWrite (cellAt s.newCell) v s.drawn) := cellFilled_engWrite s.newCell v hp
  unfold putHead
  cases (s.queue n).cells with
  | nil => exact ⟨_, h, rfl⟩
  | cons e l => exact ⟨_, h.link hp s.newCell _, rfl⟩

/-! ## Pop and peek (R219) -/

theorem qPop_fst (n : Nat) : (qPop n s).1 = (s.queue n).words.headD 0xFFFFFF := by
  unfold qPop QueueSt.words
  cases (s.queue n).cells <;> rfl

theorem words_qPop (n : Nat) : ((qPop n s).2.queue n).words = (s.queue n).words.tail := by
  unfold qPop
  cases h : (s.queue n).cells with
  | nil => simp [QueueSt.words, h]
  | cons e l =>
    rw [State.queue_setQueue_self]
    cases l <;> simp [QueueSt.words, QueueSt.empty, h]

theorem queue_qPop_ne {n m : Nat} (h : m ≠ n) : (qPop n s).2.queue m = s.queue m := by
  unfold qPop
  cases (s.queue n).cells with
  | nil => rfl
  | cons e l => exact State.queue_setQueue_ne _ h

@[simp] theorem regs_qPop (n : Nat) : (qPop n s).2.regs = s.regs := by
  unfold qPop
  cases (s.queue n).cells <;> rfl

@[simp] theorem mem_qPop (n : Nat) : (qPop n s).2.mem = s.mem := by
  unfold qPop
  cases (s.queue n).cells <;> rfl

theorem readCmd_of_true {p : Bool} (f : State → Word × State) (h : p = true) :
    readCmd p f s = .next { (f s).2 with rdata := (f s).1 } := if_pos h

/-- Settles O38: a push fills its cell before the queue's list takes it; a pop writes the queue's list alone. -/
theorem queueOperations : Obligations.QueueOperations := by
  intro w n v s q others held
  refine ⟨fun h => ?_, fun h => ?_, fun h => ?_, fun h => readCmd_of_true _ h⟩
  · have he (v : Word) : exec (.queuePush w n v) s = .next (qPush n.val v s).2 :=
      act_of_true (fun s => (qPush n.val v s).2) s h
    refine ⟨fun hv hf hc hp => ⟨_, he v, ?_⟩, (he 0xFFFFFF).trans (by rw [qPush_ones])⟩
    obtain ⟨t, ht, e⟩ := putTail_eq_setCells (s := s.drawn) (n := n.val) (c := s.newCell) (v := v) (s.queue n.val).cells hp
    rw [qPush_of_room hv hf hc, e]
    refine ⟨?_, ⟨s.newCell, ?_, ht.word⟩, queueFrame_setCells ht.same n.val _⟩
    · rw [QueueSt.words, cells_setCells, List.map_append]
      rfl
    · rw [cells_setCells, List.getLast?_concat]
  · have he (v : Word) : exec (.queuePushhead w n v) s = .next (qPushHead n.val v s).2 :=
      act_of_true (fun s => (qPushHead n.val v s).2) s h
    refine ⟨fun hv hf hc hp => ⟨_, he v, ?_⟩, (he 0xFFFFFF).trans (by rw [qPushHead_ones])⟩
    obtain ⟨t, ht, e⟩ := putHead_eq_setCells (n := n.val) (v := v) hp
    rw [qPushHead_of_room hv hf hc, e]
    refine ⟨?_, ⟨s.newCell, ?_, ht.word⟩, queueFrame_setCells ht.same n.val _⟩
    · rw [QueueSt.words, cells_setCells]
      rfl
    · rw [cells_setCells]
      rfl
  · exact ⟨_, readCmd_of_true _ h, qPop_fst n.val, words_qPop n.val,
      ⟨fun m hm => queue_qPop_ne hm, fun a _ => congrArg (·.octet a) (mem_qPop n.val)⟩, regs_qPop n.val, mem_qPop n.val⟩

end Sys2Proof.Machine

/-! # The command port

The chapter 09_command_port.md: the status of a packet that fails a check (R260, R261), and the final reply of a command that needs
no check (R262). -/

namespace Sys2Proof.Machine

open Sys2Proof

variable {s : State}

/-! ## Packets that fail a check (R260) -/

/-- The status of the first of the ten checks of R260 that a packet fails; DONE if it passes them. -/
def State.verdict (s : State) (p : Packet) : Nat :=
  if s.packetStatus p = St.done then s.cmdStatus p.t (pOpc p) (pParams p) else s.packetStatus p

/-- The counts of a packet that a check refuses: a duplicate tag, a bad length, a bad CRC. -/
def State.refusalCounted (s : State) (p : Packet) : State :=
  when (s.verdict p == St.badCrc) (tCount p.t 1) (when (s.verdict p == St.badLength) (tCount p.t 2)
    (when (s.packetStatus p == St.busy && (s.recOf p.t (pTag p)).isSome) (tCount p.t 5) s))

theorem State.verdict_of_packetStatus {p : Packet} (h : s.packetStatus p ≠ St.done) : s.verdict p = s.packetStatus p :=
  if_neg h

theorem State.verdict_of_cmdStatus {p : Packet} (h : s.packetStatus p = St.done) :
    s.verdict p = s.cmdStatus p.t (pOpc p) (pParams p) :=
  if_pos h

theorem judgePacket_of_refused {p : Packet} (h : s.verdict p ≠ St.done) :
    judgePacket p s = plainReply p.t (octAt p.octets 2) (pTag p) (s.verdict p) (s.refusalCounted p) :=
  if_neg h

theorem judgePacket_of_passed {p : Packet} {r : Nat} (h : s.verdict p = St.done) (hr : s.freeRec p.t = some r) :
    judgePacket p s = journal p r s := by
  have e : judgePacket p s = match s.freeRec p.t with | some r => journal p r s | none => s := if_pos h
  rw [e, hr]

/-- `t` is `s` but for registers and the command port: the reply stores are as they were, and so is every word of memory and its code. -/
structure Recounted (s t : State) : Prop where
  mem : t.mem = s.mem
  cmdp : t.cmdp = s.cmdp
  outstanding : ∀ x, t.outstanding x = s.outstanding x

theorem Recounted.refl (s : State) : Recounted s s := ⟨rfl, rfl, fun _ => rfl⟩

/-- A counter is a register, and no record of the journal is one. -/
theorem Recounted.when_tCount {t : State} (h : Recounted s t) (p : Bool) (x m : Nat) : Recounted s (when p (tCount x m) t) := by
  cases p with
  | false => exact h
  | true => exact ⟨h.mem, h.cmdp, h.outstanding⟩

theorem State.recounted_refusalCounted (s : State) (p : Packet) : Recounted s (s.refusalCounted p) :=
  (((Recounted.refl s).when_tCount _ _ _).when_tCount _ _ _).when_tCount _ _ _

theorem replies_plainReply_self (t : Nat) (opc tag : Octet) (status : Nat) :
    (plainReply t opc tag status s).replies t =
      s.replies t ++ [{ rcd := 102, opc := opc, tag := tag, status := O status, result := [] }] :=
  tabLook_tabPut_self _ _ _ _

theorem replies_plainReply_ne {t x : Nat} (opc tag : Octet) (status : Nat) (h : x ≠ t) :
    (plainReply t opc tag status s).replies x = s.replies x :=
  tabLook_tabPut_ne _ _ _ _ h.symm

theorem State.replies_congr {t : State} (h : t.cmdp = s.cmdp) (x : Nat) : t.replies x = s.replies x := by
  rw [State.replies, h, State.replies]

/-- A packet that is refused leaves one reply on its transport, and nothing else there, in memory or among the records. -/
structure Refused (p : Packet) (status : Nat) (s t : State) : Prop where
  reply : t.replies p.t =
    s.replies p.t ++ [{ rcd := 102, opc := octAt p.octets 2, tag := pTag p, status := O status, result := [] }]
  mem : t.mem = s.mem
  others : ∀ x, x ≠ p.t → t.replies x = s.replies x
  outstanding : ∀ x, t.outstanding x = s.outstanding x

theorem refused_judgePacket {p : Packet} (h : s.verdict p ≠ St.done) : Refused p (s.verdict p) s (judgePacket p s) := by
  have hc := s.recounted_refusalCounted p
  rw [judgePacket_of_refused h]
  refine ⟨?_, hc.mem, fun x hx => ?_, hc.outstanding⟩
  · rw [replies_plainReply_self, State.replies_congr hc.cmdp]
  · rw [replies_plainReply_ne _ _ _ hx, State.replies_congr hc.cmdp]

/-- Settles O48: the verdict is that of steps 1 to 8 or, where these pass, that of steps 9 and 10. -/
theorem packetsAreJudged : Obligations.PacketsAreJudged := by
  intro p s
  refine ⟨fun h => ?_, fun h hc => ?_, fun h hc r hr => ?_⟩
  · have hv := State.verdict_of_packetStatus h
    obtain ⟨hr, hm, ho, hn⟩ := refused_judgePacket (hv ▸ h)
    exact ⟨hv ▸ hr, hm, ho, hn⟩
  · have hv := State.verdict_of_cmdStatus h
    obtain ⟨hr, hm, ho, hn⟩ := refused_judgePacket (hv ▸ hc)
    exact ⟨hv ▸ hr, hm, ho, hn⟩
  · exact judgePacket_of_passed ((State.verdict_of_cmdStatus h).trans hc) hr

end Sys2Proof.Machine

/-! # PING and ECHO

The chapter 09_command_port.md: the final reply of a command that reads nothing and needs no check (R261, R262). The reply is made of the
record as it stands once its STATE is EFFECT (R297), and that write takes an armed flip (R355): with a flip that its code does not
correct, opcode and tag of the reply are fields of `Config.badWord`, which the spec leaves open (log 69) and which has no body. So
O47 follows from neither side of it: `pingAndEchoReply_of_corrected` proves it for a `badWord` that gives the word as it was written, and
`badWord_of_pingAndEchoReply` shows a field of `badWord` that it fixes. Where no flip is armed both commands reply as it says. -/

namespace Sys2Proof.Machine

open Sys2Proof

variable {s : State}

/-! ## A word of link memory that an engine writes -/

/-- The errors that a write of word `w` leaves in its code: none but an armed flip (R355). -/
def State.flipMask (s : State) (w : Nat) : BitVec 32 :=
  if s.flipArmed w then BitVec.ofNat 32 ((s.reg R.eccFlipd).toNat + 2 ^ 24 * bits (s.reg R.eccFlipc) 0 8) else 0

/-- The word that a write of `v` to word `w` stores: an armed flip changes it (R355). -/
def State.flipped (s : State) (w : Nat) (v : Word) : Word := if s.flipArmed w then v ^^^ s.reg R.eccFlipd else v

theorem cmdp_portWrite (w : Nat) (v : Word) : (portWrite w v s).cmdp = s.cmdp := by
  unfold portWrite portStore when
  cases State.flipArmed _ w <;> cases State.octMode _ w <;> rfl

theorem flips_portWrite_self {w : Nat} (v : Word) (h : s.octMode w = false) :
    tabLook 0 (portWrite w v s).ecc.flips w = s.flipMask w := by
  let t := s.setEcc { s.ecc with merge := dropMerge w s.ecc.merge }
  have ho : t.octMode w = false := h
  have ha : t.flipArmed w = s.flipArmed w := rfl
  have e : (portWrite w v s).ecc.flips = tabPut 0 s.ecc.flips w (s.flipMask w) := by
    unfold portWrite portStore when State.flipMask
    rw [ho, ha]
    cases s.flipArmed w <;> rfl
  rw [e, tabLook_tabPut_self]

/-- An engine reads back what it wrote, through the errors that an armed flip left. -/
theorem mw_portWrite_self {w : Nat} (v : Word) (ho : s.octMode w = false) (hf : flashRange w = false) :
    (portWrite w v s).mw w = codeWord w (s.flipMask w) (s.flipped w v) := by
  rw [State.mw, hf, flips_portWrite_self v ho, portWrite_mem, Memory.word_setWord_self]
  rfl

/-! ## The reply stores, while posted writes land (R398)

A posted write that lands may drain a merge buffer (R351), and that may queue a notice; replies it leaves alone. -/

theorem forAll_frame {α β : Type} (g : State → α) {l : List β} {f : β → State → State} (h : ∀ x t, g (f x t) = g t) (s : State) :
    g (forAll l f s) = g s := by
  unfold forAll
  induction l generalizing s with
  | nil => rfl
  | cons x l ih => rw [List.foldl_cons, ih, h]

theorem cmdp_pendEvent (n k : Nat) (s : State) : (pendEvent n k s).cmdp = s.cmdp := by
  unfold pendEvent
  split
  · rfl
  · split
    · rfl
    · split <;> rfl

theorem cmdp_fire (n : Nat) : (fire n s).cmdp = s.cmdp := by
  unfold fire
  split <;> exact forAll_frame State.cmdp (cmdp_pendEvent n) s

theorem cmdp_portStore (w : Nat) (v : Word) (s : State) : (portStore w v s).cmdp = s.cmdp := by
  unfold portStore when
  cases s.flipArmed w <;> cases s.octMode w <;> rfl

theorem cmdp_portStoreOctet (w lane : Nat) (o : Octet) : (portStoreOctet w lane o s).cmdp = s.cmdp := by
  unfold portStoreOctet when
  cases s.flipArmed w <;> rfl

theorem cmdp_count (a : Nat) : (s.count a).cmdp = s.cmdp := rfl

theorem cmdp_recordUe (init kind w : Nat) (s : State) : (recordUe init kind w s).cmdp = s.cmdp := by
  rw [recordUe, State.setReg_cmdp, State.setReg_cmdp, cmdp_count]

/-- A write-back of a corrected word, and the record of it. -/
theorem cmdp_recordCe_portStore (w : Nat) (v : Word) (s : State) : (recordCe w (portStore w v s)).cmdp = s.cmdp := by
  rw [recordCe, State.setReg_cmdp, cmdp_count, cmdp_portStore]

theorem cmdp_ite_drawn (c : Bool) : (if c then s.drawn else s).cmdp = s.cmdp := by cases c <;> rfl

theorem cmdp_portProbe (init w : Nat) : (portProbe init w s).2.2.cmdp = s.cmdp := by
  unfold portProbe
  split
  · split
    · rw [cmdp_recordUe]
    · dsimp only
      split
      · rw [cmdp_recordUe, cmdp_ite_drawn]
      · split
        · rfl
        · rw [cmdp_recordCe_portStore, cmdp_ite_drawn]
  · split
    · rfl
    · rw [cmdp_recordCe_portStore, State.drawn_cmdp]
    · rw [cmdp_recordUe, State.drawn_cmdp]

theorem cmdp_portFetch (init w : Nat) (s : State) : (portFetch init w s).2.2.cmdp = s.cmdp := cmdp_portProbe init w

theorem replies_sayReset (t : Nat) : (sayReset t s).cmdp.replies = s.cmdp.replies := by
  unfold sayReset pushNotice
  split
  · rfl
  · dsimp only
    split
    · split <;> rfl
    · rfl

theorem replies_pushNotice (code : Nat) (payload : List Octet) (t : Nat) (s : State) :
    (pushNotice code payload t s).cmdp.replies = s.cmdp.replies := by
  unfold pushNotice
  dsimp only
  split <;> rfl

theorem replies_noticeNow (n : LateNotice) : (noticeNow n s).cmdp.replies = s.cmdp.replies := by
  refine forAll_frame (fun t => t.cmdp.replies) (fun x t => ?_) s
  split
  · exact (replies_pushNotice _ _ _ _).trans (replies_sayReset _)
  · rfl

theorem replies_noticeFor (n : LateNotice) (s : State) : (noticeFor n s).cmdp.replies = s.cmdp.replies := by
  unfold noticeFor
  split
  · exact replies_noticeNow n
  · split <;> rfl

theorem replies_eccSignal (w : Nat) (s : State) : (eccSignal w s).cmdp.replies = s.cmdp.replies :=
  (replies_noticeFor _ _).trans (congrArg CmdpState.replies (cmdp_fire 0x12))

theorem replies_drainEntry (e : MergeEntry) (s : State) : (drainEntry e s).cmdp.replies = s.cmdp.replies := by
  have hr (w : Nat) (s : State) : (portFetch 14 w s).2.2.cmdp.replies = s.cmdp.replies :=
    congrArg CmdpState.replies (cmdp_portFetch 14 w s)
  have hw (w : Nat) (v : Word) (s : State) : (portStore w v s).cmdp.replies = s.cmdp.replies :=
    congrArg CmdpState.replies (cmdp_portStore w v s)
  unfold drainEntry
  dsimp only
  split
  · exact hw _ _ _
  · split
    · exact (replies_eccSignal _ _).trans (hr _ _)
    · exact (hw _ _ _).trans (hr _ _)

theorem replies_portWriteOctet (w lane : Nat) (o : Octet) (s : State) :
    (portWriteOctet w lane o s).cmdp.replies = s.cmdp.replies := by
  unfold portWriteOctet
  split
  · exact congrArg CmdpState.replies (cmdp_portStoreOctet w lane o)
  · split
    · dsimp only
      split
      · exact replies_drainEntry _ _
      · rfl
    · dsimp only
      split
      · split
        · exact replies_drainEntry _ _
        · rfl
      · rfl

theorem replies_landOne (p : Posted) (s : State) : (landOne p s).cmdp.replies = s.cmdp.replies := by
  unfold landOne
  split
  · exact congrArg CmdpState.replies (cmdp_portWrite p.word p.v)
  · exact replies_portWriteOctet _ _ _ _

theorem replies_landFor (a : Nat) : (landFor a s).cmdp.replies = s.cmdp.replies := by
  unfold landFor
  split
  · exact forAll_frame (fun t => t.cmdp.replies) replies_landOne _
  · rfl

theorem replies_engWrite (a : Nat) (v : Word) (t : Nat) : (engWrite a v s).replies t = s.replies t := by
  rw [State.replies, engWrite, cmdp_portWrite, replies_landFor, State.replies]

/-! ## Records (R296, R297) -/

/-- The records lie in one bank of link memory. -/
theorem bankOf_recAddr {r : Nat} (h : r < 102) : bankOf (recAddr r) = some 19 := by
  have hb : 16 + (recAddr r - 0x800000) / 0x20000 = 19 := by unfold recAddr; omega
  rw [bankOf, if_neg (by unfold recAddr; omega), if_pos (by unfold recAddr; omega), hb]

theorem flashRange_recAddr (r : Nat) : flashRange (recAddr r) = false := by
  have h : ¬ recAddr r < 0x500000 := by unfold recAddr; omega
  rw [flashRange, decide_eq_false h, Bool.and_false]

theorem octMode_recAddr {r : Nat} (h : r < 102) : s.octMode (recAddr r) = false := by
  simp [State.octMode, bankOf_recAddr h]

section SetRecState

variable {r : Nat} (x : Nat)

theorem replies_setRecState (t : Nat) : (setRecState r x s).replies t = s.replies t := replies_engWrite _ _ t

/-- A change of STATE stores the word of the record through whatever flip is armed once the posted writes have landed. -/
theorem mw_setRecState (hr : r < 102) :
    (setRecState r x s).mw (recAddr r) = codeWord (recAddr r) ((landFor (recAddr r) s).flipMask (recAddr r))
      ((landFor (recAddr r) s).flipped (recAddr r) (setBits (s.mw (recAddr r)) 0 3 x)) :=
  mw_portWrite_self _ (octMode_recAddr hr) (flashRange_recAddr r)

theorem landFor_of_not_posted {a : Nat} (hp : s.postedAt a = false) : landFor a s = s := by
  rw [landFor, hp]
  rfl

/-- With no flip armed the record reads as it was written. -/
theorem mw_setRecState_of_disarmed (hp : s.postedAt (recAddr r) = false) (hr : r < 102) (hf : s.bit R.eccFlipsel 8 = false) :
    (setRecState r x s).mw (recAddr r) = setBits (s.mw (recAddr r)) 0 3 x := by
  rw [mw_setRecState x hr, landFor_of_not_posted hp, State.flipMask, State.flipped, State.flipArmed_of_disarmed hf]
  rfl

end SetRecState

/-! ## The final reply (R261, R297) -/

/-- The reply of record `r`, under the opcode and the tag that it shows. -/
def State.replyOf (s : State) (r status : Nat) (result : List Octet) : Reply :=
  { rcd := r, opc := O (s.recOpc r), tag := O (s.recTag r), status := O status, result := result }

theorem replies_queueReply (r status : Nat) (result : List Octet) :
    (queueReply r status result s).replies (r / 17) = s.replies (r / 17) ++ [s.replyOf r status result] :=
  tabLook_tabPut_self _ _ _ _

/-- The final reply of an accepted command comes after those that wait, under the opcode and the tag that its record shows at EFFECT. -/
theorem replies_finalReply {r : Nat} (status : Nat) (result : List Octet) (h1 : s.recState r = 1) (hd : s.fwDown = false) :
    (finalReply r status result s).replies (r / 17) =
      s.replies (r / 17) ++ [(setRecState r 3 s).replyOf r status result] := by
  have e : (finalReply r status result s).replies (r / 17) =
      (setRecState r 4 (queueReply r status result (setRecState r 3 s))).replies (r / 17) := by
    unfold finalReply
    rw [if_neg (by omega), if_neg (by simp [hd])]
    dsimp only
    split <;> rfl
  rw [e, replies_setRecState, replies_queueReply, replies_setRecState]

/-- Where the record reads as it was written, EFFECT shows the opcode and the tag that it had. -/
theorem replyOf_setRecState {r x : Nat} (status : Nat) (result : List Octet)
    (hm : (setRecState r x s).mw (recAddr r) = setBits (s.mw (recAddr r)) 0 3 x) :
    (setRecState r x s).replyOf r status result = s.replyOf r status result := by
  simp only [State.replyOf, State.recOpc, State.recTag, hm]
  rw [bits_setBits_of_disjoint _ _ (by omega) (by omega), bits_setBits_of_disjoint _ _ (by omega) (by omega)]

/-! ## A command that reads nothing and needs no check -/

theorem fwTouch_of_none {p : Nat → Bool} (h : ∀ a, p a = false) : fwTouch p s = (false, s) := by
  have hn (l : List Nat) : l.filter p = [] := List.filter_eq_nil_iff.mpr fun a _ => by simp [h a]
  rw [fwTouch, hn, fwReads]

theorem exec_of_unchecked {i : Instr} {t : Transport} {tag : Octet} {opc r : Nat} {body : Nat → List Octet → State → State}
    (h : exec i s = command opc anyParams body t tag s) (hs : s.startsNext t tag opc r)
    (hn : ∀ a, cmdReads opc (s.recParams r) s a = false) : exec i s = .next (body r (s.recParams r) s) := by
  obtain ⟨-, hb, -⟩ := starts_of_command h r false s hs (fwTouch_of_none hn)
  exact hb rfl rfl

theorem tNum_lt (t : Transport) : tNum t < 6 := by
  cases t with
  | spi => decide
  | uart => decide
  | mb k => simp only [tNum]; omega

namespace State.startsNext

variable {t : Transport} {tag : Octet} {opc r : Nat} (h : s.startsNext t tag opc r)

include h

theorem lt : r < 102 := by
  have hm := List.mem_of_find?_eq_some h.1
  simp only [State.outstanding, recsOf, List.mem_filter, List.mem_map, List.mem_range] at hm
  obtain ⟨⟨k, hk, rfl⟩, -⟩ := hm
  have ht := tNum_lt t
  omega

theorem accepted : s.recState r = 1 := by
  have hb := h.2
  simp only [Bool.and_eq_true, beq_iff_eq] at hb
  obtain ⟨⟨⟨-, h1⟩, -⟩, -⟩ := hb
  exact h1

theorem fwUp : s.fwDown = false := by
  have hb := h.2
  simp only [State.serves, Bool.and_eq_true, Bool.not_eq_true'] at hb
  obtain ⟨⟨⟨⟨⟨-, hd⟩, -⟩, -⟩, -⟩, -⟩ := hb
  exact hd

end State.startsNext

/-! ## PING and ECHO -/

section PingAndEcho

variable {t : Transport} {tag : Octet} {r : Nat}

theorem answers_ping (h : s.startsNext t tag 0x00 r) :
    Answers (.ping t tag) s fun u =>
      u.replies (r / 17) = s.replies (r / 17) ++ [(setRecState r 3 s).replyOf r St.done []] :=
  ⟨_, exec_of_unchecked (body := pingBody) rfl h fun _ => rfl, replies_finalReply St.done [] h.accepted h.fwUp⟩

theorem answers_echo (h : s.startsNext t tag 0x73 r) :
    Answers (.echo t tag) s fun u =>
      u.replies (r / 17) = s.replies (r / 17) ++ [(setRecState r 3 s).replyOf r St.done (s.recParams r)] :=
  ⟨_, exec_of_unchecked (body := echoBody) rfl h fun _ => rfl, replies_finalReply St.done _ h.accepted h.fwUp⟩

/-- Record `r` reads back, once its STATE is EFFECT, as it was written. -/
def RecordReadsBack (s : State) (r : Nat) : Prop :=
  (setRecState r 3 s).mw (recAddr r) = setBits (s.mw (recAddr r)) 0 3 3

theorem answers_ping_of_readsBack (hm : RecordReadsBack s r) (h : s.startsNext t tag 0x00 r) :
    Answers (.ping t tag) s fun u => u.replies (r / 17) = s.replies (r / 17) ++
      [{ rcd := r, opc := O (s.recOpc r), tag := O (s.recTag r), status := 0x00, result := [] }] := by
  have ha := answers_ping h
  rw [replyOf_setRecState St.done [] hm] at ha
  exact ha

theorem answers_echo_of_readsBack (hm : RecordReadsBack s r) (h : s.startsNext t tag 0x73 r) :
    Answers (.echo t tag) s fun u => u.replies (r / 17) = s.replies (r / 17) ++
      [{ rcd := r, opc := O (s.recOpc r), tag := O (s.recTag r), status := 0x00, result := s.recParams r }] := by
  have ha := answers_echo h
  rw [replyOf_setRecState St.done (s.recParams r) hm] at ha
  exact ha

/-- With no flip armed, and no posted write at the records' port, both commands reply as O47 says. -/
theorem recordReadsBack_of_disarmed (hp : s.postedAt (recAddr r) = false) (hf : s.bit R.eccFlipsel 8 = false) (hr : r < 102) :
    RecordReadsBack s r :=
  mw_setRecState_of_disarmed 3 hp hr hf

end PingAndEcho

/-! ## A flip that the code does not correct -/

theorem codeWord_of_corrected (hb : ∀ w f v, Config.badWord w f v = v ^^^ W f.toNat) (w : Nat) (f : BitVec 32) (v : Word) :
    codeWord w f v = v ^^^ W f.toNat := by
  unfold codeWord
  split
  · next h => simp [h]
  · split
    · exact hb w f v
    · rfl

/-- The low bits of an armed mask are the flips of the word itself (R355). -/
theorem flipped_eq_xor_flipMask (w : Nat) (v : Word) : s.flipped w v = v ^^^ W (s.flipMask w).toNat := by
  unfold State.flipped State.flipMask
  split
  · congr 1
    apply BitVec.eq_of_toNat_eq
    simp only [BitVec.toNat_ofNat]
    omega
  · simp

/-- What was written is then read back through any flip. -/
theorem codeWord_flipped_of_corrected (hb : ∀ w f v, Config.badWord w f v = v ^^^ W f.toNat) (w : Nat) (v : Word) :
    codeWord w (s.flipMask w) (s.flipped w v) = v := by
  rw [codeWord_of_corrected hb, flipped_eq_xor_flipMask, BitVec.xor_assoc, BitVec.xor_self, BitVec.xor_zero]

/-- O47 where an engine takes a word that it cannot correct for the word that was written. -/
theorem pingAndEchoReply_of_corrected (hb : ∀ w f v, Config.badWord w f v = v ^^^ W f.toNat) :
    Obligations.PingAndEchoReply := by
  have hm (s : State) {r : Nat} (hr : r < 102) : RecordReadsBack s r := by
    rw [RecordReadsBack, mw_setRecState 3 hr, codeWord_flipped_of_corrected hb]
  exact fun t tag s r =>
    ⟨fun h => answers_ping_of_readsBack (hm s h.lt) h, fun h => answers_echo_of_readsBack (hm s h.lt) h⟩

theorem codeWord_of_badFlips {w : Nat} {f : BitVec 32} (v : Word) (h0 : f ≠ 0) (hb : badFlips f = true) :
    codeWord w f v = Config.badWord w f v := by
  rw [codeWord, if_neg h0, if_pos hb]

/-- A PING is accepted on SPI with tag 1 in record 0, and a flip of two bits is armed for the bank of the records. -/
def pingFlipped : State :=
  ((journal { t := 0, octets := [4, 0, 0x00, 1, 0, 0], whole := true } 0 State.reset).setReg R.eccFlipd 3).setReg R.eccFlipsel
    (W (0x100 + 19))

theorem pingFlipped_startsNext : pingFlipped.startsNext .spi 1 0x00 0 := by
  unfold State.startsNext
  decide +kernel

theorem pingFlipped_effect :
    pingFlipped.postedAt (recAddr 0) = false ∧ pingFlipped.recTag 0 = 1 ∧ pingFlipped.flipMask (recAddr 0) = 3 ∧
      pingFlipped.flipped (recAddr 0) (setBits (pingFlipped.mw (recAddr 0)) 0 3 3) = 0x40 := by
  decide +kernel

theorem recTag_effect_of_pingAndEchoReply (h : Obligations.PingAndEchoReply) {t : Transport} {tag : Octet} {r : Nat}
    (hs : s.startsNext t tag 0x00 r) : O ((setRecState r 3 s).recTag r) = O (s.recTag r) := by
  obtain ⟨hping, -⟩ := h t tag s r
  obtain ⟨u, hu, hsays⟩ := hping hs
  obtain ⟨v, hv, hdoes⟩ := answers_ping hs
  have huv : u = v := Host.Outcome.next.inj (hu.symm.trans hv)
  have hr := List.append_cancel_left (hdoes.symm.trans (huv ▸ hsays))
  exact congrArg Reply.tag (List.cons.inj hr).1

/-- `Obligations.PingAndEchoReply` gives a value to what an engine takes for a word that it cannot correct, which the spec leaves open:
the tag of the reply to `pingFlipped`'s PING is a field of that word. -/
theorem badWord_of_pingAndEchoReply (h : Obligations.PingAndEchoReply) :
    O (bits (Config.badWord (recAddr 0) 3 0x40) 6 8) = 1 := by
  obtain ⟨hp, htag, hmask, hword⟩ := pingFlipped_effect
  have ht := recTag_effect_of_pingAndEchoReply h pingFlipped_startsNext
  rwa [State.recTag, mw_setRecState 3 (by omega), landFor_of_not_posted hp, hmask, hword, codeWord_of_badFlips _ (by decide) (by decide), htag] at ht

end Sys2Proof.Machine

/-! # Instructions of the application cores: what completes and what traps

What an instruction of a ready core does, by the shared form of its meaning: a result in gd, a result in a pair, a new core, a new
program counter, or a synchronous exception (R305, R325, R326, R330). -/

namespace Sys2Proof.Machine

open Sys2Proof

section

variable {k : Fin 4} {i : Instr} {s : State} {d : BitVec 4} {word : Word} {legal priv : Bool}

/-- A legal instruction that the core's mode permits has its own effect on the state after its fetch. -/
theorem exec_of_legal {body : State → State} (hs : s.ready k) (h : exec i s = coreInstr k word legal priv body s)
    (hl : legal = true) (hp : priv = true → ((s.fetched k).core k).sup = true) :
    exec i s = .next (body (s.fetched k)) := by
  rw [h, coreInstr_of_ready hs, hl]
  cases hv : priv with
  | false => simp
  | true => simp [hp hv]

theorem putsReg_of_putReg {f : State → Word} {v : Word} (hs : s.ready k)
    (h : exec i s = coreInstr k word legal false (fun u => putReg k d (f u) u) s) (hl : legal = true)
    (hv : f (s.fetched k) = v) : PutsReg k i s d v :=
  ⟨_, exec_of_legal hs h hl nofun, hv ▸ putReg_onlyRegs k d _ _⟩

end

/-! ## The register ALU (R309) -/

theorem ofBool_slt (x y : Word) : ofBool (x.slt y) = if x.toInt < y.toInt then 1 else 0 := by
  simp [ofBool, BitVec.slt]

theorem ofBool_ult (x y : Word) : ofBool (x.ult y) = if x.toNat < y.toNat then 1 else 0 := by
  simp [ofBool, BitVec.ult]

theorem sub_eq_ofInt (x y : Word) : x - y = BitVec.ofInt 24 (x.toInt - y.toInt) := by
  rw [Int.sub_eq_add_neg, BitVec.ofInt_add, BitVec.ofInt_neg, BitVec.ofInt_toInt, BitVec.ofInt_toInt, BitVec.sub_eq_add_neg]

theorem bits_five {n : Nat} (y : BitVec n) : bits y 0 5 = y.toNat % 32 := by
  simp [bits]

theorem shl24_eq_ofNat (x : Word) (n : Nat) : shl24 x n = BitVec.ofNat 24 (x.toNat * 2 ^ n) := by
  unfold shl24
  split
  · next h =>
    obtain ⟨m, rfl⟩ := Nat.exists_eq_add_of_le h
    apply BitVec.eq_of_toNat_eq
    rw [pow_add, Nat.mul_left_comm]
    simp
  · apply BitVec.eq_of_toNat_eq
    simp [BitVec.toNat_shiftLeft, Nat.shiftLeft_eq]

theorem shr24_eq_ofNat (x : Word) (n : Nat) : shr24 x n = BitVec.ofNat 24 (x.toNat / 2 ^ n) := by
  unfold shr24
  split
  · next h =>
    have : x.toNat / 2 ^ n = 0 := Nat.div_eq_of_lt (lt_of_lt_of_le x.isLt (Nat.pow_le_pow_right (by decide) h))
    rw [this]
    rfl
  · apply BitVec.eq_of_toNat_eq
    have : x.toNat / 2 ^ n < 2 ^ 24 := lt_of_le_of_lt (Nat.div_le_self _ _) x.isLt
    rw [BitVec.toNat_ushiftRight, Nat.shiftRight_eq_div_pow, BitVec.toNat_ofNat, Nat.mod_eq_of_lt this]

/-- From the sign bit on, an arithmetic shift gives copies of the sign. -/
theorem toInt_div_two_pow_of_sign {w : Nat} (x : BitVec (w + 1)) {n : Nat} (h : w ≤ n) :
    x.toInt / 2 ^ n = x.toInt / 2 ^ w := by
  have key : ∀ m, w ≤ m → x.toInt / 2 ^ m = if x.toInt < 0 then -1 else 0 := by
    intro m hm
    have hp : (2 : Int) ^ w ≤ 2 ^ m := pow_le_pow_right₀ (by decide) hm
    have h1 := x.toInt_lt
    have h2 := x.le_toInt
    rw [Nat.add_sub_cancel] at h1 h2
    split
    · next hn => rw [Int.ediv_eq_neg_one_of_neg_of_le hn (by omega)]
    · next hn => exact Int.ediv_eq_zero_of_lt (not_lt.1 hn) (by omega)
  rw [key n h, key w le_rfl]

theorem sar24_eq_ofInt (x : Word) (n : Nat) : sar24 x n = BitVec.ofInt 24 (x.toInt / 2 ^ n) := by
  have h : x.toInt / 2 ^ n = x.toInt / 2 ^ min n 23 := by
    rcases le_total n 23 with hn | hn
    · rw [min_eq_left hn]
    · rw [min_eq_right hn, toInt_div_two_pow_of_sign x hn]
  rw [sar24, h, BitVec.sshiftRight, Int.shiftRight_eq_div_pow, Nat.cast_pow]
  rfl

theorem min_signed (x y : Word) : (if x.slt y then x else y) = BitVec.ofInt 24 (min x.toInt y.toInt) := by
  rw [min_def]
  by_cases h : x.toInt < y.toInt
  · rw [if_pos (by simpa [BitVec.slt] using h), if_pos h.le, BitVec.ofInt_toInt]
  · rw [if_neg (by simpa [BitVec.slt] using h)]
    split
    · next hle => rw [le_antisymm hle (not_lt.1 h), BitVec.ofInt_toInt]
    · rw [BitVec.ofInt_toInt]

theorem max_signed (x y : Word) : (if x.slt y then y else x) = BitVec.ofInt 24 (max x.toInt y.toInt) := by
  rw [max_def]
  by_cases h : x.toInt < y.toInt
  · rw [if_pos (by simpa [BitVec.slt] using h), if_pos h.le, BitVec.ofInt_toInt]
  · rw [if_neg (by simpa [BitVec.slt] using h)]
    split
    · next hle => rw [le_antisymm (not_lt.1 h) hle, BitVec.ofInt_toInt]
    · rw [BitVec.ofInt_toInt]

theorem min_unsigned (x y : Word) : (if x.ult y then x else y) = BitVec.ofNat 24 (min x.toNat y.toNat) := by
  by_cases h : x.toNat < y.toNat
  · rw [if_pos (by simpa [BitVec.ult] using h), min_eq_left h.le, BitVec.ofNat_toNat, BitVec.setWidth_eq]
  · rw [if_neg (by simpa [BitVec.ult] using h), min_eq_right (not_lt.1 h), BitVec.ofNat_toNat, BitVec.setWidth_eq]

theorem max_unsigned (x y : Word) : (if x.ult y then y else x) = BitVec.ofNat 24 (max x.toNat y.toNat) := by
  by_cases h : x.toNat < y.toNat
  · rw [if_pos (by simpa [BitVec.ult] using h), max_eq_right h.le, BitVec.ofNat_toNat, BitVec.setWidth_eq]
  · rw [if_neg (by simpa [BitVec.ult] using h), max_eq_left (not_lt.1 h), BitVec.ofNat_toNat, BitVec.setWidth_eq]

theorem satWord_eq_clamp24 (x : Int) : satWord x = clamp24 x := rfl

theorem bitOf_eq_getLsbD {n : Nat} (v : BitVec n) (i : Nat) : bitOf v i = v.getLsbD i := by
  rw [bitOf, bits, ← BitVec.testBit_toNat, Nat.testBit_eq_decide_div_mod_eq, pow_one]
  rfl

/-- The leading one of a word stands at its binary logarithm. -/
theorem clz24_of_ne_zero {x : Word} (h : x ≠ 0) : clz24 x = 23 - Nat.log2 x.toNat := by
  have hx : x.toNat ≠ 0 := fun e => h (BitVec.eq_of_toNat_eq e)
  have hlog : Nat.log2 x.toNat < 24 := (Nat.log2_lt hx).2 x.isLt
  have hfind : (List.range 24).find? (fun i => bitOf x (23 - i)) = some (23 - Nat.log2 x.toNat) := by
    rw [List.find?_range_eq_some]
    refine ⟨?_, by simp; omega, fun j hj => ?_⟩
    · rw [bitOf_eq_getLsbD, ← BitVec.testBit_toNat, Nat.sub_sub_self (by omega)]
      exact Nat.testBit_log2 hx
    · rw [bitOf_eq_getLsbD, ← BitVec.testBit_toNat, Nat.testBit_lt_two_pow]
      · rfl
      · exact (Nat.log2_lt hx).1 (by omega)
  rw [clz24, hfind]
  rfl

theorem clz24_eq_log2 (x : Word) : W (clz24 x) = if x = 0 then 24 else BitVec.ofNat 24 (23 - Nat.log2 x.toNat) := by
  split
  · next h => subst h; decide
  · next h => rw [clz24_of_ne_zero h]

theorem popcount_eq_countP {n : Nat} (v : BitVec n) : popcount v = (List.range n).countP v.getLsbD := by
  have key : ∀ (l : List Nat) (a : Nat),
      l.foldl (fun a i => a + v.toNat / 2 ^ i % 2) a = a + l.countP v.getLsbD := by
    intro l
    induction l with
    | nil => intro a; rfl
    | cons i l ih =>
      intro a
      rw [List.foldl_cons, ih, List.countP_cons, ← bitOf_eq_getLsbD, bitOf, bits]
      rcases Nat.mod_two_eq_zero_or_one (v.toNat / 2 ^ i) with h | h
      · simp [h]
      · simp [h]; omega
  rw [popcount, key, Nat.zero_add]

theorem revo_eq_append (x : Word) : setLane (setLane x 0 (laneOf x 2)) 2 (laneOf x 0) =
    x.extractLsb' 0 8 ++ x.extractLsb' 8 8 ++ x.extractLsb' 16 8 := by
  apply BitVec.eq_of_getLsbD_eq
  intro i hi
  simp only [setLane, getLsbD_setBits _ _ _ _ hi, laneOf_eq_extractLsb', BitVec.testBit_toNat, BitVec.getLsbD_append,
    BitVec.getLsbD_extractLsb']
  rcases lt_or_ge i 8 with h0 | h0
  · simp [h0, show ¬ 16 ≤ i by omega]
  · rcases lt_or_ge i 16 with h1 | h1
    · simp [show ¬ i < 8 by omega, show ¬ 16 ≤ i by omega, show i - 8 < 8 by omega, Nat.add_sub_cancel' h0]
    · simp [show ¬ i < 8 by omega, show ¬ i - 8 < 8 by omega, h1, hi, Nat.sub_sub]

theorem sext_laneOf_zero (x : Word) : sext (laneOf x 0) = (x.extractLsb' 0 8).signExtend 24 := by
  rw [laneOf_eq_extractLsb']
  rfl

theorem sext_ofNat_toNat (n : Nat) {m : Nat} (x : BitVec m) :
    sext (BitVec.ofNat n x.toNat) = (x.extractLsb' 0 n).signExtend 24 :=
  rfl

/-- Settles O11: every function of major 0x00 is `aluR` of a function of two words, whose value is the one of R309. -/
theorem registerAluResults : Obligations.RegisterAluResults := by
  intro k d a b s hs
  refine ⟨putsReg_of_putReg hs rfl rfl (BitVec.add_def ..), putsReg_of_putReg hs rfl rfl (sub_eq_ofInt ..),
    putsReg_of_putReg hs rfl rfl rfl, putsReg_of_putReg hs rfl rfl rfl, putsReg_of_putReg hs rfl rfl rfl,
    putsReg_of_putReg hs rfl rfl rfl, putsReg_of_putReg hs rfl rfl (ofBool_slt ..), putsReg_of_putReg hs rfl rfl (ofBool_ult ..),
    putsReg_of_putReg hs rfl rfl ?shl, putsReg_of_putReg hs rfl rfl ?shr, putsReg_of_putReg hs rfl rfl ?sar,
    putsReg_of_putReg hs rfl rfl ?ror, putsReg_of_putReg hs rfl rfl (min_signed ..), putsReg_of_putReg hs rfl rfl (max_signed ..),
    putsReg_of_putReg hs rfl rfl (min_unsigned ..), putsReg_of_putReg hs rfl rfl (max_unsigned ..),
    putsReg_of_putReg hs rfl rfl rfl, putsReg_of_putReg hs rfl rfl rfl, putsReg_of_putReg hs rfl rfl rfl,
    putsReg_of_putReg hs rfl rfl (clz24_eq_log2 _), putsReg_of_putReg hs rfl rfl ?popc,
    putsReg_of_putReg hs rfl rfl (revo_eq_append _), putsReg_of_putReg hs rfl rfl (sext_laneOf_zero _),
    putsReg_of_putReg hs rfl rfl (sext_ofNat_toNat 12 _)⟩
  case shl => simp only [shl24_eq_ofNat, bits_five]
  case shr => simp only [shr24_eq_ofNat, bits_five]
  case sar => simp only [sar24_eq_ofInt, bits_five]
  case ror => simp only [ror24, bits_five]
  case popc => simp only [popcount_eq_countP]

/-! ## The immediate ALU and the hints (R310, R320) -/

theorem add_eq_ofInt (x y : Word) : x + y = BitVec.ofInt 24 (x.toInt + y.toInt) := by
  rw [BitVec.ofInt_add, BitVec.ofInt_toInt, BitVec.ofInt_toInt]

theorem add_ofNat_eq_ofNat (x : Word) (n : Nat) : x + W n = BitVec.ofNat 24 (x.toNat + n) := by
  rw [BitVec.ofNat_add, BitVec.ofNat_toNat, BitVec.setWidth_eq]

theorem word_toNat_eq_setWidth {n : Nat} (x : BitVec n) : W x.toNat = x.setWidth 24 := BitVec.ofNat_toNat ..

theorem bits_upper_five (imm : BitVec 10) : bits imm 5 5 = imm.toNat / 32 :=
  Nat.mod_eq_of_lt (by have := imm.isLt; omega)

theorem shiftImmOk_iff (imm : BitVec 10) : shiftImmOk imm = true ↔ imm.toNat < 32 := by
  rw [shiftImmOk, bits_upper_five, beq_iff_eq]
  omega

theorem extOk_iff (imm : BitVec 10) : extOk imm = true ↔ imm.toNat % 32 < 24 := by
  rw [extOk, bits_five, decide_eq_true_eq]

/-- Settles O12: every immediate form is `aluI` or `aluU` of a function of one word, whose value is the one of R310. -/
theorem immediateAluResults : Obligations.ImmediateAluResults := by
  intro k d a imm top s hs
  refine ⟨putsReg_of_putReg hs rfl rfl (add_eq_ofInt ..), putsReg_of_putReg hs rfl rfl ?and, putsReg_of_putReg hs rfl rfl ?or,
    putsReg_of_putReg hs rfl rfl ?xor, putsReg_of_putReg hs rfl rfl (ofBool_slt ..), putsReg_of_putReg hs rfl rfl (ofBool_ult ..),
    fun hi => ?shifts, putsReg_of_putReg hs rfl rfl rfl, putsReg_of_putReg hs rfl rfl (add_ofNat_eq_ofNat ..),
    putsReg_of_putReg hs rfl rfl rfl, putsReg_of_putReg hs rfl rfl (sub_eq_ofInt ..),
    fun hn => putsReg_of_putReg hs rfl ((extOk_iff imm).2 hn) ?ext⟩
  case and => simp only [word_toNat_eq_setWidth]
  case or => simp only [word_toNat_eq_setWidth]
  case xor => simp only [word_toNat_eq_setWidth]
  case shifts =>
    have ok := (shiftImmOk_iff imm).2 hi
    refine ⟨putsReg_of_putReg hs rfl ok ?_, putsReg_of_putReg hs rfl ok ?_, putsReg_of_putReg hs rfl ok ?_,
      putsReg_of_putReg hs rfl ok ?_⟩
    · simp only [shl24_eq_ofNat, bits_five]
    · simp only [shr24_eq_ofNat, bits_five]
    · simp only [sar24_eq_ofInt, bits_five]
    · simp only [ror24, bits_five]
  case ext => simp only [bits_five, bits_upper_five]; rfl

/-- Settles O16: a hint is legal and unprivileged whatever its bits hold. -/
theorem hintsAreNoOperations : Obligations.HintsAreNoOperations :=
  fun k rest _ hs => exec_of_legal (i := .hint k rest) hs rfl rfl nofun

/-! ## Branches, jumps and calls (R313) -/

section

variable {k : Fin 4} {i : Instr} {s : State}

@[simp] theorem Core.setG_pc (c : Core) (d : Nat) (v : Word) : (c.setG d v).pc = c.pc := by
  unfold Core.setG
  split <;> rfl

/-- A core with one general register written differs in its general registers alone. -/
theorem Core.setG_eq_with_g (c : Core) (d : Nat) (v : Word) : c.setG d v = { c with g := (c.setG d v).g } := by
  unfold Core.setG
  split <;> rfl

theorem State.setCore_setCore (u : State) (k : Fin 4) (c c' : Core) : (u.setCore k c).setCore k c' = u.setCore k c' := by
  simp [State.setCore]

/-- A general register written and a jump, and nothing else. -/
theorem jumpTo_onlyRegs (k : Fin 4) (d : Nat) (v npc : Word) (u : State) :
    OnlyRegs k u (jumpTo k npc (u.setCore k ((u.core k).setG d v))) npc ((u.core k).upd d v) := by
  refine ⟨?_, fun r _ => ?_⟩
  · simp only [jumpTo, State.core_setCore_self, State.setCore_setCore]
    rw [Core.setG_eq_with_g]
  · rw [← Core.reg_setG]
    simp [jumpTo, Core.reg]

theorem goes_of_jumpTo {word : Word} {legal : Bool} {f : State → Word} {npc : Word} (hs : s.ready k)
    (h : exec i s = coreInstr k word legal false (fun u => jumpTo k (f u) u) s) (hl : legal = true)
    (hf : f (s.fetched k) = npc) : Goes k i s npc :=
  hf ▸ exec_of_legal hs h hl nofun

/-- A compare-branch goes to its target where its condition holds, and to the next word otherwise. -/
theorem goes_of_branch {major : Nat} {a b : BitVec 4} {off : BitVec 10} {take : Word → Word → Bool} {p : Prop} [Decidable p]
    (hs : s.ready k) (h : exec i s = branch k major a b off take s)
    (hp : take (((s.fetched k).core k).reg a.toNat) (((s.fetched k).core k).reg b.toNat) = true ↔ p) :
    Goes k i s (if p then ((s.fetched k).core k).pc + off.signExtend 24 else ((s.fetched k).core k).pc + 1) := by
  refine (exec_of_legal hs h rfl nofun).trans (congrArg _ ?_)
  dsimp only
  by_cases hq : p
  · rw [if_pos (hp.2 hq), if_pos hq]
    rfl
  · rw [if_neg (fun ht => hq (hp.1 ht)), if_neg hq]
    rfl

end

/-- Settles O13: the compare-branches are `branch` of R313's conditions; a jump sets the program counter, a call g14 too. -/
theorem branchAndJumpResults : Obligations.BranchAndJumpResults := by
  intro k a b off far s hs
  refine ⟨goes_of_branch (take := fun x y => x == y) hs rfl ?eq, goes_of_branch (take := fun x y => x != y) hs rfl ?ne,
    goes_of_branch (take := fun x y => x.slt y) hs rfl ?lt, goes_of_branch (take := fun x y => !x.slt y) hs rfl ?ge,
    goes_of_branch (take := fun x y => x.ult y) hs rfl ?ltu, goes_of_branch (take := fun x y => !x.ult y) hs rfl ?geu,
    ⟨_, exec_of_legal hs rfl rfl nofun, ?dec⟩, goes_of_branch (take := fun x y => (x &&& y) != 0) hs rfl ?any,
    goes_of_jumpTo hs rfl rfl rfl, ⟨_, exec_of_legal hs rfl rfl nofun, jumpTo_onlyRegs ..⟩,
    goes_of_jumpTo hs rfl rfl rfl, ⟨_, exec_of_legal hs rfl rfl nofun, jumpTo_onlyRegs ..⟩⟩
  case eq => exact beq_iff_eq
  case ne => exact bne_iff_ne
  case lt => simp [BitVec.slt]
  case ge => simp [BitVec.slt]
  case ltu => simp [BitVec.ult]
  case geu => simp [BitVec.ult]
  case any => exact bne_iff_ne
  case dec =>
    dsimp only
    split
    · next hr =>
      rw [if_pos (bne_iff_ne.1 hr)]
      exact jumpTo_onlyRegs ..
    · next hr =>
      rw [if_neg (fun e => hr (bne_iff_ne.2 e))]
      exact putReg_onlyRegs k a _ _

end Sys2Proof.Machine

/-! # Products, quotients, fixed point and packed complex words

R317 to R319: a pair as a result, the accumulator with its limits, and the arithmetic of words as signed and unsigned numbers. -/

namespace Sys2Proof.Machine

open Sys2Proof

section

variable {k : Fin 4} {i : Instr} {s : State} {word : Word} {legal priv : Bool}

/-- The general registers after a pair is written, the low word in gd (R305). -/
theorem Core.reg_setPair (c : Core) {d : BitVec 4} (h : pairOk d = true) (lo hi : Word) (r : Nat) :
    (c.setPair d.toNat lo hi).reg r = c.updPair d.toNat lo hi r := by
  have hd : 2 ≤ d.toNat := by
    simp only [pairOk, Bool.and_eq_true, decide_eq_true_eq] at h
    exact h.1.2
  rw [Core.setPair, Core.reg_setG, Core.upd, Core.reg_setG, Core.upd, Core.updPair]
  by_cases h0 : r = d.toNat
  · rw [if_neg (by omega), if_pos (by omega), if_pos h0]
  · rw [if_neg h0]
    refine if_congr (by omega) rfl ?_
    rw [if_neg (by omega)]

/-- A pair written, on to the next instruction, and nothing else. -/
theorem setPair_onlyRegs (k : Fin 4) {d : BitVec 4} (h : pairOk d = true) (lo hi : Word) (u : State) :
    OnlyRegs k u (nextPc k (u.setCore k ((u.core k).setPair d.toNat lo hi))) ((u.core k).pc + 1)
      ((u.core k).updPair d.toNat lo hi) := by
  refine ⟨?_, fun r _ => ?_⟩
  · simp only [nextPc, State.core_setCore_self, State.setCore_setCore, Core.setPair, Core.setG_pc]
    rw [Core.setG_eq_with_g, Core.setG_eq_with_g (u.core k)]
  · rw [← Core.reg_setPair _ h]
    simp [nextPc, Core.reg]

theorem putsPair_of_mulPair {major func : Nat} {d a b : BitVec 4} {f : Core → Word × Word} {lo hi : Word} (hs : s.ready k)
    (h : exec i s = mulPair k major d a b func legal f s) (hl : legal = true) (hd : pairOk d = true)
    (hv : f ((s.fetched k).core k) = (lo, hi)) : PutsPair k i s d lo hi := by
  refine ⟨_, exec_of_legal hs h (by rw [hl, hd]; rfl) nofun, ?_⟩
  dsimp only
  rw [hv]
  exact setPair_onlyRegs k hd lo hi _

/-- An instruction that replaces the core and goes on to the next one. -/
theorem putsCore_of_setCore {f : State → Core} {c : Core} (hs : s.ready k)
    (h : exec i s = coreInstr k word legal priv (fun u => nextPc k (u.setCore k (f u))) s) (hl : legal = true)
    (hp : priv = true → ((s.fetched k).core k).sup = true) (hv : f (s.fetched k) = c)
    (hpc : c.pc = ((s.fetched k).core k).pc) : PutsCore k i s c := by
  subst hv
  refine (exec_of_legal hs h hl hp).trans ?_
  simp only [nextPc, State.core_setCore_self, State.setCore_setCore, hpc]

end

/-! ## Products and quotients (R317, R318) -/

theorem mul_eq_ofInt (x y : Word) : BitVec.ofNat 24 (x.toNat * y.toNat) = BitVec.ofInt 24 (x.toInt * y.toInt) := by
  rw [BitVec.ofInt_mul, BitVec.ofInt_toInt, BitVec.ofInt_toInt, BitVec.ofNat_mul, BitVec.ofNat_toNat, BitVec.ofNat_toNat,
    BitVec.setWidth_eq, BitVec.setWidth_eq]

theorem sdiv_eq_ofInt (x y : Word) : x.sdiv y = BitVec.ofInt 24 (x.toInt.tdiv y.toInt) :=
  BitVec.eq_of_toInt_eq (by rw [BitVec.toInt_sdiv, BitVec.toInt_ofInt])

theorem srem_eq_ofInt (x y : Word) : x.srem y = BitVec.ofInt 24 (x.toInt.tmod y.toInt) := by
  rw [← BitVec.toInt_srem, BitVec.ofInt_toInt]

theorem udiv_eq_ofNat (x y : Word) : x / y = BitVec.ofNat 24 (x.toNat / y.toNat) := by
  rw [← BitVec.toNat_udiv, BitVec.ofNat_toNat, BitVec.setWidth_eq]

theorem umod_eq_ofNat (x y : Word) : x % y = BitVec.ofNat 24 (x.toNat % y.toNat) := by
  rw [← BitVec.toNat_umod, BitVec.ofNat_toNat, BitVec.setWidth_eq]

theorem divS_eq (x y : Word) : divS x y =
    (if y = 0 then 0xFFFFFF else BitVec.ofInt 24 (x.toInt.tdiv y.toInt),
      if y = 0 then x else BitVec.ofInt 24 (x.toInt.tmod y.toInt)) := by
  rw [divS, sdiv_eq_ofInt, srem_eq_ofInt]
  split <;> rfl

theorem divU_eq (x y : Word) : divU x y =
    (if y = 0 then 0xFFFFFF else BitVec.ofNat 24 (x.toNat / y.toNat),
      if y = 0 then x else BitVec.ofNat 24 (x.toNat % y.toNat)) := by
  rw [divU, udiv_eq_ofNat, umod_eq_ofNat]
  split <;> rfl

theorem words_of_ofInt (z : Int) : (wordOf (BitVec.ofInt 48 z) 0, wordOf (BitVec.ofInt 48 z) 1) =
    (BitVec.ofInt 24 z, BitVec.ofInt 24 (z / 2 ^ 24)) := by
  refine Prod.ext (BitVec.eq_of_toNat_eq ?_) (BitVec.eq_of_toNat_eq ?_)
  · simp [wordOf]
    omega
  · simp [wordOf]
    omega

theorem words_of_ofNat (n : Nat) : (wordOf (BitVec.ofNat 48 n) 0, wordOf (BitVec.ofNat 48 n) 1) =
    (BitVec.ofNat 24 n, BitVec.ofNat 24 (n / 2 ^ 24)) := by
  refine Prod.ext (BitVec.eq_of_toNat_eq ?_) (BitVec.eq_of_toNat_eq ?_)
  · simp [wordOf]
  · simp [wordOf]
    omega

theorem Core.pair_eq_append (c : Core) (r : Nat) : c.pair r = c.reg (r + 1) ++ c.reg r := by
  apply BitVec.eq_of_toNat_eq
  have h0 := (c.reg r).isLt
  have h1 := (c.reg (r + 1)).isLt
  rw [toNat_append_eq_add, Core.pair, BitVec.toNat_ofNat]
  omega

/-- The low word of a pair is its first register. -/
theorem wordOf_zero_append (hi lo : Word) : wordOf (hi ++ lo) 0 = lo := by
  apply BitVec.eq_of_toNat_eq
  rw [wordOf, W, toNat_append_eq_add, BitVec.toNat_ofNat]
  have := lo.isLt
  omega

/-- The quotient and the remainder of a pair, where `fits` says whether the quotient has a meaning and a place (R318). -/
theorem divPair_signed (hi lo y : Word) : divPair true (hi ++ lo) y =
    (if y = 0 ∨ (hi ++ lo).toInt.tdiv y.toInt < -(2 ^ 23) ∨ 2 ^ 23 ≤ (hi ++ lo).toInt.tdiv y.toInt then 0xFFFFFF
      else BitVec.ofInt 24 ((hi ++ lo).toInt.tdiv y.toInt),
     if y = 0 ∨ (hi ++ lo).toInt.tdiv y.toInt < -(2 ^ 23) ∨ 2 ^ 23 ≤ (hi ++ lo).toInt.tdiv y.toInt then lo
      else BitVec.ofInt 24 ((hi ++ lo).toInt.tmod y.toInt)) := by
  rw [divPair, wordOf_zero_append]
  by_cases h0 : y = 0
  · rw [if_pos h0, if_pos (.inl h0), if_pos (.inl h0)]
  · rw [if_neg h0, if_pos rfl]
    dsimp only
    split
    · next h =>
      have hn := not_or.2 ⟨h0, show ¬ ((hi ++ lo).toInt.tdiv y.toInt < -(2 ^ 23) ∨ 2 ^ 23 ≤ (hi ++ lo).toInt.tdiv y.toInt) by omega⟩
      rw [if_neg hn, if_neg hn]
    · next h =>
      have hp := Or.inr (a := y = 0) (show ((hi ++ lo).toInt.tdiv y.toInt < -(2 ^ 23) ∨ 2 ^ 23 ≤ (hi ++ lo).toInt.tdiv y.toInt) by omega)
      rw [if_pos hp, if_pos hp]

theorem divPair_unsigned (hi lo y : Word) : divPair false (hi ++ lo) y =
    (if y = 0 ∨ 2 ^ 24 ≤ (hi ++ lo).toNat / y.toNat then 0xFFFFFF else BitVec.ofNat 24 ((hi ++ lo).toNat / y.toNat),
     if y = 0 ∨ 2 ^ 24 ≤ (hi ++ lo).toNat / y.toNat then lo else BitVec.ofNat 24 ((hi ++ lo).toNat % y.toNat)) := by
  rw [divPair, wordOf_zero_append]
  by_cases h0 : y = 0
  · rw [if_pos h0, if_pos (.inl h0), if_pos (.inl h0)]
  · rw [if_neg h0, if_neg Bool.false_ne_true]
    dsimp only
    split
    · next h =>
      have hn := not_or.2 ⟨h0, show ¬ (2 ^ 24 ≤ (hi ++ lo).toNat / y.toNat) by omega⟩
      rw [if_neg hn, if_neg hn]
    · next h =>
      have hp := Or.inr (a := y = 0) (show (2 ^ 24 ≤ (hi ++ lo).toNat / y.toNat) by omega)
      rw [if_pos hp, if_pos hp]

/-- Settles O14: the products and quotients as numbers, word by word where the result is a pair. -/
theorem multiplyDivideResults : Obligations.MultiplyDivideResults := by
  intro k d a b imm s hs
  refine ⟨putsReg_of_putReg hs rfl rfl (mul_eq_ofInt ..), putsReg_of_putReg hs rfl rfl rfl, putsReg_of_putReg hs rfl rfl rfl,
    putsReg_of_putReg hs rfl rfl rfl, putsReg_of_putReg hs rfl rfl (congrArg Prod.fst (divS_eq ..)),
    putsReg_of_putReg hs rfl rfl (congrArg Prod.fst (divU_eq ..)), putsReg_of_putReg hs rfl rfl (congrArg Prod.snd (divS_eq ..)),
    putsReg_of_putReg hs rfl rfl (congrArg Prod.snd (divU_eq ..)), fun hd => ⟨?_, ?_⟩, fun hd ha => ⟨?_, ?_⟩⟩
  · exact putsPair_of_mulPair hs (show _ = execMull k d a b s from rfl) rfl hd (words_of_ofInt _)
  · exact putsPair_of_mulPair hs (show _ = execMullu k d a b s from rfl) rfl hd (words_of_ofNat _)
  · exact putsPair_of_mulPair hs (show _ = execDivl k d a b s from rfl) ha hd (by rw [Core.pair_eq_append, divPair_signed])
  · exact putsPair_of_mulPair hs (show _ = execDivlu k d a b s from rfl) ha hd (by rw [Core.pair_eq_append, divPair_unsigned])

/-! ## The accumulator (R319) -/

theorem accSat_eq_satAcc (c : Core) (x : Int) :
    { c with acc := (satAcc x).1, sat := c.sat || (satAcc x).2 } = c.accSat x := by
  have h : decide (2 ^ 55 - 1 < x) = decide (2 ^ 55 ≤ x) := by
    rw [decide_eq_decide]
    omega
  simp only [satAcc, Core.accSat, Bool.decide_or, Bool.or_assoc, h]

/-- Within the limits of ACC nothing saturates. -/
theorem accSat_of_fits (c : Core) {x : Int} (h1 : -(2 ^ 55) ≤ x) (h2 : x < 2 ^ 55) :
    c.accSat x = { c with acc := BitVec.ofInt 56 x } := by
  rw [Core.accSat, min_eq_right (by omega), max_eq_right h1, decide_eq_false (by omega), decide_eq_false (by omega),
    Bool.or_false, Bool.or_false]

/-- A quotient by a power of two stays within the limits of its dividend. -/
theorem toInt_div_two_pow_bounds {w : Nat} (x : BitVec (w + 1)) (n : Nat) :
    -(2 ^ w) ≤ x.toInt / 2 ^ n ∧ x.toInt / 2 ^ n < 2 ^ w := by
  have h1 := x.toInt_lt
  have h2 := x.le_toInt
  rw [Nat.add_sub_cancel] at h1 h2
  have hn : (0 : Int) < 2 ^ n := by positivity
  have hw : (2 : Int) ^ w ≤ 2 ^ w * 2 ^ n := le_mul_of_one_le_right (by positivity) hn
  exact ⟨Int.le_ediv_of_mul_le hn (by rw [Int.neg_mul]; omega), Int.ediv_lt_of_lt_mul hn (by omega)⟩

theorem le_toInt_mul (x y : Word) : -(2 ^ 46) ≤ x.toInt * y.toInt := BitVec.le_toInt_mul_toInt

theorem toInt_mul_le (x y : Word) : x.toInt * y.toInt ≤ 2 ^ 46 := BitVec.toInt_mul_toInt_le

theorem bits_six (y : Word) : bits y 0 6 = y.toNat % 64 := by
  simp [bits]

theorem toInt_div_min (x : BitVec 56) (n : Nat) : x.toInt / 2 ^ min 55 n = x.toInt / 2 ^ n := by
  rcases le_total n 55 with h | h
  · rw [min_eq_right h]
  · rw [min_eq_left h, toInt_div_two_pow_of_sign x h]

/-- An accumulator instruction leaves ACC as `accSat` clamps it. -/
theorem putsCore_of_accI {k : Fin 4} {i : Instr} {s : State} {major func : Nat} {d a b : BitVec 4} {legal : Bool}
    {f : Int → Word → Word → Int} {c : Core} (hs : s.ready k) (h : exec i s = accI k major d a b func legal f s)
    (hl : legal = true)
    (hc : ((s.fetched k).core k).accSat
      (f ((s.fetched k).core k).acc.toInt (((s.fetched k).core k).reg a.toNat) (((s.fetched k).core k).reg b.toNat)) = c) :
    PutsCore k i s c :=
  putsCore_of_setCore hs h hl nofun ((accSat_eq_satAcc ..).trans hc) (by rw [← hc]; rfl)

/-! ## Packed complex words (R306, R319) -/

theorem cI_eq_halfI (v : Word) : cI v = halfI v := by
  rw [halfI, ← signed_toNat, BitVec.extractLsb'_toNat, Nat.shiftRight_eq_div_pow]
  rfl

theorem cQ_eq_halfQ (v : Word) : cQ v = halfQ v := by
  rw [halfQ, ← signed_toNat, BitVec.extractLsb'_toNat, Nat.shiftRight_eq_div_pow]
  rfl

theorem clamp12_halfI (v : Word) : clamp12 (halfI v) = halfI v := by
  have h1 := (v.extractLsb' 12 12).le_toInt
  have h2 := (v.extractLsb' 12 12).toInt_lt
  unfold clamp12 halfI
  omega

theorem cPack_eq_packed (i q : Int) : cPack i q = packed i q := by
  apply BitVec.eq_of_toNat_eq
  have hi := (BitVec.ofInt 12 i).isLt
  have hq := (BitVec.ofInt 12 q).isLt
  rw [packed, toNat_append_eq_add, cPack, W, BitVec.toNat_ofNat]
  omega

theorem cPackSat_eq_packed (i q : Int) : cPackSat i q = packed (clamp12 i) (clamp12 q) := cPack_eq_packed _ _

theorem cMul_eq_packed (x y : Word) : cMul x y =
    packed (clamp12 ((halfI x * halfI y - halfQ x * halfQ y + 2 ^ 10) / 2 ^ 11))
      (clamp12 ((halfI x * halfQ y + halfQ x * halfI y + 2 ^ 10) / 2 ^ 11)) := by
  simp only [cMul, cPackSat_eq_packed, cI_eq_halfI, cQ_eq_halfQ]
  rfl

/-- Settles O15: an accumulator form is `accI`, a form with a word for a result `mulR`, of R319's function. -/
theorem fixedPointResults : Obligations.FixedPointResults := by
  intro k d a b s hs
  refine ⟨putsReg_of_putReg hs rfl rfl rfl, putsReg_of_putReg hs rfl rfl rfl,
    putsCore_of_accI hs (show _ = execMac k d a b s from rfl) rfl rfl,
    putsCore_of_accI hs (show _ = execMsu k d a b s from rfl) rfl rfl,
    putsCore_of_accI hs (show _ = execMacz k 0 a b s from rfl) rfl (accSat_of_fits _ ?_ ?_), putsReg_of_putReg hs rfl rfl rfl,
    putsCore_of_accI hs (show _ = execAccw k 0 a 0 s from rfl) rfl (accSat_of_fits _ ?_ ?_),
    putsCore_of_accI hs (show _ = execAccsh k 0 0 b s from rfl) rfl ?accsh,
    putsReg_of_putReg hs rfl rfl ?cadd, putsReg_of_putReg hs rfl rfl ?cadds, putsReg_of_putReg hs rfl rfl ?csub,
    putsReg_of_putReg hs rfl rfl ?csubs, putsReg_of_putReg hs rfl rfl ?cconj, putsReg_of_putReg hs rfl rfl (cMul_eq_packed ..)⟩
  · exact le_trans (by norm_num) (le_toInt_mul _ _)
  · exact lt_of_le_of_lt (toInt_mul_le _ _) (by norm_num)
  · have := (((s.fetched k).core k).reg a.toNat).le_toInt
    omega
  · have := (((s.fetched k).core k).reg a.toNat).toInt_lt
    omega
  case accsh =>
    rw [toInt_div_min, bits_six]
    exact accSat_of_fits _ (toInt_div_two_pow_bounds (w := 55) _ _).1 (toInt_div_two_pow_bounds (w := 55) _ _).2
  case cadd => simp only [cPack_eq_packed, cI_eq_halfI, cQ_eq_halfQ]
  case cadds => simp only [cPackSat_eq_packed, cI_eq_halfI, cQ_eq_halfQ]
  case csub => simp only [cPack_eq_packed, cI_eq_halfI, cQ_eq_halfQ]
  case csubs => simp only [cPackSat_eq_packed, cI_eq_halfI, cQ_eq_halfQ]
  case cconj => simp only [cPackSat_eq_packed, cI_eq_halfI, cQ_eq_halfQ, clamp12_halfI]

end Sys2Proof.Machine

/-! # Exceptions of the application cores

R325, R326, R328 to R331 and R340: what entry and return leave of a core, and which instructions enter an exception. -/

namespace Sys2Proof.Machine

open Sys2Proof

/-! ## Entry and return (R330) -/

@[simp] theorem Core.sysReg_setG (c : Core) (d : Nat) (v : Word) (n : Nat) : (c.setG d v).sysReg n = c.sysReg n := by
  unfold Core.setG
  split <;> rfl

@[simp] theorem Core.reg_setSys (c : Core) (n : Nat) (v : Word) (r : Nat) : (c.setSys n v).reg r = c.reg r := rfl

theorem Core.sysReg_swapSp (c : Core) (n : Nat) : c.swapSp.sysReg n = if n = 0x018 then c.reg 15 else c.sysReg n := by
  rw [Core.swapSp, Core.sysReg_setSys, Core.sysReg_setG]

theorem Core.reg_swapSp (c : Core) (r : Nat) : c.swapSp.reg r = if r = 15 then c.sysReg 0x018 else c.reg r := by
  rw [Core.swapSp, Core.reg_setSys, Core.reg_setG, Core.upd]
  exact if_congr (by omega) rfl rfl

/-- The exchange of g15 and XSP where the mode at hand, supervisor mode or not, asks for it. -/
def Core.swapUnless (sup : Bool) (c : Core) : Core := if sup then c else c.swapSp

theorem Core.sysReg_swapUnless (sup : Bool) (c : Core) (n : Nat) :
    (c.swapUnless sup).sysReg n = if n = 0x018 ∧ sup = false then c.reg 15 else c.sysReg n := by
  cases sup with
  | false => exact (c.sysReg_swapSp n).trans (if_congr (by simp) rfl rfl)
  | true => exact (if_neg (by simp)).symm

theorem Core.reg_swapUnless (sup : Bool) (c : Core) (r : Nat) :
    (c.swapUnless sup).reg r = if r = 15 ∧ sup = false then c.sysReg 0x018 else c.reg r := by
  cases sup with
  | false => exact (c.reg_swapSp r).trans (if_congr (by simp) rfl rfl)
  | true => exact (if_neg (by simp)).symm

/-- The exchange touches the general and the system registers alone. -/
theorem Core.swapUnless_eq (sup : Bool) (c : Core) :
    c.swapUnless sup = { c with g := (c.swapUnless sup).g, sys := (c.swapUnless sup).sys } := by
  cases sup with
  | false =>
    change c.swapSp = { c with g := c.swapSp.g, sys := c.swapSp.sys }
    rw [Core.swapSp, Core.setG_eq_with_g]
    rfl
  | true => rfl

theorem bits_one_eq_zero {n : Nat} (v : BitVec n) (i : Nat) : bits v i 1 = 0 ↔ bitOf v i = false := by
  rw [bitOf, beq_eq_false_iff_ne]
  have : bits v i 1 < 2 := Nat.mod_lt _ (by decide)
  omega

theorem bits_entryStatus_ipl (st : Word) : bits (entryStatus st none) 4 3 = bits st 4 3 := by
  rw [entryStatus]
  rw [bits_setBits_of_disjoint _ _ (by omega) (by omega), bits_setBits_of_disjoint _ _ (by omega) (by omega),
    bits_setBits_of_disjoint _ _ (by omega) (by omega)]

theorem bitOf_entryStatus_mode (st : Word) : bitOf (entryStatus st none) 0 = true := by
  rw [bitOf, entryStatus]
  rw [bits_setBits_of_disjoint _ _ (by omega) (by omega), bits_setBits_of_disjoint _ _ (by omega) (by omega),
    bits_setBits_self _ _ (by omega)]
  rfl

theorem bitOf_entryStatus_ie (st : Word) : bitOf (entryStatus st none) 1 = false := by
  rw [bitOf, entryStatus]
  rw [bits_setBits_of_disjoint _ _ (by omega) (by omega), bits_setBits_self _ _ (by omega)]
  rfl

theorem bitOf_entryStatus_inx (st : Word) : bitOf (entryStatus st none) 2 = true := by
  rw [bitOf, entryStatus]
  rw [bits_setBits_self _ _ (by omega)]
  rfl

section

variable (c : Core) (code arg : Nat) (onFetch : Bool) (xpc xval : Word) (entry : Nat) (ipl : Option Nat)

/-- The core once entry has saved STATUS, the program counter, XVAL and XCAUSE. -/
def Core.saved : Core :=
  (((c.setSys 0x011 (c.sysReg 0x010)).setSys 0x012 xpc).setSys 0x014 xval).setSys 0x013
    (W (arg * 2 ^ 12 + (if onFetch then 2 ^ 5 else 0) + bits (c.sysReg 0x010) 2 1 * 2 ^ 4 + code))

theorem Core.sysReg_saved (n : Nat) : (c.saved code arg onFetch xpc xval).sysReg n =
    if n = 0x013 then W (arg * 2 ^ 12 + (if onFetch then 2 ^ 5 else 0) + bits (c.sysReg 0x010) 2 1 * 2 ^ 4 + code)
    else if n = 0x014 then xval else if n = 0x012 then xpc else if n = 0x011 then c.sysReg 0x010 else c.sysReg n := by
  simp only [Core.saved, Core.sysReg_setSys]

theorem ite_bits_swapSp (v : Word) : (if bits v 0 1 = 0 then c.swapSp else c) = c.swapUnless (bitOf v 0) := by
  cases h : bitOf v 0 with
  | false => exact if_pos ((bits_one_eq_zero v 0).2 h)
  | true => exact if_neg (fun e => by rw [bits_one_eq_zero, h] at e; contradiction)

theorem Core.enter_eq_swap : c.enter code arg onFetch xpc xval entry ipl =
    { (((c.saved code arg onFetch xpc xval).swapUnless c.sup).setSys 0x010 (entryStatus (c.sysReg 0x010) ipl)) with
      pc := W ((c.sysReg 0x015).toNat / 512 * 512 + entry), waiting := false, away := !c.svc.isEmpty } := by
  rw [Core.sup, ← ite_bits_swapSp]
  rfl

theorem Core.sysReg_enter (n : Nat) : (c.enter code arg onFetch xpc xval entry ipl).sysReg n =
    if n = 0x010 then entryStatus (c.sysReg 0x010) ipl
    else if n = 0x018 ∧ c.sup = false then c.reg 15
    else (c.saved code arg onFetch xpc xval).sysReg n := by
  rw [Core.enter_eq_swap]
  exact (Core.sysReg_setSys ..).trans (if_congr Iff.rfl rfl (Core.sysReg_swapUnless ..))

theorem Core.reg_enter (r : Nat) : (c.enter code arg onFetch xpc xval entry ipl).reg r =
    if r = 15 ∧ c.sup = false then c.sysReg 0x018 else c.reg r := by
  rw [Core.enter_eq_swap]
  refine (Core.reg_swapUnless ..).trans (if_congr Iff.rfl ?_ rfl)
  simp [Core.sysReg_saved]

/-- Entry leaves everything of the core but its general and system registers, its program counter, WAIT and the mark of a handler. -/
theorem Core.enter_frame : c.enter code arg onFetch xpc xval entry ipl =
    { c with g := (c.enter code arg onFetch xpc xval entry ipl).g, pc := (c.enter code arg onFetch xpc xval entry ipl).pc,
             sys := (c.enter code arg onFetch xpc xval entry ipl).sys, waiting := false, away := !c.svc.isEmpty } := by
  rw [Core.enter_eq_swap, Core.swapUnless_eq]
  rfl

theorem entered_enter : Entered c (c.enter code arg onFetch c.pc xval entry none) code arg onFetch xval entry := by
  refine ⟨?_, ?_, ?_, ?_, ?_, ?_, ?_, ?_, rfl, ?_, fun r hr => ?_, fun n hn => ?_, c.enter_frame ..⟩
  · simp [Core.sysReg_enter, Core.sysReg_saved]
  · simp [Core.sysReg_enter, Core.sysReg_saved]
  · simp [Core.sysReg_enter, Core.sysReg_saved]
  · simp [Core.sysReg_enter, Core.sysReg_saved]
  · rw [Core.sup, Core.sysReg_enter, if_pos rfl, bitOf_entryStatus_mode]
  · rw [Core.ie, Core.sysReg_enter, if_pos rfl, bitOf_entryStatus_ie]
  · rw [Core.sysReg_enter, if_pos rfl, bitOf_entryStatus_inx]
  · rw [Core.ipl, Core.sysReg_enter, if_pos rfl, bits_entryStatus_ipl, Core.ipl]
  · rw [Core.reg_enter, Core.sysReg_enter]
    cases c.sup with
    | false => simp
    | true => simp [Core.sysReg_saved]
  · rw [Core.reg_enter, if_neg (by omega)]
  · rw [Core.sysReg_enter, if_neg (by omega), if_neg (by omega), Core.sysReg_saved, if_neg (by omega), if_neg (by omega),
      if_neg (by omega), if_neg (by omega)]

end

theorem Core.leave_eq_swap (c : Core) : c.leave =
    Core.swapUnless (bitOf (c.sysReg 0x011) 0) { (c.setSys 0x010 (c.sysReg 0x011)) with
      pc := c.sysReg 0x012, away := c.away && c.svc.head? != some (c.sysReg 0x012) } := by
  rw [← ite_bits_swapSp]
  rfl

theorem Core.sysReg_leave (c : Core) (n : Nat) : c.leave.sysReg n =
    if n = 0x018 ∧ bitOf (c.sysReg 0x011) 0 = false then c.reg 15
    else if n = 0x010 then c.sysReg 0x011 else c.sysReg n := by
  rw [Core.leave_eq_swap]
  exact (Core.sysReg_swapUnless ..).trans (if_congr Iff.rfl rfl (Core.sysReg_setSys ..))

theorem Core.reg_leave (c : Core) (r : Nat) : c.leave.reg r =
    if r = 15 ∧ bitOf (c.sysReg 0x011) 0 = false then c.sysReg 0x018 else c.reg r := by
  rw [Core.leave_eq_swap]
  exact (Core.reg_swapUnless ..).trans (if_congr Iff.rfl ((Core.sysReg_setSys ..).trans (if_neg (by decide))) rfl)

/-- Return leaves everything of the core but its general and system registers, its program counter and the mark of a handler. -/
theorem Core.leave_frame (c : Core) : c.leave =
    { c with g := c.leave.g, pc := c.sysReg 0x012, sys := c.leave.sys, away := c.leave.away } := by
  rw [Core.leave_eq_swap, Core.swapUnless_eq]
  rfl

/-- Settles O19: the saved status says whether the exchange of g15 and XSP is undone. -/
theorem trapThenReturn : Obligations.TrapThenReturn := by
  intro c code xval c2
  have hst : (c.enter 3 code false c.pc xval 24 none).sysReg 0x011 = c.sysReg 0x010 := by
    simp [Core.sysReg_enter, Core.sysReg_saved]
  have hpc : (c.enter 3 code false c.pc xval 24 none).sysReg 0x012 = c.pc := by
    simp [Core.sysReg_enter, Core.sysReg_saved]
  have hsp : (c.enter 3 code false c.pc xval 24 none).sysReg 0x018 = if c.sup then c.sysReg 0x018 else c.reg 15 := by
    cases h : c.sup <;> simp [Core.sysReg_enter, Core.sysReg_saved, h]
  have hmode : bitOf (c.sysReg 0x010) 0 = c.sup := rfl
  refine ⟨?_, ?_, fun r _ => ?_, ?_⟩
  · simp [c2, Core.sysReg_leave, hst]
  · simp only [c2]
    rw [Core.leave_frame, hpc]
  · simp only [c2, Core.reg_leave, hst, hsp, hmode, Core.reg_enter]
    cases c.sup with
    | false => by_cases hr : r = 15 <;> simp [hr]
    | true => simp
  · simp only [c2, Core.sysReg_leave, hst, hsp, hmode, Core.reg_enter]
    cases c.sup <;> simp

/-! ## What enters an exception -/

section

variable {k : Fin 4} {i : Instr} {s : State} {word : Word} {legal priv : Bool} {body : State → State}

theorem traps_of_raise {code arg : Nat} {onFetch : Bool} {xval : Word}
    (h : exec i s = .next (raise k code arg onFetch xval (s.fetched k))) : Traps k i s code arg onFetch xval := by
  refine ⟨_, h, ?_⟩
  simp only [raise, State.core_setCore_self, true_and]
  exact entered_enter ..

/-- An instruction that R325 calls illegal enters ILLEGAL in either mode, with its word in XVAL. -/
theorem traps_of_illegal (hs : s.ready k) (h : exec i s = coreInstr k word legal priv body s) (hl : legal = false) :
    Traps k i s 1 0 false word :=
  traps_of_raise (by rw [h, coreInstr_of_ready hs, hl]; rfl)

theorem traps_of_illegal_mem {spans : State → List (Nat × Nat)} (hs : s.ready k)
    (h : exec i s = memInstr k word legal priv spans body s) (hl : legal = false) : Traps k i s 1 0 false word := by
  subst hl
  exact traps_of_illegal hs (h.trans (memInstr_of_illegal ..)) rfl

/-- A legal privileged instruction enters PRIV in user mode, with its word in XVAL. -/
theorem traps_of_user (hs : s.ready k) (hu : ((s.fetched k).core k).sup = false)
    (h : exec i s = coreInstr k word legal priv body s) (hl : legal = true) (hp : priv = true) : Traps k i s 2 0 false word :=
  traps_of_raise (by rw [h, coreInstr_of_ready hs, hl, hp, hu]; rfl)

/-- A fetch that is not honoured enters ILLEGAL with XVAL 0, whatever the instruction. -/
theorem traps_of_unhonoured_fetch (hr : s.coreRuns k = true) (hw : s.fetchWaits k = false)
    (hf : (fetch k (resume k s)).1 = 1) (h : exec i s = coreInstr k word legal priv body s) : Traps k i s 1 0 false 0 := by
  refine traps_of_raise ?_
  rw [h, coreInstr, act_of_true _ _ (by simp [hr, hw])]
  simp [coreStep, State.fetched, hf]

/-- An uncorrectable error on the fetch enters ECC_DATA with FETCH set and the address in XVAL. -/
theorem traps_of_failed_fetch (hr : s.coreRuns k = true) (hw : s.fetchWaits k = false)
    (hf : (fetch k (resume k s)).1 = 2) (h : exec i s = coreInstr k word legal priv body s) :
    Traps k i s 5 0 true (s.core k).pc := by
  refine traps_of_raise ?_
  rw [h, coreInstr, act_of_true _ _ (by simp [hr, hw])]
  simp [coreStep, State.fetched, hf]

/-- An instruction whose fetch is refused waits for no data. -/
theorem memInstr_of_refused_fetch {spans : State → List (Nat × Nat)} (hf : (fetch k (resume k s)).1 ≠ 0) :
    memInstr k word legal priv spans body s = coreInstr k word legal priv body s := by
  rw [memInstr, if_neg (by simp [hf])]

end

/-- Settles O17: both are `raise`, but for a core that the debugger has asked to halt at BKPT. -/
theorem trapAndBreak : Obligations.TrapAndBreak := by
  intro k code s hs
  have hb := exec_of_legal (i := .bkpt k code) hs rfl rfl nofun
  refine ⟨traps_of_raise (exec_of_legal hs rfl rfl nofun), fun h => traps_of_raise ?_, fun h => ?_⟩
  · rw [hb, h]
    rfl
  · rw [hb, h]
    rfl

/-- Settles O18: XRET is `Core.leave`, where no service waits to answer. -/
theorem exceptionReturn : Obligations.ExceptionReturn := by
  intro k s hs hsup hrets c
  refine ⟨_, exec_of_legal hs rfl rfl fun _ => hsup, ?_⟩
  have hpoll : ∀ c' : Core, svcPoll k ((s.fetched k).setCore k c') = (s.fetched k).setCore k c' := fun c' => by
    unfold svcPoll
    rw [show ((s.fetched k).setCore k c').flash.rets = [] from hrets]
    rfl
  simp only [hpoll, State.core_setCore_self, true_and]
  refine ⟨?_, ?_, ?_, fun r hr => ?_, ?_, ?_⟩
  · simp [c, Core.sysReg_leave]
  · rw [Core.leave_frame]
  · rw [Core.reg_leave, Core.sysReg_leave]
    cases bitOf (c.sysReg 0x011) 0 <;> simp [c]
  · rw [Core.reg_leave, if_neg (by omega)]
  · rw [Core.leave_frame]
  · rw [Core.leave_frame]

/-- Settles O25: whatever the instruction, and whatever it would read. -/
theorem refusedFetch : Obligations.RefusedFetch := by
  intro k d a b imm code s hr hw
  refine ⟨fun hf => ⟨traps_of_unhonoured_fetch hr hw hf rfl, ?_, traps_of_unhonoured_fetch hr hw hf rfl⟩,
    fun hf => ⟨traps_of_failed_fetch hr hw hf rfl, ?_, traps_of_failed_fetch hr hw hf rfl⟩⟩
  · exact traps_of_unhonoured_fetch hr hw hf
      ((show _ = execLdw k d a imm s from rfl).trans (memInstr_of_refused_fetch (by rw [hf]; decide)))
  · exact traps_of_failed_fetch hr hw hf
      ((show _ = execLdw k d a imm s from rfl).trans (memInstr_of_refused_fetch (by rw [hf]; decide)))

/-- Settles O26: each of the conditions keeps `coreRuns` from holding. -/
theorem stoppedCoreExecutesNothing : Obligations.StoppedCoreExecutesNothing := by
  intro k d a b s h
  have hr : s.coreRuns k = false := by
    rcases h with h | ⟨h1, h2⟩ | h | ⟨h1, h2⟩
    · simp [State.coreRuns, State.coreOnline, h]
    · simp [State.coreRuns, h1, h2]
    · simp [State.coreRuns, h]
    · simp [State.coreRuns, h1, h2]
  exact act_of_false _ s (by rw [hr]; rfl)

/-! ## Reserved fields and privilege (R325, R326) -/

theorem laneOk_eq_false {imm : BitVec 10} (h : imm.toNat / 256 = 3) : laneOk imm = false := by
  simp [laneOk, bits, h]

theorem pairOk_eq_false {d : BitVec 4} (h : d.toNat % 2 = 1 ∨ d.toNat = 0 ∨ d.toNat = 14) : pairOk d = false := by
  rcases h with h | h | h <;> simp [pairOk, h]

theorem not_both_zero {x y : BitVec 4} (h : x ≠ 0 ∨ y ≠ 0) : (x == 0 && y == 0) = false := by
  rcases h with h | h
  · rw [beq_false_of_ne h, Bool.false_and]
  · rw [beq_false_of_ne h, Bool.and_false]

/-- Settles O23: each of the fields makes the row's condition of legality false. -/
theorem reservedFieldsAreIllegal : Obligations.ReservedFieldsAreIllegal := by
  intro k d a b imm rest r8 s hs
  refine ⟨fun hb => ?_, fun hd => ?_, fun hr => ?_, fun hr => ?_, fun ha => ?_, fun hn => ?_, fun hi => ?_, fun hi => ?_,
    fun hl => ?_, fun hd => ?_, fun ha => ?_, fun h => ?_, fun h => ?_, fun h => ?_⟩
  · have hb : (b == 0) = false := beq_false_of_ne hb
    exact ⟨traps_of_illegal hs rfl hb, traps_of_illegal hs rfl hb, traps_of_illegal hs rfl hb, traps_of_illegal hs rfl hb,
      traps_of_illegal hs rfl hb, traps_of_illegal hs rfl hb, traps_of_illegal hs rfl hb, traps_of_illegal hs rfl hb,
      traps_of_illegal_mem hs (show _ = execAesenc k d a b s from rfl) hb, traps_of_illegal_mem hs (show _ = execAesdec k d a b s from rfl) hb, traps_of_illegal_mem hs (show _ = execVpow k d a b s from rfl) hb⟩
  · have hd : (d == 0) = false := beq_false_of_ne hd
    exact ⟨traps_of_illegal hs rfl hd, traps_of_illegal hs rfl hd, traps_of_illegal hs rfl (by rw [hd]; rfl),
      traps_of_illegal hs rfl hd⟩
  · have hr : (rest == 0) = false := beq_false_of_ne hr
    exact ⟨traps_of_illegal hs rfl hr, traps_of_illegal hs rfl hr, traps_of_illegal hs rfl hr, traps_of_illegal hs rfl hr⟩
  · exact traps_of_illegal hs rfl (beq_false_of_ne hr)
  · exact traps_of_illegal hs rfl (by rw [beq_false_of_ne ha]; rfl)
  · exact ⟨traps_of_illegal hs rfl (by rw [hn, Bool.and_false]), traps_of_illegal hs rfl (by rw [hn, Bool.and_false])⟩
  · have ok : shiftImmOk imm = false := Bool.eq_false_iff.2 (fun e => by have := (shiftImmOk_iff imm).1 e; omega)
    exact ⟨traps_of_illegal hs rfl ok, traps_of_illegal hs rfl ok, traps_of_illegal hs rfl ok, traps_of_illegal hs rfl ok⟩
  · exact traps_of_illegal hs rfl (Bool.eq_false_iff.2 (fun e => by have := (extOk_iff imm).1 e; omega))
  · have ok := laneOk_eq_false hl
    exact ⟨traps_of_illegal_mem hs (show _ = execLdo k d a imm s from rfl) ok, traps_of_illegal_mem hs (show _ = execLdos k d a imm s from rfl) ok, traps_of_illegal hs rfl ok⟩
  · have ok := pairOk_eq_false hd
    have ok' : ∀ p, (p && pairOk d) = false := fun p => by rw [ok, Bool.and_false]
    exact ⟨traps_of_illegal_mem hs (show _ = execLdp k d a imm s from rfl) ok, traps_of_illegal hs rfl ok, traps_of_illegal hs rfl (ok' _),
      traps_of_illegal hs rfl (ok' _), traps_of_illegal hs rfl (ok' _), traps_of_illegal hs rfl (ok' _)⟩
  · have ok : (pairOk a && pairOk d) = false := by rw [ha, Bool.false_and]
    exact ⟨traps_of_illegal hs rfl ok, traps_of_illegal hs rfl ok⟩
  · have hab := not_both_zero h
    have hdab : (d == 0 && a == 0 && b == 0) = false := by rw [Bool.and_assoc, hab, Bool.and_false]
    exact ⟨traps_of_illegal hs rfl hab, traps_of_illegal hs rfl hab, traps_of_illegal hs rfl hab, traps_of_illegal hs rfl hdab⟩
  · exact traps_of_illegal hs rfl (not_both_zero h)
  · have hdb := not_both_zero h
    exact ⟨traps_of_illegal hs rfl hdb, traps_of_illegal_mem hs (show _ = execAeskey k d a b s from rfl) hdb, traps_of_illegal_mem hs (show _ = execShablk k d a b s from rfl) hdb,
      traps_of_illegal hs rfl hdb, traps_of_illegal hs rfl hdb, traps_of_illegal_mem hs (show _ = execVfft k d a b s from rfl) hdb, traps_of_illegal_mem hs (show _ = execVifft k d a b s from rfl) hdb⟩

/-- Settles O24: each is legal, privileged, and in user mode. -/
theorem privilegedInUserMode : Obligations.PrivilegedInUserMode := by
  intro k d a imm s hs hu
  have hdi := traps_of_user (i := .di k d 0) hs hu rfl rfl rfl
  rw [show (0 : BitVec 8).toNat = 0 from rfl, Nat.add_zero] at hdi
  exact ⟨traps_of_user hs hu rfl rfl rfl, traps_of_user hs hu rfl rfl rfl, traps_of_user hs hu rfl rfl rfl,
    hdi, traps_of_user hs hu rfl rfl rfl, traps_of_user hs hu rfl rfl rfl,
    traps_of_user hs hu rfl rfl rfl, traps_of_user hs hu rfl rfl rfl, fun hn => traps_of_user hs hu rfl hn rfl,
    fun hn h2 => traps_of_user hs hu rfl hn (decide_eq_true h2)⟩

end Sys2Proof.Machine

/-! # Interrupts, watchdogs and system registers of the application cores

R314, R316, R329, R335, R338 and R339. -/

namespace Sys2Proof.Machine

open Sys2Proof

/-! ## The input of highest priority (R335) -/

/-- Input `n` of core `t` is pending with a priority at which it may be taken. -/
def State.candidate (s : State) (t n : Nat) : Prop := s.intcPending t n = true ∧ s.inputPrio t n ≠ 0

/-- `o` is the best of the candidates below `m`: of the highest priority, and the lowest of that priority. -/
def State.bestBelow (s : State) (t m : Nat) : Option Nat → Prop
  | none => ∀ i, i < m → ¬s.candidate t i
  | some b => b < m ∧ s.candidate t b ∧
      ∀ i, i < m → s.candidate t i →
        s.inputPrio t i < s.inputPrio t b ∨ (s.inputPrio t i = s.inputPrio t b ∧ b ≤ i)

theorem State.bestBelow_better (s : State) (t m : Nat) {o : Option Nat} (h : s.bestBelow t m o) :
    s.bestBelow t (m + 1) (better s t o m) := by
  have hc : (s.intcPending t m && s.inputPrio t m != 0) = true ↔ s.candidate t m := by
    rw [Bool.and_eq_true, bne_iff_ne, State.candidate]
  unfold better
  by_cases hm : s.candidate t m
  · rw [if_pos (hc.2 hm)]
    cases o with
    | none =>
      refine ⟨Nat.lt_succ_self m, hm, fun i hi hci => ?_⟩
      rcases Nat.lt_succ_iff_lt_or_eq.1 hi with hi | rfl
      · exact absurd hci (h i hi)
      · exact .inr ⟨rfl, le_rfl⟩
    | some b =>
      obtain ⟨hb, hcb, hbest⟩ := h
      dsimp only
      split
      · next hlt =>
        refine ⟨Nat.lt_succ_self m, hm, fun i hi hci => ?_⟩
        rcases Nat.lt_succ_iff_lt_or_eq.1 hi with hi | rfl
        · have := hbest i hi hci
          exact .inl (by omega)
        · exact .inr ⟨rfl, le_rfl⟩
      · next hle =>
        refine ⟨Nat.lt_succ_of_lt hb, hcb, fun i hi hci => ?_⟩
        rcases Nat.lt_succ_iff_lt_or_eq.1 hi with hi | rfl
        · exact hbest i hi hci
        · omega
  · rw [if_neg (fun e => hm (hc.1 e))]
    cases o with
    | none =>
      intro i hi hci
      rcases Nat.lt_succ_iff_lt_or_eq.1 hi with hi | rfl
      · exact h i hi hci
      · exact hm hci
    | some b =>
      obtain ⟨hb, hcb, hbest⟩ := h
      refine ⟨Nat.lt_succ_of_lt hb, hcb, fun i hi hci => ?_⟩
      rcases Nat.lt_succ_iff_lt_or_eq.1 hi with hi | rfl
      · exact hbest i hi hci
      · exact absurd hci hm

theorem State.bestBelow_topInput (s : State) (t : Nat) : s.bestBelow t 128 (s.topInput t) := by
  have key : ∀ m, s.bestBelow t m ((List.range m).foldl (better s t) none) := by
    intro m
    induction m with
    | zero => exact fun i hi => absurd hi (Nat.not_lt_zero i)
    | succ m ih =>
      rw [List.range_succ, List.foldl_append]
      exact s.bestBelow_better t m ih
  exact key 128

theorem State.takeable_eq_some {s : State} {k : Fin 4} {n : Nat} :
    s.takeable k = some n ↔ s.topInput k.val = some n ∧ (s.core k).ipl < s.inputPrio k.val n := by
  unfold State.takeable
  cases h : s.topInput k.val with
  | none => simp
  | some m =>
    simp only [Option.ite_none_right_eq_some, Option.some.injEq]
    constructor
    · rintro ⟨hlt, rfl⟩
      exact ⟨rfl, hlt⟩
    · rintro ⟨rfl, hlt⟩
      exact ⟨hlt, rfl⟩

/-- Settles O22: the input that `topInput` gives is the best of all. -/
theorem highestInputIsTaken : Obligations.HighestInputIsTaken := by
  intro k n s h
  obtain ⟨htop, hlt⟩ := State.takeable_eq_some.1 h
  have hbest := s.bestBelow_topInput k.val
  rw [htop] at hbest
  obtain ⟨hn, ⟨hp, hprio⟩, hall⟩ := hbest
  exact ⟨hn, hp, hprio, hlt, fun m hm hpm hm0 => hall m hm ⟨hpm, hm0⟩⟩

/-- Settles O21: an input that no other one beats is the one `topInput` gives. -/
theorem interruptTakeCompletes : Obligations.InterruptTakeCompletes := by
  intro k n s hn hp hlt hall honline hhalted hie hvec
  have hc : s.candidate k.val n := ⟨hp, by omega⟩
  have htop : s.topInput k.val = some n := by
    have hbest := s.bestBelow_topInput k.val
    cases ho : s.topInput k.val with
    | none =>
      rw [ho] at hbest
      exact absurd hc (hbest n hn)
    | some b =>
      rw [ho] at hbest
      obtain ⟨hb, hcb, hbeats⟩ := hbest
      by_cases hbn : b = n
      · rw [hbn]
      · have h1 := hbeats n hn hc
        have h2 := hall b hb hbn hcb.1
        omega
  have htake := State.takeable_eq_some.2 ⟨htop, hlt⟩
  change execInterruptTake k s = _
  unfold execInterruptTake
  rw [htake]
  exact act_of_true _ s (by simp [honline, hhalted, hie, hvec])

/-! ## Pending bits (R335, R338) -/

section

variable {s : State} {j k m n : Nat}

theorem State.reg_pendIn_ne {a : Nat} (h : a ≠ R.intcPend j (n / 24)) : (pendIn j n s).reg a = s.reg a :=
  s.reg_setBit_ne _ _ h

/-- Pending words are met by no enable word, and by neither of the registers of cores that are offline. -/
theorem State.intcEnabled_pendIn (hm : m < 128) (hn : n < 128) : (pendIn j n s).intcEnabled k m = s.intcEnabled k m :=
  State.bit_congr (State.reg_pendIn_ne (by unfold R.intcEn R.intcPend; omega)) _

theorem State.offline_pendIn (hn : n < 128) : (pendIn j n s).offline k = s.offline k :=
  State.bit_congr (State.reg_pendIn_ne (by unfold R.intcCorectl R.intcPend; omega)) _

/-- What pends once an input has been made to pend. -/
theorem State.intcPending_pendIn (hm : m < 128) (hn : n < 128) :
    (pendIn j n s).intcPending k m = (decide (k = j ∧ m = n) || s.intcPending k m) := by
  unfold State.intcPending
  by_cases ha : R.intcPend k (m / 24) = R.intcPend j (n / 24)
  · have hk : k = j ∧ m / 24 = n / 24 := by
      unfold R.intcPend at ha
      omega
    rw [ha]
    by_cases hb : m % 24 = n % 24
    · rw [hb, decide_eq_true (by omega), Bool.true_or]
      exact s.bit_setBit_self _ _ (Nat.mod_lt _ (by decide))
    · rw [decide_eq_false (by rintro ⟨-, rfl⟩; exact hb rfl), Bool.false_or]
      exact s.bit_setBit_ne _ _ hb (Nat.mod_lt _ (by decide))
  · rw [decide_eq_false (by rintro ⟨rfl, rfl⟩; exact ha rfl), Bool.false_or]
    exact State.bit_congr (State.reg_pendIn_ne ha) _

theorem State.intcEnabled_pendEvent (hm : m < 128) (hn : n < 128) : (pendEvent n j s).intcEnabled k m = s.intcEnabled k m := by
  unfold pendEvent
  split
  · rfl
  · split
    · exact State.intcEnabled_pendIn hm hn
    · split
      · rw [State.intcEnabled_pendIn hm hn, State.intcEnabled_pendIn hm hn]
      · rfl

theorem State.offline_pendEvent (hn : n < 128) : (pendEvent n j s).offline k = s.offline k := by
  unfold pendEvent
  split
  · rfl
  · split
    · exact State.offline_pendIn hn
    · split
      · rw [State.offline_pendIn hn, State.offline_pendIn hn]
      · rfl

/-- An event makes its input pend in an online core that enables it. -/
theorem State.intcPending_pendEvent_self (hn : n < 128) (ho : s.offline k = false) (he : s.intcEnabled k n = true) :
    (pendEvent n k s).intcPending k n = true := by
  rw [pendEvent, he, ho]
  change (pendIn k n s).intcPending k n = true
  rw [State.intcPending_pendIn hn hn, decide_eq_true ⟨rfl, rfl⟩, Bool.true_or]

/-- An event takes no pending bit away. -/
theorem State.intcPending_pendEvent_mono (hm : m < 128) (hn : n < 128) (h : s.intcPending k m = true) :
    (pendEvent n j s).intcPending k m = true := by
  unfold pendEvent
  split
  · exact h
  · split
    · rw [State.intcPending_pendIn hm hn, h, Bool.or_true]
    · split
      · rw [State.intcPending_pendIn hm hn, State.intcPending_pendIn hm hn, h, Bool.or_true, Bool.or_true]
      · exact h

theorem State.intcPending_pendEvents_mono (hn : n < 128) (l : List Nat) {t : State} (h : t.intcPending k n = true) :
    (forAll l (pendEvent n) t).intcPending k n = true := by
  unfold forAll
  induction l generalizing t with
  | nil => exact h
  | cons j l ih => exact ih (State.intcPending_pendEvent_mono hn hn h)

theorem State.intcPending_pendEvents (hn : n < 128) {l : List Nat} (hk : k ∈ l) {t : State} (ho : t.offline k = false)
    (he : t.intcEnabled k n = true) : (forAll l (pendEvent n) t).intcPending k n = true := by
  induction l generalizing t with
  | nil => exact absurd hk List.not_mem_nil
  | cons j l ih =>
    rcases List.mem_cons.1 hk with rfl | hk
    · exact State.intcPending_pendEvents_mono hn l (State.intcPending_pendEvent_self hn ho he)
    · exact ih hk (t := pendEvent n j t) ((State.offline_pendEvent hn).trans ho) ((State.intcEnabled_pendEvent hn hn).trans he)

theorem State.intcPending_fire (hn : n < 128) (hk : k < 4) (ho : s.offline k = false) (he : s.intcEnabled k n = true) :
    (fire n s).intcPending k n = true := by
  have h := State.intcPending_pendEvents hn (l := [0, 1, 2, 3]) (by simp; omega) ho he
  unfold fire
  split
  · exact h
  · exact h

end

/-- Settles O43: an event reaches each online core's own word; SETPEND the named core's, and that of the core it is routed to. -/
theorem inputsPend : Obligations.InputsPend := by
  refine ⟨fun n k s hn hk ho he => ⟨State.intcPending_fire hn hk ho he, mem_fire s n, cores_fire s n⟩, fun w k v s hw => ?_⟩
  intro n routed
  have hn : n < 128 := Nat.mod_lt _ (by decide)
  have hv : bits v 0 7 = n := by simp [bits, n]
  have hexec : exec (.setpend w k v) s = .next (setpendWrite k.val v s) := act_of_true _ s hw
  refine ⟨_, hexec, ?_⟩
  rw [setpendWrite, hv]
  dsimp only
  by_cases hr : (s.offline k.val && s.intcEnabled k.val n) = true
  · rw [if_pos hr]
    rw [Bool.and_eq_true] at hr
    cases hf : s.fallback with
    | none =>
      refine ⟨?_, fun j hj => ?_, fun j m _ hm hne => ?_, rfl, rfl⟩
      · simp [State.intcPending_pendIn hn hn]
      · exact absurd (hf.symm.trans hj.2.2) nofun
      · rw [State.intcPending_pendIn hm hn, decide_eq_false (by omega), Bool.false_or]
    | some t =>
      refine ⟨?_, fun j hj => ?_, fun j m _ hm hne => ?_, rfl, rfl⟩
      · simp [State.intcPending_pendIn hn hn]
      · obtain rfl := Option.some.inj (hf.symm.trans hj.2.2)
        simp [State.intcPending_pendIn hn hn]
      · have ht : ¬(j = t ∧ m = n) := by
          rintro ⟨rfl, rfl⟩
          exact hne.elim (fun h => h rfl) (fun h => h.2 ⟨hr.1, hr.2, hf⟩)
        rw [State.intcPending_pendIn hm hn, State.intcPending_pendIn hm hn, decide_eq_false ht, decide_eq_false (by omega),
          Bool.false_or, Bool.false_or]
  · rw [if_neg hr]
    rw [Bool.and_eq_true] at hr
    refine ⟨?_, fun j hj => ?_, fun j m _ hm hne => ?_, rfl, rfl⟩
    · simp [State.intcPending_pendIn hn hn]
    · exact absurd ⟨hj.1, hj.2.1⟩ hr
    · rw [State.intcPending_pendIn hm hn, decide_eq_false (by omega), Bool.false_or]

/-! ## Watchdogs (R339) -/

theorem State.wdTimeout_lt (s : State) (k : Nat) : s.wdTimeout k < 2 ^ 16 :=
  max_lt (by decide) (Nat.mod_lt _ (by decide))

/-- Settles O42: the key sets one field of one register. -/
theorem watchdogKicks : Obligations.WatchdogKicks := by
  intro w k v s hw
  have hexec : exec (.watchdogKick w k v) s = .next (wdKick k v s) := act_of_true _ s hw
  refine ⟨fun hv => ⟨_, hexec, ?_⟩, fun hv hr => ?_⟩
  · rw [wdKick, if_pos (beq_iff_eq.2 hv)]
    refine ⟨?_, fun a ha => s.reg_setFld_ne _ _ _ ha, rfl, rfl⟩
    rw [State.fld_setFld_self _ _ _ (by decide), Nat.mod_eq_of_lt (s.wdTimeout_lt _)]
    rfl
  · rw [hexec, wdKick, if_neg (fun e => hv (beq_iff_eq.1 e)), if_pos hr]

end Sys2Proof.Machine

/-! # System functions and system registers of the application cores

R314, R316, R319, R329 and R351. -/

namespace Sys2Proof.Machine

open Sys2Proof

/-! ## The fetch and its core (R328) -/

theorem State.core_resume (s : State) (k : Fin 4) : (resume k s).core k = { s.core k with waiting := false } := by
  rw [resume, State.core_setCore_self]
  rfl

theorem State.core_of_cores {s t : State} (h : t.cores = s.cores) (k : Fin 4) : t.core k = s.core k := by
  rw [State.core, State.core, h]

/-- A line that comes into the I-cache changes nothing else of the core. -/
theorem core_icAlloc (line : Nat) (k : Fin 4) (s : State) :
    (icAlloc line k s).core k = { s.core k with icache := ((icAlloc line k s).core k).icache } := by
  unfold icAlloc
  simp only [State.core_setCore_self]

/-- The fetch leaves the core its registers, its program counter and its accumulator, and takes it out of WAIT. -/
theorem State.core_fetched (s : State) (k : Fin 4) :
    (s.fetched k).core k = { s.core k with waiting := false, icache := ((s.fetched k).core k).icache } := by
  have hr := s.core_resume k
  have hm : ∀ a, (memRead k.val a (resume k s)).2.2.core k = (resume k s).core k := fun a =>
    State.core_of_cores (memRead_aside k.val a _ aside_self).cores k
  unfold State.fetched fetch
  dsimp only
  split
  · rw [hr]
  · split
    · rw [hr]
    · split
      · simp only [Bool.false_eq_true, if_false]
        split
        · rw [core_icAlloc, hr]
        · rw [hr]
      · split
        · rw [hm, hr]
        · split
          · rw [core_icAlloc, hm, hr]
          · rw [hm, hr]

theorem State.reg_fetched (s : State) (k : Fin 4) (r : Nat) : ((s.fetched k).core k).reg r = (s.core k).reg r := by
  rw [State.core_fetched]
  rfl

theorem State.waiting_fetched (s : State) (k : Fin 4) : ((s.fetched k).core k).waiting = false := by
  rw [State.core_fetched]

/-! ## EI, DI, WAIT and FENCE (R314) -/

theorem setBits_one_set (v : Word) : setBits v 1 1 1 = v ||| 2 := by
  apply BitVec.eq_of_getLsbD_eq
  intro i hi
  rw [getLsbD_setBits _ _ _ _ hi, BitVec.getLsbD_or, show (2 : Word) = BitVec.ofNat 24 (2 ^ 1) from rfl, BitVec.getLsbD_ofNat,
    Nat.testBit_two_pow]
  by_cases h : i = 1
  · simp [h]
  · rw [if_neg (by omega)]
    simp [Ne.symm h]

theorem setBits_one_clear (v : Word) : setBits v 1 1 0 = v &&& ~~~2 := by
  apply BitVec.eq_of_getLsbD_eq
  intro i hi
  rw [getLsbD_setBits _ _ _ _ hi, BitVec.getLsbD_and, BitVec.getLsbD_not, show (2 : Word) = BitVec.ofNat 24 (2 ^ 1) from rfl,
    BitVec.getLsbD_ofNat, Nat.testBit_two_pow]
  by_cases h : i = 1
  · simp [h]
  · rw [if_neg (by omega)]
    simp [Ne.symm h, hi]

/-- Settles O27: EI and DI set and clear one bit of STATUS; WAIT finds the core out of WAIT, as its fetch has left it. -/
theorem systemFunctions : Obligations.SystemFunctions := by
  intro k d s hs u c
  refine ⟨exec_of_legal (i := .fence k 0) hs rfl rfl nofun, fun hsup => ⟨?ei, ⟨_, exec_of_legal hs rfl rfl fun _ => hsup, ?di⟩,
    ⟨_, exec_of_legal hs rfl rfl fun _ => hsup, ?wait⟩⟩⟩
  case ei =>
    exact putsCore_of_setCore hs rfl rfl (fun _ => hsup) (by rw [setBits_one_set]) rfl
  case di =>
    have h := putReg_onlyRegs k d (ofBool c.ie) (u.setCore k (c.setSys 0x010 (c.sysReg 0x010 &&& ~~~2)))
    rw [State.core_setCore_self] at h
    dsimp only
    rw [setBits_one_clear]
    exact h
  case wait =>
    have hw : c.waiting = false := s.waiting_fetched k
    dsimp only
    cases ht : (s.fetched k).takeable k with
    | none =>
      simp only [Option.isSome_none, Bool.false_eq_true, if_false, Option.isNone_none, nextPc, State.core_setCore_self,
        State.setCore_setCore, u, c]
    | some n =>
      simp only [Option.isSome_some, if_true, Option.isNone_some, nextPc, u, c]
      rw [← hw]

/-! ## MFS and MTS (R316, R319, R329) -/

section

variable {k : Fin 4} {s : State} {d a : BitVec 4} {n : BitVec 10}

theorem putsReg_mfs {v : Word} (hs : s.ready k) (hn : sysExists n.toNat = true)
    (hp : 2 < n.toNat → ((s.fetched k).core k).sup = true) (hv : sysRead k n.toNat (s.fetched k) = (v, s.fetched k)) :
    PutsReg k (.mfs k d 0 n) s d v := by
  refine ⟨_, exec_of_legal hs rfl hn (fun h => hp (of_decide_eq_true h)), ?_⟩
  dsimp only
  rw [hv]
  exact putReg_onlyRegs ..

/-- The registers that MFS reads as they are stored. -/
theorem sysRead_stored (k : Fin 4) {n : Nat} (s : State) (h2 : 2 < n) (h : n ≠ 0x051 ∧ n ≠ 0x052 ∧ n ≠ 0x053) :
    sysRead k n s = ((s.core k).sysReg n, s) := by
  unfold sysRead
  dsimp only
  rw [if_neg (by omega), if_neg (by omega), if_neg (by omega), if_neg h.1, if_neg h.2.1, if_neg h.2.2]

theorem putsCore_mts {c : Core} (hs : s.ready k) (hn : sysExists n.toNat = true) (hsup : ((s.fetched k).core k).sup = true)
    (hv : ((s.fetched k).core k).sysWrite n.toNat (((s.fetched k).core k).reg a.toNat) = c)
    (hpc : c.pc = ((s.fetched k).core k).pc) : PutsCore k (.mts k 0 a n) s c :=
  putsCore_of_setCore hs rfl hn (fun _ => hsup) hv hpc

end

section

variable (c : Core) (v : Word)

/-- A write of a register that is not part of ACC. -/
theorem Core.sysWrite_masked {n : Nat} (h : n ≠ 0x051 ∧ n ≠ 0x052 ∧ n ≠ 0x053) :
    c.sysWrite n v = c.setSys n ((c.sysReg n &&& ~~~(sysMask n)) ||| (v &&& sysMask n)) := by
  unfold Core.sysWrite
  rw [if_neg h.1, if_neg h.2.1, if_neg h.2.2]

theorem Core.sysWrite_whole {n : Nat} (h : n ≠ 0x051 ∧ n ≠ 0x052 ∧ n ≠ 0x053) (hm : sysMask n = 0xFFFFFF) :
    c.sysWrite n v = c.setSys n v := by
  rw [c.sysWrite_masked v h, hm]
  congr 1
  rw [show ~~~(0xFFFFFF : Word) = 0#24 from rfl, BitVec.and_zero, BitVec.zero_or]
  exact BitVec.and_allOnes

/-- A write of a read-only register. -/
theorem Core.sysReg_sysWrite_readOnly {n : Nat} (h : n ≠ 0x051 ∧ n ≠ 0x052 ∧ n ≠ 0x053) (hm : sysMask n = 0#24) (j : Nat) :
    (c.sysWrite n v).sysReg j = c.sysReg j := by
  rw [c.sysWrite_masked v h, hm, BitVec.and_zero, BitVec.or_zero, Core.sysReg_setSys]
  split
  · next hj =>
    subst hj
    exact BitVec.and_allOnes
  · rfl

theorem Core.sysWrite_acc0 : c.sysWrite 0x051 v = { c with acc := c.acc.extractLsb' 24 32 ++ v } := by
  have h : BitVec.ofNat 56 (c.acc.toNat / 2 ^ 24 * 2 ^ 24 + v.toNat) = c.acc.extractLsb' 24 32 ++ v := by
    apply BitVec.eq_of_toNat_eq
    have ha := c.acc.isLt
    have hv := v.isLt
    rw [toNat_append_eq_add, BitVec.extractLsb'_toNat, Nat.shiftRight_eq_div_pow, BitVec.toNat_ofNat]
    omega
  exact congrArg (fun x => { c with acc := x }) h

theorem Core.sysWrite_acc1 :
    c.sysWrite 0x052 v = { c with acc := c.acc.extractLsb' 48 8 ++ v ++ c.acc.extractLsb' 0 24 } := by
  have h : BitVec.ofNat 56 (c.acc.toNat / 2 ^ 48 * 2 ^ 48 + v.toNat * 2 ^ 24 + c.acc.toNat % 2 ^ 24) =
      c.acc.extractLsb' 48 8 ++ v ++ c.acc.extractLsb' 0 24 := by
    apply BitVec.eq_of_toNat_eq
    have ha := c.acc.isLt
    have hv := v.isLt
    rw [toNat_append_eq_add, toNat_append_eq_add, BitVec.extractLsb'_toNat, BitVec.extractLsb'_toNat,
      Nat.shiftRight_eq_div_pow, Nat.shiftRight_eq_div_pow, BitVec.toNat_ofNat]
    omega
  exact congrArg (fun x => { c with acc := x }) h

theorem Core.sysWrite_acc2 :
    c.sysWrite 0x053 v = { c with acc := v.extractLsb' 0 8 ++ c.acc.extractLsb' 0 48, sat := v.getLsbD 23 } := by
  have h : BitVec.ofNat 56 (bits v 0 8 * 2 ^ 48 + c.acc.toNat % 2 ^ 48) = v.extractLsb' 0 8 ++ c.acc.extractLsb' 0 48 := by
    apply BitVec.eq_of_toNat_eq
    have ha := c.acc.isLt
    have hv := v.isLt
    rw [toNat_append_eq_add, BitVec.extractLsb'_toNat, BitVec.extractLsb'_toNat, Nat.shiftRight_eq_div_pow,
      Nat.shiftRight_eq_div_pow, BitVec.toNat_ofNat, bits]
    omega
  exact congrArg₂ (fun x y => { c with acc := x, sat := y }) h (bitOf_eq_getLsbD v 23)

end

section

variable {k : Fin 4} {s : State} {a : BitVec 4}

theorem answers_mts_readOnly {n : BitVec 10} (hs : s.ready k) (hsup : ((s.fetched k).core k).sup = true)
    (hn : sysExists n.toNat = true) (h : n.toNat ≠ 0x051 ∧ n.toNat ≠ 0x052 ∧ n.toNat ≠ 0x053) (hm : sysMask n.toNat = 0#24) :
    Answers (.mts k 0 a n) s (fun t => ∀ j, (t.core k).sysReg j = ((s.fetched k).core k).sysReg j) := by
  refine ⟨_, exec_of_legal hs rfl hn fun _ => hsup, fun j => ?_⟩
  simp only [nextPc, State.core_setCore_self]
  exact Core.sysReg_sysWrite_readOnly _ _ h hm j

/-- Where a mask keeps the bits that it does not take. -/
theorem masked_and_mask (r v m : Word) : ((r &&& ~~~m) ||| (v &&& m)) &&& m = v &&& m := by
  ext i hi
  simp only [BitVec.getElem_and, BitVec.getElem_or, BitVec.getElem_not]
  cases m[i] <;> simp

theorem masked_and_not (r v m : Word) : ((r &&& ~~~m) ||| (v &&& m)) &&& ~~~m = r &&& ~~~m := by
  ext i hi
  simp only [BitVec.getElem_and, BitVec.getElem_or, BitVec.getElem_not]
  cases m[i] <;> simp

theorem answers_mts_xbase (hs : s.ready k) (hsup : ((s.fetched k).core k).sup = true) :
    Answers (.mts k 0 a 0x015) s (fun t => ∃ x,
      t = (s.fetched k).setCore k { ((s.fetched k).core k).setSys 0x015 x with pc := ((s.fetched k).core k).pc + 1 } ∧
      x &&& 0xFFFE00 = ((s.fetched k).core k).reg a.toNat &&& 0xFFFE00 ∧
      x &&& 0x1FF = ((s.fetched k).core k).sysReg 0x015 &&& 0x1FF) := by
  refine ⟨_, exec_of_legal hs rfl rfl fun _ => hsup, _, ?_, masked_and_mask _ _ 0xFFFE00, masked_and_not _ _ 0xFFFE00⟩
  simp only [nextPc, State.core_setCore_self, State.setCore_setCore]
  rfl

end

/-- Settles O28: each register by its place in the tables of system registers. -/
theorem systemRegisterMoves : Obligations.SystemRegisterMoves := by
  intro k d a s hs u c v
  refine ⟨putsReg_mfs hs rfl (fun h => absurd h (by decide)) rfl, putsReg_mfs hs rfl (fun h => absurd h (by decide)) rfl,
    ⟨Config.freeWord u.draws, Config.freeWord (u.draws + 1), _, exec_of_legal hs rfl rfl nofun, ?cycle⟩,
    fun hsup => ⟨fun n hn => ?stored, putsReg_mfs hs rfl (fun _ => hsup) ?acc0, putsReg_mfs hs rfl (fun _ => hsup) ?acc1,
      putsReg_mfs hs rfl (fun _ => hsup) ?acc2, fun n hn => ?whole, answers_mts_xbase hs hsup,
      putsCore_mts hs rfl hsup (c.sysWrite_acc0 v) rfl, putsCore_mts hs rfl hsup (c.sysWrite_acc1 v) rfl,
      putsCore_mts hs rfl hsup (c.sysWrite_acc2 v) rfl, fun n hn => ?readOnly⟩⟩
  case cycle =>
    have h := putReg_onlyRegs k d (Config.freeWord u.draws)
      ((u.drawn.drawn).setCore k { c with cycSnap := Config.freeWord (u.draws + 1) })
    rw [State.core_setCore_self] at h
    exact h
  case stored =>
    have hx : sysExists n.toNat = true := by
      simp only [sysExists, Bool.or_eq_true, Bool.and_eq_true, decide_eq_true_eq, beq_iff_eq]
      omega
    exact putsReg_mfs hs hx (fun _ => hsup) (sysRead_stored k _ (by omega) (by omega))
  case acc0 => exact congrArg (·, u) (wordOf_eq_extractLsb' c.acc 0)
  case acc1 => exact congrArg (·, u) (wordOf_eq_extractLsb' c.acc 1)
  case acc2 =>
    have h : bits c.acc 48 8 = (c.acc.extractLsb' 48 8).toNat := by
      rw [BitVec.extractLsb'_toNat, Nat.shiftRight_eq_div_pow]
      rfl
    rw [← h]
    rfl
  case whole =>
    rcases hn with rfl | rfl | rfl | rfl <;>
      exact putsCore_mts hs rfl hsup (c.sysWrite_whole v (by decide) (by decide)) rfl
  case readOnly =>
    rcases hn with rfl | rfl | rfl | rfl | rfl <;>
      exact answers_mts_readOnly hs hsup rfl (by decide) (by decide)

end Sys2Proof.Machine

/-! # Caches, data accesses in general, and the coprocessors

R311, R312, R315 and R321 to R324, R331 and R332: what each instruction does with the outcome of its reads, of its write-backs and of its
function. -/

namespace Sys2Proof.Machine

open Sys2Proof

/-! ## Cache maintenance (R315, R332) -/

section

variable {k : Fin 4} {i : Instr} {s : State}

/-- A line operation of the core's own: nothing of it where the MPU denies the address. -/
theorem putsCore_of_lineOp {op a : BitVec 4} {priv : Bool} {kd : AccKind} {imm : BitVec 10} {f : Nat → State → State} {c : Core}
    (hs : s.ready k) (h : exec i s = lineOp k op priv kd a imm f s) (hp : priv = true → ((s.fetched k).core k).sup = true)
    (hok : ((s.fetched k).core k).mpuOk (ea ((s.fetched k).core k) a imm) kd = true →
      f (ea ((s.fetched k).core k) a imm) (s.fetched k) = (s.fetched k).setCore k c)
    (hno : ((s.fetched k).core k).mpuOk (ea ((s.fetched k).core k) a imm) kd = false → c = (s.fetched k).core k)
    (hpc : c.pc = ((s.fetched k).core k).pc) : PutsCore k i s c := by
  refine (exec_of_legal hs h rfl hp).trans ?_
  dsimp only
  split
  · next ho =>
    rw [hok ho]
    simp only [nextPc, State.core_setCore_self, State.setCore_setCore, hpc]
  · next hn =>
    rw [hno (Bool.eq_false_iff.2 hn)]
    rfl

end

/-- Settles O29: `eccOr` raises ECC_DATA where a line is lost, and lets the operation go on where none is. -/
theorem cacheMaintenance : Obligations.CacheMaintenance := by
  intro k a imm s hs u c x ends
  have hends : ∀ (r : Option Nat × State) (f : State → State), eccOr k (fun t => nextPc k (f t)) r = ends r f := by
    rintro ⟨_ | e, t⟩ f
    · rfl
    · rfl
  have hall : exec (.dflushall k a imm) s = .next (ends (cleanCore k u) (dropAll k)) :=
    (exec_of_legal (i := .dflushall k a imm) hs rfl rfl nofun).trans (congrArg _ (hends _ _))
  refine ⟨(exec_of_legal (i := .dclean k a imm) hs rfl rfl nofun).trans (congrArg _ (hends _ id)),
    (exec_of_legal (i := .dflush k a imm) hs rfl rfl nofun).trans (congrArg _ (hends _ id)), ?iline,
    (exec_of_legal (i := .dcleanall k a imm) hs rfl rfl nofun).trans (congrArg _ (hends _ id)), hall, fun hc => ?flushed,
    fun hsup => ⟨?dinv, putsCore_of_setCore hs rfl rfl (fun _ => hsup) rfl rfl,
      putsCore_of_setCore hs rfl rfl (fun _ => hsup) rfl rfl,
      exec_of_legal (i := .fcinv k a imm) hs rfl rfl fun _ => hsup⟩⟩
  case iline =>
    refine putsCore_of_lineOp hs (show _ = execIline k a imm s from rfl) nofun (fun ho => ?_) (fun hn => ?_) rfl
    · rw [if_pos (show c.mpuOk x .ex = true from ho)]
      rfl
    · rw [if_neg (by rw [show c.mpuOk x .ex = false from hn]; decide)]
  case dinv =>
    refine putsCore_of_lineOp hs (show _ = execDinv k a imm s from rfl) (fun _ => hsup) (fun ho => ?_) (fun hn => ?_) rfl
    · rw [if_pos (show c.mpuOk x .rd = true from ho)]
      rfl
    · rw [if_neg (by rw [show c.mpuOk x .rd = false from hn]; decide)]
  case flushed =>
    refine ⟨_, hall, ?_⟩
    cases hr : cleanCore k u with
    | mk e t =>
      rw [hr] at hc
      obtain rfl : e = none := hc
      refine ⟨?_, rfl⟩
      simp [ends, dropAll, nextPc]

/-! ## Loads, stores and SWP in general (R311, R312, R331, R332) -/

section

variable {k : Fin 4} {i : Instr} {s : State} {word : Word} {legal : Bool} {spans : State → List (Nat × Nat)} {body : State → State}

/-- A legal instruction whose reads none of them wait for flash has its own effect on the state after its fetch. -/
theorem exec_of_readable (hs : s.ready k) (h : exec i s = memInstr k word legal false spans body s) (hl : legal = true)
    (hw : ∀ e ∈ spans s, s.dataWaits k e.1 e.2 = false) : exec i s = .next (body (s.fetched k)) := by
  subst hl
  rw [h, memInstr_of_ready hs word false (List.any_eq_false.2 fun e he => by rw [hw e he]; decide)]
  rfl

end

theorem bits_lane (imm : BitVec 10) : bits imm 8 2 = imm.toNat / 256 :=
  Nat.mod_eq_of_lt (by have := imm.isLt; omega)

theorem laneOk_iff (imm : BitVec 10) : laneOk imm = true ↔ imm.toNat / 256 < 3 := by
  have := imm.isLt
  rw [laneOk, bits_lane, bne_iff_ne]
  omega

section

variable {k : Fin 4} {d a : BitVec 4} {imm : BitVec 10} {u w : State} {o : Octet}

theorem loadOctet_of_read (f : Octet → Word)
    (h : dReadOctet k (eaOctet (u.core k) a imm) (imm.toNat / 256) u = (o, none, w)) :
    loadOctet k d a imm f u = putReg k d (f o) w := by
  rw [loadOctet, bits_lane, h]

theorem loadOctet_of_error {e : Nat} (f : Octet → Word)
    (h : dReadOctet k (eaOctet (u.core k) a imm) (imm.toNat / 256) u = (o, some e, w)) :
    loadOctet k d a imm f u = raise k 5 0 false (W e) w := by
  rw [loadOctet, bits_lane, h]

end

section

variable {k : Fin 4} {d a : BitVec 4} {imm : BitVec 10} {s : State}

theorem exec_ldw (hs : s.ready k) (hw : s.dataWaits k (ea (s.core k) a imm) 1 = false) :
    exec (.ldw k d a imm) s = .next (match dRead k (ea ((s.fetched k).core k) a imm) (s.fetched k) with
      | (_, some e, t) => eccData k e t
      | (v, none, t) => putReg k d v t) :=
  exec_of_readable hs (show _ = execLdw k d a imm s from rfl) rfl (by simpa using hw)

theorem exec_swp (hs : s.ready k) (hw : s.dataWaits k (ea (s.core k) a imm) 1 = false) :
    exec (.swp k d a imm) s = .next (swap k d (ea ((s.fetched k).core k) a imm) (s.fetched k)) :=
  (exec_of_readable hs (show exec (.swp k d a imm) s = execSwp k d a imm s from rfl) rfl (by simpa using hw) :)

theorem exec_ldo (hs : s.ready k) (hl : imm.toNat / 256 < 3) (hw : s.dataWaits k (eaOctet (s.core k) a imm) 1 = false) :
    exec (.ldo k d a imm) s = .next (loadOctet k d a imm (fun o => W o.toNat) (s.fetched k)) :=
  (exec_of_readable hs (show exec (.ldo k d a imm) s = execLdo k d a imm s from rfl) ((laneOk_iff imm).2 hl) (by simpa using hw) :)

theorem exec_ldos (hs : s.ready k) (hl : imm.toNat / 256 < 3) (hw : s.dataWaits k (eaOctet (s.core k) a imm) 1 = false) :
    exec (.ldos k d a imm) s = .next (loadOctet k d a imm sext (s.fetched k)) :=
  (exec_of_readable hs (show exec (.ldos k d a imm) s = execLdos k d a imm s from rfl) ((laneOk_iff imm).2 hl) (by simpa using hw) :)

theorem exec_ldp (hs : s.ready k) (hd : pairOk d = true) (hw : s.dataWaits k (ea (s.core k) a imm) 2 = false) :
    exec (.ldp k d a imm) s = .next (match dReads k (ea ((s.fetched k).core k) a imm) 2 (s.fetched k) with
      | (_, some e, t) => eccData k e t
      | (l, none, t) => nextPc k (t.setCore k ((t.core k).setPair d.toNat (l.getD 0 0) (l.getD 1 0)))) :=
  (exec_of_readable hs (show exec (.ldp k d a imm) s = execLdp k d a imm s from rfl) hd (by simpa using hw) :)

theorem exec_stw (hs : s.ready k) : exec (.stw k d a imm) s =
    .next (storeWords k (ea ((s.fetched k).core k) a imm) [((s.fetched k).core k).reg d.toNat] (s.fetched k)) :=
  (exec_of_legal (i := .stw k d a imm) hs rfl rfl nofun :)

theorem exec_stp (hs : s.ready k) (hd : pairOk d = true) : exec (.stp k d a imm) s =
    .next (storeWords k (ea ((s.fetched k).core k) a imm)
      [((s.fetched k).core k).reg d.toNat, ((s.fetched k).core k).reg (d.toNat + 1)] (s.fetched k)) :=
  (exec_of_legal (i := .stp k d a imm) hs rfl hd nofun :)

theorem exec_sto (hs : s.ready k) (hl : imm.toNat / 256 < 3) : exec (.sto k d a imm) s =
    .next (eccOr k
      (fun t => rawWriteOctet k (eaOctet ((s.fetched k).core k) a imm) (imm.toNat / 256)
        (laneOf (((s.fetched k).core k).reg d.toNat) 0) (nextPc k t))
      (makeRooms k (eaOctet ((s.fetched k).core k) a imm) 1
        (watchWrite k (eaOctet ((s.fetched k).core k) a imm)
          (W (laneOf (((s.fetched k).core k).reg d.toNat) 0).toNat) (s.fetched k)))) := by
  rw [← bits_lane]
  exact (exec_of_legal (i := .sto k d a imm) hs rfl ((laneOk_iff imm).2 hl) nofun :)

end

/-- Settles O32: a load is a match on the outcome of its reads, a store the store itself. -/
theorem loadsAndStoresComplete : Obligations.LoadsAndStoresComplete := by
  intro k d a imm s hs u c x xo
  refine ⟨fun hw => ⟨fun v w hr => ?_, fun v e w hr => ?_, exec_swp hs hw⟩, fun hl hw o w hr => ⟨?_, ?_⟩,
    fun hl hw o e w hr => ⟨?_, ?_⟩, fun hd hw v1 v2 w hr => ?_, fun hd hw l e w hr => ?_, exec_stw hs, exec_stp hs, exec_sto hs⟩
  · rw [exec_ldw hs hw, hr]
  · rw [exec_ldw hs hw, hr]
  · rw [exec_ldo hs hl hw, loadOctet_of_read _ hr, word_toNat_eq_setWidth]
  · rw [exec_ldos hs hl hw, loadOctet_of_read _ hr]
    rfl
  · rw [exec_ldo hs hl hw, loadOctet_of_error _ hr]
  · rw [exec_ldos hs hl hw, loadOctet_of_error _ hr]
  · rw [exec_ldp hs hd hw, hr]
    rfl
  · rw [exec_ldp hs hd hw, hr]

/-! ## The coprocessors (R321 to R324) -/

/-- Settles O33: the registers of CP0 are set in one step; its functions on memory go on from `withOctets`. -/
theorem cryptoCoprocessor : Obligations.CryptoCoprocessor := by
  intro k d a b s hs u c
  refine ⟨putsCore_of_setCore hs rfl rfl nofun rfl rfl, putsCore_of_setCore hs rfl rfl nofun (by rw [bitOf_eq_getLsbD]) rfl,
    ⟨_, (exec_of_legal (i := .rand k d 0 0) hs rfl rfl nofun :)⟩, (exec_of_legal (i := .shaout k d 0 0) hs rfl rfl nofun :),
    fun hw => ⟨?_, ?_, ?_⟩, fun hw => ?_, fun hwa hwb => ⟨?_, ?_, ?_⟩⟩
  · exact (exec_of_readable hs (show exec (.aeskey k 0 a 0) s = execAeskey k 0 a 0 s from rfl) rfl (by simpa using hw) :)
  · exact (exec_of_readable hs (show exec (.aesenc k d a 0) s = execAesenc k d a 0 s from rfl) rfl (by simpa using hw) :)
  · exact (exec_of_readable hs (show exec (.aesdec k d a 0) s = execAesdec k d a 0 s from rfl) rfl (by simpa using hw) :)
  · exact (exec_of_readable hs (show exec (.shablk k 0 a 0) s = execShablk k 0 a 0 s from rfl) rfl (by simpa using hw) :)
  · exact (exec_of_readable hs (show exec (.modmul k d a b) s = execModmul k d a b s from rfl) rfl (by simpa using ⟨hwa, hwb⟩) :)
  · exact (exec_of_readable hs (show exec (.modadd k d a b) s = execModadd k d a b s from rfl) rfl (by simpa using ⟨hwa, hwb⟩) :)
  · exact (exec_of_readable hs (show exec (.modsub k d a b) s = execModsub k d a b s from rfl) rfl (by simpa using ⟨hwa, hwb⟩) :)

theorem word_bits_eleven (v : Word) : W (bits v 0 11) = v &&& 0x7FF := by
  apply BitVec.eq_of_toNat_eq
  rw [BitVec.toNat_and, show (0x7FF : Word).toNat = 2 ^ 11 - 1 from rfl, Nat.and_two_pow_sub_one_eq_mod, bits, W,
    BitVec.toNat_ofNat, Nat.pow_zero, Nat.div_one]
  omega

theorem cMulConj_eq_packed (x y : Word) : cMulConj x y =
    packed (clamp12 ((halfI x * halfI y + halfQ x * halfQ y + 2 ^ 10) / 2 ^ 11))
      (clamp12 ((halfQ x * halfI y - halfI x * halfQ y + 2 ^ 10) / 2 ^ 11)) := by
  simp only [cMulConj, cPackSat_eq_packed, cI_eq_halfI, cQ_eq_halfQ]
  rfl

/-- The power of a packed complex word. -/
theorem power_eq_ofInt (x : Word) :
    W (cI x * cI x + cQ x * cQ x).toNat = BitVec.ofInt 24 (halfI x ^ 2 + halfQ x ^ 2) := by
  rw [cI_eq_halfI, cQ_eq_halfQ, pow_two, pow_two]
  have h : 0 ≤ halfI x * halfI x + halfQ x * halfQ x := add_nonneg (mul_self_nonneg _) (mul_self_nonneg _)
  rw [W, ← BitVec.ofInt_natCast, Int.toNat_of_nonneg h]

/-- Settles O34: the element functions are `vecOp` of R323's formulas. -/
theorem vectorCoprocessor : Obligations.VectorCoprocessor := by
  intro k d a b s hs u c
  refine ⟨putsCore_of_setCore hs rfl rfl nofun (by rw [word_bits_eleven]) rfl,
    fun hwa => ⟨?vscale, ?vpow, ?vfft, ?vifft, fun hwb => ⟨?vadd, ?vsub, ?vmul, ?vmulc, ?vdot⟩⟩⟩
  case vscale => exact (exec_of_readable hs (show exec (.vscale k d a b) s = execVscale k d a b s from rfl) rfl (by simpa using hwa) :)
  case vfft => exact (exec_of_readable hs (show exec (.vfft k 0 a 0) s = execVfft k 0 a 0 s from rfl) rfl (by simpa using hwa) :)
  case vifft => exact (exec_of_readable hs (show exec (.vifft k 0 a 0) s = execVifft k 0 a 0 s from rfl) rfl (by simpa using hwa) :)
  case vdot => exact (exec_of_readable hs (show exec (.vdot k d a b) s = execVdot k d a b s from rfl) rfl (by simpa using ⟨hwa, hwb⟩) :)
  case vpow =>
    simp only [← power_eq_ofInt]
    exact (exec_of_readable hs (show exec (.vpow k d a 0) s = execVpow k d a 0 s from rfl) rfl (by simpa using hwa) :)
  case vadd =>
    simp only [← cPackSat_eq_packed, ← cI_eq_halfI, ← cQ_eq_halfQ]
    exact (exec_of_readable hs (show exec (.vadd k d a b) s = execVadd k d a b s from rfl) rfl (by simpa using ⟨hwa, hwb⟩) :)
  case vsub =>
    simp only [← cPackSat_eq_packed, ← cI_eq_halfI, ← cQ_eq_halfQ]
    exact (exec_of_readable hs (show exec (.vsub k d a b) s = execVsub k d a b s from rfl) rfl (by simpa using ⟨hwa, hwb⟩) :)
  case vmul =>
    simp only [← cMul_eq_packed]
    exact (exec_of_readable hs (show exec (.vmul k d a b) s = execVmul k d a b s from rfl) rfl (by simpa using ⟨hwa, hwb⟩) :)
  case vmulc =>
    simp only [← cMulConj_eq_packed]
    exact (exec_of_readable hs (show exec (.vmulc k d a b) s = execVmulc k d a b s from rfl) rfl (by simpa using ⟨hwa, hwb⟩) :)

end Sys2Proof.Machine

/-! # Accesses of plain RAM

R311, R312 and R351 on a word of application SRAM that no cache, MPU, watchpoint, waiting octet, posted write or error concerns: a read gives
the stored word and changes nothing, a word write replaces it, and an octet write waits in the merge buffer, where every read finds it. -/

namespace Sys2Proof.Machine

open Sys2Proof

/-! ## What the core puts between an instruction and the bus -/

theorem Core.mpuOk_of_off {c : Core} (h : bitOf (c.sysReg 0x020) 0 = false) (a : Nat) (kd : AccKind) : c.mpuOk a kd = true := by
  rw [Core.mpuOk, h]
  rfl

theorem Core.dcOn_of_off {c : Core} (h : bitOf (c.sysReg 0x050) 1 = false) (a : Nat) : c.dcOn a = false := by
  rw [Core.dcOn, h, Bool.false_and, Bool.false_and]

theorem Core.dTakes_of_off {c : Core} (h : bitOf (c.sysReg 0x050) 1 = false) (a : Nat) : c.dTakes a = false := by
  rw [Core.dTakes, Core.dcOn_of_off h, Bool.false_and]

section

variable {k : Fin 4} {s : State}

/-- No watchpoint of core `k` is enabled (R341). -/
def State.unwatched (s : State) (k : Fin 4) : Prop := ∀ j, j < 4 → s.bit (R.wpCfg k.val j) 3 = false

theorem watch_of_unwatched (h : s.unwatched k) (a : Nat) (data : Word) (write : Bool) (reason : Nat) :
    watch k a data write reason s = s := by
  have hnone : [0, 1, 2, 3].filter (s.wpHit k.val a write) = [] := by
    rw [List.filter_eq_nil_iff]
    intro j hj
    rw [State.wpHit, h j (by simp at hj; omega)]
    simp
  unfold watch
  rw [hnone]

theorem watchWrites_of_unwatched (h : s.unwatched k) (a : Nat) (l : List Word) : watchWrites k a l s = s := by
  induction l generalizing a with
  | nil => rfl
  | cons v l ih => rw [watchWrites, watchWrite, watch_of_unwatched h, ih]

theorem makeRooms_of_off (h : bitOf ((s.core k).sysReg 0x050) 1 = false) (a n : Nat) : makeRooms k a n s = (none, s) := by
  induction n generalizing a with
  | zero => rfl
  | succ n ih => rw [makeRooms, Core.dTakes_of_off h, Bool.and_false, if_neg Bool.false_ne_true, ih]

/-- With its cache off and no watchpoint a store is its writes on the bus, the core once it has moved on. -/
theorem storeWords_of_off (hw : s.unwatched k) (h : bitOf ((s.core k).sysReg 0x050) 1 = false) (a : Nat) (l : List Word) :
    storeWords k a l s = rawWrites k a l (nextPc k s) := by
  rw [storeWords, watchWrites_of_unwatched hw, makeRooms_of_off h]
  rfl

theorem rawRead_of_off (h : bitOf ((s.core k).sysReg 0x050) 1 = false) (a : Nat) : rawRead k a s =
    ((busRead (.app k) a s).1, if (busRead (.app k) a s).2.1 then some a else none, (busRead (.app k) a s).2.2) := by
  rw [rawRead, Core.dcOn_of_off h, Bool.and_false, if_neg Bool.false_ne_true]

theorem rawWrite_of_off (h : bitOf ((s.core k).sysReg 0x050) 1 = false) (a : Nat) (v : Word) :
    rawWrite k a v s = busWrite (.app k) a v s := by
  rw [rawWrite, Core.dTakes_of_off h, Bool.and_false, if_neg Bool.false_ne_true]

theorem rawWriteOctet_of_off (h : bitOf ((s.core k).sysReg 0x050) 1 = false) (a lane : Nat) (o : Octet) :
    rawWriteOctet k a lane o s = busWriteOctet (.app k) a lane o s := by
  rw [rawWriteOctet, Core.dTakes_of_off h, Bool.and_false, if_neg Bool.false_ne_true]

theorem State.setCore_core_self (s : State) (k : Fin 4) : s.setCore k (s.core k) = s := by
  simp [State.setCore, State.core]

theorem flushLine_of_no_line {a : Nat} (h : (s.core k).dLine a = none) : flushLine k a s = (none, s) := by
  have hf : (s.core k).dcache.filter (fun x => x.line != a / 8) = (s.core k).dcache := by
    rw [List.filter_eq_self]
    intro l hl
    have := List.find?_eq_none.1 h l hl
    simpa using this
  have hd : dropLine k (a / 8) s = s := by
    rw [dropLine, hf]
    exact s.setCore_core_self k
  rw [flushLine, cleanLine, h]
  dsimp only
  rw [hd]

end

/-! ## The bus and the port -/

section

variable {s : State} {w : Nat}

theorem landMaybe_of_not_posted (h : s.postedAt w = false) : landMaybe w s = s := by
  rw [landMaybe, h]
  rfl

theorem postedAt_of_nil (h : s.dmaPost = []) (w : Nat) : s.postedAt w = false := by
  rw [State.postedAt, h]
  rfl

theorem drainWord_of_not_waiting (h : s.ecc.merge.find? (fun e => e.word == w) = none) : drainWord w s = s := by
  rw [drainWord, h]

/-- A sound word reads as it is stored, and its read changes nothing. -/
theorem portFetch_of_sound (ho : s.octMode w = false) (hf : tabLook 0 s.ecc.flips w = 0) (init : Nat) :
    portFetch init w s = (s.mem.word w, false, s) := by
  have hd : s.decodeWord w = .clean := by
    rw [State.decodeWord, hf]
    rfl
  rw [portFetch, portProbe, ho, hd]
  rfl

/-- A word that a port stores with no flip armed, outside octet-check mode. -/
theorem portStore_of_disarmed (hf : s.bit R.eccFlipsel 8 = false) (ho : s.octMode w = false) (v : Word) :
    portStore w v s = { s with mem := s.mem.setWord w v, ecc := { s.ecc with flips := tabPut 0 s.ecc.flips w 0 } } := by
  unfold portStore when
  rw [State.flipArmed_of_disarmed hf, ho]
  rfl

end

/-! ## A word of plain RAM -/

section

variable {k : Fin 4} {s : State} {a : Nat}

namespace State.plainRam

theorem sound (h : s.plainRam k a) : s.octMode a = false ∧ tabLook 0 s.ecc.flips a = 0 := by
  obtain ⟨_, _, _, ho, hf, _⟩ := h
  exact ⟨ho, hf⟩

theorem idle (h : s.plainRam k a) : s.ecc.merge = [] ∧ s.dmaPost = [] ∧ s.bit R.eccFlipsel 8 = false := by
  obtain ⟨_, _, _, _, _, hm, hp, hs, _⟩ := h
  exact ⟨hm, hp, hs⟩

theorem unguarded (h : s.plainRam k a) : bitOf ((s.core k).sysReg 0x020) 0 = false ∧ bitOf ((s.core k).sysReg 0x050) 1 = false := by
  obtain ⟨_, _, _, _, _, _, _, _, hm, hc, _⟩ := h
  exact ⟨hm, hc⟩

theorem dLine (h : s.plainRam k a) : (s.core k).dLine a = none := by
  obtain ⟨_, _, _, _, _, _, _, _, _, _, hl, _⟩ := h
  exact hl

theorem unwatched (h : s.plainRam k a) : s.unwatched k := by
  obtain ⟨_, _, _, _, _, _, _, _, _, _, _, hw⟩ := h
  exact hw

theorem regRange (h : s.plainRam k a) : regRange a = false := by
  obtain ⟨_, hhi, _⟩ := h
  simp [Machine.regRange]
  omega

theorem flashRange (h : s.plainRam k a) : flashRange a = false := by
  obtain ⟨hlo, _⟩ := h
  simp [Machine.flashRange]
  omega

/-- The core's own change of registers and program counter leaves a word plain. -/
theorem setCore {c : Core} (h : s.plainRam k a) (hs : c.sys = (s.core k).sys) (hd : c.dcache = (s.core k).dcache) :
    (s.setCore k c).plainRam k a := by
  obtain ⟨hlo, hhi, hup, ho, hf, hm, hp, hsel, hmpu, hc, hl, hw⟩ := h
  refine ⟨hlo, hhi, hup, ho, hf, hm, hp, hsel, ?_, ?_, ?_, hw⟩
  · rwa [State.core_setCore_self, Core.sysReg, hs]
  · rwa [State.core_setCore_self, Core.sysReg, hs]
  · rwa [State.core_setCore_self, Core.dLine, hd]

theorem nextPc (h : s.plainRam k a) : (nextPc k s).plainRam k a := h.setCore rfl rfl

theorem putReg (h : s.plainRam k a) (d : BitVec 4) (v : Word) : (putReg k d v s).plainRam k a := by
  refine (h.setCore (c := (s.core k).setG d.toNat v) ?_ ?_).nextPc
  · rw [Core.setG_eq_with_g]
  · rw [Core.setG_eq_with_g]

theorem memRead (h : s.plainRam k a) (init : Nat) : memRead init a s = (s.mem.word a, false, s) := by
  obtain ⟨hm, hp, _⟩ := h.idle
  obtain ⟨ho, hf⟩ := h.sound
  have hup : s.sramUp a = true := h.2.2.1
  rw [Machine.memRead, hup, if_pos rfl, landMaybe_of_not_posted (postedAt_of_nil hp a), portRead,
    drainWord_of_not_waiting (by rw [hm]; rfl), portFetch_of_sound ho hf]
  rfl

theorem busRead (h : s.plainRam k a) : busRead (.app k) a s = (s.mem.word a, false, s) := by
  rw [Machine.busRead, h.regRange, if_neg Bool.false_ne_true, State.mpuAllows]
  rw [Core.mpuOk_of_off h.unguarded.1, if_pos rfl, h.memRead]

theorem dRead (h : s.plainRam k a) : dRead k a s = (s.mem.word a, none, s) := by
  rw [Machine.dRead, rawRead_of_off h.unguarded.2, h.busRead]
  dsimp only
  rw [watch_of_unwatched h.unwatched, if_neg Bool.false_ne_true]

theorem lt (h : s.plainRam k a) : a < 2 ^ 24 := by
  obtain ⟨_, hhi, _⟩ := h
  omega

theorem mayWriteMem (h : s.plainRam k a) (w : Who) : s.mayWriteMem w a = true := by
  obtain ⟨_, hhi, _⟩ := h
  rw [State.mayWriteMem, if_neg (by simp; omega), if_neg (by simp; omega)]

/-- A word written to plain RAM, and its code with it; nothing else changes. -/
theorem busWrite (h : s.plainRam k a) (v : Word) : busWrite (.app k) a v s =
    { s with mem := s.mem.setWord a v, ecc := { s.ecc with flips := tabPut 0 s.ecc.flips a 0 } } := by
  obtain ⟨hm, hp, hsel⟩ := h.idle
  have hup : s.sramUp a = true := h.2.2.1
  have hdrop : dropMerge a s.ecc.merge = s.ecc.merge := by
    rw [hm]
    rfl
  rw [Machine.busWrite, h.regRange, if_neg Bool.false_ne_true, State.mpuAllows]
  dsimp only
  rw [Core.mpuOk_of_off h.unguarded.1, if_pos rfl, memWrite, hup, h.mayWriteMem, Bool.and_self, if_pos rfl,
    landFor_of_not_posted (postedAt_of_nil hp a), portWrite, hdrop]
  exact portStore_of_disarmed hsel h.sound.1 v

/-- A word that is written leaves every plain word plain. -/
theorem written {b : Nat} (h : s.plainRam k b) (v : Word) :
    State.plainRam { s with mem := s.mem.setWord a v, ecc := { s.ecc with flips := tabPut 0 s.ecc.flips a 0 } } k b := by
  obtain ⟨hlo, hhi, hup, ho, hf, hm, hp, hsel, hmpu, hc, hl, hw⟩ := h
  refine ⟨hlo, hhi, hup, ho, ?_, hm, hp, hsel, hmpu, hc, hl, hw⟩
  dsimp only
  by_cases hb : b = a
  · rw [hb, tabLook_tabPut_self]
  · rw [tabLook_tabPut_ne _ _ _ _ (Ne.symm hb), hf]

theorem dReads_two (h : s.plainRam k a) (h1 : s.plainRam k ((a + 1) % 2 ^ 24)) :
    dReads k a 2 s = ([s.mem.word a, s.mem.word ((a + 1) % 2 ^ 24)], none, s) := by
  rw [dReads, Nat.mod_eq_of_lt h.lt, h.dRead]
  dsimp only
  rw [dReads, h1.dRead]
  rfl

/-- SWP on plain RAM: the word goes to gd, and gd to the word. -/
theorem swap (h : s.plainRam k a) (d : BitVec 4) :
    swap k d a s = Machine.busWrite (.app k) a ((s.core k).reg d.toNat) (Machine.putReg k d (s.mem.word a) s) := by
  rw [Machine.swap, flushLine_of_no_line h.dLine]
  change swapPast k d a s = _
  unfold swapPast
  dsimp only
  rw [Core.mpuOk_of_off h.unguarded.1, Core.mpuOk_of_off h.unguarded.1, Bool.and_self, if_pos rfl, h.busRead]
  dsimp only
  rw [watch_of_unwatched h.unwatched, if_neg Bool.false_ne_true, watchWrite, watch_of_unwatched h.unwatched]

/-- The flash controller makes no read of RAM wait (R368). -/
theorem flashWaits (h : s.plainRam k a) (t : State) : t.flashWaits a = false := by
  unfold State.flashWaits
  split
  · rw [h.flashRange, Bool.and_false, Bool.false_and]
  · rfl

theorem dataWaits_one (h : s.plainRam k a) (t : State) : t.dataWaits k a 1 = false := by
  have hw := h.flashWaits t
  simp only [State.dataWaits, List.range_succ, List.range_zero, List.nil_append, List.any_cons, List.any_nil,
    Nat.add_zero, Nat.mod_eq_of_lt h.lt, hw, Bool.false_and, Bool.or_false]

theorem dataWaits_two (h : s.plainRam k a) (h1 : s.plainRam k ((a + 1) % 2 ^ 24)) (t : State) : t.dataWaits k a 2 = false := by
  have hw := h.flashWaits t
  have hw1 := h1.flashWaits t
  simp only [State.dataWaits, List.range_succ, List.range_zero, List.nil_append, List.any_append, List.any_cons, List.any_nil,
    Nat.add_zero, Nat.mod_eq_of_lt h.lt, hw, hw1, Bool.false_and, Bool.or_false]

end State.plainRam

end

/-- The effective address is that of the registers before the fetch, which changes none of them. -/
theorem ea_fetched (s : State) (k : Fin 4) (a : BitVec 4) (imm : BitVec 10) :
    ea (s.core k) a imm = ea ((s.fetched k).core k) a imm := by
  rw [ea, ea, s.reg_fetched]

theorem eaOctet_fetched (s : State) (k : Fin 4) (a : BitVec 4) (imm : BitVec 10) :
    eaOctet (s.core k) a imm = eaOctet ((s.fetched k).core k) a imm := by
  rw [eaOctet, eaOctet, s.reg_fetched]

theorem OnlyRegs.pc_eq {k : Fin 4} {u t : State} {npc : Word} {f : Nat → Word} (h : OnlyRegs k u t npc f) : (t.core k).pc = npc := by
  rw [h.1, State.core_setCore_self]

theorem OnlyRegs.core_ne {k j : Fin 4} {u t : State} {npc : Word} {f : Nat → Word} (h : OnlyRegs k u t npc f) (hj : j ≠ k) :
    t.core j = u.core j := by
  rw [h.1, State.core_setCore_ne _ _ hj]

/-- Settles O30: on plain RAM the read is `Memory.word`, the write `Memory.setWord`, and every other part of an access is idle. -/
theorem loadsAndStoresOnPlainRam : Obligations.LoadsAndStoresOnPlainRam := by
  intro k d a imm s hs u c x hx
  have hea : ea ((s.fetched k).core k) a imm = x := rfl
  have hxmod : x % 2 ^ 24 = x := Nat.mod_eq_of_lt hx.lt
  have hw1 : s.dataWaits k (ea (s.core k) a imm) 1 = false := by
    rw [ea_fetched]
    exact hx.dataWaits_one s
  have hstore : ∀ l, storeWords k x l u = rawWrites k x l (nextPc k u) := storeWords_of_off hx.unwatched hx.unguarded.2 x
  have hwrite : ∀ v, rawWrite k x v (nextPc k u) = _ := fun v =>
    (rawWrite_of_off hx.nextPc.unguarded.2 x v).trans (hx.nextPc.busWrite v)
  refine ⟨?ldw, ?stw, ?swp, fun hd hx1 => ⟨?ldp, ?stp⟩⟩
  case ldw =>
    refine ⟨_, exec_ldw hs hw1, ?_⟩
    rw [hea, hx.dRead]
    exact putReg_onlyRegs ..
  case stw =>
    refine ⟨_, exec_stw hs, ?_⟩
    rw [hea, hstore, rawWrites, rawWrites, hxmod, hwrite]
    exact ⟨rfl, rfl, State.core_setCore_self .., fun j hj => State.core_setCore_ne _ _ hj⟩
  case swp =>
    refine ⟨_, exec_swp hs hw1, ?_⟩
    have hput := putReg_onlyRegs k d (u.mem.word x) u
    rw [hea, hx.swap, (hx.putReg d _).busWrite]
    exact ⟨rfl, rfl, hput.pc_eq, hput.2, fun j hj => hput.core_ne hj⟩
  case ldp =>
    refine ⟨_, exec_ldp hs hd ?_, ?_⟩
    · rw [ea_fetched]
      exact hx.dataWaits_two hx1 s
    · rw [hea, hx.dReads_two hx1]
      exact setPair_onlyRegs k hd _ _ u
  case stp =>
    refine ⟨_, exec_stp hs hd, ?_⟩
    rw [hea, hstore, rawWrites, rawWrites, rawWrites, hxmod, hwrite, rawWrite_of_off (hx1.nextPc.written _).unguarded.2,
      (hx1.nextPc.written _).busWrite]
    exact ⟨rfl, rfl, State.core_setCore_self ..⟩

end Sys2Proof.Machine

/-! # Octets of plain RAM

R311 and R351: an octet load reads its lane of the word; an octet that a core stores waits in the port's merge buffer, drains into the word
at the next read of it, and leaves every read of another word alone. -/

namespace Sys2Proof.Machine

open Sys2Proof

/-! ## Lanes of a word -/

theorem extractLsb'_setLane (v : Word) (o : Octet) {lane j : Nat} (hl : lane < 3) (hj : j < 3) :
    (setLane v lane o).extractLsb' (8 * j) 8 = if j = lane then o else v.extractLsb' (8 * j) 8 := by
  have hbits : ∀ w : Word, (w.extractLsb' (8 * j) 8).toNat = bits w (8 * j) 8 := fun w => by
    rw [BitVec.extractLsb'_toNat, Nat.shiftRight_eq_div_pow, bits]
  apply BitVec.eq_of_toNat_eq
  rw [hbits, setLane]
  split
  case isTrue h =>
    rw [h, bits_setBits_self v _ (by omega), Nat.mod_eq_of_lt o.isLt]
  case isFalse h =>
    rw [bits_setBits_of_disjoint v _ (by omega) (by omega), hbits]

/-! ## What a flash read looks at -/

/-- What a flash read depends on. -/
def State.flashView (s : State) : Memory × FlashState × Nat := (s.mem, s.flash, s.draws)

section

variable {s t : State}

theorem flashView_pendEvent (n k : Nat) (s : State) : (pendEvent n k s).flashView = s.flashView := by
  unfold pendEvent
  split
  · rfl
  · split
    · rfl
    · split <;> rfl

theorem flashView_fire (n : Nat) (s : State) : (fire n s).flashView = s.flashView := by
  unfold fire
  split <;> exact forAll_frame State.flashView (flashView_pendEvent n) s

theorem flashView_flashCe (a : Nat) (s : State) : (flashCe a s).flashView = s.flashView := by
  unfold flashCe
  dsimp only
  split
  · rfl
  · exact flashView_fire ..

theorem flashView_flashUe (a : Nat) (s : State) : (flashUe a s).flashView = s.flashView := rfl

theorem flashRead_congr (h : s.flashView = t.flashView) (a : Nat) : (flashRead a s).1 = (flashRead a t).1 ∧
    (flashRead a s).2.1 = (flashRead a t).2.1 ∧ (flashRead a s).2.2.flashView = (flashRead a t).2.2.flashView := by
  obtain ⟨hm, hf, hd⟩ : s.mem = t.mem ∧ s.flash = t.flash ∧ s.draws = t.draws := by simpa [State.flashView] using h
  have hu : s.flashUndef a = t.flashUndef a := by rw [State.flashUndef, State.flashUndef, hf]
  have hdrawn : s.drawn.flashView = t.drawn.flashView := by simp [State.flashView, State.drawn, hm, hf, hd]
  have hdrawn2 : s.drawn.drawn.flashView = t.drawn.drawn.flashView := by simp [State.flashView, State.drawn, hm, hf, hd]
  unfold flashRead
  rw [hu, hf, hd, hm]
  dsimp only
  split
  · split <;> simp only [flashView_flashCe, flashView_flashUe, hdrawn2, and_self]
  · split
    · simp only [hdrawn, and_self]
    · split
      · simp only [h, and_self]
      · simp only [flashView_flashCe, h, and_self]
      · simp only [flashView_flashUe, h, and_self]
      · split <;> simp only [flashView_flashCe, flashView_flashUe, hdrawn, and_self]

theorem flashReads_congr (n : Nat) (h : s.flashView = t.flashView) (a : Nat) : (flashReads a n s).1 = (flashReads a n t).1 := by
  induction n generalizing s t a with
  | zero => rfl
  | succ n ih =>
    obtain ⟨hv, he, ht⟩ := flashRead_congr h a
    simp only [flashReads, hv, he, ih ht]

theorem fcRead_congr (h : s.flashView = t.flashView) (a : Nat) : (fcRead a s).1 = (fcRead a t).1 := by
  have hf : s.flash = t.flash := congrArg (·.2.1) h
  unfold fcRead
  rw [hf]
  split
  · rfl
  · simp only [flashReads_congr 8 h]

end

/-! ## An octet that waits in a merge buffer (R351) -/

section

variable {k : Fin 4} {s : State} {a lane : Nat} {o : Octet}

/-- The merge entry that holds one octet of word `a`. -/
def octetEntry (a lane : Nat) (o : Octet) : MergeEntry := ({ word := a, o0 := none, o1 := none, o2 := none } : MergeEntry).put lane o

/-- The state where that octet is all that waits in the merge buffers. -/
def State.withOctet (s : State) (a lane : Nat) (o : Octet) : State := s.setEcc { s.ecc with merge := [octetEntry a lane o] }

theorem octetEntry_word (a lane : Nat) (o : Octet) : (octetEntry a lane o).word = a := by
  unfold octetEntry MergeEntry.put
  split <;> rfl

/-- The drain of the entry of one octet reads the word, sound, and writes it with the octet. -/
theorem drainEntry_octetEntry (hl : lane < 3) (ho : s.octMode a = false) (hf : tabLook 0 s.ecc.flips a = 0) :
    drainEntry (octetEntry a lane o) s = portStore a (setLane (s.mem.word a) lane o)
      ((s.setEcc { s.ecc with merge := dropMerge a s.ecc.merge }).count (R.eccCounters 4)) := by
  have hfetch := portFetch_of_sound (s := (s.setEcc { s.ecc with merge := dropMerge a s.ecc.merge }).count (R.eccCounters 4)) ho hf 14
  obtain rfl | rfl | rfl : lane = 0 ∨ lane = 1 ∨ lane = 2 := by omega
  all_goals
    simp only [drainEntry, octetEntry, MergeEntry.put, hfetch]
    rfl

/-- With no flip armed a port reads back the word that it stored. -/
theorem portFetch_portStore (hsel : s.bit R.eccFlipsel 8 = false) (ho : s.octMode a = false) (v : Word) (init : Nat) :
    (portFetch init a (portStore a v s)).1 = v := by
  have ho' : (portStore a v s).octMode a = false := by
    rw [portStore_of_disarmed hsel ho]
    exact ho
  have hf : tabLook 0 (portStore a v s).ecc.flips a = 0 := by
    rw [portStore_of_disarmed hsel ho]
    exact tabLook_tabPut_self 0 s.ecc.flips a 0
  rw [portFetch_of_sound ho' hf, portStore_of_disarmed hsel ho]
  exact Memory.word_setWord_self ..

/-- What the read of the array itself gives is no matter of the cores and of the merge buffers. -/
theorem portProbe_value_withOctet (c : Core) (init y : Nat) (s : State) :
    (portProbe init y ((s.setCore k c).withOctet a lane o)).1 = (portProbe init y s).1 := by
  have ho : ((s.setCore k c).withOctet a lane o).octMode y = s.octMode y := rfl
  have hw : ((s.setCore k c).withOctet a lane o).decodeWord y = s.decodeWord y := rfl
  have hd : ((s.setCore k c).withOctet a lane o).decodeOctet y = s.decodeOctet y := rfl
  have hf : ((s.setCore k c).withOctet a lane o).ecc.octFlips = s.ecc.octFlips := rfl
  have hm : ((s.setCore k c).withOctet a lane o).mem = s.mem := rfl
  unfold portProbe
  rw [ho, hw, hd, hf, hm]
  split
  · split
    · rfl
    · dsimp only
      split
      · rfl
      · split <;> rfl
  · split <;> rfl

namespace State.plainRam

theorem dReadOctet (h : s.plainRam k a) (lane : Nat) : dReadOctet k a lane s = ((s.mem.word a).extractLsb' (8 * lane) 8, none, s) := by
  obtain ⟨hm, hp, _⟩ := h.idle
  obtain ⟨ho, hf⟩ := h.sound
  have hup : s.sramUp a = true := h.2.2.1
  have hport : portReadOctet k.val a lane s = (laneOf (s.mem.word a) lane, false, s) := by
    rw [portReadOctet, ho, Bool.false_and, if_neg Bool.false_ne_true, portRead,
      drainWord_of_not_waiting (by rw [hm]; rfl), portFetch_of_sound ho hf]
  have hbus : busReadOctet (.app k) a lane s = (laneOf (s.mem.word a) lane, false, s) := by
    rw [busReadOctet, h.regRange, if_neg Bool.false_ne_true, State.mpuAllows,
      Core.mpuOk_of_off h.unguarded.1, if_pos rfl, memReadOctet, hup, if_pos rfl, landMaybe_of_not_posted (postedAt_of_nil hp a)]
    rw [initOf, hport]
    rfl
  rw [Machine.dReadOctet, Core.dcOn_of_off h.unguarded.2, Bool.and_false, if_neg Bool.false_ne_true, hbus]
  dsimp only
  rw [watch_of_unwatched h.unwatched, if_neg Bool.false_ne_true, laneOf_eq_extractLsb']

theorem busWriteOctet (h : s.plainRam k a) (lane : Nat) (o : Octet) : busWriteOctet (.app k) a lane o s = s.withOctet a lane o := by
  obtain ⟨hm, hp, _⟩ := h.idle
  have hup : s.sramUp a = true := h.2.2.1
  rw [Machine.busWriteOctet, h.regRange, if_neg Bool.false_ne_true, State.mpuAllows, Core.mpuOk_of_off h.unguarded.1, if_pos rfl, memWriteOctet, hup, h.mayWriteMem, Bool.and_self, if_pos rfl,
    landFor_of_not_posted (postedAt_of_nil hp a), portWriteOctet, h.sound.1, if_neg Bool.false_ne_true, hm]
  change s.setEcc { s.ecc with merge := s.ecc.merge ++ [octetEntry a lane o] } = _
  rw [hm]
  rfl

/-- A read of the word finds the octet that waits for it. -/
theorem memRead_withOctet (h : s.plainRam k a) (hl : lane < 3) (init : Nat) :
    (Machine.memRead init a (s.withOctet a lane o)).1 = Machine.setLane (s.mem.word a) lane o := by
  obtain ⟨hm, hp, hsel⟩ := h.idle
  obtain ⟨ho, hf⟩ := h.sound
  have hup : (s.withOctet a lane o).sramUp a = true := h.2.2.1
  have hfind : (s.withOctet a lane o).ecc.merge.find? (fun e => e.word == a) = some (octetEntry a lane o) :=
    List.find?_cons_of_pos (by simp [octetEntry_word])
  have hsel' : ∀ e : EccState, (((s.withOctet a lane o).setEcc e).count (R.eccCounters 4)).bit R.eccFlipsel 8 = false := fun e => by
    rw [State.bit, State.fld, State.count, State.countBy, State.reg_setReg_ne _ _ (by decide)]
    exact hsel
  rw [Machine.memRead, hup, if_pos rfl, landMaybe_of_not_posted (postedAt_of_nil (s := s.withOctet a lane o) hp a), portRead, drainWord,
    hfind]
  dsimp only
  rw [drainEntry_octetEntry (s := s.withOctet a lane o) hl ho hf, portFetch_portStore (hsel' _)]
  · rfl
  · exact ho

/-- A read of another word gives what it gave before the octet waited. -/
theorem memRead_withOctet_ne (h : s.plainRam k a) (c : Core) {y : Nat} (hy : y ≠ a) {init : Nat} :
    (Machine.memRead init y ((s.setCore k c).withOctet a lane o)).1 = (Machine.memRead init y s).1 := by
  obtain ⟨hm, hp, _⟩ := h.idle
  have hfind : ((s.setCore k c).withOctet a lane o).ecc.merge.find? (fun e => e.word == y) = none :=
    List.find?_eq_none.2 (by simpa [State.withOctet, State.setEcc, octetEntry_word] using Ne.symm hy)
  have hup : ((s.setCore k c).withOctet a lane o).sramUp y = s.sramUp y := rfl
  have hview : ((s.setCore k c).withOctet a lane o).flashView = s.flashView := rfl
  have halive : ((s.setCore k c).withOctet a lane o).alive = s.alive := rfl
  have hmode : ((s.setCore k c).withOctet a lane o).domainMode = s.domainMode := rfl
  unfold Machine.memRead
  rw [hup, halive, hmode]
  split
  · rw [landMaybe_of_not_posted (postedAt_of_nil hp y), landMaybe_of_not_posted (postedAt_of_nil (s := (s.setCore k c).withOctet a lane o) hp y),
      portRead, portRead, drainWord_of_not_waiting hfind, drainWord_of_not_waiting (by rw [hm]; rfl)]
    exact portProbe_value_withOctet c init y s
  · split
    · rfl
    · split
      · split
        · exact fcRead_congr hview y
        · exact (flashRead_congr hview y).1
      · split
        · rfl
        · split <;> rfl

end State.plainRam

end

/-- Settles O31: the octet that STO leaves in the merge buffer is what the next read of its word drains, and no other read sees it. -/
theorem octetAccessesOnPlainRam : Obligations.OctetAccessesOnPlainRam := by
  intro k d a imm s hs u c x lane hx hl
  have hxo : eaOctet c a imm = x := by
    rw [eaOctet, sext_ofNat_toNat]
  have hw : s.dataWaits k (eaOctet (s.core k) a imm) 1 = false := by
    rw [eaOctet_fetched, hxo]
    exact hx.dataWaits_one s
  have hread : dReadOctet k (eaOctet c a imm) lane u = _ := hxo ▸ hx.dReadOctet lane
  refine ⟨?ldo, ?ldos, ?sto⟩
  case ldo =>
    refine ⟨_, exec_ldo hs hl hw, ?_⟩
    rw [loadOctet_of_read _ hread, word_toNat_eq_setWidth]
    exact putReg_onlyRegs ..
  case ldos =>
    refine ⟨_, exec_ldos hs hl hw, ?_⟩
    rw [loadOctet_of_read _ hread]
    exact putReg_onlyRegs ..
  case sto =>
    have hstored := laneOf_eq_extractLsb' (c.reg d.toNat) 0
    refine ⟨_, exec_sto hs hl, ?_⟩
    rw [hxo, watchWrite, watch_of_unwatched hx.unwatched, makeRooms_of_off hx.unguarded.2, hstored]
    dsimp only [eccOr]
    rw [rawWriteOctet_of_off hx.nextPc.unguarded.2, hx.nextPc.busWriteOctet]
    refine ⟨State.core_setCore_self .., rfl, rfl, fun j hj => ?_, fun y hy => hx.memRead_withOctet_ne _ hy⟩
    rw [hx.nextPc.memRead_withOctet hl]
    exact extractLsb'_setLane _ _ hl hj

end Sys2Proof.Machine

/-! # Errors of a code word

R348 to R350: of the errors in bits [30:0] of a code word a read corrects one, storing the word again, and reports two, storing nothing. -/

namespace Sys2Proof.Machine

open Sys2Proof

/-! ## The wrong bits of a code word -/

theorem getLsbD_oneBit {i : Nat} (hi : i < 31) (m : Nat) : (1#32 <<< i).getLsbD m = true ↔ m ∈ ({i} : Finset Nat) := by
  rw [Finset.mem_singleton, BitVec.getLsbD_shiftLeft, BitVec.getLsbD_one]
  grind

theorem getLsbD_twoBits {i j : Nat} (hi : i < 31) (hj : j < 31) (m : Nat) :
    ((1#32 <<< i) ||| (1#32 <<< j)).getLsbD m = true ↔ m ∈ ({i, j} : Finset Nat) := by
  rw [BitVec.getLsbD_or, Bool.or_eq_true, getLsbD_oneBit hi, getLsbD_oneBit hj, Finset.mem_singleton, Finset.mem_insert]

/-- A vector counts as many bits as the set of its bits has members. -/
theorem popcount_eq_card {n : Nat} {v : BitVec n} {S : Finset Nat} (h : ∀ m, v.getLsbD m = true ↔ m ∈ S) : popcount v = S.card := by
  have hS : ((List.range n).filter v.getLsbD).toFinset = S := by
    ext m
    rw [List.mem_toFinset, List.mem_filter, h m, List.mem_range, and_iff_right_iff_imp, ← h m]
    exact BitVec.lt_of_getLsbD
  rw [popcount_eq_countP, List.countP_eq_length_filter, ← List.toFinset_card_of_nodup (List.nodup_range.filter _), hS]

/-- A code word whose address parity is right loses nothing to the decoder's mask of bits [30:0]. -/
theorem and_mask_of_parity {f : BitVec 32} (h : f.getLsbD 31 = false) : f &&& 0x7FFFFFFF#32 = f := by
  have hf := BitVec.msb_eq_false_iff_two_mul_lt.1 ((BitVec.msb_eq_getLsbD_last f).trans h)
  apply BitVec.eq_of_toNat_eq
  rw [BitVec.toNat_and, BitVec.toNat_ofNat]
  exact (Nat.and_two_pow_sub_one_eq_mod _ 31).trans (Nat.mod_eq_of_lt (by omega))

variable {s : State} {w : Nat} {S : Finset Nat}

section

variable (h31 : 31 ∉ S) (h : ∀ m, (tabLook 0 s.ecc.flips w).getLsbD m = true ↔ m ∈ S)
include h31 h

/-- R349: one wrong bit, of the data or of the check bits, is corrected. -/
theorem decodeWord_of_one_wrong (h1 : S.card = 1) :
    s.decodeWord w = .corrected (s.mem.word w ^^^ (tabLook 0 s.ecc.flips w).setWidth 24) := by
  have hp : (tabLook 0 s.ecc.flips w).getLsbD 31 = false := Bool.eq_false_iff.2 ((h 31).not.2 h31)
  rw [State.decodeWord, bitOf_eq_getLsbD, hp, and_mask_of_parity hp, popcount_eq_card h, h1, ← BitVec.ofNat_toNat]
  rfl

/-- R350: two wrong bits are detected and not corrected. -/
theorem decodeWord_of_two_wrong (h2 : S.card = 2) : s.decodeWord w = .failed 0 := by
  have hp : (tabLook 0 s.ecc.flips w).getLsbD 31 = false := Bool.eq_false_iff.2 ((h 31).not.2 h31)
  rw [State.decodeWord, bitOf_eq_getLsbD, hp, and_mask_of_parity hp, popcount_eq_card h, h2]
  rfl

end

/-! ## What is recorded, and the read that records it -/

theorem State.reg_count_self (a : Nat) : (s.count a).reg a = W (min 0xFFFFFF ((s.reg a).toNat + 1)) := s.reg_setReg_self a _

@[simp] theorem reg_recordCe_address : (recordCe w s).reg R.eccCeaddr = W w := State.reg_setReg_self ..

@[simp] theorem reg_recordCe_count :
    (recordCe w s).reg (R.eccCounters 0) = W (min 0xFFFFFF ((s.reg (R.eccCounters 0)).toNat + 1)) := by
  rw [recordCe, State.reg_setReg_ne _ _ (by decide), State.reg_count_self]

@[simp] theorem reg_recordUe_address (init kind : Nat) : (recordUe init kind w s).reg R.eccUeaddr = W w := by
  rw [recordUe, State.reg_setReg_ne _ _ (by decide), State.reg_setReg_self]

@[simp] theorem reg_recordUe_count (init kind : Nat) :
    (recordUe init kind w s).reg (R.eccCounters 1) = W (min 0xFFFFFF ((s.reg (R.eccCounters 1)).toNat + 1)) := by
  rw [recordUe, State.reg_setReg_ne _ _ (by decide), State.reg_setReg_ne _ _ (by decide), State.reg_count_self]

theorem portFetch_of_corrected {v : Word} (ho : s.octMode w = false) (hd : s.decodeWord w = .corrected v) (init : Nat) :
    portFetch init w s = (v, false, recordCe w (portStore w v s.drawn)) := by
  rw [portFetch, portProbe, ho, hd]
  rfl

theorem portFetch_of_failed {kind : Nat} (ho : s.octMode w = false) (hd : s.decodeWord w = .failed kind) (init : Nat) :
    portFetch init w s = (s.mem.word w, true, recordUe init kind w s.drawn) := by
  rw [portFetch, portProbe, ho, hd]
  rfl

/-- Settles O46: one wrong bit takes the decoder's branch that stores the corrected word, two take the one that stores nothing. -/
theorem singleErrorsAreCorrected : Obligations.SingleErrorsAreCorrected := by
  intro init w s ho hsel
  refine ⟨fun i hi hf => ?corrected, fun i j hij hj hf => ?failed⟩
  case corrected =>
    have hd := decodeWord_of_one_wrong (by simp; omega) (hf ▸ getLsbD_oneBit hi) (Finset.card_singleton i)
    rw [hf] at hd
    rw [portFetch_of_corrected ho hd, portStore_of_disarmed (s := s.drawn) hsel ho]
    exact ⟨rfl, rfl, Memory.word_setWord_self .., tabLook_tabPut_self 0 s.ecc.flips w 0, reg_recordCe_address, reg_recordCe_count⟩
  case failed =>
    have hd := decodeWord_of_two_wrong (by simp; omega) (hf ▸ getLsbD_twoBits (hij.trans hj) hj) (Finset.card_pair hij.ne)
    rw [portFetch_of_failed ho hd]
    exact ⟨rfl, rfl, reg_recordUe_address .., reg_recordUe_count ..⟩

end Sys2Proof.Machine

/-! # DMA programs

The LOOP instruction of a DMA channel (R394). -/

namespace Sys2Proof.Machine

open Sys2Proof

/-! ## A channel's hidden part and its registers -/

section

variable (s : State)

@[simp] theorem State.reg_setDma (n : Nat) (x : DmaCh) (a : Nat) : (s.setDma n x).reg a = s.reg a := rfl

@[simp] theorem State.dmaCh_setReg (a : Nat) (v : Word) (n : Nat) : (s.setReg a v).dmaCh n = s.dmaCh n := rfl

@[simp] theorem State.dmaCh_setDmaSt (n x m : Nat) : (s.setDmaSt n x).dmaCh m = s.dmaCh m := rfl

@[simp] theorem State.dmaCh_setDma_self (n : Nat) (x : DmaCh) : (s.setDma n x).dmaCh n = x := tabLook_tabPut_self ..

@[simp] theorem DmaCh.on_setOn_self (x : DmaCh) (j : Nat) (b : Bool) : (x.setOn j b).on j = b := by
  unfold DmaCh.on DmaCh.setOn
  by_cases h : j = 0 <;> simp [h]

/-! ## Going on to the next instruction -/

theorem reg_dmaNext_pc (n k : Nat) : (dmaNext n k s).reg (R.dmaPc n) = s.reg (R.dmaPc n) + W k := by
  have hpc : R.dmaPc n ≠ R.dmaChstatus n := by simp
  have hsum : W (s.dmaPcOf n + k) = s.reg (R.dmaPc n) + W k :=
    (BitVec.ofNat_add ..).trans (congrArg (· + W k) ((word_toNat_eq_setWidth _).trans (BitVec.setWidth_eq _)))
  rw [dmaNext, apply_ite (State.reg · (R.dmaPc n)), State.setDmaSt, State.reg_setFld_ne _ _ _ _ hpc, ite_self,
    State.reg_setReg_self, hsum]

@[simp] theorem dmaCh_dmaNext (n k m : Nat) : (dmaNext n k s).dmaCh m = s.dmaCh m := by
  rw [dmaNext, apply_ite (State.dmaCh · m), State.dmaCh_setDmaSt, ite_self, State.dmaCh_setReg]

@[simp] theorem dmaNext_mem (n k : Nat) : (dmaNext n k s).mem = s.mem := by
  unfold dmaNext
  exact (apply_ite State.mem ..).trans (ite_self _)

end

/-! ## The first word of a LOOP -/

/-- The first word of a LOOP with the fields L and BACK of R394. -/
def loopWord (l : Bool) (back : BitVec 18) : Word :=
  BitVec.ofNat 24 (2 * 2 ^ 20 + (if l then 2 ^ 19 else 0) + back.toNat)

theorem loopWord_toNat (l : Bool) (back : BitVec 18) :
    (loopWord l back).toNat = 2 * 2 ^ 20 + (if l then 2 ^ 19 else 0) + back.toNat := by
  have := back.isLt
  rw [loopWord, BitVec.toNat_ofNat]
  split <;> omega

@[simp] theorem bits_loopWord_counter (l : Bool) (back : BitVec 18) : bits (loopWord l back) 19 1 = if l then 1 else 0 := by
  have := back.isLt
  rw [bits, loopWord_toNat]
  split <;> omega

@[simp] theorem bitOf_loopWord_reserved (l : Bool) (back : BitVec 18) : bitOf (loopWord l back) 18 = false := by
  have := back.isLt
  rw [← bits_one_eq_zero, bits, loopWord_toNat]
  split <;> omega

@[simp] theorem bits_loopWord_back (l : Bool) (back : BitVec 18) : bits (loopWord l back) 0 18 = back.toNat := by
  have := back.isLt
  rw [bits, loopWord_toNat]
  split <;> omega

/-! ## The steps of a LOOP -/

section

variable (n j : Nat) (count : Word) (s : State)

/-- What counter `j` of channel `n` holds when the LOOP judges it: a block that is not active takes COUNT. -/
def loopCounter : Word := if (s.dmaCh n).on j then s.reg (R.dmaLc n j) else count

/-- The block of counter `j` is active, with COUNT loaded where it was not. -/
def enterLoop : State :=
  if (s.dmaCh n).on j then s else (s.setReg (R.dmaLc n j) count).setDma n ((s.dmaCh n).setOn j true)

/-- The counter falls by one, unless the block repeats for ever. -/
def countDown : State := if count = 0xFFFFFF then s else s.setReg (R.dmaLc n j) (s.reg (R.dmaLc n j) - 1)

theorem reg_enterLoop_counter : (enterLoop n j count s).reg (R.dmaLc n j) = loopCounter n j count s := by
  unfold enterLoop loopCounter
  split
  · rfl
  · rw [State.reg_setDma, State.reg_setReg_self]

theorem reg_enterLoop_ne {a : Nat} (h : a ≠ R.dmaLc n j) : (enterLoop n j count s).reg a = s.reg a := by
  unfold enterLoop
  split
  · rfl
  · rw [State.reg_setDma, State.reg_setReg_ne _ _ h]

@[simp] theorem on_enterLoop : ((enterLoop n j count s).dmaCh n).on j = true := by
  unfold enterLoop
  split
  · assumption
  · rw [State.dmaCh_setDma_self, DmaCh.on_setOn_self]

@[simp] theorem enterLoop_mem : (enterLoop n j count s).mem = s.mem := by
  unfold enterLoop
  split <;> rfl

theorem reg_countDown_counter :
    (countDown n j count s).reg (R.dmaLc n j) =
      if count = 0xFFFFFF then s.reg (R.dmaLc n j) else s.reg (R.dmaLc n j) - 1 := by
  unfold countDown
  split
  · rfl
  · exact State.reg_setReg_self ..

theorem reg_countDown_ne {a : Nat} (h : a ≠ R.dmaLc n j) : (countDown n j count s).reg a = s.reg a := by
  unfold countDown
  split
  · rfl
  · exact State.reg_setReg_ne _ _ h

@[simp] theorem dmaCh_countDown (m : Nat) : (countDown n j count s).dmaCh m = s.dmaCh m := by
  unfold countDown
  split <;> rfl

@[simp] theorem countDown_mem : (countDown n j count s).mem = s.mem := by
  unfold countDown
  split <;> rfl

end

/-! ## The three outcomes of a LOOP -/

section

variable (n : Nat) {l : Bool} {back : BitVec 18} {count : Word} {s : State}

theorem dmaLoop_of_back_zero : dmaLoop n [loopWord l 0, count] s = dmaIllegal n s := by
  simp [dmaLoop]

/-- With BACK not 0 a LOOP enters its block, then ends it or counts down and goes back. -/
theorem dmaLoop_of_back_ne_zero (hb : back ≠ 0) :
    dmaLoop n [loopWord l back, count] s =
      let j := if l then 1 else 0
      let t := enterLoop n j count s
      if loopCounter n j count s = 0 then dmaNext n 2 (t.setDma n ((t.dmaCh n).setOn j false))
      else (countDown n j count t).setReg (R.dmaPc n) ((countDown n j count t).reg (R.dmaPc n) - back.setWidth 24) := by
  have hb' : (back.toNat == 0) = false := beq_false_of_ne fun h => hb (BitVec.eq_of_toNat_eq h)
  dsimp only
  rw [← reg_enterLoop_counter, ← word_toNat_eq_setWidth]
  simp only [dmaLoop, List.getD_cons_zero, List.getD_cons_succ, bits_loopWord_counter, bitOf_loopWord_reserved,
    bits_loopWord_back, hb', Bool.or_self, Bool.false_eq_true, if_false]
  rfl

end

/-- Settles O41: BACK 0 is judged first; otherwise the counter with which the block is entered decides between its end and going back. -/
theorem dmaLoopCounts : Obligations.DmaLoopCounts := by
  intro n l back count s w0 j lc t
  have hpc : R.dmaPc n ≠ R.dmaLc n j := by
    simp only [R.dmaPc, R.dmaLc]
    omega
  refine ⟨?illegal, fun hb h0 => ?ends, fun hb h0 => ?counts⟩
  case illegal =>
    rintro rfl
    exact dmaLoop_of_back_zero n
  case ends =>
    have ht : t = dmaNext n 2 ((enterLoop n j count s).setDma n (((enterLoop n j count s).dmaCh n).setOn j false)) :=
      (dmaLoop_of_back_ne_zero n hb).trans (if_pos h0)
    rw [ht]
    refine ⟨?_, by simp, by simp⟩
    rw [reg_dmaNext_pc, State.reg_setDma, reg_enterLoop_ne n j count s hpc]
    rfl
  case counts =>
    have ht : t = (countDown n j count (enterLoop n j count s)).setReg (R.dmaPc n) _ :=
      (dmaLoop_of_back_ne_zero n hb).trans (if_neg h0)
    rw [ht]
    refine ⟨?_, by simp, ?_, by simp⟩
    · rw [State.reg_setReg_self, reg_countDown_ne n j count _ hpc, reg_enterLoop_ne n j count s hpc]
    · rw [State.reg_setReg_ne _ _ hpc.symm, reg_countDown_counter, reg_enterLoop_counter]
      rfl

end Sys2Proof.Machine

/-! # General timers

The chapter 16_event_fabric_and_timers.md: arming, the advance and the end at TOP (R419), a write of TOP (R420), and the capture with
the read of CAP (R422). -/

namespace Sys2Proof.Machine

open Sys2Proof

/-! ## A timer's registers, its divider and its signal -/

theorem gtCount_lt_intcPend {n : Nat} (hn : n < 16) : R.gtCount n < R.intcPend 0 0 := by unfold R.gtCount R.intcPend; omega

theorem gtStat_lt_intcPend {n : Nat} (hn : n < 16) : R.gtStat n < R.intcPend 0 0 := by unfold R.gtStat R.intcPend; omega

theorem gtStat_ne_gtCount (n : Nat) : R.gtStat n ≠ R.gtCount n := by unfold R.gtStat R.gtCount; omega

theorem gtStat_ne_gtCap (n : Nat) : R.gtStat n ≠ R.gtCap n := by unfold R.gtStat R.gtCap; omega

section

variable (s : State) (n : Nat)

/-- The state with the divider of timer `n` at `p` (R418). -/
def State.setGtPresc (p : Nat) : State := { s with tmr := { s.tmr with presc := tabPut 0 s.tmr.presc n p } }

@[simp] theorem State.reg_setGtPresc (p a : Nat) : (s.setGtPresc n p).reg a = s.reg a := rfl

@[simp] theorem State.setGtPresc_mem (p : Nat) : (s.setGtPresc n p).mem = s.mem := rfl

@[simp] theorem gtSignalEnd_mem : (gtSignalEnd n s).mem = s.mem := (mem_fire _ _).trans (s.setBit_mem ..)

variable {n} in
/-- Of the registers below the pending words the end of a timer writes STAT alone. -/
theorem reg_gtSignalEnd_of_lt {a : Nat} (h : a < R.intcPend 0 0) :
    (gtSignalEnd n s).reg a = (s.setBit (R.gtStat n) 0 true).reg a := reg_fire_of_lt _ _ h

variable {n} in
theorem bit_gtSignalEnd_gtStat (hn : n < 16) (i : Nat) :
    (gtSignalEnd n s).bit (R.gtStat n) i = (s.setBit (R.gtStat n) 0 true).bit (R.gtStat n) i :=
  State.bit_congr (reg_gtSignalEnd_of_lt s (gtStat_lt_intcPend hn)) i

/-! ## Arming (R419) -/

variable {s n}

theorem gtArm_of_running (h : s.gtRun n = true) : gtArm n s = s := if_pos h

theorem gtArm_of_stopped (h : s.gtRun n = false) :
    gtArm n s = ((s.setReg (R.gtCount n) 0).setBit (R.gtStat n) 4 true).setGtPresc n 0 := by
  rw [gtArm, if_neg (ne_true_of_eq_false h)]
  rfl

/-! ## An advance, and the end at TOP (R418, R419) -/

@[simp] theorem gtStopAtTop_mem : (gtStopAtTop n s).mem = s.mem := by simp [gtStopAtTop]

theorem reg_gtStopAtTop_gtCount (hn : n < 16) : (gtStopAtTop n s).reg (R.gtCount n) = s.reg (R.gtTop n) := by
  have hne := (gtStat_ne_gtCount n).symm
  rw [gtStopAtTop, reg_gtSignalEnd_of_lt _ (gtCount_lt_intcPend hn), State.reg_setBit_ne _ _ _ hne,
    State.reg_setBit_ne _ _ _ hne, State.reg_setReg_self]

theorem gtRun_gtStopAtTop (hn : n < 16) : (gtStopAtTop n s).gtRun n = false := by
  rw [State.gtRun, gtStopAtTop, bit_gtSignalEnd_gtStat _ hn, State.bit_setBit_ne _ _ _ (by decide) (by decide),
    State.bit_setBit_self _ _ _ (by decide)]

theorem end_gtStopAtTop (hn : n < 16) : (gtStopAtTop n s).bit (R.gtStat n) 0 = true := by
  rw [gtStopAtTop, bit_gtSignalEnd_gtStat _ hn, State.bit_setBit_self _ _ _ (by decide)]

/-- Below TOP, the advance that reaches it is the one whose sum is TOP. -/
theorem gtReached_add_one_iff (h : s.reg (R.gtCount n) ≠ s.reg (R.gtTop n)) :
    s.gtReached n (s.reg (R.gtCount n) + 1) = true ↔ s.reg (R.gtCount n) + 1 = s.reg (R.gtTop n) := by
  rw [State.gtReached, decide_eq_true_iff]
  bv_omega

/-- On TCLK with a divider of 0 every cycle advances the timer. -/
theorem gtClock_of_undivided (hr : s.gtRun n = true) (hc : s.gtClk n = 0) (hd : s.fld (R.gtCfg n) 0 8 = 0) :
    gtClock n s = gtCount 16 n (s.setGtPresc n 0) := by
  simp [gtClock, hr, hc, hd, State.setGtPresc]

theorem gtCount_of_not_reached {fuel : Nat} (hr : s.gtRun n = true) (h : ¬s.gtReached n (s.reg (R.gtCount n) + 1) = true) :
    gtCount (fuel + 1) n s = s.setReg (R.gtCount n) (s.reg (R.gtCount n) + 1) := by
  rw [gtCount, hr, Bool.not_true, if_neg Bool.false_ne_true]
  exact if_neg h

/-- A timer that is no cascade's lower half stops as it reaches TOP. -/
theorem gtCount_of_reached {fuel : Nat} (hr : s.gtRun n = true) (hl : s.gtLower n = false)
    (h : s.gtReached n (s.reg (R.gtCount n) + 1) = true) : gtCount (fuel + 1) n s = gtStopAtTop n s := by
  rw [gtCount, hr, Bool.not_true, if_neg Bool.false_ne_true]
  exact (if_pos h).trans (if_neg (ne_true_of_eq_false hl))

/-! ## A write of TOP (R420) -/

theorem gtTopWrite_of_not_passed {v : Word}
    (h : ¬(s.gtRun n = true ∧ 1 ≤ (s.reg (R.gtCount n) - v).toNat ∧ (s.reg (R.gtCount n) - v).toNat < 2 ^ 23)) :
    gtTopWrite n v s = s.setReg (R.gtTop n) v := by
  refine if_neg fun hp => h ?_
  simpa only [Bool.and_eq_true, decide_eq_true_iff, and_assoc] using hp

/-! ## The capture (R422) -/

/-- The state with OVR set where VALID stood, before the capture. -/
def State.gtOverrun (n : Nat) (s : State) : State := when (s.bit (R.gtStat n) 1) (fun t => t.setBit (R.gtStat n) 2 true) s

theorem State.gtOverrun_of_valid (h : s.bit (R.gtStat n) 1 = true) : s.gtOverrun n = s.setBit (R.gtStat n) 2 true := if_pos h

theorem State.gtOverrun_of_not_valid (h : s.bit (R.gtStat n) 1 = false) : s.gtOverrun n = s :=
  if_neg (ne_true_of_eq_false h)

theorem State.reg_gtOverrun_ne {a : Nat} (h : a ≠ R.gtStat n) : (s.gtOverrun n).reg a = s.reg a := by
  unfold State.gtOverrun when
  split
  · exact s.reg_setBit_ne _ _ h
  · rfl

theorem gtCapture_eq :
    gtCapture n s = ((s.gtOverrun n).setReg (R.gtCap n) (s.reg (R.gtCount n))).setBit (R.gtStat n) 1 true := rfl

theorem reg_gtCapture_gtCap : (gtCapture n s).reg (R.gtCap n) = s.reg (R.gtCount n) := by
  rw [gtCapture_eq, State.reg_setBit_ne _ _ _ (gtStat_ne_gtCap n).symm, State.reg_setReg_self]

theorem reg_gtCapture_ne {a : Nat} (h1 : a ≠ R.gtCap n) (h2 : a ≠ R.gtStat n) : (gtCapture n s).reg a = s.reg a := by
  rw [gtCapture_eq, State.reg_setBit_ne _ _ _ h2, State.reg_setReg_ne _ _ h1, State.reg_gtOverrun_ne h2]

theorem valid_gtCapture : (gtCapture n s).bit (R.gtStat n) 1 = true := State.bit_setBit_self _ _ _ (by decide)

theorem ovr_gtCapture : (gtCapture n s).bit (R.gtStat n) 2 = (s.gtOverrun n).bit (R.gtStat n) 2 := by
  rw [gtCapture_eq, State.bit_setBit_ne _ _ _ (by decide) (by decide)]
  exact State.bit_congr (State.reg_setReg_ne _ _ (gtStat_ne_gtCap n)) _

end

/-! ## The commands -/

section

variable {w : Who} {n : Fin 16} {s : State}

theorem exec_gtArm (h : s.mayWrite w (R.gtCtrl n.val) = true) : exec (.gtArm w n) s = .next (gtArm n.val s) := act_of_true _ s h

/-- Undivided on TCLK, an advance that does not reach TOP writes COUNT alone. -/
theorem exec_gtAdvance_of_not_reached (ha : s.alive = true) (hr : s.gtRun n.val = true) (hc : s.gtClk n.val = 0)
    (hd : s.fld (R.gtCfg n.val) 0 8 = 0) (h : ¬s.gtReached n.val (s.reg (R.gtCount n.val) + 1) = true) :
    exec (.gtAdvance n) s =
      .next ((s.setGtPresc n.val 0).setReg (R.gtCount n.val) (s.reg (R.gtCount n.val) + 1)) := by
  have he : exec (.gtAdvance n) s = .next (gtClock n.val s) := act_of_true _ s ha
  rw [he, gtClock_of_undivided hr hc hd, gtCount_of_not_reached (s := s.setGtPresc n.val 0) hr h]
  rfl

theorem exec_gtAdvance_of_reached (ha : s.alive = true) (hr : s.gtRun n.val = true) (hc : s.gtClk n.val = 0)
    (hd : s.fld (R.gtCfg n.val) 0 8 = 0) (hl : s.gtLower n.val = false)
    (h : s.gtReached n.val (s.reg (R.gtCount n.val) + 1) = true) :
    exec (.gtAdvance n) s = .next (gtStopAtTop n.val (s.setGtPresc n.val 0)) := by
  have he : exec (.gtAdvance n) s = .next (gtClock n.val s) := act_of_true _ s ha
  rw [he, gtClock_of_undivided hr hc hd, gtCount_of_reached (s := s.setGtPresc n.val 0) hr hl h]

end

/-- Settles O39: below TOP an advance ends the timer exactly where its sum is TOP; every other command writes the named registers. -/
theorem generalTimers : Obligations.GeneralTimers := by
  intro w n v s
  refine ⟨fun hw => ⟨fun hr => ⟨_, exec_gtArm hw, ?stopped⟩, fun hr => ?running⟩, fun ha hr hc hd hl hne => ?advance,
    fun hw hp => ?top, fun hrun => ⟨gtCapture n.val s, act_of_true _ s hrun, ?capture⟩,
    fun hrd => ⟨_, readCmd_of_true (gtCapRead n.val) hrd, rfl, ?capRead, ?capReadFrame⟩⟩
  case stopped =>
    rw [gtArm_of_stopped hr]
    refine ⟨?_, State.bit_setBit_self _ _ _ (by decide), rfl, fun a h1 h2 => ?_⟩
    · rw [State.reg_setGtPresc, State.reg_setBit_ne _ _ _ (gtStat_ne_gtCount n.val).symm, State.reg_setReg_self]
    · rw [State.reg_setGtPresc, State.reg_setBit_ne _ _ _ h2, State.reg_setReg_ne _ _ h1]
  case running => rw [exec_gtArm hw, gtArm_of_running hr]
  case advance =>
    have hiff := gtReached_add_one_iff hne
    by_cases h : s.reg (R.gtCount n.val) + 1 = s.reg (R.gtTop n.val)
    · exact ⟨_, exec_gtAdvance_of_reached ha hr hc hd hl (hiff.2 h), (reg_gtStopAtTop_gtCount n.isLt).trans h.symm,
        gtStopAtTop_mem.trans (s.setGtPresc_mem ..), fun hn => absurd h hn,
        fun _ => ⟨gtRun_gtStopAtTop n.isLt, end_gtStopAtTop n.isLt⟩⟩
    · exact ⟨_, exec_gtAdvance_of_not_reached ha hr hc hd (mt hiff.1 h), State.reg_setReg_self _ _ _, rfl,
        fun _ => ⟨(State.bit_congr (State.reg_setReg_ne _ _ (gtStat_ne_gtCount n.val)) _).trans hr,
          fun a h1 => State.reg_setReg_ne _ _ h1⟩, fun he => absurd he h⟩
  case top =>
    have he : exec (.gtTopWrite w n v) s = .next (gtTopWrite n.val v s) := act_of_true _ s hw
    rw [he, gtTopWrite_of_not_passed hp]
  case capture =>
    refine ⟨reg_gtCapture_gtCap, valid_gtCapture, fun hv => ?_, fun hv => ?_, fun a h1 h2 => reg_gtCapture_ne h1 h2⟩
    · rw [ovr_gtCapture, State.gtOverrun_of_valid hv, State.bit_setBit_self _ _ _ (by decide)]
    · rw [ovr_gtCapture, State.gtOverrun_of_not_valid hv]
  case capRead => exact State.bit_setBit_self _ _ _ (by decide)
  case capReadFrame => exact fun a h => State.reg_setBit_ne s _ _ h

end Sys2Proof.Machine

/-! # The real-time clock

The chapter 17_power_clocks_backup.md: the tick with its trim (R442, R447), the adjustment that ADJGO takes (R443; it is latched
there, log 60 of SPEC.md), and an alarm that is off (R444, R445). -/

namespace Sys2Proof.Machine

open Sys2Proof

section

variable {s : State}

/-! ## An alarm that is off (R444, R445) -/

@[simp] theorem setPrev_regs (k : Nat) (b : Bool) : (setPrev k b s).regs = s.regs := rfl

@[simp] theorem setPrev_mem (k : Nat) (b : Bool) : (setPrev k b s).mem = s.mem := rfl

@[simp] theorem rtc_setPrev (k : Nat) (b : Bool) : (setPrev k b s).bkp.rtc = s.bkp.rtc := rfl

@[simp] theorem adj_setPrev (k : Nat) (b : Bool) : (setPrev k b s).bkp.adj = s.bkp.adj := rfl

theorem State.almOn_congr {t : State} (h : t.regs = s.regs) (k : Nat) : t.almOn k = s.almOn k := by
  simp only [State.almOn, State.bit, State.fld, State.reg, h]

theorem almTick_of_off {k : Nat} (h : s.almOn k = false) : almTick k s = setPrev k false s := by
  simp [almTick, h]

theorem almAdjust_of_off {k : Nat} (c : BitVec 48) (d : Int) (h : s.almOn k = false) :
    almAdjust c d k s = setPrev k false s := by
  simp [almAdjust, h]

/-! ## The tick (R442, R443, R447) -/

/-- The accumulator of the trim with TRIM added, before it gives a unit to the count. -/
def State.trimSum (s : State) : Int := s.bkp.trimAcc + s.rtcTrimVal

/-- The advance of a tick without an adjustment. -/
def State.trimStep (s : State) : Nat := if 2 ^ 20 ≤ s.trimSum then 2 else if s.trimSum ≤ -(2 ^ 20) then 0 else 1

/-- The accumulator after the tick. -/
def State.trimRest (s : State) : Int :=
  if 2 ^ 20 ≤ s.trimSum then s.trimSum - 2 ^ 20 else if s.trimSum ≤ -(2 ^ 20) then s.trimSum + 2 ^ 20 else s.trimSum

/-- The state with the count raised by `d` and no adjustment waiting, before the alarms are judged. -/
def State.rtcAdvanced (s : State) (d : BitVec 48) : State :=
  s.setBkp { s.bkp with rtc := s.bkp.rtc + d, trimAcc := s.trimRest, adj := none }

theorem rtcTick_of_adj {d : BitVec 48} (h : s.bkp.adj = some d) :
    rtcTick s = almAdjust s.bkp.rtc d.toInt 1 (almAdjust s.bkp.rtc d.toInt 0 (s.rtcAdvanced d)) := by
  simp only [rtcTick, h]
  rfl

theorem rtcTick_of_noAdj (h : s.bkp.adj = none) :
    rtcTick s = almTick 1 (almTick 0 (s.rtcAdvanced (BitVec.ofNat 48 s.trimStep))) := by
  simp only [rtcTick, State.rtcAdvanced, h]
  rfl

/-- With the accumulator and TRIM at 0 a tick advances the count by 1. -/
theorem State.trimStep_of_untrimmed (ha : s.bkp.trimAcc = 0) (ht : s.rtcTrimVal = 0) : s.trimStep = 1 := by
  simp [State.trimStep, State.trimSum, ha, ht]

/-- The advance of the next tick: the adjustment that waits for it, or else that of the trim. -/
def State.rtcStep (s : State) : BitVec 48 := s.bkp.adj.getD (BitVec.ofNat 48 s.trimStep)

/-- With the alarms off a tick does no more than advance the count and note that neither alarm matched. -/
theorem rtcTick_of_alarmsOff (h0 : s.almOn 0 = false) (h1 : s.almOn 1 = false) :
    rtcTick s = setPrev 1 false (setPrev 0 false (s.rtcAdvanced s.rtcStep)) := by
  have ha0 (d : BitVec 48) : (s.rtcAdvanced d).almOn 0 = false := (State.almOn_congr rfl 0).trans h0
  have ha1 (d : BitVec 48) : (setPrev 0 false (s.rtcAdvanced d)).almOn 1 = false := (State.almOn_congr rfl 1).trans h1
  cases hadj : s.bkp.adj with
  | none => rw [rtcTick_of_noAdj hadj, almTick_of_off (ha0 _), almTick_of_off (ha1 _), State.rtcStep, hadj, Option.getD_none]
  | some d =>
    rw [rtcTick_of_adj hadj, almAdjust_of_off _ _ (ha0 _), almAdjust_of_off _ _ (ha1 _), State.rtcStep, hadj, Option.getD_some]

/-! ## ADJGO (R443) -/

@[simp] theorem bkp_plainWrite (a : Nat) (v : Word) : (plainWrite a v s).bkp = s.bkp := by
  unfold plainWrite
  split <;> rfl

@[simp] theorem adj_trimStart : (trimStart s).bkp.adj = s.bkp.adj := rfl

@[simp] theorem rtc_trimStart : (trimStart s).bkp.rtc = s.bkp.rtc := rfl

theorem State.ofNat_multi_two (a : Nat) : BitVec.ofNat 48 (s.multi a 2) = s.reg (a + 1) ++ s.reg a := by
  apply BitVec.eq_of_toNat_eq
  have h0 := (s.reg a).isLt
  have h1 := (s.reg (a + 1)).isLt
  simp only [State.multi, BitVec.toNat_ofNat, toNat_append_eq_add]
  omega

/-- RTC_CTRL is neither word of RTC_ADJ. -/
theorem multi_rtcAdj_plainWrite_rtcCtrl (v : Word) :
    (plainWrite R.rtcCtrl v s).multi (R.rtcAdj 0) 2 = s.multi (R.rtcAdj 0) 2 :=
  State.multi_congr fun b _ hb => reg_plainWrite_ne s v (by unfold R.rtcAdj at hb; unfold R.rtcCtrl; omega)

theorem adj_rtcCtrlWrite {v : Word} (h : bitOf v 0 = true) :
    (rtcCtrlWrite v s).bkp.adj = some (s.reg (R.rtcAdj 1) ++ s.reg (R.rtcAdj 0)) := by
  have hadj : BitVec.ofNat 48 ((plainWrite R.rtcCtrl v s).multi (R.rtcAdj 0) 2) = s.reg (R.rtcAdj 1) ++ s.reg (R.rtcAdj 0) := by
    rw [multi_rtcAdj_plainWrite_rtcCtrl]
    exact State.ofNat_multi_two _
  simp only [rtcCtrlWrite, h, if_true, hadj]
  split <;> rfl

theorem rtc_rtcCtrlWrite (v : Word) : (rtcCtrlWrite v s).bkp.rtc = s.bkp.rtc := by
  simp only [rtcCtrlWrite]
  split <;> split <;> simp

theorem bitOf_setBits_one {i : Nat} (v : Word) (h : i < 24) : bitOf (setBits v i 1 1) i = true := by
  rw [bitOf, bits_setBits_self v 1 h]
  rfl

end

/-- Settles O40: with the alarms off a tick is one advance of the count, by 1 or by what ADJGO took. -/
theorem rtcTicksAndAdjustment : Obligations.RtcTicksAndAdjustment := by
  refine ⟨fun s h0 h1 => ⟨rtcTick s, act_of_true rtcTick s rfl, ?tick⟩,
    fun w v s hw => ⟨_, act_of_true _ s hw, adj_rtcCtrlWrite (bitOf_setBits_one v (by decide)), rtc_rtcCtrlWrite _⟩⟩
  case tick =>
    rw [rtcTick_of_alarmsOff h0 h1]
    refine ⟨rfl, rfl, rfl, fun hn ha ht => ?_, fun d hd => ?_⟩
    · have hstep : s.rtcStep = 1 := by rw [State.rtcStep, hn, Option.getD_none, State.trimStep_of_untrimmed ha ht]; rfl
      exact congrArg (s.bkp.rtc + ·) hstep
    · have hstep : s.rtcStep = d := by rw [State.rtcStep, hd, Option.getD_some]
      exact congrArg (s.bkp.rtc + ·) hstep

end Sys2Proof.Machine

namespace Sys2Proof.Machine

open Sys2Proof

/-! ## What no operation takes from a state

The laws `…_good` speak of the states whose memory and registers are canonical; the debug level lasts in every state. So each
operation has one more law here, about one thing that lasts at a time: canonical form, the debug level, or the queue. A law is
named after its operation, `State.Has.op : s.Has K → (op … s).Has K`, so that the law of a composite is the chain of the laws of
its parts, `hs.setBit.setMt.fire`. -/

/-- What a state may have that no command takes from it. -/
inductive Lasting where
  /-- Memory and registers are in canonical form. -/
  | canonical
  /-- The debug level in OTP is `n` or higher (R467). -/
  | level (n : Nat)
  /-- The queue of waiting commands is `l`. -/
  | queue (l : List Instr)

/-- The state has what `K` names. -/
inductive State.Has (s : State) : Lasting → Prop
  | canonical (h : s.canonical) : s.Has .canonical
  | level {n : Nat} (h : n ≤ s.otp.debugLevel.toNat) : s.Has (.level n)
  | queue {l : List Instr} (h : s.pending = l) : s.Has (.queue l)

/-- Where the operation answers a state, that state has what `K` names. -/
inductive OptHas (K : Lasting) : Option State → Prop
  | none : OptHas K none
  | some {s : State} (hs : s.Has K) : OptHas K (some s)

/-- The command completes, in a state that has what `K` names. -/
inductive OutHas (K : Lasting) : Host.Outcome State Fault Refusal → Prop
  | next {s : State} (hs : s.Has K) : OutHas K (.next s)

variable {K : Lasting} {s : State}

/-- The one rule on which all the others rest: `K` speaks of no fields but these. -/
theorem State.Has.of_fields {t : State} (hs : s.Has K) (hc : s.canonical → t.canonical)
    (hl : s.otp.debugLevel.toNat ≤ t.otp.debugLevel.toNat) (hp : t.pending = s.pending) : t.Has K := by
  cases hs with
  | canonical h => exact .canonical (hc h)
  | level h => exact .level (le_trans h hl)
  | queue h => exact .queue (hp.trans h)

/-- An update of other fields. -/
theorem State.Has.update {ecc mt fab tmr pwr bkp dbg pins cores cmdp qm fwd gates bandS bandG link rwin flash
    stage lsup dma dmaTurn dmaBuf dmaPost dmaUsed rdata draws} (hs : s.Has K) :
    State.Has ⟨s.regs, s.mem, ecc, s.otp, mt, fab, tmr, pwr, bkp, dbg, pins, cores, cmdp, qm, fwd, gates, bandS, bandG,
      link, rwin, flash, stage, lsup, dma, dmaTurn, dmaBuf, dmaPost, dmaUsed, rdata, draws, s.pending⟩ K :=
  hs.of_fields (fun h => h) (Nat.le_refl _) rfl

/-- An update of memory, and of other fields. -/
theorem State.Has.update_mem {mem ecc mt fab tmr pwr bkp dbg pins cores cmdp qm fwd gates bandS bandG link rwin flash
    stage lsup dma dmaTurn dmaBuf dmaPost dmaUsed rdata draws} (hs : s.Has K) (hm : s.mem.wf = true → mem.wf = true) :
    State.Has ⟨s.regs, mem, ecc, s.otp, mt, fab, tmr, pwr, bkp, dbg, pins, cores, cmdp, qm, fwd, gates, bandS, bandG,
      link, rwin, flash, stage, lsup, dma, dmaTurn, dmaBuf, dmaPost, dmaUsed, rdata, draws, s.pending⟩ K :=
  hs.of_fields (fun h => ⟨hm h.1, h.2⟩) (Nat.le_refl _) rfl

/-- An update of OTP's other words, and of other fields. -/
theorem State.Has.update_otp {otp ecc mt fab tmr pwr bkp dbg pins cores cmdp qm fwd gates bandS bandG link rwin flash
    stage lsup dma dmaTurn dmaBuf dmaPost dmaUsed rdata draws} (hs : s.Has K) (ho : otp.debugLevel = s.otp.debugLevel) :
    State.Has ⟨s.regs, s.mem, ecc, otp, mt, fab, tmr, pwr, bkp, dbg, pins, cores, cmdp, qm, fwd, gates, bandS, bandG,
      link, rwin, flash, stage, lsup, dma, dmaTurn, dmaBuf, dmaPost, dmaUsed, rdata, draws, s.pending⟩ K :=
  hs.of_fields (fun h => h) (ho ▸ Nat.le_refl _) rfl

section
variable {c : Prop} [Decidable c] {α β : Type}

theorem State.Has.ite {a b : State} (ha : a.Has K) (hb : b.Has K) : (if c then a else b).Has K := by
  split <;> assumption

theorem State.Has.ite_snd {a b : α × State} (ha : a.2.Has K) (hb : b.2.Has K) : (if c then a else b).2.Has K := by
  split <;> assumption

theorem State.Has.ite_snd_snd {a b : α × β × State} (ha : a.2.2.Has K) (hb : b.2.2.Has K) :
    (if c then a else b).2.2.Has K := by
  split <;> assumption

theorem OptHas.ite {a b : Option State} (ha : OptHas K a) (hb : OptHas K b) : OptHas K (if c then a else b) := by
  split <;> assumption

theorem OutHas.ite {a b : Host.Outcome State Fault Refusal} (ha : OutHas K a) (hb : OutHas K b) :
    OutHas K (if c then a else b) := by
  split <;> assumption

theorem State.Has.of_eq {p : α × State} {a : α} {t : State} (h : p.2.Has K) (e : p = (a, t)) : t.Has K := by
  subst e; exact h

theorem State.Has.of_eq' {p : α × β × State} {a : α} {b : β} {t : State} (h : p.2.2.Has K) (e : p = (a, b, t)) :
    t.Has K := by
  subst e; exact h

theorem State.Has.of_eq4 {γ δ : Type} {p : α × β × γ × δ × State} {a : α} {b : β} {c : γ} {d : δ} {t : State}
    (h : p.2.2.2.2.Has K) (e : p = (a, b, c, d, t)) : t.Has K := by
  subst e; exact h

theorem State.Has.of_eq_fst {p : (α × State) × β} {a : α} {b : β} {t : State} (h : p.1.2.Has K) (e : p = ((a, t), b)) :
    t.Has K := by
  subst e; exact h

theorem State.Has.triple {x : α} {y : β} (hs : s.Has K) : (x, y, s).2.2.Has K := hs

theorem OptHas.of_eq {o : Option State} {t : State} (h : OptHas K o) (e : o = Option.some t) : t.Has K := by
  subst e; cases h; assumption

theorem OptHas.map {o : Option State} {f : State → State} (ho : OptHas K o) (hf : ∀ {t}, t.Has K → (f t).Has K) :
    OptHas K (o.map f) := by
  cases ho with
  | none => exact .none
  | some h => exact .some (hf h)

theorem OptHas.bind {o : Option State} {f : State → Option State} (ho : OptHas K o)
    (hf : ∀ {t}, t.Has K → OptHas K (f t)) : OptHas K (o.bind f) := by
  cases ho with
  | none => exact .none
  | some h => exact hf h

theorem State.Has.foldl {f : State → β → State} {l : List β} (hs : s.Has K) (hf : ∀ {t y}, t.Has K → (f t y).Has K) :
    (l.foldl f s).Has K := by
  induction l generalizing s with
  | nil => exact hs
  | cons y l ih => exact ih (hf hs)

theorem State.Has.foldl_snd {f : α × State → β → α × State} {l : List β} {e : α × State} (he : e.2.Has K)
    (hf : ∀ {e y}, e.2.Has K → (f e y).2.Has K) : (l.foldl f e).2.Has K := by
  induction l generalizing e with
  | nil => exact he
  | cons y l ih => exact ih (hf he)

end

theorem wf_setWords {β : Type} {m : Memory} (l : List β) (f : β → Nat) (g : β → Word) (hm : m.wf = true) :
    (l.foldl (fun m y => m.setWord (f y) (g y)) m).wf = true := by
  induction l generalizing m with
  | nil => exact hm
  | cons y l ih => exact ih (Memory.wf_setWord _ _ hm)


/-! ## The operations -/

/-! ### Registers, memory, and the shared forms of a command -/

theorem State.Has.setReg {a : Nat} {v : Word} (hs : s.Has K) : (s.setReg a v).Has K :=
  hs.of_fields (fun h => ⟨h.1, tabWf_tabPut _ _ _ h.2⟩) (Nat.le_refl _) rfl

theorem State.Has.setFld {a lo len x : Nat} (hs : s.Has K) : (s.setFld a lo len x).Has K := hs.setReg

theorem State.Has.setBit {a i : Nat} {b : Bool} (hs : s.Has K) : (s.setBit a i b).Has K := hs.setFld

theorem State.Has.countBy {a n : Nat} (hs : s.Has K) : (s.countBy a n).Has K := hs.setReg

theorem State.Has.count {a : Nat} (hs : s.Has K) : (s.count a).Has K := hs.countBy

theorem State.Has.resetRegs {p : Nat → Bool} (hs : s.Has K) : (s.resetRegs p).Has K :=
  hs.of_fields (fun h => ⟨h.1, tabWf_filter _ _ h.2⟩) (Nat.le_refl _) rfl

theorem State.Has.setMulti {a n v : Nat} (hs : s.Has K) : (s.setMulti a n v).Has K := by
  induction n generalizing a v s with
  | zero => exact hs
  | succ n ih => exact ih hs.setReg

theorem State.Has.drawn (hs : s.Has K) : s.drawn.Has K := hs.update

theorem State.Has.setMw {w : Nat} {v : Word} (hs : s.Has K) : (s.setMw w v).Has K :=
  hs.update_mem (Memory.wf_setWord _ _)

theorem State.Has.act {p : Bool} {f : State → State} (hs : s.Has K) (hf : ∀ {t : State}, t.Has K → (f t).Has K) :
    OutHas K (act p f s) := .ite (.next (hf hs)) (.next hs)

theorem State.Has.readCmd {p : Bool} {f : State → Word × State} (hs : s.Has K)
    (hf : ∀ {t : State}, t.Has K → (f t).2.Has K) : OutHas K (readCmd p f s) :=
  .ite (.next (.update (hf hs))) (.next hs.update)

theorem State.Has.when {p : Bool} {f : State → State} (hs : s.Has K) (hf : ∀ {t : State}, t.Has K → (f t).Has K) :
    (when p f s).Has K := .ite (hf hs) hs

theorem State.Has.forAll {β : Type} {l : List β} {f : β → State → State} (hs : s.Has K)
    (hf : ∀ {x} {t : State}, t.Has K → (f x t).Has K) : (forAll l f s).Has K := hs.foldl fun h => hf h

/-! ### Honoured accesses (R4) -/

theorem State.Has.setCore {k : Fin 4} {c : Core} (hs : s.Has K) : (s.setCore k c).Has K := hs.update

theorem State.Has.plainWrite {a : Nat} {v : Word} (hs : s.Has K) : (plainWrite a v s).Has K := by
  unfold Machine.plainWrite
  dsimp only
  split
  exacts [hs, hs.setReg]

/-! ### Signal sources (R405) -/

theorem State.Has.pendIn {k n : Nat} (hs : s.Has K) : (pendIn k n s).Has K := hs.setBit

theorem State.Has.pendEvent {n k : Nat} (hs : s.Has K) : (pendEvent n k s).Has K := by
  refine .ite hs (.ite hs.pendIn ?_)
  split
  exacts [hs.pendIn.pendIn, hs]

theorem State.Has.fire {n : Nat} (hs : s.Has K) : (fire n s).Has K :=
  .ite (.update (hs.forAll (·.pendEvent))) (hs.forAll (·.pendEvent))

/-! ### Notices (R250, R251, R289) -/

theorem State.Has.pushNotice {code : Nat} {payload : List Octet} {t : Nat} (hs : s.Has K) :
    (pushNotice code payload t s).Has K := .update (.ite hs.setFld hs.setFld.count)

theorem State.Has.sayReset {t : Nat} (hs : s.Has K) : (sayReset t s).Has K :=
  .ite hs (.ite hs.update.pushNotice hs.update)

theorem State.Has.noticeOn {code : Nat} {payload : List Octet} {t : Nat} (hs : s.Has K) :
    (noticeOn code payload t s).Has K := hs.sayReset.pushNotice

theorem State.Has.noticeNow {n : LateNotice} (hs : s.Has K) : (noticeNow n s).Has K :=
  hs.forAll fun h => .ite h.noticeOn h

theorem State.Has.noticeFor {n : LateNotice} (hs : s.Has K) : (noticeFor n s).Has K :=
  .ite hs.noticeNow (.ite hs.update hs)

theorem State.Has.notice {cls code : Nat} {payload : List Octet} (hs : s.Has K) : (notice cls code payload s).Has K :=
  hs.noticeFor

theorem State.Has.noticeMtState (hs : s.Has K) : (noticeMtState s).Has K := hs.notice

theorem State.Has.noticeFault {src : Nat} {a : Word} (hs : s.Has K) : (noticeFault src a s).Has K := hs.notice

/-! ### Mesh time -/

theorem State.Has.setMt {m : MtState} (hs : s.Has K) : (s.setMt m).Has K := hs.update

theorem State.Has.slewDone (hs : s.Has K) : (slewDone s).Has K := hs.setBit.setMt.fire

theorem State.Has.slewTick (hs : s.Has K) : (slewTick s).Has K :=
  .ite (.ite hs.setMulti.setMt.slewDone hs.setMulti.setMt) (.ite hs.slewDone hs)

theorem State.Has.alarmCheck (hs : s.Has K) : (alarmCheck s).Has K := .ite hs.setMt.fire.notice hs.setMt

theorem State.Has.addUncert {n : Nat} (hs : s.Has K) : (addUncert n s).Has K :=
  .alarmCheck (hs.setReg.when (·.setBit))

theorem State.Has.growUncert {u : Nat} (hs : s.Has K) : (growUncert u s).Has K := hs.setMt.addUncert

theorem State.Has.growTick (hs : s.Has K) : (growTick s).Has K := hs.growUncert

theorem State.Has.growLf (hs : s.Has K) : (growLf s).Has K := hs.growUncert

theorem State.Has.setCmp {n : Nat} {v : BitVec 72} (hs : s.Has K) : (s.setCmp n v).Has K := hs.setMulti.setMt

theorem State.Has.ppsStart {late : Bool} {n : Nat} (hs : s.Has K) : (ppsStart late n s).Has K := .ite hs.setMt hs

theorem State.Has.setMflag {n : Nat} (hs : s.Has K) : (setMflag n s).Has K := .ite hs.setBit hs.setBit

theorem State.Has.reload {n : Nat} (hs : s.Has K) : (reload n s).Has K := .ite hs.setBit hs.setCmp.setFld

theorem State.Has.compareFire {late : Bool} {n : Nat} (hs : s.Has K) : (compareFire late n s).Has K :=
  .reload (.ppsStart (.fire (hs.setMflag.when (·.setBit))))

theorem State.Has.evalCompares (hs : s.Has K) : (evalCompares s).Has K := hs.forAll fun h => .ite h.compareFire h

theorem State.Has.evalComparesAtStep {before : BitVec 72} (hs : s.Has K) : (evalComparesAtStep before s).Has K :=
  hs.forAll fun h => .ite h.compareFire h

theorem State.Has.armCompare {n : Nat} {v : Word} (hs : s.Has K) : (armCompare n v s).Has K :=
  .ite hs.setReg.setMt.setFld.setBit.compareFire hs.setReg.setMt.setFld.setBit

theorem State.Has.mtcCtrlWrite {n : Nat} {v : Word} (hs : s.Has K) : (mtcCtrlWrite n v s).Has K :=
  .ite hs.plainWrite.setBit hs.plainWrite

theorem State.Has.capture {n sub : Nat} (hs : s.Has K) : (capture n sub s).Has K :=
  .ite hs (.setBit (hs.setMulti.when (·.setBit)))

theorem State.Has.readCap {w : Who} {n : Nat} (hs : s.Has K) : (readCap w n s).2.Has K := hs.setBit.setMt

theorem State.Has.readNow0 {w : Who} (hs : s.Has K) : (readNow0 w s).2.Has K := hs.setMt

theorem State.Has.mtCtrlWrite {v : Word} (hs : s.Has K) : (mtCtrlWrite v s).Has K := by
  unfold Machine.mtCtrlWrite
  extract_lets +onlyGivenNames s1 _ s2 s3
  have h2 : s2.Has K := .ite hs.plainWrite.setMt hs.plainWrite
  have h3 : s3.Has K := .ite h2.setBit h2
  exact .ite h3.setMt h3

theorem State.Has.rateWrite {v : Word} (hs : s.Has K) : (rateWrite v s).Has K :=
  .ite hs.setReg.setReg.setMt hs.setReg.setReg.setMt

theorem State.Has.slew0Write {v : Word} (hs : s.Has K) : (slew0Write v s).Has K := .ite hs.setMt hs.setReg.setMt

theorem State.Has.slewStart {v : Word} (hs : s.Has K) : (slewStart v s).Has K := hs.setReg.setReg.setBit.setMt

theorem State.Has.slewcfgWrite {v : Word} (hs : s.Has K) : (slewcfgWrite v s).Has K := hs.setFld

theorem State.Has.usetWrite {v : Word} (hs : s.Has K) : (usetWrite v s).Has K := hs.setReg.setBit.setMt.alarmCheck

theorem State.Has.ualarmWrite {v : Word} (hs : s.Has K) : (ualarmWrite v s).Has K := hs.setReg.alarmCheck

theorem State.Has.lfWindowStart (hs : s.Has K) : (lfWindowStart s).Has K := hs.setMt

theorem State.Has.lfEdge (hs : s.Has K) : (lfEdge s).Has K := .ite hs.lfWindowStart hs

theorem State.Has.lfWindowEnd (hs : s.Has K) : (lfWindowEnd s).Has K :=
  .ite hs (.ite hs.lfWindowStart hs.setMulti.setBit.lfWindowStart)

theorem State.Has.lfPause (hs : s.Has K) : (lfPause s).Has K := hs.setMt

theorem State.Has.lfTickCore (hs : s.Has K) : (lfTickCore s).Has K := hs.setMt.growLf

theorem State.Has.bridgeEnter (hs : s.Has K) : (bridgeEnter s).Has K := .ite hs hs.setBit.setMt.lfPause.addUncert

theorem State.Has.ptpStamp (hs : s.Has K) : (ptpStamp s).Has K := hs.drawn.setMt.fire

/-! ### The general timers -/

theorem State.Has.gtArm {n : Nat} (hs : s.Has K) : (gtArm n s).Has K := .ite hs hs.setReg.setBit.update

theorem State.Has.gtSignalEnd {n : Nat} (hs : s.Has K) : (gtSignalEnd n s).Has K := hs.setBit.fire

theorem State.Has.gtCount {fuel n : Nat} (hs : s.Has K) : (gtCount fuel n s).Has K := by
  induction fuel generalizing n s with
  | zero => exact hs
  | succ fuel ih => exact .ite hs (.ite (.ite (ih hs.setReg.gtSignalEnd) hs.setReg.setBit.gtSignalEnd) hs.setReg)

theorem State.Has.gtClock {n : Nat} (hs : s.Has K) : (gtClock n s).Has K := by
  unfold Machine.gtClock
  dsimp only
  split
  exacts [.ite hs (.ite hs.update.gtCount hs.update), .ite hs.update.gtCount hs, hs]

theorem State.Has.gtEvent {n : Nat} (hs : s.Has K) : (gtEvent n s).Has K := .ite hs.setBit hs.update

theorem State.Has.gtStopAtTop {n : Nat} (hs : s.Has K) : (gtStopAtTop n s).Has K := hs.setReg.setBit.gtSignalEnd

theorem State.Has.gtTopWrite {n : Nat} {v : Word} (hs : s.Has K) : (gtTopWrite n v s).Has K :=
  .ite (.ite hs.setReg.setBit.setReg.gtSignalEnd.gtCount hs.setReg.setBit.gtStopAtTop) hs.setReg

theorem State.Has.gtCapture {n : Nat} (hs : s.Has K) : (gtCapture n s).Has K := .setBit (.setReg (hs.when (·.setBit)))

theorem State.Has.gtCapRead {n : Nat} (hs : s.Has K) : (gtCapRead n s).2.Has K := hs.setBit

theorem State.Has.gtCfgWrite {n : Nat} {v : Word} (hs : s.Has K) : (gtCfgWrite n v s).Has K := .ite hs hs.plainWrite

/-! ### The event fabric -/

theorem State.Has.setFab {f : FabricState} (hs : s.Has K) : (s.setFab f).Has K := hs.update

theorem State.Has.setChan {c : Nat} {x : ChanSt} (hs : s.Has K) : (s.setChan c x).Has K := hs.setFab

theorem State.Has.dmaTrig {n : Nat} (hs : s.Has K) : (dmaTrig n s).Has K := .ite hs.setBit hs.setFld

theorem State.Has.pinOut {k : Nat} (hs : s.Has K) : (pinOut k s).Has K := by
  refine .ite ?_ hs
  split
  exacts [hs.setBit, hs.setBit, hs.setBit, hs]

theorem State.Has.task {t : Nat} (hs : s.Has K) : (task t s).Has K :=
  .ite hs.dmaTrig (.ite (.ite hs.capture hs)
    (.ite hs.gtArm (.ite hs.gtEvent (.ite hs.gtCapture (.ite hs.update (.ite hs.pinOut hs))))))

theorem State.Has.deliver {cs : List Nat} (hs : s.Has K) : (deliver cs s).Has K :=
  .forAll (hs.forAll (·.setChan)) (·.task)

theorem State.Has.chanEmit {c : Nat} (hs : s.Has K) : (chanEmit c s).Has K := hs.setChan

theorem State.Has.chanArrive {c : Nat} (hs : s.Has K) : (chanArrive c s).Has K := .ite hs.chanEmit hs.setChan

theorem State.Has.heldEmit {c : Nat} (hs : s.Has K) : (heldEmit c s).Has K := .ite hs.chanEmit hs

theorem State.Has.chanClock {rise : BitVec 32} {c : Nat} (hs : s.Has K) : (chanClock rise c s).Has K :=
  .ite hs.heldEmit.chanArrive hs.heldEmit

theorem State.Has.lutClock (hs : s.Has K) : (lutClock s).Has K := hs.setFab

theorem State.Has.fabricClock (hs : s.Has K) : (fabricClock s).Has K :=
  .setFab (hs.deliver.lutClock.forAll (·.chanClock))

theorem State.Has.evfCfgWrite {c : Nat} {v : Word} (hs : s.Has K) : (evfCfgWrite c v s).Has K :=
  .ite hs (.ite (hs.plainWrite.forAll (·.setBit)) hs.plainWrite)

theorem State.Has.evfDstWrite {c : Nat} {v : Word} (hs : s.Has K) : (evfDstWrite c v s).Has K := .ite hs hs.plainWrite

theorem State.Has.lutInWrite {j : Nat} {v : Word} (hs : s.Has K) : (lutInWrite j v s).Has K := .ite hs hs.plainWrite

theorem State.Has.lutCtlWrite {j : Nat} {v : Word} (hs : s.Has K) : (lutCtlWrite j v s).Has K :=
  .ite hs hs.plainWrite.setFab

theorem State.Has.pinEdge {pin : Nat} {rising : Bool} (hs : s.Has K) : (pinEdge pin rising s).Has K :=
  hs.update.forAll (·.fire)

/-! ### The SRAM ports -/

theorem State.Has.setEcc {e : EccState} (hs : s.Has K) : (s.setEcc e).Has K := hs.update

theorem State.Has.recordUe {init kind w : Nat} (hs : s.Has K) : (recordUe init kind w s).Has K :=
  hs.count.setReg.setReg

theorem State.Has.recordCe {w : Nat} (hs : s.Has K) : (recordCe w s).Has K := hs.count.setReg

theorem State.Has.setOctFlips {w : Nat} {armed : Bool} {ls : List Nat} (hs : s.Has K) :
    (setOctFlips w armed ls s).Has K := hs.setEcc

theorem State.Has.portStore {w : Nat} {v : Word} (hs : s.Has K) : (portStore w v s).Has K :=
  .when (.ite (.setOctFlips (hs.update_mem (Memory.wf_setWord _ _)))
    (.setEcc (hs.update_mem (Memory.wf_setWord _ _)))) (·.setBit)

theorem State.Has.portWrite {w : Nat} {v : Word} (hs : s.Has K) : (portWrite w v s).Has K := hs.setEcc.portStore

theorem State.Has.portProbe {init w : Nat} (hs : s.Has K) : (portProbe init w s).2.2.Has K := by
  refine .ite_snd_snd (.ite_snd_snd hs.recordUe
    (.ite_snd_snd (.recordUe (.ite hs.drawn hs)) (.ite_snd_snd hs (.recordCe (.portStore (.ite hs.drawn hs)))))) ?_
  split
  exacts [hs, hs.drawn.portStore.recordCe, hs.drawn.recordUe]

theorem State.Has.portFetch {init w : Nat} (hs : s.Has K) : (portFetch init w s).2.2.Has K := by
  unfold Machine.portFetch
  split
  next e => exact hs.portProbe.of_eq' e

theorem State.Has.eccSignal {w : Nat} (hs : s.Has K) : (eccSignal w s).Has K := hs.fire.noticeFault

theorem State.Has.drainEntry {e : MergeEntry} (hs : s.Has K) : (drainEntry e s).Has K := by
  unfold Machine.drainEntry
  dsimp only
  split
  exacts [hs.setEcc.portStore, .ite hs.setEcc.count.portFetch.eccSignal hs.setEcc.count.portFetch.portStore]

theorem State.Has.drainWord {w : Nat} (hs : s.Has K) : (drainWord w s).Has K := by
  unfold Machine.drainWord
  split
  exacts [hs.drainEntry, hs]

theorem State.Has.drainBank {b : Nat} (hs : s.Has K) : (drainBank b s).Has K := hs.forAll (·.drainEntry)

theorem State.Has.drainAll (hs : s.Has K) : (drainAll s).Has K := hs.forAll (·.drainEntry)

theorem State.Has.portRead {init w : Nat} (hs : s.Has K) : (portRead init w s).2.2.Has K := hs.drainWord.portFetch

theorem State.Has.portStoreOctet {w lane : Nat} {o : Octet} (hs : s.Has K) : (portStoreOctet w lane o s).Has K :=
  .when (.setOctFlips (hs.update_mem (Memory.wf_setOctet _ _))) (·.setBit)

theorem State.Has.portReadOctet {init w lane : Nat} (hs : s.Has K) : (portReadOctet init w lane s).2.2.Has K := by
  refine .ite_snd_snd ?_ ?_
  · split
    exacts [hs, hs.drawn.portStoreOctet.recordCe, hs.drawn.recordUe]
  · split
    next e => exact hs.portRead.of_eq' e

theorem State.Has.portWriteOctet {w lane : Nat} {o : Octet} (hs : s.Has K) : (portWriteOctet w lane o s).Has K := by
  refine .ite hs.portStoreOctet ?_
  split
  · exact .ite hs.drainEntry hs.setEcc
  · refine .setEcc ?_
    split
    exacts [.ite hs.drainEntry hs, hs]

theorem State.Has.landOne {p : Posted} (hs : s.Has K) : (landOne p s).Has K := by
  unfold Machine.landOne
  split
  exacts [hs.portWrite, hs.portWriteOctet]

theorem State.Has.landBank {b : Option Nat} (hs : s.Has K) : (landBank b s).Has K := hs.update.forAll (·.landOne)

theorem State.Has.landAll (hs : s.Has K) : (landAll s).Has K := hs.update.forAll (·.landOne)

theorem State.Has.landFor {a : Nat} (hs : s.Has K) : (landFor a s).Has K := .ite hs.landBank hs

theorem State.Has.landMaybe {a : Nat} (hs : s.Has K) : (landMaybe a s).Has K :=
  .ite (.ite hs.drawn.landBank hs.drawn) hs

theorem State.Has.portAccept {ok : Bool} {a : Nat} {lane : Option Nat} {v : Word} (hs : s.Has K) :
    (portAccept ok a lane v s).Has K := .ite hs.update hs

theorem State.Has.flashCe {a : Nat} (hs : s.Has K) : (flashCe a s).Has K := .ite hs.count hs.count.setReg.fire

theorem State.Has.flashUe {a : Nat} (hs : s.Has K) : (flashUe a s).Has K := hs.count.setReg

theorem State.Has.flashRead {a : Nat} (hs : s.Has K) : (flashRead a s).2.2.Has K := by
  refine .ite_snd_snd ?_ (.ite_snd_snd hs.drawn ?_)
  · split
    exacts [hs.drawn.drawn, hs.drawn.drawn.flashCe, hs.drawn.drawn.flashUe]
  · split
    exacts [hs, hs.flashCe, hs.flashUe, .ite_snd_snd hs.drawn.flashUe hs.drawn.flashCe]

theorem State.Has.flashReads {a n : Nat} (hs : s.Has K) : (flashReads a n s).2.Has K := by
  induction n generalizing a s with
  | zero => exact hs
  | succ n ih =>
    unfold Machine.flashReads
    split
    next e =>
      split
      next e1 => exact (ih (hs.flashRead.of_eq' e)).of_eq e1

theorem State.Has.fcRead {a : Nat} (hs : s.Has K) : (fcRead a s).2.2.Has K := by
  unfold Machine.fcRead
  split
  · exact hs
  · split
    next e =>
      have ht := hs.flashReads.of_eq e
      exact .ite ht (.update (.ite ht.drawn ht))

theorem State.Has.firmSignal {init : Nat} {err : Bool} (hs : s.Has K) : (firmSignal init err s).Has K :=
  hs.when (·.fire)

theorem State.Has.memRead {init a : Nat} (hs : s.Has K) : (memRead init a s).2.2.Has K := by
  refine .ite_snd_snd ?_ (.ite_snd_snd hs
    (.ite_snd_snd (.ite_snd_snd hs.fcRead hs.flashRead) (.ite_snd_snd hs (.ite_snd_snd hs.drawn hs))))
  split
  next e => exact (hs.landMaybe.portRead.of_eq' e).firmSignal

theorem State.Has.memReadOctet {init a lane : Nat} (hs : s.Has K) : (memReadOctet init a lane s).2.2.Has K := by
  refine .ite_snd_snd ?_ ?_
  · split
    next e => exact (hs.landMaybe.portReadOctet.of_eq' e).firmSignal
  · split
    next e => exact hs.memRead.of_eq' e

theorem State.Has.memWrite {w : Who} {a : Nat} {v : Word} (hs : s.Has K) : (memWrite w a v s).Has K :=
  .ite hs.landFor.portWrite hs

theorem State.Has.memWriteOctet {w : Who} {a lane : Nat} {o : Octet} (hs : s.Has K) :
    (memWriteOctet w a lane o s).Has K := .ite hs.landFor.portWriteOctet hs

theorem State.Has.engRead {init a : Nat} (hs : s.Has K) : (engRead init a s).2.2.Has K := by
  unfold Machine.engRead
  split
  next e => exact .ite_snd_snd (hs.memRead.of_eq' e).eccSignal (hs.memRead.of_eq' e)

theorem State.Has.engScan {init : Nat} {p : Nat → Bool} (hs : s.Has K) : (engScan init p s).2.Has K :=
  hs.foldl_snd fun h => by
    split
    next e1 => exact h.engRead.of_eq' e1

theorem State.Has.engSee {init : Nat} {p : Nat → Bool} (hs : s.Has K) : (engSee init p s).Has K := hs.engScan

theorem State.Has.flashScan {l : List Nat} (hs : s.Has K) : (flashScan l s).2.Has K := hs.foldl_snd (·.flashRead)

theorem State.Has.flashScanOpen (hs : s.Has K) : (flashScanOpen s).2.Has K :=
  hs.countBy.countBy.setReg.setReg.update.when (·.fire)

theorem State.Has.flashSee {lo n : Nat} (hs : s.Has K) : (flashSee lo n s).2.Has K := by
  unfold Machine.flashSee
  split
  next e => exact .ite_snd (hs.flashScan.of_eq e).flashScanOpen (hs.flashScan.of_eq e)

theorem State.Has.groomTo {b a : Nat} (hs : s.Has K) : (groomTo b a s).Has K := by
  refine .ite hs.setReg ?_
  split
  exact hs.setReg.when (·.setReg)

theorem State.Has.groomRead (hs : s.Has K) : (groomRead s).Has K := by
  unfold Machine.groomRead
  dsimp only
  split
  exacts [hs, .ite hs.groomTo (.groomTo (.ite hs.portProbe.count.eccSignal (.ite hs.portProbe.count hs.portProbe)))]

theorem State.Has.applyFuses {p : Nat → Bool} (hs : s.Has K) : (applyFuses p s).Has K := hs.setEcc

theorem State.Has.repairBankRow {bank row : Nat} {verified : Bool} (hs : s.Has K) :
    (repairBankRow bank row verified s).2.Has K := by
  refine .ite_snd hs ?_
  split
  exacts [hs, .ite_snd hs (hs.update_otp rfl)]

theorem State.Has.clearBank {b : Nat} (hs : s.Has K) : (clearBank b s).Has K := hs.update_mem (Memory.wf_clear _ _)

theorem State.Has.bankKick {k : Nat} (hs : s.Has K) : (bankKick k s).Has K :=
  .ite hs (.ite hs.setEcc (.ite hs.setBit hs))

theorem State.Has.offlineWrite {v : Word} (hs : s.Has K) : (offlineWrite v s).Has K :=
  hs.plainWrite.forAll (·.bankKick)

theorem State.Has.bankIsolated {k : Nat} (hs : s.Has K) : (bankIsolated k s).Has K :=
  hs.landBank.drainBank.clearBank.setBit.setEcc.bankKick

theorem State.Has.bankInitDone {k : Nat} (hs : s.Has K) : (bankInitDone k s).Has K :=
  .bankKick (.setBit (.setBit (.applyFuses (.clearBank (.ite hs.setEcc hs)))))

theorem State.Has.b15Write {v : Word} (hs : s.Has K) : (b15Write v s).Has K := .ite hs.plainWrite hs

theorem State.Has.retainWrite {w : Who} {v : Word} (hs : s.Has K) : (retainWrite w v s).Has K :=
  .ite hs.plainWrite hs.setFld

theorem State.Has.eccCtrlWrite {v : Word} (hs : s.Has K) : (eccCtrlWrite v s).Has K := .ite (hs.forAll (·.setReg)) hs

/-! ### The queue manager and the packet buffers -/

theorem State.Has.engWord {init a : Nat} (hs : s.Has K) : (engWord init a s).2.Has K := by
  unfold Machine.engWord
  split
  next e => exact hs.engRead.of_eq' e

theorem State.Has.engWords {init a n : Nat} (hs : s.Has K) : (engWords init a n s).2.Has K := by
  induction n generalizing a s with
  | zero => exact hs
  | succ n ih =>
    unfold Machine.engWords
    split
    next e =>
      split
      next e1 => exact (ih (hs.engWord.of_eq e)).of_eq e1

theorem State.Has.engWrite {a : Nat} {v : Word} (hs : s.Has K) : (engWrite a v s).Has K := hs.landFor.portWrite

theorem State.Has.engWrites {a : Nat} {l : List Word} (hs : s.Has K) : (engWrites a l s).Has K := by
  induction l generalizing a s with
  | nil => exact hs
  | cons v l ih => exact ih hs.engWrite

theorem State.Has.bufAlloc {c : Nat} (hs : s.Has K) : (bufAlloc c s).2.Has K := by
  refine .ite_snd hs ?_
  split
  exacts [hs.update.engWrite, hs]

theorem State.Has.bufOut {c : Nat} (hs : s.Has K) : (bufOut c s).Has K := hs.count.when (·.count)

theorem State.Has.bufRelease {b : Nat} (hs : s.Has K) : (bufRelease b s).Has K := hs.update

theorem State.Has.freeWalk {fuel b : Nat} (hs : s.Has K) : (freeWalk fuel b s).Has K := by
  induction fuel generalizing b s with
  | zero => exact hs
  | succ fuel ih =>
    unfold Machine.freeWalk
    split
    next e => exact .ite (hs.engRead.of_eq' e).bufRelease (ih (hs.engRead.of_eq' e).bufRelease)

theorem State.Has.freeChain {desc : Word} (hs : s.Has K) : (freeChain desc s).Has K := hs.freeWalk

theorem State.Has.frameScan {init : Nat} {desc : Word} (hs : s.Has K) : (frameScan init desc s).2.Has K := hs.engScan

theorem State.Has.storeChunks {c fuel : Nat} {ws : List Word} (hs : s.Has K) : (storeChunks c fuel ws s).2.Has K := by
  induction fuel generalizing ws s with
  | zero => exact hs
  | succ fuel ih =>
    unfold Machine.storeChunks
    split
    · next e => exact hs.bufAlloc.of_eq e
    · next e =>
      refine .ite_snd (hs.bufAlloc.of_eq e).engWrites ?_
      split
      · next e1 => exact ((ih (hs.bufAlloc.of_eq e).engWrites).of_eq e1).engWrite
      · next e1 => exact ((ih (hs.bufAlloc.of_eq e).engWrites).of_eq e1).bufRelease

theorem State.Has.bufTake {c n : Nat} (hs : s.Has K) : (bufTake c n s).2.Has K := by
  induction n generalizing s with
  | zero => exact hs
  | succ n ih =>
    unfold Machine.bufTake
    split
    · next e => exact hs.bufAlloc.of_eq e
    · next e =>
      split
      · next e1 => exact (ih (hs.bufAlloc.of_eq e)).of_eq e1
      · next e1 => exact ((ih (hs.bufAlloc.of_eq e)).of_eq e1).bufRelease

theorem State.Has.bufGive {l : List Nat} (hs : s.Has K) : (bufGive l s).Has K := hs.forAll (·.bufRelease)

theorem State.Has.storeBufs {l : List Nat} {ws : List Word} (hs : s.Has K) : (storeBufs l ws s).Has K := by
  induction l generalizing ws s with
  | nil => exact hs
  | cons b l ih =>
    cases l with
    | nil => exact hs.engWrites
    | cons nx l => exact .ite hs.engWrites.bufGive (ih hs.engWrites.engWrite)

theorem State.Has.storeFrame {c : Nat} {rec : List Word} {data : List Octet} (hs : s.Has K) :
    (storeFrame c rec data s).2.Has K := by
  unfold Machine.storeFrame
  split
  · next e => exact hs.storeChunks.of_eq e
  · next e => exact hs.storeChunks.of_eq e

theorem State.Has.setQueue {n : Nat} {x : QueueSt} (hs : s.Has K) : (s.setQueue n x).Has K := hs.update

theorem State.Has.linkAfter {l : List (Nat × Word)} {c : Nat} (hs : s.Has K) : (linkAfter l c s).Has K := by
  unfold Machine.linkAfter
  split
  exacts [hs.engWrite, hs]

theorem State.Has.setCells {n : Nat} {l : List (Nat × Word)} (hs : s.Has K) : (setCells n l s).Has K :=
  hs.setFld.setQueue

theorem State.Has.putTail {n : Nat} {l : List (Nat × Word)} {c : Nat} {v : Word} (hs : s.Has K) :
    (putTail n l c v s).Has K := hs.engWrite.linkAfter.setCells

theorem State.Has.putHead {n : Nat} {v : Word} (hs : s.Has K) : (putHead n v s).Has K := by
  refine .setCells ?_
  split
  exacts [hs.drawn.engWrite.engWrite, hs.drawn.engWrite]

theorem State.Has.countLost {n : Nat} (hs : s.Has K) : (countLost n s).Has K := hs.setFld

theorem State.Has.dropWord {n : Nat} {v : Word} (hs : s.Has K) : (dropWord n v s).Has K := hs.when (·.freeChain)

theorem State.Has.spillInto {m c : Nat} {v : Word} (hs : s.Has K) : (spillInto m c v s).Has K := by
  refine .ite ?_ hs.putTail
  split
  exacts [hs.countLost.putTail.dropWord, hs]

theorem State.Has.refuseCell {n : Nat} (hs : s.Has K) : (refuseCell n s).Has K := hs.count.when (·.count)

theorem State.Has.qPush {n : Nat} {v : Word} (hs : s.Has K) : (qPush n v s).2.Has K := by
  refine .ite_snd hs.count ?_
  split
  · split
    exacts [.ite_snd hs.countLost.setCells.spillInto.drawn.putTail.setQueue hs.refuseCell,
      hs.countLost.putTail.dropWord]
  · exact .ite_snd hs.drawn.putTail hs.refuseCell

theorem State.Has.qPushHead {n : Nat} {v : Word} (hs : s.Has K) : (qPushHead n v s).2.Has K := by
  refine .ite_snd hs.count (.ite_snd ?_ (.ite_snd hs.putHead hs.refuseCell))
  split
  exacts [.ite_snd hs.countLost.drawn.spillInto hs.refuseCell, hs.countLost.dropWord]

theorem State.Has.hwPush {n : Nat} {v : Word} (hs : s.Has K) : (hwPush n v s).2.Has K := by
  unfold Machine.hwPush
  split
  next e => exact .ite_snd (hs.qPush.of_eq e) (hs.qPush.of_eq e).freeChain

theorem State.Has.hwPushIf {ok : Bool} {n : Nat} {v : Word} (hs : s.Has K) : (hwPushIf ok n v s).2.Has K :=
  .ite_snd hs.hwPush hs.freeChain

theorem State.Has.hwPushHead {n : Nat} {v : Word} (hs : s.Has K) : (hwPushHead n v s).Has K := by
  unfold Machine.hwPushHead
  split
  next e => exact .ite (hs.qPushHead.of_eq e) (hs.qPushHead.of_eq e).freeChain

theorem State.Has.qPop {n : Nat} (hs : s.Has K) : (qPop n s).2.Has K := by
  unfold Machine.qPop
  split
  exacts [hs, hs.setQueue]

theorem State.Has.qTake {n : Nat} {v : Word} (hs : s.Has K) : (qTake n v s).Has K := by
  refine .setCells ?_
  split
  exacts [hs.linkAfter, hs]

theorem State.Has.qmTimeout {n : Nat} (hs : s.Has K) : (qmTimeout n s).Has K :=
  hs.setQueue.setBit.fire.when (·.notice)

theorem State.Has.allocRead (hs : s.Has K) : (allocRead s).2.Has K := by
  unfold Machine.allocRead
  split
  · next e => exact hs.bufAlloc.of_eq e
  · next e => exact hs.bufAlloc.of_eq e

/-! ### Command records and replies -/

theorem State.Has.setRecState {r x : Nat} (hs : s.Has K) : (setRecState r x s).Has K := hs.engWrite

theorem State.Has.setCmdp {c : CmdpState} (hs : s.Has K) : (s.setCmdp c).Has K := hs.update

theorem State.Has.queueReply {r status : Nat} {result : List Octet} (hs : s.Has K) :
    (queueReply r status result s).Has K := hs.setCmdp

theorem State.Has.finalReply {r status : Nat} {result : List Octet} (hs : s.Has K) :
    (finalReply r status result s).Has K :=
  .ite hs (.ite hs.setCmdp (.ite hs.setRecState.queueReply.setRecState.setCmdp hs.setRecState.queueReply.setRecState))

theorem State.Has.startedReply {r : Nat} (hs : s.Has K) : (startedReply r s).Has K :=
  .ite hs.queueReply.setRecState hs

theorem State.Has.finishTag {t : Nat} {tag : Octet} {status : Nat} {result : List Octet} (hs : s.Has K) :
    (finishTag t tag status result s).Has K := by
  unfold Machine.finishTag
  split
  exacts [hs.finalReply, hs]

theorem State.Has.finishRun {opc : Nat} {p : List Octet → Bool} {code : Nat} {res : List Octet} (hs : s.Has K) :
    (finishRun opc p code res s).Has K := by
  unfold Machine.finishRun
  split
  exacts [hs.finalReply, hs]

theorem State.Has.sentOut {t : Nat} (hs : s.Has K) : (sentOut t s).Has K := by
  unfold Machine.sentOut
  dsimp only
  split
  exacts [.ite hs.setCmdp (.ite hs.setCmdp.setRecState hs.setCmdp), hs.setCmdp, hs]

theorem State.Has.plainReply {t : Nat} {opc tag : Octet} {status : Nat} (hs : s.Has K) :
    (plainReply t opc tag status s).Has K := hs.setCmdp

/-! ### Front ends and transmit chains -/

theorem State.Has.setBand {b : Nat} {x : BandSt} (hs : s.Has K) : (s.setBand b x).Has K := .ite hs.update hs.update

theorem State.Has.tuneSynIn {bk : Bool} {b k chan : Nat} (hs : s.Has K) : (tuneSynIn bk b k chan s).Has K :=
  .ite hs (.drawn (.drawn (.setBand (.ite hs.setReg.setBit hs.setReg.setBit.count))))

theorem State.Has.tuneSyn {b k chan : Nat} (hs : s.Has K) : (tuneSyn b k chan s).Has K := hs.tuneSynIn

theorem State.Has.lockSyn {b k : Nat} (hs : s.Has K) : (lockSyn b k s).Has K := hs.setBit.setBit.setBit.setBand

theorem State.Has.dropSyn {b k : Nat} (hs : s.Has K) : (dropSyn b k s).Has K := hs.setBit.setBit.setBand

theorem State.Has.leaveSyn {b k : Nat} (hs : s.Has K) : (leaveSyn b k s).Has K := .ite hs.dropSyn.tuneSyn hs.dropSyn

theorem State.Has.putCal {bk : Bool} {c : Nat} {l : List Word} (hs : s.Has K) : (putCal bk c l s).Has K :=
  hs.engWrites

theorem State.Has.engCal {b c : Nat} {l : List Word} (hs : s.Has K) : (engCal b c l s).Has K :=
  .ite hs.putCal.putCal hs.putCal

theorem State.Has.calCommitWrite {b : Nat} {v : Word} (hs : s.Has K) : (calCommitWrite b v s).Has K :=
  .ite hs.plainWrite.putCal hs.plainWrite

theorem State.Has.txcCfgWrite {b : Nat} {v : Word} (hs : s.Has K) : (txcCfgWrite b v s).Has K := hs.plainWrite

theorem State.Has.setLink {l : LinkState} (hs : s.Has K) : (s.setLink l).Has K := hs.update

theorem State.Has.setSlot {b k j use num : Nat} (hs : s.Has K) : (setSlot b k j use num s).Has K :=
  hs.setLink.engWrite.engWrite

theorem State.Has.showUsed {b k : Nat} (hs : s.Has K) : (showUsed b k s).Has K := hs.setReg

theorem State.Has.bucketEnter {b k : Nat} (hs : s.Has K) : (bucketEnter b k s).Has K :=
  .showUsed (.setLink (.ite (hs.forAll (·.setSlot)) (.setSlot (hs.forAll (fun h => .ite h h.setSlot)))))

theorem State.Has.bucketSync {b : Nat} (hs : s.Has K) : (bucketSync b s).Has K :=
  hs.forAll fun h => .ite h.bucketEnter h

theorem State.Has.chargeRule {b t k : Nat} (hs : s.Has K) : (chargeRule b t k s).Has K := hs.setSlot.showUsed

theorem State.Has.dutyAdmit {b c ch f t : Nat} (hs : s.Has K) : (dutyAdmit b c ch f t s).2.Has K := by
  unfold Machine.dutyAdmit
  extract_lets +onlyGivenNames s0 ks
  refine .ite_snd hs.bucketSync.count (.ite_snd hs.bucketSync.count ?_)
  extract_lets +onlyGivenNames s1 d
  have h1 : s1.Has K := hs.bucketSync.forAll (·.chargeRule)
  exact State.Has.ite h1.engWrite.engWrite h1

theorem State.Has.offShow {b : Nat} (hs : s.Has K) : (offShow b s).Has K := hs.setBit

theorem State.Has.sentUntil {b f t : Nat} (hs : s.Has K) : (sentUntil b f t s).Has K := hs.setBand.offShow

theorem State.Has.ruleWrite {a : Nat} {v : Word} (hs : s.Has K) : (ruleWrite a v s).Has K := hs.plainWrite.offShow

theorem State.Has.femClaim {b g i : Nat} {bk : Bool} {rs : Nat} (hs : s.Has K) : (femClaim b g i bk rs s).Has K :=
  hs.setBand

theorem State.Has.femOn {b : Nat} {p : FemHold → Bool} (hs : s.Has K) : (femOn b p s).Has K := hs.setBand.countBy

theorem State.Has.femClose {b g i : Nat} (hs : s.Has K) : (femClose b g i s).Has K := hs.setBand

theorem State.Has.femTxEnd {b : Nat} {bk : Bool} {rs t : Nat} (hs : s.Has K) : (femTxEnd b bk rs t s).Has K :=
  hs.setBand

theorem State.Has.femTxUnsent {b : Nat} (hs : s.Has K) : (femTxUnsent b s).Has K := hs.setBand

theorem State.Has.sensorRefresh {b : Nat} {temp vmain : Octet} (hs : s.Has K) :
    (sensorRefresh b temp vmain s).Has K := hs.setFld.setFld

theorem State.Has.ageItem {b k : Nat} (hs : s.Has K) : (ageItem b k s).Has K :=
  .ite hs.count.setBand.count.fire.notice hs.count

theorem State.Has.itemDone {b k : Nat} (hs : s.Has K) : (itemDone b k s).Has K := hs.setReg.setBand

/-! ### Key slots, and the building of frames -/

theorem State.Has.setNbr {n j : Nat} {v : Word} (hs : s.Has K) : (setNbr n j v s).Has K := hs.engWrite

theorem State.Has.setNbrFld {n j lo len x : Nat} (hs : s.Has K) : (setNbrFld n j lo len x s).Has K := hs.setNbr

theorem State.Has.ctrLowEdge {before : Bool} {k : Nat} (hs : s.Has K) : (ctrLowEdge before k s).Has K :=
  .ite hs.fire hs

theorem State.Has.takeCtr {k : Nat} (hs : s.Has K) : (takeCtr k s).2.Has K := hs.setMulti.ctrLowEdge

theorem State.Has.ctrLowWrite {a : Nat} {v : Word} (hs : s.Has K) : (ctrLowWrite a v s).Has K := hs.setLink

theorem State.Has.ctrCommit {k a : Nat} {v : Word} (hs : s.Has K) : (ctrCommit k a v s).Has K :=
  hs.setReg.setReg.ctrLowEdge

theorem State.Has.walkEntry {k n : Nat} (hs : s.Has K) : (walkEntry k n s).Has K :=
  .ite hs.setNbr.setNbrFld.setNbr.setNbr hs

theorem State.Has.walkTo {k t m : Nat} (hs : s.Has K) : (walkTo k t m s).Has K := by
  unfold Machine.walkTo
  dsimp only
  split
  exacts [.setLink (hs.forAll (·.walkEntry)), hs]

theorem State.Has.walkBy {dt k : Nat} (hs : s.Has K) : (walkBy dt k s).Has K := by
  unfold Machine.walkBy
  split
  exacts [hs.drawn.walkTo, hs]

theorem State.Has.walkTick {dt : Nat} (hs : s.Has K) : (walkTick dt s).Has K := .ite (hs.forAll (·.walkBy)) hs

theorem State.Has.walkStop {k : Nat} (hs : s.Has K) : (walkStop k s).Has K := hs.walkBy.setLink

theorem State.Has.keyCommitWrite {v : Word} (hs : s.Has K) : (keyCommitWrite v s).Has K :=
  .ite (.setLink (.setReg (.walkStop (.ite hs.plainWrite.walkStop.setReg.setReg.setReg.setMulti.setLink
    hs.plainWrite)))) (.ite hs.plainWrite.walkStop.setReg.setReg.setReg.setMulti.setLink hs.plainWrite)

theorem State.Has.keyStageWrite {i : Nat} {v : Word} (hs : s.Has K) : (keyStageWrite i v s).Has K := hs.setLink

theorem State.Has.walkDone {k : Nat} (hs : s.Has K) : (walkDone k s).Has K := hs.walkTo.setLink.setBit.setBit

theorem State.Has.buildFrame {bk : Bool} {q : BuildReq} (hs : s.Has K) : (buildFrame bk q s).2.Has K := by
  refine .ite_snd hs (.ite_snd hs.setLink (.ite_snd hs (.ite_snd hs.count ?_)))
  split
  · exact hs
  · refine .ite_snd hs.count ?_
    split
    next e => exact hs.takeCtr.of_eq e

theorem State.Has.keepOctets {desc : Word} {p : List Octet} (hs : s.Has K) : (keepOctets desc p s).Has K := hs.setLink

theorem State.Has.recordSee {bk : Bool} {w0 : Word} (hs : s.Has K) : (recordSee bk w0 s).Has K := hs.engSee

theorem State.Has.buildRecord {bk : Bool} {desc : Word} {inst : Nat} (hs : s.Has K) :
    (buildRecord bk desc inst s).2.Has K := by
  unfold Machine.buildRecord
  extract_lets a
  split
  next e =>
  extract_lets s1 w0 w2 ctr k set q
  have h1 : s1.Has K := (hs.engWords.of_eq e).frameScan.recordSee
  refine .ite_snd h1.count.engWrite ?_
  split
  · exact h1
  · split
    · next e1 =>
      extract_lets _ t1
      have h2 : t1.Has K := by
        dsimp only [t1]
        split
        exacts [.ite (h1.buildFrame.of_eq e1) (h1.buildFrame.of_eq e1).setLink.engWrite.engWrite,
          h1.buildFrame.of_eq e1]
      exact .ite h2.setLink h2.keepOctets
    · next e1 => exact (h1.buildFrame.of_eq e1).engWrite
    · next e1 => exact h1.buildFrame.of_eq e1

theorem State.Has.countTry {desc : Word} (hs : s.Has K) : (countTry desc s).Has K := hs.engWrite

theorem State.Has.setResult {desc : Word} {code : Nat} (hs : s.Has K) : (setResult desc code s).Has K := hs.engWrite

/-! ### The discipline of mesh time -/

theorem State.Has.slewWatch {f : State → State} (hs : s.Has K) (hf : ∀ {t : State}, t.Has K → (f t).Has K) :
    (slewWatch f s).Has K := .ite (.finishRun (hf hs)) (.ite (.finishRun (hf hs)) (hf hs))

theorem State.Has.slewReplace {v : Word} (hs : s.Has K) : (slewReplace v s).Has K := .slewStart (.ite hs.finishRun hs)

theorem State.Has.qualify {c : Nat} {o : Int} (hs : s.Has K) : (qualify c o s).Has K := hs.setMt

theorem State.Has.trimStart (hs : s.Has K) : (trimStart s).Has K := hs.update

theorem State.Has.srcChanged {before : Word} (hs : s.Has K) : (srcChanged before s).Has K :=
  .ite (.ite hs.trimStart hs) (.noticeMtState (.ite hs.trimStart hs))

theorem State.Has.stratumShow (hs : s.Has K) : (stratumShow s).Has K := .ite hs.setFld hs

theorem State.Has.setSrc {st act : Nat} (hs : s.Has K) : (setSrc st act s).Has K :=
  hs.setFld.setFld.srcChanged.stratumShow

theorem State.Has.correct {o : Int} (hs : s.Has K) : (correct o s).Has K :=
  .ite hs (.ite hs.slew0Write.slewReplace hs.setMulti.setMt)

theorem State.Has.servoRate {r : BitVec 32} (hs : s.Has K) : (servoRate r s).Has K := hs.setReg.rateWrite

theorem State.Has.useSample {c : Nat} {o : Int} {m : DiscSample} (hs : s.Has K) : (useSample c o m s).Has K :=
  hs.setSrc.setMulti.correct.servoRate.setFld

theorem State.Has.discipline {m : DiscSample} (hs : s.Has K) : (discipline m s).Has K := by
  unfold Machine.discipline
  dsimp only
  split
  exacts [hs, .ite hs (.usetWrite (.ite hs.qualify.setMt.useSample (.ite hs.qualify.setMt.setSrc hs.qualify.setMt)))]

theorem State.Has.sourceLost {c : Nat} (hs : s.Has K) : (sourceLost c s).Has K := by
  refine .ite ?_ hs.setMt
  split
  exacts [hs.setMt.setSrc.correct, hs.setMt.setSrc.setFld]

theorem State.Has.parentLost {n : Nat} (hs : s.Has K) : (parentLost n s).Has K := .ite hs.setMt.sourceLost hs.setMt

theorem State.Has.parentLook {n : Nat} (hs : s.Has K) : (parentLook n s).Has K := by
  unfold Machine.parentLook
  split
  exacts [.stratumShow (.ite hs.setBit.setFld hs), hs]

theorem State.Has.stratumUpdate {n : Nat} {tt : List Octet} (hs : s.Has K) : (stratumUpdate n tt s).Has K :=
  hs.setMt.when (·.parentLook)

theorem State.Has.parentLookAll (hs : s.Has K) : (parentLookAll s).Has K := hs.forAll (·.parentLook)

/-! ### What gates, lanes and chains share -/

theorem State.Has.setGates {g : GateState} (hs : s.Has K) : (s.setGates g).Has K := hs.update

theorem State.Has.gateShow (hs : s.Has K) : (gateShow s).Has K := hs.setFld.setFld

theorem State.Has.putAct {a : Activ} (hs : s.Has K) : (putAct a s).Has K := hs.setGates.gateShow

theorem State.Has.dropAct {g i : Nat} (hs : s.Has K) : (dropAct g i s).Has K := hs.setGates.gateShow

theorem State.Has.markMade {g i : Nat} (hs : s.Has K) : (markMade g i s).Has K := hs.setGates

theorem State.Has.gateCount {m : Nat} (hs : s.Has K) : (gateCount m s).Has K := hs.count

theorem State.Has.missed {m c : Nat} (hs : s.Has K) : (missed m c s).Has K := hs.gateCount.when (·.gateCount)

theorem State.Has.laneShow {n : Nat} (hs : s.Has K) : (laneShow n s).Has K := hs.setBit.setFld.setBit

theorem State.Has.lanesShow (hs : s.Has K) : (lanesShow s).Has K := hs.forAll (·.laneShow)

theorem State.Has.setLane {n : Nat} {l : LaneSt} (hs : s.Has K) : (s.setLane n l).Has K := hs.setLink.laneShow

theorem State.Has.bindLane {n holder input chan prof cls gate : Nat} (hs : s.Has K) :
    (bindLane n holder input chan prof cls gate s).Has K := hs.setReg.setReg.laneShow

theorem State.Has.setGain {p g : Nat} (hs : s.Has K) : (setGain p g s).Has K := .ite hs hs.setFld.setLink

theorem State.Has.startGain {b gain k : Nat} (hs : s.Has K) : (startGain b gain k s).Has K := .ite hs hs.setGain

theorem State.Has.tunePathsAt {every bk : Bool} {input chan : Nat} {rs : Option Nat} (hs : s.Has K) :
    (tunePathsAt every bk input chan rs s).Has K :=
  .ite (hs.forAll (·.tuneSynIn)) (.forAll (hs.forAll (·.tuneSynIn)) (·.startGain))

theorem State.Has.tunePaths {input chan : Nat} (hs : s.Has K) : (tunePaths input chan s).Has K := hs.tunePathsAt

theorem State.Has.resumeLanes (hs : s.Has K) : (resumeLanes s).Has K :=
  hs.forAll fun h => by
    split
    exacts [.ite h.setLane.bindLane.tunePaths h, h]

theorem State.Has.freeLane {n : Nat} (hs : s.Has K) : (freeLane n s).Has K := hs.setFld.setLane.resumeLanes

theorem State.Has.releaseEnds {n : Nat} (hs : s.Has K) : (releaseEnds n s).Has K := hs.finishRun

theorem State.Has.clearFrame {n : Nat} (hs : s.Has K) : (clearFrame n s).Has K := by
  refine .when (.setLane (.setLink ?_)) (·.releaseEnds)
  split
  exacts [hs.bufGive, hs]

theorem State.Has.reportAbandoned {n : Nat} (hs : s.Has K) : (reportAbandoned n s).Has K := by
  unfold Machine.reportAbandoned
  dsimp only
  split
  exacts [.ite hs.setLink hs, hs]

theorem State.Has.abandonFrame {n : Nat} (hs : s.Has K) : (abandonFrame n s).Has K :=
  .ite hs.count.reportAbandoned.clearFrame hs

theorem State.Has.setChain {b : Nat} {r : Option TxReq} (hs : s.Has K) : (setChain b r s).Has K := hs.setBand.setBit

theorem State.Has.dropChain {b : Nat} {r : TxReq} (hs : s.Has K) : (dropChain b r s).Has K := by
  unfold Machine.dropChain
  extract_lets +onlyGivenNames t s1
  have h1 : s1.Has K := State.Has.setChain (.ite hs.femTxEnd.sentUntil hs.femTxUnsent)
  exact .ite h1.setBand h1

theorem State.Has.returnHead {a : Activ} (hs : s.Has K) : (returnHead a s).Has K := by
  unfold Machine.returnHead
  split
  exacts [hs.hwPushHead, hs]

theorem State.Has.calStat {b item result : Nat} (hs : s.Has K) : (calStat b item result s).Has K :=
  hs.setFld.setFld.setFld

theorem State.Has.leaveSlice {b : Nat} {c : CalSlice} (hs : s.Has K) : (leaveSlice b c s).Has K :=
  .ite hs.leaveSyn (.ite hs.leaveSyn (.ite hs.leaveSyn.leaveSyn.leaveSyn hs))

theorem State.Has.releaseAct {a : Activ} (hs : s.Has K) : (releaseAct a s).Has K := by
  unfold Machine.releaseAct
  extract_lets +onlyGivenNames s1 b s2 _ s3
  have h1 : s1.Has K := by
    dsimp only [s1]
    split
    exacts [.ite hs.freeLane hs, hs]
  have h2 : s2.Has K := by
    dsimp only [s2]
    split
    exacts [.ite h1.dropChain h1, h1]
  have h3 : s3.Has K := by
    refine .ite ?_ h2
    split
    exacts [.ite h2.setBand.setFld.leaveSlice h2, h2]
  exact h3.femClose.dropAct

theorem State.Has.txReply {t : Nat} {tag : Octet} {code : Nat} {r : TxReq} (hs : s.Has K) :
    (txReply t tag code r s).Has K := by
  unfold Machine.txReply
  dsimp only
  split
  exacts [hs.finalReply, hs]

theorem State.Has.cmdTxEnd {t : Nat} {tag : Octet} {code : Nat} {r : TxReq} (hs : s.Has K) :
    (cmdTxEnd t tag code r s).Has K := by
  unfold Machine.cmdTxEnd
  dsimp only
  split
  · refine .freeChain ?_
    split
    exacts [hs.txReply.freeLane, hs.txReply]
  · split
    exacts [hs.txReply.freeLane, hs.txReply]

theorem State.Has.endUnsent {b code m : Nat} {countMiss : Bool} {r : TxReq} (hs : s.Has K) :
    (endUnsent b code m countMiss r s).Has K := by
  unfold Machine.endUnsent
  extract_lets +onlyGivenNames s1
  have h1 : s1.Has K := hs.dropChain
  split
  · split
    · extract_lets +onlyGivenNames s2 s3
      have h2 : s2.Has K := by
        dsimp only [s2]
        split
        exacts [h1.setResult, h1]
      exact .ite h2.returnHead.releaseAct.missed h2.returnHead.releaseAct
    · exact h1
  · exact h1.count.setLink
  · exact h1.cmdTxEnd

theorem State.Has.claimIdle {b c : Nat} (hs : s.Has K) : OptHas K (claimIdle b c s) := by
  unfold Machine.claimIdle
  dsimp only
  split
  exacts [.some hs, .ite (.some hs.setBand.gateCount) (.none)]

theorem State.Has.loseChain {b : Nat} {c : Claim} {r : TxReq} (hs : s.Has K) : (loseChain b c r s).Has K :=
  .ite (.endUnsent (.gateCount (hs.when (·.count)))) hs.endUnsent

theorem State.Has.preemptSlice {b : Nat} (hs : s.Has K) : (preemptSlice b s).Has K := by
  unfold Machine.preemptSlice
  dsimp only
  split
  exacts [hs, hs.setBand.count.setBit.calStat.leaveSlice]

theorem State.Has.preemptUses {b : Nat} {rs : List Nat} (hs : s.Has K) : (preemptUses b rs s).Has K := by
  unfold Machine.preemptUses
  split
  exacts [.ite hs.preemptSlice hs, hs]

theorem State.Has.loseAct {c : Claim} {a : Activ} (hs : s.Has K) : (loseAct c a s).Has K :=
  .ite hs.returnHead.releaseAct.gateCount hs.returnHead.releaseAct.missed

theorem State.Has.claimSyn {b : Nat} {rs : List Nat} {chan : Nat} {c : Claim} (hs : s.Has K) :
    OptHas K (claimSyn b rs chan c s) := .ite (.none) (.some (hs.preemptUses.forAll (·.loseAct)))

/-! ### Lanes and paths of the receiver -/

theorem State.Has.setLow {p n : Nat} (hs : s.Has K) : (setLow p n s).Has K := hs.setLink

theorem State.Has.stepGain {p g k m : Nat} (hs : s.Has K) : (stepGain p g k m s).Has K :=
  .setLow (hs.setGain.count.when (·.countBy))

theorem State.Has.agcWindow {p : Nat} {power : Octet} {ovl : Bool} {s0 : State} (hs : s0.Has K) :
    (agcWindow p power ovl s0).Has K := by
  refine .ite hs ?_
  extract_lets +onlyGivenNames s x hi lo g low s1 k u
  have h1 : s1.Has K := (hs.drawn.setFld.when (·.count)).setLow
  exact .ite h1 (.ite h1.stepGain (.ite h1.stepGain h1))

theorem State.Has.pathGainWrite {p : Nat} {v : Word} (hs : s.Has K) : (pathGainWrite p v s).Has K :=
  .ite hs.plainWrite.setGain hs.plainWrite

theorem State.Has.gainApply {p : Nat} (hs : s.Has K) : (gainApply p s).Has K := by
  unfold Machine.gainApply
  dsimp only
  split
  exacts [hs.setLink, hs]

theorem State.Has.keepFrame {n : Nat} {f : RxFrame} (hs : s.Has K) : (keepFrame n f s).Has K :=
  hs.setFld.setLane.drawn

theorem State.Has.noAckLane {n : Nat} (hs : s.Has K) : (noAckLane n s).Has K := hs.forAll (·.setBand)

theorem State.Has.laneRest {n : Nat} (hs : s.Has K) : (laneRest n s).Has K := by
  refine .ite ?_ hs.resumeLanes
  split
  exacts [.ite hs.freeLane.femClose.putAct (.ite hs.releaseAct hs.freeLane.noAckLane.putAct), hs.freeLane.noAckLane]

theorem State.Has.laneIdle {n : Nat} (hs : s.Has K) : (laneIdle n s).Has K := hs.clearFrame.laneRest

theorem State.Has.loseFrame {n : Nat} (hs : s.Has K) : (loseFrame n s).Has K := .ite hs.abandonFrame.laneRest hs

theorem State.Has.laneSee {n : Nat} (hs : s.Has K) : (laneSee n s).Has K := hs.engSee

theorem State.Has.preambleDetect {n slot : Nat} {peak : BitVec 72} {r1 r2 snr : Octet} (hs : s.Has K) :
    (preambleDetect n slot peak r1 r2 snr s).Has K := by
  unfold Machine.preambleDetect
  dsimp only
  split
  · split
    exacts [hs.keepFrame, .ite hs.setLane.count hs.laneIdle.count.keepFrame]
  · exact hs.keepFrame

theorem State.Has.mapSee {n : Nat} {h : BitVec 52} (hs : s.Has K) : (mapSee n h s).Has K := by
  unfold Machine.mapSee
  split
  exacts [hs.when (·.engSee), hs]

theorem State.Has.rxAlloc {n : Nat} (hs : s.Has K) : (rxAlloc n s).Has K := by
  unfold Machine.rxAlloc
  dsimp only
  split
  · exact hs
  · split
    · next e => exact (hs.bufTake.of_eq e).setLane
    · next e => exact (hs.bufTake.of_eq e).bufOut.reportAbandoned.laneIdle

theorem State.Has.headerDecode {n : Nat} {h : BitVec 52} {phr : Bool} (hs : s.Has K) :
    (headerDecode n h phr s).Has K := by
  unfold Machine.headerDecode
  dsimp only
  split
  exacts [hs, .ite hs.count.laneIdle (.rxAlloc (.setLane (.ite hs.setLink hs)))]

theorem State.Has.cwArrive {n : Nat} (hs : s.Has K) : (cwArrive n s).Has K := by
  unfold Machine.cwArrive
  dsimp only
  split
  exacts [hs, .ite hs (.ite hs.count.reportAbandoned.laneIdle hs.setLane.setLink)]

theorem State.Has.cwDecode {its : Nat} (hs : s.Has K) : (cwDecode its s).Has K := by
  unfold Machine.cwDecode
  dsimp only
  split
  · exact hs
  · split
    exacts [hs.setLink, hs.setLink.setLane]

theorem State.Has.cwDecodeBy {e its : Nat} (hs : s.Has K) : (cwDecodeBy e its s).Has K := .ite hs.cwDecode hs

theorem State.Has.frameEnd {n : Nat} {psdu : List Octet} {fcsOk : Bool} {spread : Nat} {tones : List Word}
    (hs : s.Has K) : (frameEnd n psdu fcsOk spread tones s).Has K := by
  unfold Machine.frameEnd
  dsimp only
  split
  exacts [hs, .laneIdle (.ite hs.count.setReg.setLink.setLane hs.count.setReg)]

theorem State.Has.detachLane {n : Nat} (hs : s.Has K) : (detachLane n s).Has K := by
  unfold Machine.detachLane
  dsimp only
  split
  · exact .ite hs.freeLane.noAckLane.putAct.missed hs.returnHead.releaseAct.missed
  · exact hs.finishTag.freeLane
  · split
    exacts [.ite hs.endUnsent hs.freeLane.noAckLane, hs.freeLane.noAckLane]
  · exact hs
  · exact hs.freeLane

theorem State.Has.oosLane {n : Nat} (hs : s.Has K) : (oosLane n s).Has K := by
  unfold Machine.oosLane
  extract_lets +onlyGivenNames s1 _ s2
  have h2 : s2.Has K := (hs.when (·.count)).setLane.setBit
  exact State.Has.laneShow (.ite h2 h2.detachLane)

theorem State.Has.oosWrite {v : Word} (hs : s.Has K) : (oosWrite v s).Has K :=
  .resumeLanes (hs.setFld.forAll (fun h => .ite h.oosLane h.laneShow))

theorem State.Has.dropSusp {n : Nat} (hs : s.Has K) : (dropSusp n s).Has K := hs.setLane.setBit

theorem State.Has.spanRelease {b : Nat} {a : Activ} (hs : s.Has K) : (spanRelease b a s).Has K := by
  unfold Machine.spanRelease
  extract_lets mine s1 _ s2
  have h1 : s1.Has K := by
    dsimp only [s1]
    split
    exacts [hs.when (·.count), hs]
  have h2 : s2.Has K := by
    dsimp only [s2]
    split
    exacts [.ite h1.setBand h1, h1]
  split
  exacts [h2.returnHead.releaseAct.missed, h2.returnHead.releaseAct.gateCount]

theorem State.Has.spanApply {b : Nat} (hs : s.Has K) : (spanApply b s).Has K := by
  unfold Machine.spanApply
  split
  · exact hs
  · extract_lets +onlyGivenNames _ s0 s1 s2 s3
    have h0 : s0.Has K := hs.setFld.setBand
    have h1 : s1.Has K := .ite h0.tuneSyn.tuneSyn h0
    have h2 : s2.Has K := .ite (h1.forAll (·.spanRelease)) h1
    have h3 : s3.Has K := .ite ((h2.forAll (·.count.dropSusp)).forAll (·.count.freeLane)) h2
    exact h3.finishRun

/-! ### The neighbour table -/

theorem State.Has.reindex {n : Nat} (hs : s.Has K) : (reindex n s).Has K := hs.setLink

theorem State.Has.reindexAll (hs : s.Has K) : (reindexAll s).Has K := hs.setLink

theorem State.Has.setWindow {n h win : Nat} (hs : s.Has K) : (setWindow n h win s).Has K :=
  hs.setNbr.setNbrFld.setNbr.setNbr

theorem State.Has.unname {n before : Nat} (hs : s.Has K) : (unname n before s).Has K := .ite hs.setLink hs

theorem State.Has.noticeNbr {n st : Nat} (hs : s.Has K) : (noticeNbr n st s).Has K := hs.when (·.notice)

theorem State.Has.beaconMiss {n : Nat} (hs : s.Has K) : (beaconMiss n s).Has K :=
  .ite hs (.ite hs.setNbrFld.setNbrFld.setNbrFld.setNbrFld.count.fire.noticeNbr
    (.ite hs.setNbrFld.setNbrFld.setNbrFld.count.fire.noticeNbr.parentLost hs.setNbrFld.setNbrFld))

theorem State.Has.ringRecord {n : Nat} (hs : s.Has K) : (ringRecord n s).Has K :=
  .setFld (.engWrites (.ite (.ite hs.count.setBit.fire.notice hs.count.setBit.fire) hs))

theorem State.Has.forget {n : Nat} (hs : s.Has K) : (forget n s).Has K := hs.setLink

theorem State.Has.admitNbr {ext k net c rssi : Nat} {ts : BitVec 72} (hs : s.Has K) :
    (admitNbr ext k net c rssi ts s).2.Has K := by
  unfold Machine.admitNbr
  dsimp only
  split
  · exact .reindex (.unname (.forget (.count (.engWrites (hs.forAll (·.engWrite))))))
  · refine .reindex (.unname (.forget (.count (.engWrites (.forAll ?_ (·.engWrite))))))
    split
    exacts [hs.count.ringRecord.forget, hs]

theorem State.Has.windowUpdate {n k c : Nat} (hs : s.Has K) : (windowUpdate n k c s).Has K :=
  .ite hs.setWindow (.ite hs.setWindow (.ite hs hs.setWindow))

theorem State.Has.driftUpdate {n : Nat} {txtime : List Octet} {ts : BitVec 72} (hs : s.Has K) :
    (driftUpdate n txtime ts s).Has K := by
  unfold Machine.driftUpdate
  dsimp only
  split
  exacts [hs.setLink, .ite hs.setLink hs.setNbrFld.setNbrFld.setLink]

theorem State.Has.lqUpdate {n q : Nat} (hs : s.Has K) : (lqUpdate n q s).Has K := .ite hs hs.setNbrFld

theorem State.Has.entryUpdate {n k net : Nat} {f : RxFrame} {admitted : Bool} (hs : s.Has K) :
    (entryUpdate n k net f admitted s).Has K :=
  .reindex (.setNbr (.setNbrFld (.setNbrFld
    (.setNbrFld (.ite hs (.ite (.ite hs.setNbrFld.setLink hs.setLink) (.ite hs.setNbrFld.noticeNbr hs)))))))

theorem State.Has.nbrCommitWrite {v : Word} (hs : s.Has K) : (nbrCommitWrite v s).Has K := by
  unfold Machine.nbrCommitWrite
  extract_lets +onlyGivenNames s1
  refine .ite hs.plainWrite ?_
  extract_lets +onlyGivenNames n before m m0 st w0 empties s2 s3 s4
  have h2 : s2.Has K := .ite hs.plainWrite.ringRecord hs.plainWrite
  have h3 : s3.Has K := h2.forAll fun h => .ite h h.setNbr
  have h4 : s4.Has K := State.Has.reindex (.unname (.ite h3.forget h3))
  exact h4.when (·.noticeNbr)

theorem State.Has.heardRefresh (hs : s.Has K) : (heardRefresh s).Has K := hs.forAll fun h => .ite h.setNbr h

/-! ### The judgement of received frames -/

theorem State.Has.removeFrame {q : Nat} {d : Word} (hs : s.Has K) : (removeFrame q d s).Has K := by
  unfold Machine.removeFrame
  extract_lets +onlyGivenNames s1
  have h1 : s1.Has K := (hs.when (·.count)).setResult
  exact .ite h1.hwPush (.ite h1.freeChain h1)

theorem State.Has.ackFailed {b : Nat} {wt : AckWait} (hs : s.Has K) : (ackFailed b wt s).Has K := by
  unfold Machine.ackFailed
  extract_lets +onlyGivenNames _ s1
  have h1 : s1.Has K := hs.setBand.lqUpdate
  split
  · split
    · refine .releaseAct ?_
      split
      exacts [.ite h1.removeFrame h1.setResult.returnHead, h1]
    · exact h1
  · split
    · extract_lets +onlyGivenNames s2
      have h2 : s2.Has K := by
        dsimp only [s2]
        split
        exacts [h1.freeLane, h1]
      exact .ite h2.setResult.cmdTxEnd h2.setBand
    · exact h1.cmdTxEnd
  · exact h1

theorem State.Has.ackGot {b : Nat} {wt : AckWait} (hs : s.Has K) : (ackGot b wt s).Has K := by
  unfold Machine.ackGot
  extract_lets +onlyGivenNames _ s1
  have h1 : s1.Has K := hs.count.setBand.lqUpdate
  split
  · split
    · refine .releaseAct ?_
      split
      exacts [h1.setResult.freeChain, h1]
    · exact h1
  · split
    exacts [h1.setResult.cmdTxEnd, h1.cmdTxEnd]
  · exact h1

theorem State.Has.settleWait {b : Nat} (hs : s.Has K) : (settleWait b s).Has K := by
  unfold Machine.settleWait
  split
  exacts [.ite hs.ackFailed hs, hs]

theorem State.Has.closeMissed {a : Activ} (hs : s.Has K) : (closeMissed a s).Has K := hs.when (·.beaconMiss)

theorem State.Has.settleWindows (hs : s.Has K) : (settleWindows s).Has K :=
  hs.forAll fun h => .ite h h.dropAct.closeMissed

theorem State.Has.settle (hs : s.Has K) : (settle s).Has K := hs.settleWait.settleWait.settleWindows

theorem State.Has.windowGot {n : Nat} {x : RxDone} (hs : s.Has K) : (windowGot n x s).Has K :=
  hs.forAll fun h => .when (.ite h.dropAct h.releaseAct) (·.lqUpdate)

theorem State.Has.ackChain {x : RxDone} {c : Nat} {late : Bool} (hs : s.Has K) : OptHas K (ackChain x c late s) := by
  refine .ite (.none) ?_
  split
  exacts [hs.claimIdle.bind (·.preemptUses.claimSyn), .ite hs.loseChain.preemptUses.claimSyn (.none)]

theorem State.Has.ackRequest {x : RxDone} {c : Nat} {p : List Octet} (hs : s.Has K) : (ackRequest x c p s).Has K := by
  unfold Machine.ackRequest
  extract_lets +onlyGivenNames b bk rs port inst
  split
  extract_lets +onlyGivenNames free r s1
  have h1 : s1.Has K := hs.drawn.when (·.count)
  exact State.Has.setChain (.ite h1.tuneSynIn h1)

theorem State.Has.cacheAck {e : AckCached} (hs : s.Has K) : (cacheAck e s).Has K := hs.setLink

theorem State.Has.ackSent {p : List Octet} (hs : s.Has K) : (ackSent p s).Has K := hs.setLink

theorem State.Has.ackFrame {x : RxDone} {j : Judged} {n c : Nat} {late : Bool} (hs : s.Has K) :
    (ackFrame x j n c late s).2.Has K := by
  refine .ite_snd hs.count ?_
  split
  · exact hs.count
  · next e => exact (hs.ackChain.of_eq e).takeCtr.ackRequest.cacheAck

theorem State.Has.reack {x : RxDone} {j : Judged} {n c : Nat} {late : Bool} (hs : s.Has K) :
    (reack x j n c late s).Has K := by
  unfold Machine.reack
  split
  · exact hs.count
  · refine .ite hs ?_
    split
    · next e => exact (hs.ackChain.of_eq e).count.ackRequest
    · exact hs.count

theorem State.Has.fwdHand {f : FwdFrame} (hs : s.Has K) : (fwdHand f s).Has K :=
  .ite hs.hwPushIf (.ite (.update (.when (hs.when (·.count)) (·.count))) hs.update)

theorem State.Has.takeInjected {fuel : Nat} (hs : s.Has K) : (takeInjected fuel s).Has K := by
  induction fuel generalizing s with
  | zero => exact hs
  | succ fuel ih =>
    unfold Machine.takeInjected
    split
    next e =>
      refine .ite (hs.qPop.of_eq e) ?_
      split
      next e1 => exact ih ((hs.qPop.of_eq e).engWord.of_eq e1).fwdHand

theorem State.Has.fwdInject (hs : s.Has K) : (fwdInject s).Has K := hs.when (·.takeInjected)

theorem State.Has.measureRecord {x : RxDone} {n c : Nat} (hs : s.Has K) : (measureRecord x n c s).Has K := by
  unfold Machine.measureRecord
  dsimp only
  split
  · exact hs
  · refine .ite ?_ hs
    split
    · next e => exact (hs.storeChunks.of_eq e).hwPushIf
    · next e => exact hs.storeChunks.of_eq e

theorem State.Has.rxStore {x : RxDone} {rcd : List Word} {data : List Octet} (hs : s.Has K) :
    (rxStore x rcd data s).2.Has K := by
  unfold Machine.rxStore
  split
  exacts [hs, hs.storeBufs]

theorem State.Has.toRxq {x : RxDone} {j : Judged} {desc : Word} (hs : s.Has K) : (toRxq x j desc s).Has K :=
  hs.hwPushIf

theorem State.Has.acceptUnsec {x : RxDone} {j : Judged} (hs : s.Has K) : (acceptUnsec x j s).Has K := by
  unfold Machine.acceptUnsec
  dsimp only
  split
  · next e => exact hs.rxStore.of_eq e
  · next e => exact (hs.rxStore.of_eq e).count.toRxq

theorem State.Has.feedbackIn {x : RxDone} {j : Judged} {n : Nat} (hs : s.Has K) : (feedbackIn x j n s).Has K :=
  .ite hs hs.setLink

theorem State.Has.acceptFrame {x : RxDone} {j : Judged} {late : Nat → Bool} (hs : s.Has K) :
    (acceptFrame x j late s).Has K := by
  unfold Machine.acceptFrame
  extract_lets +onlyGivenNames data
  split
  · next e => exact hs.rxStore.of_eq e
  · next e0 =>
    have h0 := hs.rxStore.of_eq e0
    extract_lets +onlyGivenNames c0
    split
    next s1 e1 =>
    have h1 : s1.Has K := by
      revert e1
      split
      · intro e
        cases e
        exact h0
      · exact h0.admitNbr.of_eq
    extract_lets +onlyGivenNames c demote s2 s3 s4 s5
    have h2 : s2.Has K := h1.count.when (·.count)
    have h3 : s3.Has K := .ite h2.windowUpdate h2
    have h4 : s4.Has K := by
      dsimp only [s4]
      split
      exacts [h3.driftUpdate.stratumUpdate, h3]
    have h5 : s5.Has K := h4.entryUpdate.feedbackIn
    split
    next e6 =>
    extract_lets +onlyGivenNames s7 s8
    have h8 : s8.Has K :=
      (State.Has.of_eq (.ite_snd h5.ackFrame h5) e6).engWrites.measureRecord.windowGot
    exact .ite h8.fwdInject.fwdHand h8.toRxq

theorem State.Has.mapUsed {x : RxDone} (hs : s.Has K) : (mapUsed x s).Has K := by
  unfold Machine.mapUsed
  dsimp only
  split
  exacts [.ite hs.setLink hs, hs]

theorem State.Has.rxDrop {x : RxDone} (hs : s.Has K) : (rxDrop x s).Has K := hs.bufGive

theorem State.Has.judgeFrame {x : RxDone} {late : Nat → Bool} (hs : s.Has K) : (judgeFrame x late s).Has K := by
  unfold Machine.judgeFrame
  dsimp only
  split
  exacts [hs.count.rxDrop, .ite hs.count.rxDrop.reack hs.count.rxDrop, .ite hs.acceptUnsec hs.acceptFrame]

theorem State.Has.frameAccept {late : RxDone → Nat → Bool} (hs : s.Has K) : (frameAccept late s).Has K := by
  unfold Machine.frameAccept
  split
  · exact hs
  · extract_lets +onlyGivenNames s1 _ s0
    have h0 : s0.Has K := (hs.when (·.engSee)).setLink.mapUsed
    refine .settle ?_
    split
    exacts [.ite h0.rxDrop.ackGot h0.count.judgeFrame, h0.judgeFrame]

/-! ### The gate engine -/

theorem State.Has.courseShow (hs : s.Has K) : (courseShow s).Has K := hs.setBit

theorem State.Has.startCourse {n : Nat} (hs : s.Has K) : (startCourse n s).Has K :=
  hs.setBit.setBit.setMulti.setGates.courseShow

theorem State.Has.endCourse {n : Nat} (hs : s.Has K) : (endCourse n s).Has K := hs.setBit.setBit.courseShow

theorem State.Has.releaseEarly {p : Activ → Bool} (hs : s.Has K) : (releaseEarly p s).Has K :=
  hs.forAll (·.returnHead.releaseAct)

theorem State.Has.stopTrim {n t : Nat} (hs : s.Has K) : (stopTrim n t s).Has K := hs.releaseEarly

theorem State.Has.stopNow {n : Nat} (hs : s.Has K) : (stopNow n s).Has K := hs.endCourse.releaseEarly

theorem State.Has.courseCfgWrite {n : Nat} {v : Word} (hs : s.Has K) : (courseCfgWrite n v s).Has K :=
  .ite hs.setFld.stopNow (.ite hs.setFld.startCourse (.ite hs.setFld.setBit.setBit.courseShow.stopTrim hs.setFld))

theorem State.Has.periodFloor {n : Nat} (hs : s.Has K) : (periodFloor n s).Has K := .ite hs.setMulti hs

theorem State.Has.coursePlainWrite {n a : Nat} {v : Word} (hs : s.Has K) : (coursePlainWrite n a v s).Has K :=
  .ite hs (.ite hs.plainWrite.setFld (.ite hs.plainWrite.periodFloor hs.plainWrite))

theorem State.Has.bankSwap (hs : s.Has K) : (bankSwap s).Has K := hs.setBit.setBit.setGates.finishRun

theorem State.Has.swapDue (hs : s.Has K) : (swapDue s).Has K := by
  unfold Machine.swapDue
  split
  exacts [.ite hs.bankSwap hs, hs]

theorem State.Has.courseBoundary {n t : Nat} (hs : s.Has K) : (courseBoundary n t s).Has K :=
  .swapDue (.ite hs.endCourse.stopTrim hs)

theorem State.Has.retire {g : Nat} (hs : s.Has K) : (retire g s).Has K := hs.update

theorem State.Has.gateCommitWrite {v : Word} (hs : s.Has K) : (gateCommitWrite v s).Has K := by
  unfold Machine.gateCommitWrite
  extract_lets +onlyGivenNames s0
  refine .ite hs.plainWrite ?_
  extract_lets +onlyGivenNames g s1 s2 _ s3
  have h3 : s3.Has K := (hs.plainWrite.engWrites.forAll (·.dropAct)).setGates.retire
  exact .ite h3 h3.releaseEarly

theorem State.Has.guardEval {g i : Nat} (hs : s.Has K) : (guardEval g i s).Has K :=
  .putAct (hs.engSee.markMade.when (·.gateCount))

theorem State.Has.suspendLane {n : Nat} (hs : s.Has K) : (suspendLane n s).Has K := hs.setLane.setFld.setBit.laneShow

theorem State.Has.holdOff {n : Nat} (hs : s.Has K) : (holdOff n s).Has K := .ite hs.suspendLane hs

theorem State.Has.claimLane {n : Nat} {c : Claim} (hs : s.Has K) : OptHas K (claimLane n c s) := by
  have h1 := hs.abandonFrame (n := n)
  refine .ite (.some hs) (.ite .none ?_)
  split
  · split
    · refine .ite .none (.ite ?_ (.some h1.loseAct.holdOff))
      split
      exacts [.some h1.gateCount.ackFailed.holdOff, .some h1.loseAct.holdOff]
    · exact .none
  · exact .ite (.some h1.gateCount.suspendLane) .none
  · refine .ite .none ?_
    split
    · exact .some h1.gateCount.finishTag.freeLane.holdOff
    · exact .some h1.loseChain.holdOff
    · exact .some h1.gateCount.ackFailed.holdOff
    · exact .none
  · split
    exacts [.ite .none (.some h1.gateCount), .none]

theorem State.Has.claimLanes {c : Claim} {l : List Nat} (hs : s.Has K) : OptHas K (claimLanes c l s) := by
  induction l generalizing s with
  | nil => exact .some hs
  | cons n l ih => exact hs.claimLane.bind ih

theorem State.Has.claimChain {b : Nat} {c : Claim} (hs : s.Has K) : OptHas K (claimChain b c s) := by
  unfold Machine.claimChain
  split
  exacts [hs.claimIdle, .ite (.some hs.loseChain) (.none), .ite (.some hs.gateCount.ackFailed) (.none)]

theorem State.Has.claimRx {bk : Bool} {b n input chan prof : Nat} {c : Claim} {holder : Nat} {rs : Option Nat}
    (hs : s.Has K) : OptHas K (claimRx bk b n input chan prof c holder rs s) :=
  .bind (hs.claimSyn.bind (·.claimLane)) (fun h => h.claimLanes.map (·.tunePathsAt.bindLane))

theorem State.Has.txRequest {p : TxPlan} {x : Built} {dst : Option Nat} {air : Nat}
    {expect : Option (Nat × Option Nat)} {lane : Option Nat} {free : Bool} (hs : s.Has K) :
    (txRequest p x dst air expect lane free s).2.Has K := by
  unfold Machine.txRequest
  dsimp only
  split
  exacts [hs.drawn.when (·.count), hs.drawn.when (·.count)]

theorem State.Has.actFrame {w : List Word} {bk : Bool} {inst : Nat} (hs : s.Has K) :
    (actFrame w bk inst s).1.2.Has K := by
  unfold Machine.actFrame
  split
  exacts [hs.buildRecord, hs.buildFrame]

theorem State.Has.takeDesc {q : Nat} {d : Word} (hs : s.Has K) : (takeDesc q d s).Has K := .ite hs.qPop hs.qTake

theorem State.Has.pretuneTx {a : Activ} {port : Nat} (hs : s.Has K) : (pretuneTx a port s).Has K := by
  refine .ite hs.missed (.ite hs.gateCount ?_)
  split
  next res s1 dst ar e =>
  have h1 : s1.Has K := hs.actFrame.of_eq_fst e
  split
  · exact h1.missed
  · exact h1
  · refine .ite h1.missed (.ite h1.missed ?_)
    split
    · exact h1.missed
    · next e2 =>
      have h2 := (h1.claimChain.bind (·.claimSyn)).of_eq e2
      extract_lets +onlyGivenNames lane
      split
      · exact h1.missed
      · next s3 e3 =>
        have h3 : s3.Has K := (OptHas.ite h2.claimRx (.some h2)).of_eq e3
        extract_lets +onlyGivenNames desc
        clear_value desc
        extract_lets +onlyGivenNames s4
        have h4 : s4.Has K := by
          dsimp only [s4]
          split
          exacts [h3.takeDesc, h3]
        extract_lets +onlyGivenNames plan
        split
        next e5 => exact (h4.txRequest.of_eq e5).tuneSynIn.putAct.setChain

theorem State.Has.claimEngine {b : Nat} {c : Claim} (hs : s.Has K) : OptHas K (claimEngine b c s) :=
  .ite (.none) (.some (hs.forAll (·.loseAct)))

theorem State.Has.claimCal {c : Claim} {item x : Nat} {l : List Nat} (hs : s.Has K) :
    OptHas K (claimCal c item x l s) := by
  induction l generalizing s with
  | nil => exact .some hs
  | cons b l ih =>
    exact ((((OptHas.ite (.some hs) hs.claimEngine).bind (·.claimSyn)).bind
      (fun h => .ite h.claimChain (.some h))).bind (·.claimLanes)).bind ih

theorem State.Has.pretuneCal {a : Activ} (hs : s.Has K) : (pretuneCal a s).Has K := by
  unfold Machine.pretuneCal
  dsimp only
  split
  · exact hs.missed
  · next e => exact (hs.claimCal.of_eq e).putAct

theorem State.Has.pretuneRx {a : Activ} (hs : s.Has K) : (pretuneRx a s).Has K := by
  unfold Machine.pretuneRx
  dsimp only
  split
  · exact hs.missed
  · next e => exact .ite hs.missed (hs.claimRx.of_eq e).femClaim.putAct

theorem State.Has.pretuneTune {a : Activ} (hs : s.Has K) : (pretuneTune a s).Has K := by
  refine .ite hs.putAct ?_
  split
  · exact hs.missed
  · next e => exact .putAct (.tunePathsAt (OptHas.of_eq (hs.claimSyn.bind (·.claimLanes)) e))

theorem State.Has.requestMode {m : Nat} {by_ : ChangeBy} (hs : s.Has K) : (requestMode m by_ s).Has K :=
  hs.setFld.setReg.setReg.update

theorem State.Has.wakeRequest (hs : s.Has K) : (wakeRequest s).Has K := .ite (.ite hs.requestMode hs.update) hs

theorem State.Has.judge {a : Activ} (hs : s.Has K) : (Machine.judge a s).Has K := by
  refine .ite hs.missed (.ite hs.gateCount
    (.ite hs.missed (.ite hs.missed (.ite hs.missed
    (.ite hs.putAct (.ite hs.wakeRequest.putAct
    (.ite hs.missed (.ite hs.pretuneRx (.ite (.ite hs.missed ?_) (.ite hs.pretuneTune hs.pretuneCal))))))))))
  split
  exacts [hs.pretuneTx, hs.missed]

theorem State.Has.pretune {g i : Nat} {w : List Word} {guard pre : Nat} (hs : s.Has K) :
    (pretune g i w guard pre s).Has K := hs.engSee.dropAct.markMade.judge

theorem State.Has.rebank {a : Activ} (hs : s.Has K) : (rebank a s).Has K :=
  .ite hs.putAct hs.returnHead.releaseAct.judge

/-! ### Activations at and after their instants -/

theorem State.Has.fireMark {a : Activ} (hs : s.Has K) : (fireMark a s).Has K :=
  .setGates (.ite hs hs.setMulti.setReg.setReg)

theorem State.Has.openWindow {late : Bool} {a : Activ} (hs : s.Has K) : (openWindow late a s).Has K :=
  .fireMark (.putAct (.femOn (hs.when (·.gateCount))))

theorem State.Has.closeWindow {a : Activ} (hs : s.Has K) : (closeWindow a s).Has K := by
  refine .ite hs.gateCount.releaseAct (.ite (.putAct (.femClose ?_)) hs.releaseAct.closeMissed)
  split
  exacts [.ite hs.freeLane hs, hs]

theorem State.Has.tuneDone {b : Nat} (hs : s.Has K) : (tuneDone b s).Has K := .ite hs.finishRun hs

theorem State.Has.chainTune {b : Nat} (hs : s.Has K) : (chainTune b s).Has K := by
  unfold Machine.chainTune
  split
  exacts [.ite hs.setChain hs.tuneSynIn.setChain, hs.setChain]

theorem State.Has.synthLock {b k : Nat} (hs : s.Has K) : (synthLock b k s).Has K :=
  .tuneDone (.ite (.chainTune (hs.lockSyn.forAll (·.openWindow))) (hs.lockSyn.forAll (·.openWindow)))

theorem State.Has.emitEvent {a : Activ} (hs : s.Has K) : (emitEvent a s).Has K :=
  .ite hs.fire.fireMark.putAct hs.fire.fireMark.dropAct

theorem State.Has.winLevelEnd {a : Activ} (hs : s.Has K) : (winLevelEnd a s).Has K := hs.dropAct

theorem State.Has.tuneFire {a : Activ} (hs : s.Has K) : (tuneFire a s).Has K :=
  .ite hs.gateCount.releaseAct hs.putAct.fireMark

theorem State.Has.wakeApp {a : Activ} (hs : s.Has K) : (wakeApp a s).Has K := hs.wakeRequest.fire.fireMark.dropAct

theorem State.Has.dropBackground {b : Nat} (hs : s.Has K) : (dropBackground b s).Has K := by
  unfold Machine.dropBackground
  dsimp only
  split
  exacts [.ite hs hs.setBand.setBit.calStat.leaveSlice, hs]

theorem State.Has.sliceStart {b : Nat} {c : CalSlice} (hs : s.Has K) : (sliceStart b c s).Has K := by
  unfold Machine.sliceStart
  extract_lets +onlyGivenNames s0 _ s1
  have h1 : s1.Has K := State.Has.setFld (.setBand (.ite hs.dropBackground hs))
  exact .ite h1 h1.setBit

theorem State.Has.armPachk {b : Nat} (hs : s.Has K) : (armPachk b s).Has K := hs.setBand

theorem State.Has.calFire {a : Activ} (hs : s.Has K) : (calFire a s).Has K :=
  .ite hs.fireMark.releaseAct (.ite hs.fireMark.armPachk.releaseAct hs.fireMark.putAct.sliceStart)

theorem State.Has.calSee {bk : Bool} (hs : s.Has K) : (calSee bk s).Has K := hs.engSee

theorem State.Has.calStart {b : Nat} (hs : s.Has K) : (calStart b s).Has K := by
  unfold Machine.calStart
  dsimp only
  split
  exacts [hs, .ite hs.armPachk.setBand (.ite hs.calSee.sliceStart hs)]

theorem State.Has.putTrims {b : Nat} {trim : List Word} (hs : s.Has K) : (putTrims b trim s).Has K :=
  hs.forAll fun h => by
    split
    exacts [h.setFld, h]

theorem State.Has.sliceResult {b : Nat} {c : CalSlice} {last : Bool} {w1 w2 w3 : Word} {trim : List Word}
    (hs : s.Has K) : (sliceResult b c last w1 w2 w3 trim s).Has K :=
  .ite (.when (hs.when (·.engCal.setFld)) (·.putTrims)) hs

theorem State.Has.sliceDone {b : Nat} {ok : Bool} {w1 w2 w3 : Word} {trim : List Word} (hs : s.Has K) :
    (sliceDone b ok w1 w2 w3 trim s).Has K := by
  unfold Machine.sliceDone
  split
  · exact hs
  · extract_lets +onlyGivenNames long good path key no whole act finished turn s1 s2 _ s3 s4 s5
    have h3 : s3.Has K := ((hs.when (·.sliceResult)).when (·.leaveSlice)).setBand
    have h5 : s5.Has K := (h3.when (·.itemDone)).when (·.calStat.setBit)
    clear_value act
    split
    exacts [h5.releaseAct, .ite h5.finishRun h5]

theorem State.Has.dropFrame {n : Nat} (hs : s.Has K) : (dropFrame n s).Has K := .ite hs.reportAbandoned.laneIdle hs

theorem State.Has.fullStart {b : Nat} (hs : s.Has K) : (fullStart b s).Has K :=
  .ite hs (.settle (.forAll (.setBit (.setBand (.dropBackground (hs.when (·.dropBackground))))) (·.dropFrame)))

theorem State.Has.feEnable {b : Nat} {on : Bool} (hs : s.Has K) : (feEnable b on s).Has K :=
  .ite hs.setBit.tuneSyn.tuneSyn hs.setBit

theorem State.Has.feCtrlWrite {b : Nat} {v : Word} (hs : s.Has K) : (feCtrlWrite b v s).Has K := by
  unfold Machine.feCtrlWrite
  extract_lets +onlyGivenNames s2 s3 s4
  have h2 : s2.Has K := hs.feEnable
  have h3 : s3.Has K := .ite (h2.forAll (·.setReg)) h2
  have h4 : s4.Has K := .ite h3.fullStart h3
  exact .ite h4.setBand h4

theorem State.Has.fullEntry {b : Nat} {results : List (Nat × List Word)} {sweep iq : Bool} {e : Nat} (hs : s.Has K) :
    (fullEntry b results sweep iq e s).Has K := by
  unfold Machine.fullEntry
  extract_lets l w
  exact .when (hs.when (·.engCal)).drawn.drawn.drawn (·.engCal)

theorem State.Has.fullDone {b : Nat} {trim : List Word} {results : List (Nat × List Word)} {m : Nat} (hs : s.Has K) :
    (fullDone b trim results m s).Has K :=
  .finishRun (.leaveSyn (.leaveSyn (.leaveSyn
    (.setBand (.setBit (.calStat (.when (.forAll (.forAll (hs.when (·.putTrims)) (·.fullEntry)) (·.itemDone))
    (·.armPachk))))))))

theorem State.Has.blankLanes {b : Nat} (hs : s.Has K) : (blankLanes b s).Has K :=
  .forAll (hs.setBand.forAll (·.loseFrame)) (·.setFld)

theorem State.Has.femTxOn {b : Nat} {r : TxReq} (hs : s.Has K) : (femTxOn b r s).Has K := hs.setBand

theorem State.Has.backToWait {b : Nat} {r : TxReq} (hs : s.Has K) : (backToWait b r s).Has K := by
  refine .setChain (.setBand (.femTxUnsent ?_))
  split
  exacts [hs.freeLane, hs]

theorem State.Has.rampUp {b : Nat} (hs : s.Has K) : (rampUp b s).Has K := by
  unfold Machine.rampUp
  dsimp only
  split
  · exact hs
  · refine .ite hs.backToWait (.ite hs.dutyAdmit.endUnsent (.settle (.setChain (.blankLanes (.femTxOn ?_)))))
    split
    exacts [hs.dutyAdmit.setFld.setFld.keepOctets, hs.dutyAdmit.setFld.setFld]

theorem State.Has.waitingLate {b holder : Nat} (hs : s.Has K) : (txLateNow.waitingLate b holder s).Has K := by
  unfold Machine.txLateNow.waitingLate
  dsimp only
  split
  · exact hs
  · split
    exacts [.ite hs.setBand.setChain.cmdTxEnd hs.setBand.setChain.count.cmdTxEnd, hs.setBand.setChain]

theorem State.Has.txLateNow {b : Nat} (hs : s.Has K) : (txLateNow b s).Has K := by
  unfold Machine.txLateNow
  dsimp only
  split
  · refine .ite ?_ hs.waitingLate
    split
    exacts [.ite (.gateCount (hs.count.endUnsent.when (·.gateCount))) (hs.count.endUnsent.when (·.gateCount)),
      hs.count.endUnsent]
  · exact hs.waitingLate

theorem State.Has.pachkEnd {b : Nat} {dev : Bool} {r : TxReq} (hs : s.Has K) : (pachkEnd b dev r s).Has K :=
  .ite hs (.ite hs.setBand.itemDone.calStat.finishRun.count.fire.notice hs.setBand.itemDone.calStat.finishRun)

theorem State.Has.sentFrame {b : Nat} {r : TxReq} (hs : s.Has K) : (sentFrame b r s).Has K := by
  unfold Machine.sentFrame
  extract_lets +onlyGivenNames s1
  have h1 : s1.Has K := by
    dsimp only [s1]
    split
    exacts [hs.countTry, hs]
  split
  · refine .setBand ?_
    split
    · split
      exacts [h1.putAct, h1]
    · exact h1
  · split
    · split
      · refine .releaseAct ?_
        split
        exacts [h1.setResult.freeChain, h1]
      · exact h1
    · refine .cmdTxEnd ?_
      split
      exacts [h1.setResult, h1]
    · exact h1

theorem State.Has.ackGone {r : TxReq} (hs : s.Has K) : (ackGone r s).Has K := .ite (.ackSent (hs.when (·.count))) hs

theorem State.Has.txEnd {b : Nat} {dev : Bool} (hs : s.Has K) : (txEnd b dev s).Has K := by
  unfold Machine.txEnd
  dsimp only
  split
  exacts [hs, hs.count.pachkEnd.ackGone.dropChain.sentFrame]

theorem State.Has.haltWaiting {b : Nat} (hs : s.Has K) : (haltWaiting b s).Has K :=
  hs.forAll fun h => by
    split
    exacts [h.setBand.setChain.cmdTxEnd, h.setBand.setChain]

theorem State.Has.halt {b : Nat} (hs : s.Has K) : (halt b s).Has K := by
  refine .haltWaiting ?_
  split
  exacts [.endUnsent (hs.when (·.count)), hs]

theorem State.Has.ccaDone {b : Nat} {mean : Octet} (hs : s.Has K) : (ccaDone b mean s).Has K := by
  unfold Machine.ccaDone
  split
  · exact hs
  · refine .ite hs.count.endUnsent (.ite hs.setChain (.setChain ?_))
    split
    exacts [hs.freeLane, hs]

theorem State.Has.ackLeaves {b : Nat} (hs : s.Has K) : (ackLeaves b s).Has K := by
  unfold Machine.ackLeaves
  split
  exacts [hs, hs.count.setChain]

theorem State.Has.femLead {b : Nat} (hs : s.Has K) : (femLead b s).Has K := by
  refine .femOn ?_
  split
  exacts [.ite hs.femTxOn hs, hs]

theorem State.Has.femLag {b : Nat} (hs : s.Has K) : (femLag b s).Has K := hs.setBand

theorem State.Has.onAct {g : BitVec 12} {i : BitVec 48} {p : Activ → Bool} {f : Activ → State → State}
    (hs : s.Has K) (hf : ∀ {x} {t : State}, t.Has K → (f x t).Has K) : OutHas K (onAct g i p f s) := by
  unfold Machine.onAct
  split
  exacts [hs.act (fun h => hf h), .next hs]

theorem State.Has.txFire {a : Activ} (hs : s.Has K) : (txFire a s).Has K := hs.putAct.fireMark

/-! ### Tone maps and stand-alone transmissions -/

theorem State.Has.putTm {i : Nat} {w0 : Word} {codes : List Nat} (hs : s.Has K) : (putTm i w0 codes s).Has K :=
  hs.engWrites.engWrite

theorem State.Has.reqQueue {b : Nat} {r : TxReq} (hs : s.Has K) : (reqQueue b r s).Has K := hs.setBand.setChain

theorem State.Has.sendFeedback {n : Nat} {e : List Octet} (hs : s.Has K) : (sendFeedback n e s).Has K :=
  hs.drawn.drawn.drawn.reqQueue

theorem State.Has.computeMap {l : List Word} (hs : s.Has K) : (computeMap l s).Has K := by
  unfold Machine.computeMap
  dsimp only
  split
  exacts [hs.putTm.setLink.sendFeedback, hs]

theorem State.Has.tonemapCompute (hs : s.Has K) : (tonemapCompute s).Has K := by
  unfold Machine.tonemapCompute
  dsimp only
  split
  exacts [hs.qPop.frameScan.freeChain, hs.qPop.frameScan.computeMap.freeChain]

theorem State.Has.tonemapFeedback {n : Nat} {e : List Octet} (hs : s.Has K) : (tonemapFeedback n e s).Has K := by
  refine .ite hs (.ite (.ite hs.setNbrFld hs.setNbrFld.setLink.unname) (.ite hs ?_))
  split
  exacts [hs, .ite hs.putTm.setNbrFld hs.putTm.setNbrFld.setLink.unname]

theorem State.Has.tmExpire {i : Nat} (hs : s.Has K) : (tmExpire i s).Has K := hs.setLink.engWrite

theorem State.Has.reqFrame {r : TxReq} (hs : s.Has K) : (reqFrame r s).1.2.Has K := by
  unfold Machine.reqFrame
  dsimp only
  split
  exacts [hs.buildRecord, hs.buildFrame]

theorem State.Has.reqEnd {b code : Nat} {r : TxReq} (hs : s.Has K) : (reqEnd b code r s).Has K := by
  unfold Machine.reqEnd
  dsimp only
  split
  exacts [hs.setBand.setChain.cmdTxEnd, hs.setBand.setChain]

theorem State.Has.reqClaims {b port : Nat} {r : TxReq} {x : Built} {dst : Option Nat} {ar : Bool} {s0 s : State}
    (hs0 : s0.Has K) (hs : s.Has K) : (reqClaims b port r x dst ar s0 s).Has K := by
  refine .ite hs0 (.ite hs0 (.ite hs0.reqEnd ?_))
  split
  · exact hs0.reqEnd
  · next s2 e =>
    have h2 : s2.Has K := by
      revert e
      split
      exacts [hs.preemptUses.claimRx.of_eq, (OptHas.some hs.preemptUses).of_eq]
    extract_lets +onlyGivenNames plan
    split
    next e1 =>
    exact (h2.txRequest.of_eq e1).setBand.tuneSyn.setChain

theorem State.Has.reqStart {b : Nat} {r : TxReq} (hs : s.Has K) : (reqStart b r s).Has K := by
  unfold Machine.reqStart
  split
  · exact hs.reqEnd
  · refine .ite hs.reqEnd ?_
    split
    next res s1 dst ar e =>
    have h1 : s1.Has K := hs.reqFrame.of_eq_fst e
    split
    exacts [h1.reqEnd, h1.reqEnd, hs.reqClaims h1]

theorem State.Has.pump {b : Nat} (hs : s.Has K) : (pump b s).Has K := by
  unfold Machine.pump
  split
  exacts [hs.reqStart, hs]

theorem State.Has.reqWait {b : Nat} {r : TxReq} (hs : s.Has K) : (reqWait b r s).Has K := hs.reqQueue.pump

theorem State.Has.soundReq {src : TxBy} {n b port prof : Nat} {rec_ : Option Word} (hs : s.Has K) :
    (soundReq src n b port prof rec_ s).Has K := hs.drawn.reqWait

theorem State.Has.retryNow {b : Nat} {r : TxReq} (hs : s.Has K) : (retryNow b r s).Has K := hs.setBand.pump

/-! ### Remote windows -/

theorem State.Has.setRwin {r : RwinState} (hs : s.Has K) : (s.setRwin r).Has K := hs.update

theorem State.Has.rwinCount {m : Nat} (hs : s.Has K) : (rwinCount m s).Has K := hs.count

theorem State.Has.firmTakes {cq : Nat} (hs : s.Has K) : (firmTakes cq s).Has K := by
  unfold Machine.firmTakes
  split
  next e =>
  refine .ite (hs.qPop.of_eq e) ?_
  split
  next e1 =>
  extract_lets s2 e' k res _ s3
  have h3 : s3.Has K := ((hs.qPop.of_eq e).engWords.of_eq e1).frameScan.setCmdp
  refine .freeChain ?_
  split
  exacts [h3.finalReply, h3]

theorem State.Has.keepFirst {b : Nat} (hs : s.Has K) : (keepFirst b s).Has K := by
  unfold Machine.keepFirst
  dsimp only
  split
  exacts [hs.engRead.engWrite, hs.engRead.freeWalk.engWrite]

theorem State.Has.complete {desc : Word} {user status target cq : Nat} {ts : List Word} {opid : Nat}
    {elem : List Octet} (hs : s.Has K) : (complete desc user status target cq ts opid elem s).Has K :=
  hs.keepFirst.engWrites.hwPush.when (·.firmTakes)

theorem State.Has.completionLost (hs : s.Has K) : (completionLost s).Has K := hs.rwinCount.fire

theorem State.Has.inject {desc : Word} {dest cls : Nat} {noalt : Bool} (hs : s.Has K) :
    (inject desc dest cls noalt s).Has K := hs.engWrites.hwPush

theorem State.Has.noteOpid {cq user id : Nat} (hs : s.Has K) : (noteOpid cq user id s).Has K := by
  refine .ite ?_ hs
  split
  exacts [hs.engWrite, hs]

theorem State.Has.takeRequest (hs : s.Has K) : (takeRequest s).Has K := by
  unfold Machine.takeRequest
  split
  next s1 e1 =>
  have h1 : s1.Has K := hs.qPop.of_eq e1
  refine .ite h1 ?_
  extract_lets +onlyGivenNames a
  split
  next e2 =>
  split
  next e3 =>
  have h2 := ((h1.engScan.of_eq e2).frameScan).of_eq e3
  exact .ite h2.rwinCount.freeChain (.ite h2.drawn.complete (.ite h2.drawn.complete (.ite h2.drawn.complete
    (.inject (.noteOpid (.engWrite (.engWrite (.setRwin (.ite h2 h2.setFld)))))))))

theorem State.Has.takeResponse (hs : s.Has K) : (takeResponse s).Has K := by
  unfold Machine.takeResponse
  dsimp only
  split
  · exact hs
  · split
    exacts [hs.setRwin.rwinCount.freeChain, hs.setRwin.setRwin.complete]

theorem State.Has.slotTimeout {y : RwinSlot} (hs : s.Has K) : (slotTimeout y s).Has K := by
  unfold Machine.slotTimeout
  dsimp only
  split
  · next e => exact (hs.setRwin.rwinCount.bufAlloc.of_eq e).completionLost
  · next e => exact (hs.setRwin.rwinCount.bufAlloc.of_eq e).complete

theorem State.Has.sendResponse {x : RwinOp} {e : List Octet} (hs : s.Has K) : (sendResponse x e s).Has K :=
  hs.keepFirst.engWrites.inject

theorem State.Has.cacheResponse {x : RwinOp} {e : List Octet} (hs : s.Has K) : (cacheResponse x e s).Has K :=
  hs.setRwin

theorem State.Has.respond {x : RwinOp} {status count : Nat} {data : List Octet} (hs : s.Has K) :
    (respond x status count data s).Has K := by
  unfold Machine.respond
  extract_lets +onlyGivenNames e s1 s2
  have h1 : s1.Has K := .ite hs.rwinCount (.ite hs.rwinCount (.ite hs.rwinCount (.ite hs.rwinCount
    (.ite hs.rwinCount hs))))
  exact State.Has.sendResponse (.ite h1.cacheResponse h1)

theorem State.Has.earlyCheck {x : RwinOp} (hs : s.Has K) : OptHas K (earlyCheck x s) := by
  refine .ite (.some hs.rwinCount.freeChain) (.ite (.some hs.respond) ?_)
  split
  exacts [.some hs.rwinCount.sendResponse, .none]

theorem State.Has.rwinRead {a n : Nat} (hs : s.Has K) : (rwinRead a n s).2.2.Has K := by
  induction n generalizing a s with
  | zero => exact hs
  | succ n ih =>
    unfold Machine.rwinRead
    split
    · next e => exact hs.engRead.of_eq' e
    · next e =>
      split
      next e1 => exact (ih (hs.engRead.of_eq' e)).of_eq' e1

theorem State.Has.setPipe {c0 : Bool} {l : List RwinOp} (hs : s.Has K) : (setPipe c0 l s).Has K := hs.setRwin

theorem State.Has.setBusy {c0 : Bool} {b : Option RwinBusy} (hs : s.Has K) : (setBusy c0 b s).Has K := hs.setRwin

theorem State.Has.answerRead {x : RwinOp} {count : Nat} {l : List Word} (hs : s.Has K) :
    (answerRead x count l s).Has K := hs.respond

theorem State.Has.oneWord {bell : Bool} {db a : Nat} (hs : s.Has K) : (oneWord bell db a s).2.2.Has K :=
  .ite_snd_snd hs hs.engRead

theorem State.Has.rwinStore {bell : Bool} {db a : Nat} {l : List Word} (hs : s.Has K) :
    (rwinStore bell db a l s).Has K := by
  refine .ite ?_ hs.engWrites
  split
  exacts [hs.setReg.fire, hs]

theorem State.Has.rwinTouch {l : List Nat} (hs : s.Has K) : (rwinTouch l s).2.Has K := by
  induction l generalizing s with
  | nil => exact hs
  | cons a l ih =>
    unfold Machine.rwinTouch
    split
    · next e => exact hs.engRead.of_eq' e
    · next e => exact ih (hs.engRead.of_eq' e)

theorem State.Has.serve {c0 : Bool} {go : RwinOp → Bool → Nat → Nat → State → State} (hs : s.Has K)
    (hgo : ∀ {x y z u} {t : State}, t.Has K → (go x y z u t).Has K) : (serve c0 go s).Has K := by
  unfold Machine.serve
  dsimp only
  split
  · exact hs
  · split
    · next e => exact hs.setPipe.earlyCheck.of_eq e
    · split
      · next e => exact (hs.setPipe.rwinTouch.of_eq e).respond
      · next e =>
          split
          exacts [(hs.setPipe.rwinTouch.of_eq e).respond, hgo (hs.setPipe.rwinTouch.of_eq e)]

theorem State.Has.wrote {c0 : Bool} {x : RwinOp} {bell : Bool} {db a : Nat} {l : List Word} {data : List Octet}
    (hs : s.Has K) : (wrote c0 x bell db a l data s).Has K := hs.rwinStore.setBusy

theorem State.Has.goRead {x : RwinOp} {bell : Bool} {db a : Nat} (hs : s.Has K) : (goRead x bell db a s).Has K := by
  refine .ite hs.answerRead ?_
  split
  · next e => exact (hs.rwinRead.of_eq' e).respond
  · next e => exact (hs.rwinRead.of_eq' e).answerRead

theorem State.Has.goWrite {c0 : Bool} {x : RwinOp} {bell : Bool} {db a : Nat} (hs : s.Has K) :
    (goWrite c0 x bell db a s).Has K := hs.wrote

theorem State.Has.goAdd {c0 : Bool} {x : RwinOp} {bell : Bool} {db a : Nat} (hs : s.Has K) :
    (goAdd c0 x bell db a s).Has K := by
  unfold Machine.goAdd
  split
  · next e => exact (hs.oneWord.of_eq' e).respond
  · next e => exact (hs.oneWord.of_eq' e).wrote

theorem State.Has.goSwap {c0 : Bool} {x : RwinOp} {bell : Bool} {db a : Nat} (hs : s.Has K) :
    (goSwap c0 x bell db a s).Has K := by
  unfold Machine.goSwap
  split
  · next e => exact (hs.oneWord.of_eq' e).respond
  · next e => exact .ite (hs.oneWord.of_eq' e).wrote (hs.oneWord.of_eq' e).answerRead

theorem State.Has.readBack {c0 : Bool} (hs : s.Has K) : (readBack c0 s).Has K := by
  unfold Machine.readBack
  split
  · exact hs
  · extract_lets +onlyGivenNames s1 w s2 still
    have h1 : s1.Has K := hs.setBusy
    have h2 : s2.Has K := by
      refine .ite h1.respond ?_
      split
      · next e => exact (h1.engRead.of_eq' e).respond
      · next e => exact .ite (h1.engRead.of_eq' e).respond (h1.engRead.of_eq' e).respond
    exact .ite h2 h2.finishRun

theorem State.Has.rwinDeliver {x : RwinOp} (hs : s.Has K) : (rwinDeliver x s).Has K := by
  refine .ite hs.freeChain (.ite hs.setRwin ?_)
  split
  · next e => exact (State.Has.of_eq (.ite_snd hs.rwinTouch hs) e).respond
  · next e =>
    have h1 := State.Has.of_eq (.ite_snd hs.rwinTouch hs) e
    split
    · next e1 => exact h1.earlyCheck.of_eq e1
    · exact .ite h1.setPipe h1.respond

theorem State.Has.windowCommitWrite {v : Word} (hs : s.Has K) : (windowCommitWrite v s).Has K :=
  .ite hs.plainWrite.engWrites hs.plainWrite

theorem State.Has.rwinTimeout {opid : Nat} (hs : s.Has K) : (rwinTimeout opid s).Has K := by
  unfold Machine.rwinTimeout
  split
  exacts [hs.slotTimeout, hs]

/-! ### Forwarding -/

theorem State.Has.setFwd {f : FwdState} (hs : s.Has K) : (s.setFwd f).Has K := hs.update

theorem State.Has.fwdCount {m : Nat} (hs : s.Has K) : (fwdCount m s).Has K := hs.count

theorem State.Has.routeCommitWrite {v : Word} (hs : s.Has K) : (routeCommitWrite v s).Has K :=
  .ite hs.plainWrite.engWrites hs.plainWrite

theorem State.Has.fwdRead {f : FwdFrame} (hs : s.Has K) : (fwdRead f s).2.Has K := by
  unfold Machine.fwdRead
  split
  next e =>
  extract_lets s1 data
  have h1 : s1.Has K := (hs.engWords.of_eq e).frameScan
  split
  · split
    · exact h1
    · split
      exacts [.ite_snd h1 h1, h1]
  · exact h1

theorem State.Has.hopSee {r : List Word} (hs : s.Has K) : (hopSee r s).Has K := hs.engSee

theorem State.Has.nextHop {j : FwdJob} {r : List Word} (hs : s.Has K) : (nextHop j r s).2.Has K := by
  unfold Machine.nextHop
  extract_lets +onlyGivenNames w1 w2 n a back
  refine .ite_snd hs ?_
  extract_lets +onlyGivenNames s1
  have h1 : s1.Has K := hs.when (·.fwdCount)
  exact .ite_snd h1 (.ite_snd h1.fwdCount h1.fwdCount)

theorem State.Has.fwdPush {q : Nat} {d : Word} (hs : s.Has K) : (fwdPush q d s).Has K := hs.hwPushIf

theorem State.Has.noRoute {d : Word} (hs : s.Has K) : (noRoute d s).Has K := .ite hs.fwdPush hs.freeChain

theorem State.Has.noHopNotice {d : Nat} (hs : s.Has K) : (noHopNotice d s).Has K := .ite hs.fire.setFwd.notice hs.fire

theorem State.Has.rewriteChain {c fuel b : Nat} {ws : List Word} (hs : s.Has K) :
    (rewriteChain c fuel b ws s).2.Has K := by
  induction fuel generalizing b ws s with
  | zero => exact hs
  | succ fuel ih =>
    unfold Machine.rewriteChain
    split
    next e =>
    extract_lets last s2
    have h2 : s2.Has K := (hs.engRead.of_eq' e).engWrites
    refine .ite_snd (.ite (.ite h2.engWrite h2) h2.freeWalk.engWrite) (.ite_snd ?_ (ih h2))
    split
    · next e1 => exact (h2.storeChunks.of_eq e1).engWrite
    · next e1 => exact h2.storeChunks.of_eq e1

theorem State.Has.sendOn {j : FwdJob} {hop : Word} {alt : Bool} {c : Nat} (hs : s.Has K) :
    (sendOn j hop alt c s).Has K := by
  unfold Machine.sendOn
  dsimp only
  split
  · next e => exact (hs.rewriteChain.of_eq e).freeChain.fwdCount
  · next e =>
      split
      · next e1 => exact ((hs.rewriteChain.of_eq e).hwPushIf.of_eq e1).fwdCount
      · next e1 => exact ((hs.rewriteChain.of_eq e).hwPushIf.of_eq e1).fwdCount

theorem State.Has.fwdDeliver {j : FwdJob} (hs : s.Has K) : (fwdDeliver j s).Has K :=
  .ite (.rwinDeliver (.ite hs.fwdCount hs.fwdCount.update)) hs.fwdCount.fwdPush

theorem State.Has.forward {j : FwdJob} (hs : s.Has K) : (forward j s).Has K := by
  unfold Machine.forward
  extract_lets d s0
  have h0 : s0.Has K := hs.engSee
  refine .ite hs.fwdDeliver (.ite hs.fwdCount.fwdPush (.ite hs.fwdCount.fwdPush (.ite hs.fwdCount.freeChain ?_)))
  split
  · exact h0.fwdCount.noRoute
  · extract_lets demote c s1
    have h1 : s1.Has K := (h0.when (·.fwdCount)).hopSee
    split
    · next e => exact (h1.nextHop.of_eq e).fwdCount.noHopNotice.noRoute
    · next e => exact (h1.nextHop.of_eq e).sendOn

theorem State.Has.fwdStep {c0 : Bool} (hs : s.Has K) : (fwdStep c0 s).Has K := by
  unfold Machine.fwdStep
  extract_lets +onlyGivenNames s1
  have h1 : s1.Has K := hs.fwdInject
  split
  · exact h1
  · refine .ite h1.setFwd.fwdPush ?_
    split
    · next e => exact (h1.setFwd.fwdRead.of_eq e).fwdCount.fwdPush
    · next e => exact (h1.setFwd.fwdRead.of_eq e).forward

/-! ### Ticks of mesh time -/

theorem State.Has.gatesStop (hs : s.Has K) : (gatesStop s).Has K := hs.releaseEarly.setGates

theorem State.Has.gatesReturn {t : Nat} (hs : s.Has K) : (gatesReturn t s).Has K :=
  .setGates (.swapDue (hs.countBy.forAll (fun h => .ite h.endCourse h)))

theorem State.Has.gateSync (hs : s.Has K) : (gateSync s).Has K := by
  unfold Machine.gateSync
  dsimp only
  split
  exacts [.ite hs hs.gatesStop.lanesShow, .ite hs.gatesReturn.lanesShow hs]

theorem State.Has.gatesForward {before : Nat} (hs : s.Has K) : (gatesForward before s).Has K :=
  .countBy (.setGates (hs.forAll (·.returnHead.releaseAct)))

theorem State.Has.gatesBackward (hs : s.Has K) : (gatesBackward s).Has K :=
  .setGates (.forAll (hs.forAll (·.returnHead.releaseAct)) (·.returnHead.releaseAct.gateCount))

theorem State.Has.applyStep (hs : s.Has K) : (applyStep s).Has K :=
  .bucketSync (.bucketSync (.setGates (.ite hs.setMt.setFld.fire.evalComparesAtStep.notice
    (.ite hs.setMt.setFld.fire.evalComparesAtStep.notice.gatesForward
    hs.setMt.setFld.fire.evalComparesAtStep.notice.gatesBackward))))

theorem State.Has.boundary (hs : s.Has K) : (boundary s).Has K := .ite hs.applyStep hs.evalCompares

theorem State.Has.lfTick (hs : s.Has K) : (lfTick s).Has K := hs.lfTickCore.boundary.walkTick

theorem State.Has.bridgeExit (hs : s.Has K) : (bridgeExit s).Has K :=
  .ite hs hs.lfTick.setBit.setMt.addUncert.lfPause.lfEdge

theorem State.Has.tuneWatch (hs : s.Has K) : (tuneWatch s).Has K := .ite hs.finishRun hs

theorem State.Has.testEnd {e : SelfTest} (hs : s.Has K) : (testEnd e s).Has K := hs.drawn.setCmdp.finalReply

theorem State.Has.testWatch (hs : s.Has K) : (testWatch s).Has K := hs.forAll (·.testEnd)

theorem State.Has.tick (hs : s.Has K) : (tick s).Has K := by
  unfold Machine.tick
  extract_lets s1 s2
  have h2 : s2.Has K := (hs.setMt.slewWatch (·.slewTick)).growTick.boundary
  exact h2.when (·.bucketSync.bucketSync.pump.pump.tuneWatch.testWatch.walkTick)

/-! ### What every instruction of an application core shares -/

theorem State.Has.svcAnswer {k : Fin 4} {status : Nat} (hs : s.Has K) : (svcAnswer k status s).Has K := hs.setCore

theorem State.Has.svcReturn {k : Fin 4} {status : Nat} (hs : s.Has K) : (svcReturn k status s).Has K :=
  hs.svcAnswer.setCore

theorem State.Has.svcPoll {k : Fin 4} (hs : s.Has K) : (svcPoll k s).Has K := by
  unfold Machine.svcPoll
  dsimp only
  split
  exacts [.ite hs.update.svcReturn hs, hs]

theorem State.Has.raise {k : Fin 4} {code arg : Nat} {fetch : Bool} {xval : Word} (hs : s.Has K) :
    (raise k code arg fetch xval s).Has K := hs.setCore

theorem State.Has.nextPc {k : Fin 4} (hs : s.Has K) : (nextPc k s).Has K := hs.setCore

theorem State.Has.dropLine {k : Fin 4} {line : Nat} (hs : s.Has K) : (dropLine k line s).Has K := hs.setCore

theorem State.Has.writeBack {k : Fin 4} {l : CLine} (hs : s.Has K) : (writeBack k l s).2.Has K := by
  refine .ite_snd hs ?_
  split
  exacts [hs.dropLine, .setCore (hs.forAll (·.memWrite))]

theorem State.Has.cleanLines {k : Fin 4} {l : List CLine} (hs : s.Has K) : (cleanLines k l s).2.Has K := by
  induction l generalizing s with
  | nil => exact hs
  | cons x l ih =>
    unfold Machine.cleanLines
    split
    · next e => exact hs.writeBack.of_eq e
    · next e => exact ih (hs.writeBack.of_eq e)

theorem State.Has.cleanCore {k : Fin 4} (hs : s.Has K) : (cleanCore k s).2.Has K := hs.cleanLines

theorem State.Has.icAlloc {line : Nat} {k : Fin 4} (hs : s.Has K) : (icAlloc line k s).Has K :=
  .setCore (.ite hs hs.drawn)

theorem State.Has.fetch {k : Fin 4} (hs : s.Has K) : (fetch k s).2.Has K := by
  refine .ite_snd hs (.ite_snd hs ?_)
  split
  next e =>
  have h1 := State.Has.of_eq' (.ite_snd_snd hs.triple hs.memRead) e
  exact .ite_snd h1 (.ite h1.icAlloc h1)

theorem State.Has.resume {k : Fin 4} (hs : s.Has K) : (resume k s).Has K := hs.update.setCore

theorem State.Has.coreStep {k : Fin 4} {word : Word} {legal priv : Bool} {body : State → State} (hs : s.Has K)
    (hbody : ∀ {t : State}, t.Has K → (body t).Has K) : (coreStep k word legal priv body s).Has K := by
  unfold Machine.coreStep
  split
  next e =>
    exact .ite (hs.resume.fetch.of_eq e).raise
      (.ite (hs.resume.fetch.of_eq e).raise (.ite (hs.resume.fetch.of_eq e).raise
      (.ite (hs.resume.fetch.of_eq e).raise (hbody (hs.resume.fetch.of_eq e)))))

theorem State.Has.coreInstr {k : Fin 4} {word : Word} {legal priv : Bool} {body : State → State} (hs : s.Has K)
    (hbody : ∀ {t : State}, t.Has K → (body t).Has K) : OutHas K (coreInstr k word legal priv body s) :=
  hs.act fun h => h.coreStep (fun h1 => hbody h1)

theorem State.Has.putReg {k : Fin 4} {d : BitVec 4} {v : Word} (hs : s.Has K) : (putReg k d v s).Has K :=
  hs.setCore.nextPc

theorem State.Has.jumpTo {k : Fin 4} {t : Word} (hs : s.Has K) : (jumpTo k t s).Has K := hs.setCore

theorem State.Has.watch {k : Fin 4} {a : Nat} {data : Word} {write : Bool} {reason : Nat} (hs : s.Has K) :
    (watch k a data write reason s).Has K := by
  unfold Machine.watch
  dsimp only
  split
  exacts [hs, .ite (.setBit (.ite hs.setBit hs.setReg.setReg.setReg.setReg))
    (.ite hs.setBit hs.setReg.setReg.setReg.setReg)]

theorem State.Has.takeInput {k : Fin 4} {n : Nat} (hs : s.Has K) : (takeInput k n s).Has K := hs.setBit.setCore

theorem State.Has.setpendWrite {k : Nat} {v : Word} (hs : s.Has K) : (setpendWrite k v s).Has K := by
  refine .ite ?_ hs.pendIn
  split
  exacts [hs.pendIn.pendIn, hs.pendIn]

theorem State.Has.wdCountRead {k : Fin 4} (hs : s.Has K) : (wdCountRead k s).2.Has K := .ite_snd hs.drawn.setFld hs

theorem State.Has.wdWarn {k : Nat} (hs : s.Has K) : (wdWarn k s).Has K := hs.setFld.setBit.fire

theorem State.Has.wdCfgWrite {k : Nat} {v : Word} (hs : s.Has K) : (wdCfgWrite k v s).Has K :=
  .ite hs (.ite hs.plainWrite.setFld hs.plainWrite)

theorem State.Has.dbgHalt {v : Word} (hs : s.Has K) : (dbgHalt v s).Has K := hs.forAll fun h => .ite h.setBit h

theorem State.Has.dbgStep {v : Word} (hs : s.Has K) : (dbgStep v s).Has K := hs.forAll fun h => .ite h.update h

theorem State.Has.dbgResume {v : Word} (hs : s.Has K) : (dbgResume v s).Has K := hs.forAll fun h => .ite h.setBit h

/-! ### The ALU -/

theorem State.Has.aluR {k : Fin 4} {d a b : BitVec 4} {func : Nat} {legal : Bool} {f : Word → Word → Word}
    (hs : s.Has K) : OutHas K (aluR k d a b func legal f s) := hs.coreInstr (·.putReg)

theorem State.Has.aluI {k : Fin 4} {major : Nat} {d a : BitVec 4} {imm : BitVec 10} {legal : Bool} {f : Word → Word}
    (hs : s.Has K) : OutHas K (aluI k major d a imm legal f s) := hs.coreInstr (·.putReg)

theorem State.Has.aluU {k : Fin 4} {major : Nat} {d : BitVec 4} {imm : BitVec 14} {f : Word → Word} (hs : s.Has K) :
    OutHas K (aluU k major d imm f s) := hs.coreInstr (·.putReg)

/-! ### Multiply and divide -/

theorem State.Has.mulR {k : Fin 4} {major : Nat} {d a b : BitVec 4} {func : Nat} {legal : Bool}
    {f : Word → Word → Word} (hs : s.Has K) : OutHas K (mulR k major d a b func legal f s) := hs.coreInstr (·.putReg)

theorem State.Has.mulPair {k : Fin 4} {major : Nat} {d a b : BitVec 4} {func : Nat} {legal : Bool}
    {f : Core → Word × Word} (hs : s.Has K) : OutHas K (mulPair k major d a b func legal f s) :=
  hs.coreInstr (·.setCore.nextPc)

theorem State.Has.accI {k : Fin 4} {major : Nat} {d a b : BitVec 4} {func : Nat} {legal : Bool}
    {f : Int → Word → Word → Int} (hs : s.Has K) : OutHas K (accI k major d a b func legal f s) :=
  hs.coreInstr (·.setCore.nextPc)

/-! ### Branches, jumps and system functions -/

theorem State.Has.branch {k : Fin 4} {major : Nat} {a b : BitVec 4} {off : BitVec 10} {take : Word → Word → Bool}
    (hs : s.Has K) : OutHas K (branch k major a b off take s) := hs.coreInstr fun h => .ite h.jumpTo h.nextPc

theorem State.Has.sysRead {k : Fin 4} {n : Nat} (hs : s.Has K) : (sysRead k n s).2.Has K :=
  .ite_snd hs (.ite_snd hs.drawn.drawn.setCore (.ite_snd hs (.ite_snd hs (.ite_snd hs (.ite_snd hs hs)))))

/-! ### The flash controller and its service -/

theorem State.Has.setFlash {f : FlashState} (hs : s.Has K) : (s.setFlash f).Has K := hs.update

theorem State.Has.setStage {g : StageState} (hs : s.Has K) : (s.setStage g).Has K := hs.update

theorem State.Has.faultShow (hs : s.Has K) : (faultShow s).Has K := hs.setBit.when (·.noticeFault)

theorem State.Has.imageSee {base : Nat} (hs : s.Has K) : (imageSee base s).2.Has K := hs.flashSee

theorem State.Has.journalPut {k : JKind} (hs : s.Has K) : (journalPut k s).Has K := .ite hs.setFlash hs.setFlash

theorem State.Has.copyMark {c : Option (Nat × Bool × Nat)} (hs : s.Has K) : (copyMark c s).Has K := hs.update

theorem State.Has.stageTo {n : Nat} (hs : s.Has K) : (stageTo n s).Has K := hs.setStage.journalPut.when (·.update)

theorem State.Has.intrShow (hs : s.Has K) : (intrShow s).Has K := hs.setReg

theorem State.Has.markSector {n : Nat} (hs : s.Has K) : (markSector n s).Has K := hs.setFlash.journalPut.intrShow

theorem State.Has.flashStart {kind addr : Nat} {data : List Word} {autosusp : Bool} {by_ : FlashBy} (hs : s.Has K) :
    (flashStart kind addr data autosusp by_ s).Has K := .setFlash (hs.setReg.setReg.setReg.forAll (·.setReg))

theorem State.Has.cleanErrs {p : Nat → Bool} (hs : s.Has K) : (cleanErrs p s).Has K := hs.setFlash

theorem State.Has.putLine {a : Nat} {l : List Word} (hs : s.Has K) : (putLine a l s).Has K :=
  hs.update_mem (mem := (List.range 8).foldl _ s.mem) (wf_setWords _ _ _) |>.cleanErrs

theorem State.Has.eraseCells {n : Nat} (hs : s.Has K) : (eraseCells n s).Has K :=
  .intrShow (.update_mem (hs.cleanErrs.when (·.journalPut)) (Memory.wf_clear _ _))

theorem State.Has.flashEffect {o : FlashOp} (hs : s.Has K) : (flashEffect o s).Has K := by
  unfold Machine.flashEffect
  dsimp only
  split
  exacts [hs.putLine, hs.eraseCells, hs.putLine, hs]

theorem State.Has.flashSpoil {o : FlashOp} (hs : s.Has K) : (flashSpoil o s).Has K := by
  unfold Machine.flashSpoil
  dsimp only
  split
  exacts [hs.setFlash, hs.setFlash, hs]

theorem State.Has.pulseEnd {ok : Bool} (hs : s.Has K) : (pulseEnd ok s).Has K := by
  unfold Machine.pulseEnd
  dsimp only
  split
  exacts [hs, .ite hs.setBit.setFld.flashEffect.setFlash
    (.ite hs.setBit.setFld.flashSpoil.setFlash hs.setBit.setFld.setFlash)]

theorem State.Has.dbgLand (hs : s.Has K) : (dbgLand s).Has K := by
  unfold Machine.dbgLand
  dsimp only
  split
  exacts [hs, .ite hs hs.memRead.update]

theorem State.Has.suspend {how : Nat} (hs : s.Has K) : (suspend how s).Has K := hs.setBit.setFlash.dbgLand

theorem State.Has.unsuspend (hs : s.Has K) : (unsuspend s).Has K := hs.setBit.setBit.setFlash

theorem State.Has.stageReply {r status : Nat} {res : List Octet} (hs : s.Has K) : (stageReply r status res s).Has K :=
  hs.setStage.finalReply

theorem State.Has.jobNext {j : StageJob} (hs : s.Has K) : (jobNext j s).Has K := hs.setStage.engWrite

theorem State.Has.countLine {i : Nat} (hs : s.Has K) : (countLine i s).Has K := hs.setStage

theorem State.Has.stageGo {fuel : Nat} (hs : s.Has K) : (stageGo fuel s).Has K := by
  induction fuel generalizing s with
  | zero => exact hs
  | succ fuel ih =>
    unfold Machine.stageGo
    split
    · exact .ite (.ite hs.flashStart (.ite hs.flashStart hs.setStage.stageTo.stageReply))
        (.ite (.ite (ih hs.flashSee.countLine.jobNext) (.ite hs.flashSee.flashStart hs.flashSee.stageReply))
          hs.stageReply)
    · exact hs

theorem State.Has.stageDone {res : Nat} (hs : s.Has K) : (stageDone res s).Has K := by
  unfold Machine.stageDone
  dsimp only
  split
  exacts [hs, .ite hs.setStage (.ite (.stageGo (.jobNext (.ite hs.countLine hs)))
    (.ite hs.stageTo.stageReply hs.stageReply))]

theorem State.Has.setCopy {c : Option CopyJob} (hs : s.Has K) : (setCopy c s).Has K := hs.setStage

theorem State.Has.noteCopy {c : CopyJob} (hs : s.Has K) : (noteCopy c s).Has K := hs.setCopy.copyMark

theorem State.Has.eraseSector {c : CopyJob} (hs : s.Has K) : (eraseSector c s).Has K :=
  hs.noteCopy.journalPut.flashStart

theorem State.Has.copyGo {fuel : Nat} (hs : s.Has K) : (copyGo fuel s).Has K := by
  induction fuel generalizing s with
  | zero => exact hs
  | succ fuel ih =>
    unfold Machine.copyGo
    split
    · exact .ite hs (.ite hs.eraseSector (.ite
        (.ite (ih hs.flashSee.flashSee.noteCopy) (.ite hs.flashSee.flashSee.flashStart (ih hs.flashSee.flashSee.setCopy)))
        (ih hs.noteCopy.journalPut)))
    · exact hs

theorem State.Has.copyDone {kind res : Nat} (hs : s.Has K) : (copyDone kind res s).Has K := by
  unfold Machine.copyDone
  dsimp only
  split
  exacts [hs, hs.noteCopy.copyGo]

theorem State.Has.stageEvent {ev : Nat} (hs : s.Has K) : (stageEvent ev s).Has K := hs.notice

theorem State.Has.startCores (hs : s.Has K) : (startCores s).Has K := hs.setFlash.setBit.forAll (·.setCore)

theorem State.Has.holdApp (hs : s.Has K) : (holdApp s).Has K := hs.setBit.faultShow

theorem State.Has.bootApp (hs : s.Has K) : (bootApp s).Has K := by
  unfold Machine.bootApp
  split
  next e => exact .ite (hs.imageSee.of_eq e).startCores (hs.imageSee.of_eq e).holdApp

theorem State.Has.copyFrom {fails : Nat} (hs : s.Has K) : (copyFrom fails s).Has K := hs.noteCopy.journalPut

theorem State.Has.bootCheck (hs : s.Has K) : (bootCheck s).Has K := by
  unfold Machine.bootCheck
  dsimp only
  split
  exacts [.copyGo (.stageEvent (.stageTo (.copyFrom (.ite hs.setStage.setBit hs.setStage)))), .copyGo
    (.stageEvent (.setCopy (.ite hs.setStage.setBit hs.setStage))), .bootApp (.ite hs.setStage.setBit hs.setStage)]

theorem State.Has.copyEnd {c : CopyJob} {s0 : State} (hs : s0.Has K) : (copyEnd c s0).Has K := by
  unfold Machine.copyEnd
  dsimp only
  split
  exacts [.startCores (.stageEvent (.stageTo (.journalPut (.copyMark (.setStage (hs.imageSee.update_otp rfl)))))),
    .ite hs.imageSee.copyFrom.copyGo hs.imageSee.setStage.copyMark.stageTo.holdApp]

theorem State.Has.giveStatus {k : Fin 4} {st : Nat} (hs : s.Has K) : (giveStatus k st s).Has K :=
  .ite hs (.ite hs.svcReturn hs.setFlash)

theorem State.Has.fcDrop {o : FlashOp} (hs : s.Has K) : (fcDrop o s).Has K := hs.setFlash

theorem State.Has.orphan {b : FlashBy} (hs : s.Has K) : (orphan b s).Has K := by
  unfold Machine.orphan
  dsimp only
  split
  exacts [.ite hs.setFlash hs, hs]

theorem State.Has.disownCopy (hs : s.Has K) : (disownCopy s).Has K := hs.orphan

theorem State.Has.flashNext (hs : s.Has K) : (flashNext s).Has K := .copyGo (.ite hs hs.stageGo)

theorem State.Has.flashEnd {res : Nat} (hs : s.Has K) : (flashEnd res s).Has K := by
  unfold Machine.flashEnd
  split
  · exact hs
  · extract_lets +onlyGivenNames s0 owed _ s1 s2
    have h2 : s2.Has K := (hs.setReg.fcDrop.setFlash.dbgLand.forAll (·.giveStatus)).when (·.update)
    split
    · exact State.Has.flashNext (.ite h2.giveStatus h2)
    · exact h2.update.flashNext
    · exact h2.fire.flashNext
    · exact h2.fire.flashNext
    · exact h2.stageDone
    · exact h2.copyDone
    · exact h2.flashNext

theorem State.Has.flashAbandon (hs : s.Has K) : (flashAbandon s).Has K := by
  unfold Machine.flashAbandon
  dsimp only
  split
  exacts [hs, .ite hs.flashSpoil.markSector.flashEnd hs.setFlash]

theorem State.Has.flashReset (hs : s.Has K) : (flashReset s).Has K := by
  refine .setStage (.when (.intrShow (.setFlash ?_)) (·.stageTo))
  split
  exacts [.ite hs.flashSpoil hs, hs]

theorem State.Has.svcByCore {k : Fin 4} {body : Word → Word → Word → State → SvcOut × State} (hs : s.Has K)
    (hbody : ∀ {x y z} {t : State}, t.Has K → (body x y z t).2.Has K) : (svcByCore k body s).Has K := by
  refine .ite hs.svcAnswer ?_
  split
  exacts [.setCore (hbody hs), .svcAnswer (.setCore (hbody hs))]

theorem State.Has.svcByLink {n : Nat} {w : Who} {a2 a3 a4 : Word}
    {body : Word → Word → Word → State → SvcOut × State} (hs : s.Has K)
    (hbody : ∀ {x y z} {t : State}, t.Has K → (body x y z t).2.Has K) : (svcByLink n w a2 a3 a4 body s).Has K := by
  refine .ite hs.update ?_
  split
  next e =>
    split
    exacts [((hbody hs).of_eq e).update, (hbody hs).of_eq e]

theorem State.Has.svcCall {n : Nat} {w : Who} {a2 a3 a4 : Word} {body : Word → Word → Word → State → SvcOut × State}
    (hs : s.Has K) (hbody : ∀ {x y z} {t : State}, t.Has K → (body x y z t).2.Has K) :
    OutHas K (svcCall n w a2 a3 a4 body s) := by
  unfold Machine.svcCall
  split
  exacts [.ite (.next (hs.svcByCore (fun h => h))) (hs.act (fun h => h.svcByCore (fun h1 => hbody h1))), hs.act
    (fun h => h.svcByLink (fun h1 => hbody h1)), hs.act (fun h => h.svcByLink (fun h1 => hbody h1)), .next hs]

theorem State.Has.svcStart {w : Who} {nowait : Bool} {kind addr : Nat} {data : List Word} {autosusp : Bool}
    (hs : s.Has K) : (svcStart w nowait kind addr data autosusp s).2.Has K := hs.flashStart

theorem State.Has.fsErase {w : Who} {a2 a3 _a4 : Word} (hs : s.Has K) : (fsErase w a2 a3 _a4 s).2.Has K :=
  .ite_snd hs (.ite_snd hs (.ite_snd hs hs.svcStart))

theorem State.Has.svcSource {w : Who} {a n : Nat} (hs : s.Has K) : (svcSource w a n s).2.2.Has K := by
  induction n generalizing a s with
  | zero => exact hs
  | succ n ih =>
    unfold Machine.svcSource
    extract_lets +onlyGivenNames hit
    clear_value hit
    split
    next s1 e =>
    have h1 : s1.Has K := by
      revert e
      split
      · intro e; cases e; exact hs
      · exact hs.memRead.of_eq'
    split
    next e1 => exact (ih h1).of_eq' e1

theorem State.Has.fsProgram {w : Who} {a2 a3 a4 : Word} (hs : s.Has K) : (fsProgram w a2 a3 a4 s).2.Has K := by
  refine .ite_snd hs (.ite_snd hs (.ite_snd hs (.ite_snd hs (.ite_snd hs.flashSee (.ite_snd hs.flashSee ?_)))))
  split
  · next e => exact hs.flashSee.svcSource.of_eq' e
  · next e => exact (hs.flashSee.svcSource.of_eq' e).svcStart

theorem State.Has.fsRefresh {w : Who} {a2 _a3 _a4 : Word} (hs : s.Has K) : (fsRefresh w a2 _a3 _a4 s).2.Has K := by
  refine .ite_snd hs (.ite_snd hs (.ite_snd hs (.ite_snd hs.drawn ?_)))
  split
  next e => exact .ite_snd (hs.flashSee.of_eq e) (.ite_snd (hs.flashSee.of_eq e).drawn (hs.flashSee.of_eq e).svcStart)

theorem State.Has.fsInfo {a2 _a3 _a4 : Word} (hs : s.Has K) : (fsInfo a2 _a3 _a4 s).2.Has K := by
  refine .ite_snd hs ?_
  split
  exacts [hs.drawn, hs, hs, hs]

theorem State.Has.fsStatus {_a2 _a3 _a4 : Word} (hs : s.Has K) : (fsStatus _a2 _a3 _a4 s).2.Has K := hs

theorem State.Has.fsSuspend {w : Who} {_a2 _a3 _a4 : Word} (hs : s.Has K) : (fsSuspend w _a2 _a3 _a4 s).2.Has K := by
  unfold Machine.fsSuspend
  dsimp only
  split
  · exact hs
  · refine .ite_snd (.ite hs.suspend hs) ?_
    split
    exacts [hs.setFlash, hs.setFlash]

theorem State.Has.fsResume {_a2 _a3 _a4 : Word} (hs : s.Has K) : (fsResume _a2 _a3 _a4 s).2.Has K :=
  .ite hs.unsuspend hs

theorem State.Has.fsAbandon {_a2 _a3 _a4 : Word} (hs : s.Has K) : (fsAbandon _a2 _a3 _a4 s).2.Has K := hs.flashAbandon

theorem State.Has.repairRow {verified : Bool} {a2 a3 _a4 : Word} (hs : s.Has K) :
    (repairRow verified a2 a3 _a4 s).2.Has K := by
  refine .ite_snd hs ?_
  split
  next e => exact hs.repairBankRow.of_eq e

/-! ### Power modes -/

theorem State.Has.setPwr {p : PowerState} (hs : s.Has K) : (s.setPwr p).Has K := hs.update

theorem State.Has.setBkp {b : BackupState} (hs : s.Has K) : (s.setBkp b).Has K := hs.update

theorem State.Has.setChange {f : ModeChange → ModeChange} (hs : s.Has K) : (setChange f s).Has K := hs.setPwr

theorem State.Has.endChange (hs : s.Has K) : (endChange s).Has K := hs.setFld.setReg.setReg.setPwr

theorem State.Has.gateGo (hs : s.Has K) : (gateGo s).Has K := .ite (.ite hs.setPwr.requestMode hs.setPwr) hs

theorem State.Has.cancelChange {agent reason : Nat} (hs : s.Has K) : (cancelChange agent reason s).Has K := by
  unfold Machine.cancelChange
  dsimp only
  split
  · exact hs
  · refine .gateGo ?_
    split
    exacts [.ite hs.endChange.setReg.fire.noticeFor hs.endChange.setReg.fire.finishRun, hs.endChange.setReg.fire]

theorem State.Has.agentAccept {a load : Nat} (hs : s.Has K) : (agentAccept a load s).Has K := by
  unfold Machine.agentAccept
  extract_lets +onlyGivenNames s0 loads _ s1
  have h0 : s0.Has K := .ite (hs.forAll fun h => .ite h (h.forAll (·.writeBack))) hs
  have h1 : s1.Has K := h0.setBit.setPwr.setReg
  split
  · split
    exacts [.ite h1.finishRun.setChange h1, h1]
  · exact h1

theorem State.Has.agentAnswer {a : Nat} {ans : AgentAnswer} {load : Nat} (hs : s.Has K) :
    (agentAnswer a ans load s).Has K := by
  unfold Machine.agentAnswer
  dsimp only
  split
  · exact hs
  · split
    exacts [.ite hs.agentAccept hs, .ite hs.cancelChange hs, .ite hs hs.setChange.setPwr]

theorem State.Has.delayExpiry {a : Nat} (hs : s.Has K) : (delayExpiry a s).Has K := by
  refine .ite hs.cancelChange ?_
  split
  exacts [hs.cancelChange, hs.agentAccept]

theorem State.Has.loseBanks (hs : s.Has K) : (loseBanks s).Has K := by
  unfold Machine.loseBanks
  extract_lets +onlyGivenNames s1 _ _ _ s2
  have h1 : s1.Has K := hs.forAll fun h => .ite h h.clearBank.setBit
  have h2 : s2.Has K := .ite h1 (.reindexAll (.update_mem (h1.forAll (·.clearBank)) Memory.wf_loseLink))
  exact .ite h2 (h2.forAll (·.clearBank)).setEcc

theorem State.Has.upBanks (hs : s.Has K) : (upBanks s).Has K := hs.applyFuses.setEcc

theorem State.Has.initBanks (hs : s.Has K) : (initBanks s).Has K := hs.forAll fun h => .ite h.setBit h

theorem State.Has.dropBand {b : Nat} (hs : s.Has K) : (dropBand b s).Has K :=
  .ite hs (.forAll (hs.forAll (·.dropSyn)) (·.setFld))

theorem State.Has.dropLanes (hs : s.Has K) : (dropLanes s).Has K := hs.forAll (·.dropFrame)

theorem State.Has.isolate (hs : s.Has K) : (isolate s).Has K :=
  .gateSync (.dropLanes (.dropBand (.dropBand (.ite hs.setChange.setPwr hs.setChange))))

theorem State.Has.hibernate (hs : s.Has K) : (hibernate s).Has K :=
  .loseBanks (hs.setBit.setBit.setBit.setPwr.landAll.forAll (·.setCore))

theorem State.Has.setLsup {l : LsupState} (hs : s.Has K) : (s.setLsup l).Has K := hs.update

theorem State.Has.setTimer {b on : Bool} (hs : s.Has K) : (setTimer b on s).Has K := hs.setLsup

theorem State.Has.standbyHeld (hs : s.Has K) : (standbyHeld s).Has K := hs.setFld.setBit.setTimer

theorem State.Has.standbyRestart (hs : s.Has K) : (standbyRestart s).Has K := hs.setBit.setTimer.setFld.setBit.update

theorem State.Has.receiveTunes {old : Nat} (hs : s.Has K) : (receiveTunes old s).Has K :=
  .ite (hs.forAll (fun h => .ite h.tuneSyn.tuneSyn h)) (.ite (hs.forAll (fun h => .ite h.tunePaths h)) hs)

theorem State.Has.modeChanged {old : Nat} {kind : ChangeBy} (hs : s.Has K) : (modeChanged old kind s).Has K :=
  hs.noticeFor

theorem State.Has.wakeRecord {kind : ChangeBy} (hs : s.Has K) : (wakeRecord kind s).Has K := by
  unfold Machine.wakeRecord
  dsimp only
  split
  exacts [hs.setReg.setMulti, hs.setReg.setMulti, hs]

theorem State.Has.modeEnter (hs : s.Has K) : (modeEnter s).Has K := by
  unfold Machine.modeEnter
  split
  · exact hs
  · extract_lets +onlyGivenNames old t s1 _ s2 s3 s4 s5 s6 s7 s8 s9
    have h2 : s2.Has K := (hs.setFld.endChange.when (·.upBanks)).setPwr
    have h3 : s3.Has K := .ite h2.hibernate (.ite h2.setBit h2)
    have h4 : s4.Has K := .ite h3.standbyHeld (.ite h3.standbyRestart h3)
    have h7 : s7.Has K :=
      h4.wakeRecord.fire.dropLanes.gateSync.lanesShow.bucketSync.bucketSync.receiveTunes.modeChanged
    have h8 : s8.Has K := .ite h7.notice h7
    have h9 : s9.Has K := .ite h8.finishRun h8
    exact h9.gateGo

theorem State.Has.startWake {code t : Nat} (hs : s.Has K) : (startWake code t s).Has K := hs.setFld.setReg.setPwr

theorem State.Has.wakeSource (hs : s.Has K) : (wakeSource s).Has K := by
  unfold Machine.wakeSource
  dsimp only
  split
  exacts [hs, .startWake (.setPwr (.ite hs.modeEnter hs))]

theorem State.Has.regTimeout (hs : s.Has K) : (regTimeout s).Has K :=
  .ite hs.setFld.endChange.setPwr (.faultShow
    (.setBit (.setBit (.ite hs.setFld.endChange.setFld.setPwr
    hs.setFld.endChange.setFld.setPwr.hibernate.dropBand.dropBand.dropLanes.lanesShow.gateSync.setMt))))

theorem State.Has.xoReady (hs : s.Has K) : (xoReady s).Has K :=
  .ite (.setMt (hs.setBit.setBit.setPwr.when (·.receiveTunes))) (hs.setBit.setBit.setPwr.when (·.receiveTunes))

theorem State.Has.pllLock (hs : s.Has K) : (pllLock s).Has K :=
  .ite (.ite hs.setBit.setBit.initBanks hs.setBit.setBit.initBanks.setMt) hs.setBit.setBit

theorem State.Has.referenceFailure (hs : s.Has K) : (referenceFailure s).Has K := hs.setBit.setBit.setMt

theorem State.Has.tclkWindow {count : Nat} (hs : s.Has K) : (tclkWindow count s).Has K := hs.setFld.setPwr.setBit

/-! ### What ends as a command is aborted -/

theorem State.Has.abortTx {t : Nat} {tag : Octet} {b : Nat} (hs : s.Has K) : (abortTx t tag b s).Has K := by
  unfold Machine.abortTx
  dsimp only
  split
  · exact hs.reqEnd
  · refine .ite (.endUnsent (hs.when (·.count))) ?_
    split
    exacts [.ite hs.setBand.cmdTxEnd hs, hs]
  · exact .ite hs.setBand.cmdTxEnd hs
  · exact hs

theorem State.Has.abortCal {b kind item : Nat} (hs : s.Has K) : (abortCal b kind item s).Has K := by
  refine .ite hs.setBand (.ite hs.setBand ?_)
  split
  exacts [.ite hs.setBand.calStat.leaveSlice hs, hs]

theorem State.Has.abortMeasure {t : Nat} {tag : Octet} (hs : s.Has K) : (abortMeasure t tag s).Has K := by
  unfold Machine.abortMeasure
  split
  exacts [hs.freeLane, hs]

theorem State.Has.swapCancel (hs : s.Has K) : (swapCancel s).Has K := hs.setBit.setGates

theorem State.Has.disown (hs : s.Has K) : (disown s).Has K := hs.orphan

theorem State.Has.abortStage (hs : s.Has K) : (abortStage s).Has K := by
  unfold Machine.abortStage
  split
  · exact hs
  · refine .stageReply (.disown ?_)
    split
    exacts [.ite hs.flashAbandon hs, hs]

theorem State.Has.abortEffect {r : Nat} (hs : s.Has K) : (abortEffect r s).Has K := by
  unfold Machine.abortEffect
  dsimp only
  split
  exacts [hs.endChange, hs.setBand, hs.abortCal, hs.abortTx.abortTx, hs.abortTx.abortTx, hs.abortMeasure,
    hs.setMt.mtCtrlWrite, hs.keyCommitWrite, hs.abortStage, hs.abortStage, hs.update, hs.swapCancel, hs.setCmdp, hs]

theorem State.Has.abortRecord {r : Nat} (hs : s.Has K) : (abortRecord r s).Has K :=
  .finalReply (.ite hs.abortEffect hs)

theorem State.Has.dropTransport {t : Nat} (hs : s.Has K) : (dropTransport t s).Has K := by
  unfold Machine.dropTransport
  extract_lets +onlyGivenNames s1 s2 _ s3
  have h3 : s3.Has K := ((hs.forAll (·.abortRecord)).forAll (·.setRecState)).setCmdp
  exact .ite h3.setBit h3

/-! ### DMA moves -/

theorem State.Has.setDma {n : Nat} {x : DmaCh} (hs : s.Has K) : (s.setDma n x).Has K := hs.update

theorem State.Has.setDmaSt {n x : Nat} (hs : s.Has K) : (s.setDmaSt n x).Has K := hs.setFld

theorem State.Has.dmaNext {n k : Nat} (hs : s.Has K) : (dmaNext n k s).Has K := .ite hs.setReg.setDmaSt hs.setReg

theorem State.Has.dmaFault {n code a : Nat} (hs : s.Has K) : (dmaFault n code a s).Has K :=
  hs.setDmaSt.setFld.setReg.setDma.fire

theorem State.Has.dmaEcc {n a w : Nat} (hs : s.Has K) : (dmaEcc n a w s).Has K := hs.dmaFault.eccSignal

theorem State.Has.frameFollow {a : Nat} (hs : s.Has K) : (frameFollow a s).2.Has K := by
  refine .ite_snd hs ?_
  extract_lets lw
  split
  next e =>
  have h1 := hs.memRead.of_eq' e
  exact .ite_snd h1 (.ite_snd h1 h1)

theorem State.Has.unitAddr {w0 : Word} {dst : Bool} {a : Nat} (hs : s.Has K) : (unitAddr w0 dst a s).2.Has K :=
  .ite_snd hs.frameFollow hs

theorem State.Has.writeUnits {put : Word → Nat → Word → State → State} {w0 : Word} {l : List Word} {a : Nat}
    {last : Option Nat} (hs : s.Has K) (hput : ∀ {w a v} {t : State}, t.Has K → (put w a v t).Has K) :
    (writeUnits put w0 l a last s).2.2.2.2.Has K := by
  induction l generalizing a last s with
  | nil => exact hs
  | cons v l ih =>
    unfold Machine.writeUnits
    split
    · next e => exact hs.unitAddr.of_eq e
    · next e => exact hs.unitAddr.of_eq e
    · next e => exact ih (hput (hs.unitAddr.of_eq e))

theorem State.Has.burstFault {n : Nat} {e : BurstEnd} (hs : s.Has K) : (burstFault n e s).Has K := by
  unfold Machine.burstFault
  dsimp only
  split
  exacts [hs.update.dmaEcc, hs.update.dmaFault]

theorem State.Has.writeOldest {put : UnitPut} (hs : s.Has K)
    (hput : ∀ {n w a v} {t : State}, t.Has K → (put n w a v t).Has K) : (writeOldest put s).Has K := by
  unfold Machine.writeOldest
  split
  · exact hs
  · extract_lets +onlyGivenNames n w0
    split
    next e =>
    have h1 := (hs.update.writeUnits fun h => hput h).of_eq4 e
    split
    exacts [h1.setReg.setReg.setDma.burstFault, .ite h1.setReg.setReg.setDma.setDma.dmaNext h1.setReg.setReg.setDma]

theorem State.Has.writeSome {put : UnitPut} {m : Nat} (hs : s.Has K)
    (hput : ∀ {n w a v} {t : State}, t.Has K → (put n w a v t).Has K) : (writeSome put m s).Has K := by
  induction m generalizing s with
  | zero => exact hs
  | succ m ih => exact ih (hs.writeOldest hput)

theorem State.Has.writeThrough {put : UnitPut} {n fuel : Nat} (hs : s.Has K)
    (hput : ∀ {n w a v} {t : State}, t.Has K → (put n w a v t).Has K) : (writeThrough put n fuel s).Has K := by
  induction fuel generalizing s with
  | zero => exact hs
  | succ fuel ih => exact .ite (ih (hs.writeOldest hput)) hs

theorem State.Has.flushCh {put : UnitPut} {n : Nat} (hs : s.Has K)
    (hput : ∀ {x y z u} {t : State}, t.Has K → (put x y z u t).Has K) : (flushCh put n s).Has K :=
  hs.writeThrough fun h => hput h

theorem State.Has.memPut {n : Nat} {w0 : Word} {x : Nat} {v : Word} (hs : s.Has K) : (memPut n w0 x v s).Has K :=
  .ite (.ite hs.portAccept hs) hs.portAccept

theorem State.Has.syncLand {n : Nat} (hs : s.Has K) : (syncLand n s).Has K := by
  unfold Machine.syncLand
  split
  exacts [hs.landBank.drainBank, hs]

/-! ### Resets, supplies and the backup domain -/

theorem State.Has.dmaIdle {n : Nat} (hs : s.Has K) : (dmaIdle n s).Has K :=
  .update (.setFld (.when (hs.flushCh (·.memPut)) (·.syncLand.setReg)))

theorem State.Has.appCores {cause : Nat} (hs : s.Has K) : (appCores cause s).Has K :=
  .update (.faultShow (.setBit (.disownCopy
    (.setStage (.setFld (.forAll (hs.resetRegs.forAll (·.dmaIdle)) (·.setCore)))))))

theorem State.Has.holdShow (hs : s.Has K) : (holdShow s).Has K := hs.when (·.setBit)

theorem State.Has.appReset {cause : Nat} (hs : s.Has K) : (appReset cause s).Has K :=
  .setCmdp (hs.appCores.holdShow.forAll (·.dropTransport))

theorem State.Has.loadBoot (hs : s.Has K) : (loadBoot s).Has K :=
  .ite (hs.setCmdp.forAll (·.plainWrite.plainWrite)) hs

theorem State.Has.linkEngines {dom : Nat} (hs : s.Has K) : (linkEngines dom s).Has K :=
  .loadBoot (.forAll (.update (hs.forAll (·.dmaIdle))) (fun h => .ite h h.setRecState))

theorem State.Has.linkReset {cause : Nat} (hs : s.Has K) : (linkReset cause s).Has K :=
  .faultShow (.setBit (.holdShow (.lanesShow
    (.reindexAll (.setStage (hs.resetRegs.setReg.setFld.linkEngines.when (·.setFld)))))))

theorem State.Has.firstStart (hs : s.Has K) : (firstStart s).Has K := .forAll (hs.forAll (·.engWrite)) (·.engWrite)

theorem State.Has.chipStart (hs : s.Has K) : (chipStart s).Has K :=
  .ite (.ite hs.upBanks.firstStart.reindexAll.lanesShow.holdShow.setPwr.notice
    hs.upBanks.firstStart.reindexAll.lanesShow.holdShow) hs

theorem State.Has.dutyFresh (hs : s.Has K) : (dutyFresh s).Has K :=
  .bucketSync (.bucketSync (hs.update_mem (Memory.wf_clear _ _)))

theorem State.Has.chipReset {cause : Nat} {s0 : State} (hs : s0.Has K) : (chipReset cause s0).Has K :=
  hs.landAll.drainAll.resetRegs.update.setFld.setReg.setReg.setReg.linkEngines.flashReset.appCores.dutyFresh

theorem State.Has.chipCycle {cause : Nat} (hs : s.Has K) : (chipCycle cause s).Has K := hs.chipReset.chipStart

theorem State.Has.domainReset {dom cause : Nat} (hs : s.Has K) : (domainReset dom cause s).Has K := by
  unfold Machine.domainReset
  split
  exacts [hs.appReset, hs.linkReset, hs.chipCycle]

theorem State.Has.vmainLoss (hs : s.Has K) : (vmainLoss s).Has K := by
  unfold Machine.vmainLoss
  extract_lets +onlyGivenNames _ r
  have hr : r.Has K := hs.update.chipReset
  exact (hr.update_mem (Memory.wf_keep _ · vmainLoss_keeps)).setReg.setReg.setFld

theorem State.Has.powerOn (hs : s.Has K) : (powerOn s).Has K :=
  .chipStart (.chipReset (.setPwr (.ite hs.vmainLoss hs)))

theorem State.Has.tapLoad {ir : Octet} (hs : s.Has K) : (tapLoad ir s).Has K :=
  .ite hs.update.setPwr.chipReset (.ite hs.update.setPwr.chipStart hs.update)

theorem State.Has.almFire {k : Nat} {skip : Bool} (hs : s.Has K) : (almFire k skip s).Has K :=
  .fire (.ite (.setBit (.ite hs.setBit.setBit hs.setBit)) (.ite hs.setBit.setBit hs.setBit))

theorem State.Has.setPrev {k : Nat} {b : Bool} (hs : s.Has K) : (setPrev k b s).Has K := hs.setBkp

theorem State.Has.almTick {k : Nat} (hs : s.Has K) : (almTick k s).Has K := .setPrev (.ite hs.almFire hs)

theorem State.Has.almAdjust {c : BitVec 48} {d : Int} {k : Nat} (hs : s.Has K) : (almAdjust c d k s).Has K :=
  .setPrev (.ite hs (.ite (.ite (.ite hs hs.almFire) (.ite hs.almFire hs)) (.ite hs.almFire hs)))

theorem State.Has.rtcTick (hs : s.Has K) : (rtcTick s).Has K := by
  unfold Machine.rtcTick
  dsimp only
  split
  exacts [hs.setBkp.almAdjust.almAdjust, hs.setBkp.almTick.almTick]

theorem State.Has.rtcCtrlWrite {v : Word} (hs : s.Has K) : (rtcCtrlWrite v s).Has K :=
  .ite (.trimStart (.ite hs.plainWrite.setBkp hs.plainWrite)) (.ite hs.plainWrite.setBkp hs.plainWrite)

theorem State.Has.trimWindow (hs : s.Has K) : (trimWindow s).Has K := by
  unfold Machine.trimWindow
  extract_lets +onlyGivenNames ns ticks
  refine .ite hs.trimStart ?_
  extract_lets +onlyGivenNames num den e s1 fit
  have hfit {x t} (ht : State.Has t K) : (fit x t).2.Has K := .ite_snd ht ht.drawn
  split
  next e1 =>
  split
  next e2 => exact ((hfit (hfit hs.drawn |>.of_eq e1)).of_eq e2).setReg.setFld.trimStart

theorem State.Has.backupReset (hs : s.Has K) : (backupReset s).Has K := by
  unfold Machine.backupReset
  exact hs.resetRegs.setBkp.clearBank.applyFuses

theorem State.Has.pmuReqWrite {v : Word} (hs : s.Has K) : (pmuReqWrite v s).Has K :=
  .ite hs (.ite hs.plainWrite.requestMode hs.plainWrite)

theorem State.Has.modeCommit (hs : s.Has K) : (modeCommit s).Has K := by
  unfold Machine.modeCommit
  dsimp only
  split
  exacts [hs.cancelChange, .ite hs.cancelChange (.ite hs.setFld.setMt hs.setFld)]

theorem State.Has.wakePinAt {code : Octet} (hs : s.Has K) : (s.wakePinAt code).Has K := .ite hs.update hs

theorem State.Has.wakeEdge {k : Nat} {rising : Bool} (hs : s.Has K) : (wakeEdge k rising s).Has K :=
  .ite hs.update.setBit hs.update

theorem State.Has.regRetry (hs : s.Has K) : (regRetry s).Has K := hs.startWake.setPwr

theorem State.Has.resetPinLow (hs : s.Has K) : (resetPinLow s).Has K := .ite hs.setPwr.chipReset hs.setPwr

theorem State.Has.rstctrlWrite {v : Word} (hs : s.Has K) : (rstctrlWrite v s).Has K :=
  .ite hs.plainWrite.domainReset hs.plainWrite

theorem State.Has.vioLoss {second : Bool} (hs : s.Has K) : (vioLoss second s).Has K :=
  .ite (.setPwr (hs.forAll (·.pinEdge))) (.setPwr (.tapLoad (.update (hs.forAll (·.wakeEdge)))))

theorem State.Has.vioReturn {second : Bool} (hs : s.Has K) : (vioReturn second s).Has K :=
  .ite hs.setPwr.setPwr.chipStart hs.setPwr

theorem State.Has.tCount {t m : Nat} (hs : s.Has K) : (tCount t m s).Has K := hs.count

/-! ### The command port -/

theorem State.Has.journal {p : Packet} {r : Nat} (hs : s.Has K) : (journal p r s).Has K := hs.engWrites.setCmdp.tCount

theorem State.Has.mailboxPost {k : Nat} {v : Word} (hs : s.Has K) : (mailboxPost k v s).Has K := hs.setBit.setCmdp

theorem State.Has.portWords {a n : Nat} (hs : s.Has K) : (portWords a n s).2.Has K := by
  induction n generalizing a s with
  | zero => exact hs
  | succ n ih =>
    unfold Machine.portWords
    split
    next e =>
      split
      next e1 => exact (ih (hs.memRead.of_eq' e)).of_eq e1

/-! ### How a command starts and ends -/

theorem State.Has.fwReads {l : List Nat} (hs : s.Has K) : (fwReads l s).2.Has K := by
  induction l generalizing s with
  | nil => exact hs
  | cons a l ih =>
    unfold Machine.fwReads
    split
    next e =>
      split
      next e1 => exact (ih (hs.memRead.of_eq' e)).of_eq e1

theorem State.Has.fwTouch {p : Nat → Bool} (hs : s.Has K) : (fwTouch p s).2.Has K := hs.fwReads

theorem State.Has.startCmd {opc : Nat} {check : List Octet → State → Nat} {body : Nat → List Octet → State → State}
    {r : Nat} (hs : s.Has K) (hbody : ∀ {x y} {t : State}, t.Has K → (body x y t).Has K) :
    (startCmd opc check body r s).Has K := by
  unfold Machine.startCmd
  dsimp only
  split
  · next e => exact (hs.fwTouch.of_eq e).finalReply
  · next e => exact .ite (hs.fwTouch.of_eq e).finalReply (hbody (hs.fwTouch.of_eq e))

theorem State.Has.command {opc : Nat} {check : List Octet → State → Nat} {body : Nat → List Octet → State → State}
    {t : Transport} {tag : Octet} (hs : s.Has K) (hbody : ∀ {x y} {t : State}, t.Has K → (body x y t).Has K) :
    OutHas K (command opc check body t tag s) := by
  unfold Machine.command
  split
  exacts [hs.act (fun h => h.startCmd (fun h1 => hbody h1)), .next hs]

theorem State.Has.started {r : Nat} (hs : s.Has K) : (started r s).Has K := hs.startedReply

theorem State.Has.executing {r : Nat} (hs : s.Has K) : (executing r s).Has K := hs.setCmdp

theorem State.Has.done {r : Nat} {res : List Octet} (hs : s.Has K) : (done r res s).Has K := hs.finalReply

theorem State.Has.fwWords {a n : Nat} (hs : s.Has K) : (fwWords a n s).2.2.Has K := by
  induction n generalizing a s with
  | zero => exact hs
  | succ n ih =>
    unfold Machine.fwWords
    split
    next e =>
      split
      next e1 => exact (ih (hs.memRead.of_eq' e)).of_eq' e1

theorem State.Has.replyWords {r a n : Nat} {before : List Octet} (hs : s.Has K) :
    (replyWords r a n before s).Has K := by
  unfold Machine.replyWords
  split
  · next e => exact (hs.fwWords.of_eq' e).finalReply
  · next e => exact (hs.fwWords.of_eq' e).done

theorem State.Has.abortBody {r : Nat} {p : List Octet} (hs : s.Has K) : (abortBody r p s).Has K :=
  .setFld (.done (.drawn (hs.forAll (·.abortRecord.tCount))))

/-! ### System and mesh-time commands -/

theorem State.Has.pingBody {r : Nat} {_p : List Octet} (hs : s.Has K) : (pingBody r _p s).Has K := hs.done

theorem State.Has.getInfoBody {r : Nat} {_p : List Octet} (hs : s.Has K) : (getInfoBody r _p s).Has K := hs.done

theorem State.Has.resetDomainBody {r : Nat} {p : List Octet} (hs : s.Has K) : (resetDomainBody r p s).Has K :=
  hs.done.setCmdp

theorem State.Has.getCauseBody {r : Nat} {_p : List Octet} (hs : s.Has K) : (getCauseBody r _p s).Has K := hs.done

theorem State.Has.setModeBody {r : Nat} {p : List Octet} (hs : s.Has K) : (setModeBody r p s).Has K :=
  .ite hs.done hs.started.requestMode

theorem State.Has.getModeBody {r : Nat} {_p : List Octet} (hs : s.Has K) : (getModeBody r _p s).Has K := hs.done

theorem State.Has.wakeRecordBody {r : Nat} {_p : List Octet} (hs : s.Has K) : (wakeRecordBody r _p s).Has K := hs.done

theorem State.Has.mtGetBody {r : Nat} {_p : List Octet} (hs : s.Has K) : (mtGetBody r _p s).Has K := hs.readNow0.done

theorem State.Has.mtStepBody {r : Nat} {p : List Octet} (hs : s.Has K) : (mtStepBody r p s).Has K :=
  .ite hs.finalReply (.ite hs.done hs.setMulti.setMt.applyStep.done)

theorem State.Has.mtSlewBody {r : Nat} {p : List Octet} (hs : s.Has K) : (mtSlewBody r p s).Has K :=
  .ite hs.finalReply (.started (.slewReplace (.slew0Write (.ite hs hs.slewcfgWrite))))

theorem State.Has.requalify (hs : s.Has K) : (requalify s).Has K := hs.setMt

theorem State.Has.sourceBody {r : Nat} {p : List Octet} (hs : s.Has K) : (sourceBody r p s).Has K := by
  unfold Machine.sourceBody
  extract_lets +onlyGivenNames n
  refine .ite hs.finalReply ?_
  extract_lets +onlyGivenNames src s1 s2 h _ s3 s3' _ s4 act_ s5
  have h2 : s2.Has K := .ite hs.setReg.setBit.setFld hs.setReg.setBit.setFld
  have h3 : s3.Has K := h2.setMt.requalify
  have h4 : s4.Has K := State.Has.setCmdp (.ite h3.setFld h3)
  have h5 : s5.Has K := .ite h4.sourceLost h4
  exact h5.stratumShow.done

theorem State.Has.mtStatusBody {r : Nat} {_p : List Octet} (hs : s.Has K) : (mtStatusBody r _p s).Has K := hs.done

/-! ### Radio commands -/

theorem State.Has.radioConfigBody {r : Nat} {p : List Octet} (hs : s.Has K) : (radioConfigBody r p s).Has K :=
  .ite hs.feEnable.setFld.setBand.started hs.feEnable.setFld.setFld.done

theorem State.Has.tuneBody {r : Nat} {p : List Octet} (hs : s.Has K) : (tuneBody r p s).Has K :=
  .setCmdp (.executing (hs.forAll (·.tuneSyn)))

theorem State.Has.calibrateBody {r : Nat} {p : List Octet} (hs : s.Has K) : (calibrateBody r p s).Has K := by
  refine .ite hs.started.fullStart (.ite hs.started.armPachk ?_)
  split
  exacts [hs.done, .sliceStart (.ite hs.started.dropBackground hs.started)]

theorem State.Has.calPolicyBody {r : Nat} {p : List Octet} (hs : s.Has K) : (calPolicyBody r p s).Has K :=
  hs.setReg.setFld.done

theorem State.Has.setTxPowerBody {r : Nat} {p : List Octet} (hs : s.Has K) : (setTxPowerBody r p s).Has K :=
  hs.setReg.done

theorem State.Has.powerCurveBody {r : Nat} {p : List Octet} (hs : s.Has K) : (powerCurveBody r p s).Has K :=
  hs.engWrites.done

theorem State.Has.laneAssignBody {r : Nat} {p : List Octet} (hs : s.Has K) : (laneAssignBody r p s).Has K :=
  hs.preemptUses.tunePaths.bindLane.done

theorem State.Has.laneReleaseBody {r : Nat} {p : List Octet} (hs : s.Has K) : (laneReleaseBody r p s).Has K :=
  .ite hs.setLane.setBit.done (.ite hs.started.freeLane hs.freeLane.done)

theorem State.Has.measureBody {r : Nat} {p : List Octet} (hs : s.Has K) : (measureBody r p s).Has K := by
  refine .ite hs.finalReply ?_
  split
  · exact hs.finalReply
  · next n s1 e =>
    have h1 : s1.Has K := by
      revert e
      split
      · split
        · nofun
        · intro e
          obtain ⟨t, ht, e⟩ := Option.map_eq_some_iff.mp e
          cases e
          exact hs.claimRx.of_eq ht
      · nofun
    exact h1.setLane.started

theorem State.Has.txFrameBody {r : Nat} {p : List Octet} (hs : s.Has K) : (txFrameBody r p s).Has K := by
  unfold Machine.txFrameBody
  dsimp only
  split
  · next e => exact (hs.storeFrame.of_eq e).finalReply
  · next e => exact (hs.storeFrame.of_eq e).started.engWrite.reqWait

theorem State.Has.soundOnce {r : Nat} {p : List Octet} (hs : s.Has K) : (soundOnce r p s).Has K := by
  unfold Machine.soundOnce
  dsimp only
  split
  · next e => exact (hs.storeFrame.of_eq e).finalReply
  · next e => exact (hs.storeFrame.of_eq e).started.engWrite.soundReq

theorem State.Has.soundBody {r : Nat} {p : List Octet} (hs : s.Has K) : (soundBody r p s).Has K :=
  .ite hs.soundOnce hs.setLink.setNbr.done

/-! ### Commands over tables -/

theorem State.Has.gateWriteBody {r : Nat} {p : List Octet} (hs : s.Has K) : (gateWriteBody r p s).Has K :=
  .ite hs.finalReply (.done (.gateCommitWrite (hs.forAll (·.setReg))))

theorem State.Has.gateReadBody {r : Nat} {p : List Octet} (hs : s.Has K) : (gateReadBody r p s).Has K := hs.replyWords

theorem State.Has.courseConfigBody {r : Nat} {p : List Octet} (hs : s.Has K) : (courseConfigBody r p s).Has K :=
  hs.setMulti.periodFloor.setMulti.setFld.setFld.done

theorem State.Has.courseStartBody {r : Nat} {p : List Octet} (hs : s.Has K) : (courseStartBody r p s).Has K :=
  hs.startCourse.done

theorem State.Has.courseStopBody {r : Nat} {p : List Octet} (hs : s.Has K) : (courseStopBody r p s).Has K :=
  hs.courseCfgWrite.done

theorem State.Has.hopseqBody {r : Nat} {p : List Octet} (hs : s.Has K) : (hopseqBody r p s).Has K :=
  hs.engWrites.setFld.done

theorem State.Has.nbrReadBody {r : Nat} {p : List Octet} (hs : s.Has K) : (nbrReadBody r p s).Has K := by
  unfold Machine.nbrReadBody
  dsimp only
  split
  exacts [hs.replyWords, hs.finalReply]

theorem State.Has.firmNbr {n mask : Nat} {m0 : Word} {norec : Bool} {words : List Word} (hs : s.Has K) :
    (firmNbr n mask m0 norec words s).Has K := .nbrCommitWrite (.setReg (.setReg (hs.forAll (·.setReg))))

theorem State.Has.nbrWriteBody {r : Nat} {p : List Octet} (hs : s.Has K) : (nbrWriteBody r p s).Has K :=
  hs.firmNbr.done

theorem State.Has.nbrEvictBody {r : Nat} {p : List Octet} (hs : s.Has K) : (nbrEvictBody r p s).Has K :=
  hs.firmNbr.done

theorem State.Has.routeWriteBody {r : Nat} {p : List Octet} (hs : s.Has K) : (routeWriteBody r p s).Has K :=
  .ite hs.finalReply (.done (.routeCommitWrite (hs.forAll (·.setReg))))

theorem State.Has.routeReadBody {r : Nat} {p : List Octet} (hs : s.Has K) : (routeReadBody r p s).Has K :=
  hs.replyWords

theorem State.Has.tonemapWriteBody {r : Nat} {p : List Octet} (hs : s.Has K) : (tonemapWriteBody r p s).Has K :=
  .ite hs.setLink.engWrite.done hs.setLink.engWrites.engWrite.done

theorem State.Has.tonemapReadBody {r : Nat} {p : List Octet} (hs : s.Has K) : (tonemapReadBody r p s).Has K :=
  hs.replyWords

theorem State.Has.firstLimit {k : Nat} (hs : s.Has K) : (firstLimit k s).Has K := hs.setMulti.drawn

theorem State.Has.keyLoadBody {r : Nat} {p : List Octet} (hs : s.Has K) : (keyLoadBody r p s).Has K := by
  unfold Machine.keyLoadBody
  extract_lets +onlyGivenNames k
  refine .ite hs.keyCommitWrite.done ?_
  extract_lets +onlyGivenNames _ s1
  have h1 : s1.Has K := .ite hs (hs.forAll (·.keyStageWrite)).keyCommitWrite.firstLimit
  exact .ite h1.started h1.done

theorem State.Has.moveKey {a net from_ to_ : Nat} {e : Nat × State} (hs : e.2.Has K) :
    (moveKey a net from_ to_ e).2.Has K := .ite_snd hs.engWrite hs

theorem State.Has.keySelectBody {r : Nat} {p : List Octet} (hs : s.Has K) : (keySelectBody r p s).Has K := by
  unfold Machine.keySelectBody
  extract_lets +onlyGivenNames k
  refine .ite hs.finalReply ?_
  extract_lets +onlyGivenNames l
  split
  next e => exact State.Has.done (.of_eq (.foldl_snd hs (·.moveKey)) e)

theorem State.Has.secStatusBody {r : Nat} {p : List Octet} (hs : s.Has K) : (secStatusBody r p s).Has K := hs.done

theorem State.Has.firmWindow {i : Nat} {w : List Word} (hs : s.Has K) : (firmWindow i w s).Has K :=
  .windowCommitWrite (hs.forAll (·.setReg))

theorem State.Has.windowDefineBody {r : Nat} {p : List Octet} (hs : s.Has K) : (windowDefineBody r p s).Has K :=
  hs.firmWindow.done

theorem State.Has.windowCloseBody {r : Nat} {p : List Octet} (hs : s.Has K) : (windowCloseBody r p s).Has K :=
  .ite hs.firmWindow.executing hs.firmWindow.done

theorem State.Has.windowOpBody {r : Nat} {p : List Octet} (hs : s.Has K) : (windowOpBody r p s).Has K := by
  unfold Machine.windowOpBody
  dsimp only
  split
  · next e => exact (hs.storeFrame.of_eq e).finalReply
  · next e =>
      split
      · next e1 => exact ((hs.storeFrame.of_eq e).hwPush.of_eq e1).finalReply
      · next e1 => exact ((hs.storeFrame.of_eq e).hwPush.of_eq e1).setCmdp.started.engWrite

/-! ### The link supervisor -/

theorem State.Has.setLinkVer {b : Bool} {v : Word} (hs : s.Has K) : (setLinkVer b v s).Has K := hs.setLsup

theorem State.Has.heartbeat {b : Bool} {v : Word} (hs : s.Has K) : (heartbeat b v s).Has K := hs.setReg.setTimer

theorem State.Has.beat {b : Bool} (hs : s.Has K) : (beat b s).Has K := hs.drawn.heartbeat

theorem State.Has.standbyLoad {src : Nat} {rcd : Option Nat} (hs : s.Has K) : (standbyLoad src rcd s).Has K :=
  .setLsup (.setTimer (.setBit (.setBit (.ite hs hs.setFld))))

theorem State.Has.stbycmdWrite {w : Who} {v : Word} (hs : s.Has K) : (stbycmdWrite w v s).Has K :=
  .ite hs.plainWrite.standbyLoad hs.plainWrite

theorem State.Has.loadEnds {rcd : Option Nat} {st : Nat} {res : List Octet} (hs : s.Has K) :
    (loadEnds rcd st res s).Has K := by
  unfold Machine.loadEnds
  split
  exacts [hs.finalReply, hs]

theorem State.Has.standbyUp {v : Word} {rcd : Option Nat} (hs : s.Has K) : (standbyUp v rcd s).Has K :=
  hs.setReg.setReg.setFld.setLinkVer.setLsup.loadEnds

theorem State.Has.standbyBad {result : Nat} {rcd : Option Nat} (hs : s.Has K) : (standbyBad result rcd s).Has K :=
  hs.setFld.setLsup.loadEnds

theorem State.Has.standbyReady {src : Nat} {rcd : Option Nat} (hs : s.Has K) : (standbyReady src rcd s).Has K := by
  unfold Machine.standbyReady
  split
  · split
    next e =>
      exact .ite (hs.imageSee.of_eq e).standbyBad
        (.ite (hs.imageSee.of_eq e).standbyBad (hs.imageSee.of_eq e).standbyUp)
  · exact hs.standbyUp

theorem State.Has.moveToken {cause : Nat} (hs : s.Has K) : (moveToken cause s).Has K :=
  hs.setBit.setFld.setBit.setBit.setTimer.setLsup.fire

theorem State.Has.supervisorTimeout {b : Bool} (hs : s.Has K) : (supervisorTimeout b s).Has K :=
  .ite (.ite hs.setBit.moveToken hs.linkReset) hs.count.standbyLoad

theorem State.Has.stbyrptWrite {w : Who} {v : Word} (hs : s.Has K) : (stbyrptWrite w v s).Has K :=
  hs.plainWrite.when (·.setFld)

theorem State.Has.lsupCtrlWrite {w : Who} {v : Word} (hs : s.Has K) : (lsupCtrlWrite w v s).Has K := by
  unfold Machine.lsupCtrlWrite
  extract_lets +onlyGivenNames s1 s2
  have h2 : s2.Has K := .ite (hs.plainWrite.forAll (·.setReg)).setReg hs.plainWrite
  exact .ite h2.moveToken h2

theorem State.Has.swapRequest {n : Nat} (hs : s.Has K) : (swapRequest n s).Has K :=
  .ite hs (hs.setBit.setGates.forAll (·.rebank))

theorem State.Has.bankswapWrite {v : Word} (hs : s.Has K) : (bankswapWrite v s).Has K := by
  refine .ite (.swapRequest (.ite ?_ hs.plainWrite)) (.ite ?_ hs.plainWrite)
  · split
    exacts [.ite hs.plainWrite.swapCancel hs.plainWrite, hs.plainWrite]
  · split
    exacts [.ite hs.plainWrite.swapCancel hs.plainWrite, hs.plainWrite]

/-! ### Staging commands -/

theorem State.Has.stageBeginBody {r : Nat} {p : List Octet} (hs : s.Has K) : (stageBeginBody r p s).Has K := by
  unfold Machine.stageBeginBody
  dsimp only
  split
  exacts [hs.stageReply, hs.started.stageTo.setStage.stageGo]

theorem State.Has.stageWriteBody {r : Nat} {p : List Octet} (hs : s.Has K) : (stageWriteBody r p s).Has K :=
  hs.started.setStage.stageGo

theorem State.Has.stageCommitBody {r : Nat} {_p : List Octet} (hs : s.Has K) : (stageCommitBody r _p s).Has K :=
  .ite hs.stageReply hs.setStage.stageTo.stageReply

theorem State.Has.stageStatusBody {r : Nat} {_p : List Octet} (hs : s.Has K) : (stageStatusBody r _p s).Has K :=
  hs.done

theorem State.Has.linkfwLoadBody {r : Nat} {p : List Octet} (hs : s.Has K) : (linkfwLoadBody r p s).Has K :=
  hs.started.setFld.standbyLoad

theorem State.Has.linkfwSwapBody {r : Nat} {_p : List Octet} (hs : s.Has K) : (linkfwSwapBody r _p s).Has K :=
  hs.executing.beat.moveToken

theorem State.Has.tableSwapBody {r : Nat} {p : List Octet} (hs : s.Has K) : (tableSwapBody r p s).Has K :=
  hs.started.setFld.swapRequest

theorem State.Has.selftestBody {r : Nat} {p : List Octet} (hs : s.Has K) : (selftestBody r p s).Has K :=
  hs.started.drawn.setCmdp

theorem State.Has.clearBlock {i : Nat} (hs : s.Has K) : (clearBlock i s).Has K := hs.forAll fun h => .ite h.setReg h

theorem State.Has.clearCountersBody {r : Nat} {p : List Octet} (hs : s.Has K) : (clearCountersBody r p s).Has K :=
  .done (hs.forAll (·.clearBlock))

theorem State.Has.echoBody {r : Nat} {p : List Octet} (hs : s.Has K) : (echoBody r p s).Has K := hs.done

/-! ### DMA control -/

theorem State.Has.dmaStart {n : Nat} {resume : Bool} (hs : s.Has K) : (dmaStart n resume s).Has K :=
  .ite hs.setDmaSt hs.setReg.setReg.setReg.setFld.setDma.setDmaSt

theorem State.Has.dmaEnable {n : Nat} {v : Word} (hs : s.Has K) : (dmaEnable n v s).Has K := by
  unfold Machine.dmaEnable
  dsimp only
  split
  exacts [hs, hs, hs.setDma, hs.dmaStart, hs.setDmaSt, hs.setDmaSt, hs.setDma, hs]

theorem State.Has.chctrlWrite {n : Nat} {v : Word} (hs : s.Has K) : (chctrlWrite n v s).Has K :=
  .dmaEnable (.ite (.dmaTrig (.ite hs.plainWrite.setFld hs.plainWrite)) (.ite hs.plainWrite.setFld hs.plainWrite))

theorem State.Has.dmaLockedWrite {n a : Nat} {v : Word} (hs : s.Has K) : (dmaLockedWrite n a v s).Has K :=
  .ite hs (.ite hs.setDma.plainWrite hs.plainWrite)

/-! ### The bus -/

theorem State.Has.forgetCore {k : Fin 4} (hs : s.Has K) : (forgetCore k s).Has K := hs.update

theorem State.Has.coreOff {k : Fin 4} (hs : s.Has K) : (coreOff k s).Has K :=
  .ite hs hs.forgetCore.setBit.setCore.dropTransport

theorem State.Has.restartCore {k : Fin 4} (hs : s.Has K) : (restartCore k s).Has K := hs.forgetCore.setCore

theorem State.Has.coreOn {k : Fin 4} (hs : s.Has K) : (coreOn k s).Has K := .ite hs.setBit.restartCore hs

theorem State.Has.corectlWrite {v : Word} (hs : s.Has K) : (corectlWrite v s).Has K :=
  hs.plainWrite.forAll fun h => .ite h.coreOff h.coreOn

theorem State.Has.wdExpire {k : Fin 4} (hs : s.Has K) : (wdExpire k s).Has K :=
  .ite hs.setFld.setBit.restartCore.dropTransport hs.appReset

theorem State.Has.wdKick {k : Fin 4} {v : Word} (hs : s.Has K) : (wdKick k v s).Has K :=
  .ite hs.setFld (.ite hs.wdExpire hs)

theorem State.Has.dbgRegRead (hs : s.Has K) : (dbgRegRead s).2.Has K := by
  unfold Machine.dbgRegRead
  split
  exacts [hs, hs.sysRead, hs]

theorem State.Has.dbgRegWrite {v : Word} (hs : s.Has K) : (dbgRegWrite v s).Has K := by
  unfold Machine.dbgRegWrite
  dsimp only
  split
  exacts [hs, hs.setCore, .ite hs.setCore hs.setCore]

theorem State.Has.lhaltWrite {v : Word} (hs : s.Has K) : (lhaltWrite v s).Has K :=
  .ite (hs.forAll (fun h => .ite h.setBit h)) hs

theorem State.Has.dbgCtrlWrite {v : Word} (hs : s.Has K) : (dbgCtrlWrite v s).Has K :=
  hs.plainWrite.dbgHalt.dbgResume.dbgStep.lhaltWrite

/-- R467: a write of the level takes effect only where it is no lower than the one in force. -/
theorem State.Has.dbgLevelWrite {v : Word} (hs : s.Has K) : (dbgLevelWrite v s).Has K := by
  unfold Machine.dbgLevelWrite
  split
  · next h =>
    have e : (BitVec.ofNat 2 v.toNat).toNat = bits v 0 2 := by simp [bits]
    exact hs.of_fields (fun hc => hc) (by rw [e]; exact h.le) rfl
  · exact hs

theorem State.Has.writeSys {a : Nat} {v : Word} (hs : s.Has K) : (writeSys a v s).Has K :=
  .ite hs.rstctrlWrite (.ite hs.plainWrite.faultShow (.ite hs.pmuReqWrite (.ite hs.rtcCtrlWrite hs.plainWrite)))

theorem State.Has.mtSrcWrite {v : Word} (hs : s.Has K) : (mtSrcWrite v s).Has K := hs.plainWrite.srcChanged

theorem State.Has.writeMt {a : Nat} {v : Word} (hs : s.Has K) : (writeMt a v s).Has K :=
  .ite (hs.slewWatch (·.mtCtrlWrite)) (.ite hs.rateWrite
    (.ite hs.slew0Write (.ite hs.slewReplace
    (.ite hs.slewcfgWrite (.ite hs.usetWrite
    (.ite hs.ualarmWrite (.ite hs.mtSrcWrite
    (.ite (.ite hs.armCompare (.ite hs.mtcCtrlWrite hs.plainWrite)) hs.plainWrite))))))))

theorem State.Has.dropGateWait {b : Nat} (hs : s.Has K) : (dropGateWait b s).Has K := by
  unfold Machine.dropGateWait
  dsimp only
  split
  · split
    exacts [hs.setBand, hs]
  · exact hs

theorem State.Has.gateCtrlWrite {v : Word} (hs : s.Has K) : (gateCtrlWrite v s).Has K :=
  .ite (.ite hs.plainWrite.clearBlock hs.plainWrite)
    (.forAll (.dropGateWait (.dropGateWait (.ite hs.plainWrite.clearBlock hs.plainWrite))) (·.returnHead.releaseAct))

theorem State.Has.writeGate {a : Nat} {v : Word} (hs : s.Has K) : (writeGate a v s).Has K :=
  .ite hs.gateCtrlWrite (.ite hs.gateCommitWrite (.ite (.ite hs.courseCfgWrite hs.coursePlainWrite) hs.plainWrite))

theorem State.Has.writeFe {a : Nat} {v : Word} (hs : s.Has K) : (writeFe a v s).Has K :=
  .ite hs.feCtrlWrite (.ite hs.calCommitWrite hs.plainWrite)

theorem State.Has.writeLane {a : Nat} {v : Word} (hs : s.Has K) : (writeLane a v s).Has K :=
  .ite (.ite hs.clearBlock hs) (.ite hs.oosWrite
    (.ite (.ite hs.plainWrite.clearBlock hs.plainWrite)
    (.ite (.ite hs.halt hs) (.ite hs.txcCfgWrite (.ite hs.ruleWrite (.ite hs.pathGainWrite hs.plainWrite))))))

theorem State.Has.ctrlWrite {a i n : Nat} {v : Word} (hs : s.Has K) : (ctrlWrite a i n v s).Has K :=
  .ite hs.plainWrite.clearBlock hs.plainWrite

theorem State.Has.writeFwd {a : Nat} {v : Word} (hs : s.Has K) : (writeFwd a v s).Has K :=
  .ite hs.ctrlWrite (.ite hs.routeCommitWrite
    (.ite (.ite hs.clearBlock hs) (.ite hs.freeChain
    (.ite hs.qPush (.ite hs.qPushHead (.ite hs.ctrlWrite (.ite hs.windowCommitWrite hs.plainWrite)))))))

theorem State.Has.postWrite {k : Nat} {v : Word} (hs : s.Has K) : (postWrite k v s).Has K :=
  .ite hs.sayReset.mailboxPost hs

theorem State.Has.writeCmdp {a : Nat} {v : Word} (hs : s.Has K) : (writeCmdp a v s).Has K :=
  .ite hs.ctrlWrite (.ite hs.postWrite hs.plainWrite)

theorem State.Has.lsupStatusWrite {v : Word} (hs : s.Has K) : (lsupStatusWrite v s).Has K :=
  hs.plainWrite.setBit.faultShow

theorem State.Has.writeLsup {w : Who} {a : Nat} {v : Word} (hs : s.Has K) : (writeLsup w a v s).Has K :=
  .ite hs.lsupCtrlWrite (.ite hs.lsupStatusWrite
    (.ite hs.heartbeat (.ite hs.heartbeat (.ite hs.stbycmdWrite
    (.ite hs.stbyrptWrite (.ite hs.bankswapWrite hs.plainWrite))))))

theorem State.Has.writeLink {a : Nat} {v : Word} (hs : s.Has K) : (writeLink a v s).Has K := by
  refine .ite hs.ctrlWrite (.ite hs.keyStageWrite
    (.ite hs.keyCommitWrite (.ite hs.ctrlWrite (.ite hs.nbrCommitWrite (.ite ?_ hs.plainWrite)))))
  split
  exacts [hs.ctrLowWrite, hs.ctrCommit, hs.ctrLowWrite, hs.ctrCommit, hs.plainWrite]

theorem State.Has.writeEcc {w : Who} {a : Nat} {v : Word} (hs : s.Has K) : (writeEcc w a v s).Has K :=
  .ite hs.eccCtrlWrite (.ite hs.offlineWrite (.ite hs.b15Write (.ite hs.retainWrite hs.plainWrite)))

theorem State.Has.writeDma {a : Nat} {v : Word} (hs : s.Has K) : (writeDma a v s).Has K := by
  refine .ite hs.plainWrite ?_
  split
  exacts [hs.chctrlWrite, hs.dmaLockedWrite, hs.dmaLockedWrite, hs.dmaLockedWrite, hs.dmaLockedWrite,
    hs.dmaLockedWrite, hs.plainWrite]

theorem State.Has.writeFabric {a : Nat} {v : Word} (hs : s.Has K) : (writeFabric a v s).Has K := by
  refine .ite (.ite hs.evfCfgWrite hs.evfDstWrite) (.ite (.ite hs.lutInWrite hs.lutCtlWrite) (.ite ?_ hs.plainWrite))
  split
  exacts [.ite hs.gtArm hs, hs.gtCfgWrite, hs.gtTopWrite, hs.plainWrite]

theorem State.Has.writeIntc {a : Nat} {v : Word} (hs : s.Has K) : (writeIntc a v s).Has K :=
  .ite hs.corectlWrite (.ite (.ite hs.setpendWrite hs.plainWrite)
    (.ite (.ite hs.wdCfgWrite (.ite hs.wdKick hs.plainWrite)) hs.plainWrite))

theorem State.Has.writeDbg {a : Nat} {v : Word} (hs : s.Has K) : (writeDbg a v s).Has K :=
  .ite hs.dbgCtrlWrite (.ite hs.dbgRegWrite (.ite hs.dbgLevelWrite hs.plainWrite))

theorem State.Has.regWrite {w : Who} {a : Nat} {v : Word} (hs : s.Has K) : (regWrite w a v s).Has K := by
  unfold Machine.regWrite
  split
  exacts [hs.writeSys, hs.writeSys, hs.writeSys, hs.writeSys, hs.writeMt, hs.writeGate, hs.writeFe, hs.writeFe,
    hs.writeLane, hs.writeLane, hs.writeFwd, hs.writeFwd, hs.writeFwd, hs.writeCmdp, hs.writeLsup, hs.writeLink,
    hs.writeEcc, hs.writeDma, hs.writeFabric, hs.writeFabric, hs.writeIntc, hs.writeDbg, hs.plainWrite]

theorem State.Has.laneStatusRead {a : Nat} (hs : s.Has K) : (laneStatusRead a s).2.Has K :=
  .ite_snd hs (.ite_snd hs.drawn hs)

theorem State.Has.bkpStatusRead (hs : s.Has K) : (bkpStatusRead s).2.Has K := .ite_snd hs.drawn hs

theorem State.Has.mtRead {w : Who} {a : Nat} (hs : s.Has K) : (mtRead w a s).2.Has K := by
  refine .ite_snd hs.readNow0 (.ite_snd hs (.ite_snd hs (.ite_snd ?_ hs)))
  split
  exacts [hs.readCap, hs, hs, hs]

theorem State.Has.rtcRead {w : Who} (hs : s.Has K) : (rtcRead w s).2.Has K := hs.setBkp

theorem State.Has.regRead {w : Who} {a : Nat} (hs : s.Has K) : (regRead w a s).2.Has K :=
  .ite_snd hs (.ite_snd hs.mtRead (.ite_snd hs.rtcRead
    (.ite_snd hs (.ite_snd hs.bkpStatusRead
    (.ite_snd hs.wdCountRead (.ite_snd hs.laneStatusRead
    (.ite_snd hs.qPop (.ite_snd hs.allocRead (.ite_snd hs.gtCapRead (.ite_snd hs.dbgRegRead hs))))))))))

theorem State.Has.busRead {w : Who} {a : Nat} (hs : s.Has K) : (busRead w a s).2.2.Has K :=
  .ite_snd_snd (.ite_snd_snd hs.regRead.triple hs.triple) (.ite_snd_snd hs.memRead hs.triple)

theorem State.Has.busWrite {w : Who} {a : Nat} {v : Word} (hs : s.Has K) : (busWrite w a v s).Has K :=
  .ite (.ite hs.regWrite hs) (.ite hs.memWrite hs)

theorem State.Has.busWriteOctet {w : Who} {a lane : Nat} {o : Octet} (hs : s.Has K) :
    (busWriteOctet w a lane o s).Has K := .ite hs.busWrite (.ite hs.memWriteOctet hs)

theorem State.Has.busReadOctet {w : Who} {a lane : Nat} (hs : s.Has K) : (busReadOctet w a lane s).2.2.Has K := by
  refine .ite_snd_snd ?_ (.ite_snd_snd hs.memReadOctet hs)
  split
  next e => exact hs.busRead.of_eq' e

theorem State.Has.dbgUpdate {dr : BitVec 50} (hs : s.Has K) : (dbgUpdate dr s).Has K := by
  refine .ite hs.busWrite.update (.ite hs.update ?_)
  split
  next e => exact (hs.busRead.of_eq' e).update

/-! ### GET_COUNTERS -/

theorem State.Has.busWords {w : Who} {a n : Nat} (hs : s.Has K) : (busWords w a n s).2.Has K := by
  induction n generalizing a s with
  | zero => exact hs
  | succ n ih =>
    unfold Machine.busWords
    split
    next e =>
      split
      next e1 => exact (ih (.of_eq' (.ite_snd_snd hs.busRead hs) e)).of_eq e1

theorem State.Has.getCountersBody {r : Nat} {p : List Octet} (hs : s.Has K) : (getCountersBody r p s).Has K := by
  unfold Machine.getCountersBody
  split
  next e => exact (hs.busWords.of_eq e).done

/-! ### Transports -/

theorem State.Has.judgePacket {p : Packet} (hs : s.Has K) : (judgePacket p s).Has K := by
  refine .ite ?_ (.plainReply (.when (.when (hs.when (·.tCount)) (·.tCount)) (·.tCount)))
  split
  exacts [hs.journal, hs]

theorem State.Has.takeSlots (hs : s.Has K) : (takeSlots s).Has K := .ite (hs.setCmdp.forAll (·.judgePacket)) hs

theorem State.Has.framePacket {p : Packet} (hs : s.Has K) : (framePacket p s).Has K := hs.setCmdp.takeSlots

theorem State.Has.spiSays {l : List Octet} (hs : s.Has K) : (spiSays l s).Has K := hs.setCmdp

theorem State.Has.spiWrite {p : List Octet} (hs : s.Has K) : (spiWrite p s).Has K :=
  .ite hs.spiSays (.ite hs.spiSays.tCount (.ite hs.spiSays.tCount hs.spiSays.framePacket))

theorem State.Has.spiRead {n : Nat} (hs : s.Has K) : (spiRead n s).Has K :=
  .ite hs.drawn.spiSays hs.drawn.spiSays.setCmdp.sentOut

theorem State.Has.spiRepeat {n : Nat} (hs : s.Has K) : (spiRepeat n s).Has K := hs.drawn.spiSays

theorem State.Has.spiStatus {op : Octet} {n : Nat} (hs : s.Has K) : (spiStatus op n s).Has K :=
  .ite hs.spiSays hs.spiSays.tCount

theorem State.Has.spiAsleep {op : Octet} {n : Nat} (hs : s.Has K) : (spiAsleep op n s).Has K :=
  .ite hs.drawn.setCmdp hs.drawn.setCmdp

theorem State.Has.spiTalk {op : Octet} {n : Nat} {f : State → State} (hs : s.Has K)
    (hf : ∀ {t : State}, t.Has K → (f t).Has K) : (spiTalk op n f s).Has K := .ite (hf hs.sayReset) hs.spiAsleep

theorem State.Has.uartSync (hs : s.Has K) : (uartSync s).Has K := .ite hs (.ite hs.setCmdp.tCount hs.setCmdp)

theorem State.Has.uartHunt (hs : s.Has K) : (uartHunt s).Has K := hs.setCmdp

theorem State.Has.uartOctets {fuel : Nat} {l : List Octet} (hs : s.Has K) : (uartOctets fuel l s).Has K := by
  induction fuel generalizing l s with
  | zero => exact hs
  | succ fuel ih =>
    unfold Machine.uartOctets
    extract_lets +onlyGivenNames s len hunt
    have h1 : s.Has K := hs.uartSync
    have hh {l t} (ht : State.Has t K) : (hunt l t).Has K := by
      dsimp only [hunt]
      split
      exacts [ht, ih ht]
    exact .ite h1.uartHunt (.ite h1 (.ite (hh h1.uartHunt.tCount) (.ite h1 (.ite (hh h1.uartHunt.framePacket)
      (hh h1.uartHunt)))))

theorem State.Has.uartPacket {l : List Octet} (hs : s.Has K) : (uartPacket l s).Has K := hs.uartOctets

theorem State.Has.uartReply (hs : s.Has K) : (uartReply s).Has K := hs.setCmdp.sentOut

theorem State.Has.ctsChange {low : Bool} (hs : s.Has K) : (ctsChange low s).Has K :=
  .ite hs.update.setCmdp (.ite hs.update.drawn.setCmdp hs.update)

theorem State.Has.mailboxCopy {k a : Nat} (hs : s.Has K) : (mailboxCopy k a s).Has K := by
  unfold Machine.mailboxCopy
  dsimp only
  split
  exacts [hs.portWords.portWords.setBit.setCmdp, .ite hs.portWords.portWords.setBit.setCmdp.tCount
    hs.portWords.portWords.setBit.setCmdp.framePacket]

theorem State.Has.ringWord {a : Nat} {v : Word} (hs : s.Has K) : (ringWord a v s).Has K := .ite hs.portWrite hs

theorem State.Has.ringWords {a : Nat} {l : List Word} (hs : s.Has K) : (ringWords a l s).Has K := by
  induction l generalizing a s with
  | nil => exact hs
  | cons v l ih => exact ih hs.ringWord

theorem State.Has.mailboxReply {k : Nat} (hs : s.Has K) : (mailboxReply k s).Has K := by
  unfold Machine.mailboxReply
  dsimp only
  split
  exacts [hs, .fire (.sentOut (.setFld (.ringWords (.ite hs.ringWord hs))))]

theorem State.Has.deferredStart (hs : s.Has K) : (deferredStart s).Has K := by
  unfold Machine.deferredStart
  dsimp only
  split
  exacts [hs.setCmdp.domainReset, hs.setChange]

theorem State.Has.lateOut (hs : s.Has K) : (lateOut s).Has K :=
  .forAll (hs.setCmdp.forAll (·.finalReply)) (·.noticeFor)

theorem State.Has.takeUp (hs : s.Has K) : (takeUp s).Has K := by
  refine .forAll ?_ (·.firmTakes)
  split
  exacts [hs.setStage.stageDone, hs.stageGo]

theorem State.Has.hostCommand {opc : Nat} {check : List Octet → State → Nat}
    {body : Nat → List Octet → State → State} {r : Nat} {p : List Octet} (hs : s.Has K)
    (h : hostCommand opc = some (check, body)) : (body r p s).Has K := by
  unfold Machine.hostCommand at h
  split at h <;> cases h
  exacts [hs.pingBody, hs.getInfoBody, hs.resetDomainBody, hs.getCauseBody, hs.setModeBody, hs.getModeBody,
    hs.wakeRecordBody, hs.radioConfigBody, hs.tuneBody, hs.calibrateBody, hs.calPolicyBody,
    hs.setTxPowerBody, hs.powerCurveBody, hs.laneAssignBody, hs.laneReleaseBody, hs.txFrameBody,
    hs.measureBody, hs.soundBody, hs.mtGetBody, hs.mtStepBody, hs.mtSlewBody, hs.sourceBody,
    hs.mtStatusBody, hs.gateWriteBody, hs.gateReadBody, hs.courseConfigBody, hs.courseStartBody,
    hs.courseStopBody, hs.hopseqBody, hs.nbrReadBody, hs.nbrWriteBody, hs.nbrEvictBody,
    hs.routeWriteBody, hs.routeReadBody, hs.tonemapWriteBody, hs.tonemapReadBody, hs.keyLoadBody,
    hs.keySelectBody, hs.secStatusBody, hs.windowDefineBody, hs.windowCloseBody, hs.windowOpBody,
    hs.stageBeginBody, hs.stageWriteBody, hs.stageCommitBody, hs.stageStatusBody, hs.linkfwLoadBody,
    hs.linkfwSwapBody, hs.tableSwapBody, hs.selftestBody, hs.getCountersBody, hs.clearCountersBody,
    hs.echoBody]

theorem State.Has.runRec {r : Nat} (hs : s.Has K) : (runRec r s).Has K := by
  refine .ite hs.abortBody ?_
  split
  · next h => exact hs.startCmd fun ht => ht.hostCommand h
  · exact hs

theorem State.Has.openOctets {n : Nat} (hs : s.Has K) : (openOctets n s).2.Has K := hs.update

theorem State.Has.effectResult {r : Nat} (hs : s.Has K) : (effectResult r s).2.Has K := by
  unfold Machine.effectResult
  dsimp only
  split
  exacts [hs, hs, hs, hs, hs, hs, hs, hs, hs, hs.openOctets, hs.openOctets, hs.openOctets, hs.openOctets,
    hs.openOctets, hs.openOctets, hs.openOctets, .ite_snd hs.openOctets hs, hs.openOctets, hs]

theorem State.Has.resumeRec {r : Nat} (hs : s.Has K) : (resumeRec r s).Has K := by
  unfold Machine.resumeRec
  dsimp only
  split
  exacts [.ite hs.finalReply (.ite hs.setCmdp.runRec hs.setCmdp), .ite hs.runRec hs.effectResult.finalReply, hs]

theorem State.Has.takeoverResume {cause dur : Nat} (hs : s.Has K) : (takeoverResume cause dur s).Has K :=
  .takeSlots (.notice (.count (.setReg (.setReg
    (.setBit (.beat (.countBy (.lateOut (.parentLookAll (.takeUp (hs.setCmdp.setLsup.forAll (·.resumeRec))))))))))))

/-! ### DMA programs -/

theorem State.Has.dmaIllegal {n : Nat} (hs : s.Has K) : (dmaIllegal n s).Has K := hs.dmaFault

theorem State.Has.dmaFetch {a : Nat} (hs : s.Has K) : (dmaFetch a s).2.2.Has K := .ite_snd_snd hs.memRead hs

theorem State.Has.dmaFetches {a n : Nat} (hs : s.Has K) : (dmaFetches a n s).2.2.Has K := by
  induction n generalizing a s with
  | zero => exact hs
  | succ n ih =>
    unfold Machine.dmaFetches
    split
    next e =>
      refine .ite_snd_snd (hs.dmaFetch.of_eq' e) ?_
      split
      next e1 => exact (ih (hs.dmaFetch.of_eq' e)).of_eq' e1

theorem State.Has.dmaInstr {n op words : Nat} {body : List Word → State → State} (hs : s.Has K)
    (hbody : ∀ {x} {t : State}, t.Has K → (body x t).Has K) : (dmaInstr n op words body s).Has K := by
  unfold Machine.dmaInstr
  dsimp only
  split
  · exact hs.dmaFetch.dmaEcc
  · refine .ite hs.dmaFetch.dmaIllegal (.ite hs ?_)
    split
    · next e => exact (hs.dmaFetch.dmaFetches.of_eq' e).dmaEcc
    · next e => exact hbody (hs.dmaFetch.dmaFetches.of_eq' e)

theorem State.Has.dmaMove {n : Nat} {l : List Word} (hs : s.Has K) : (dmaMove n l s).Has K :=
  .ite hs.dmaIllegal (.ite hs.setReg.setReg.setReg.dmaNext hs.setReg.setReg.setReg.setDma)

theorem State.Has.unitRead {n : Fin 32} {w0 : Word} {a : Nat} (hs : s.Has K) : (unitRead n w0 a s).2.2.Has K := by
  refine .ite_snd_snd (.ite_snd_snd ?_ hs) ?_
  · split
    next e => exact hs.busReadOctet.of_eq' e
  · split
    next e => exact hs.busRead.of_eq' e

theorem State.Has.unitPut {n : Nat} {w0 : Word} {x : Nat} {v : Word} (hs : s.Has K) : (unitPut n w0 x v s).Has K :=
  .ite hs.memPut (.ite (.ite hs.busWriteOctet hs) hs.busWrite)

theorem State.Has.readUnits {n : Fin 32} {w0 : Word} {m a : Nat} (hs : s.Has K) :
    (readUnits n w0 m a s).2.2.2.Has K := by
  induction m generalizing a s with
  | zero => exact hs
  | succ m ih =>
    unfold Machine.readUnits
    split
    · next e => exact hs.unitAddr.of_eq e
    · next e => exact hs.unitAddr.of_eq e
    · next e =>
      have h1 := hs.unitAddr.of_eq e
      split
      next e1 =>
      have h2 := h1.unitRead.of_eq' e1
      split
      · exact h2
      · exact ih h2

theorem State.Has.readBurst {n : Fin 32} {k : Nat} (hs : s.Has K) : (readBurst n k s).Has K := by
  unfold Machine.readBurst
  dsimp only
  split
  exacts [.ite (.flushCh (.ite hs.readUnits.setReg hs.readUnits.setReg.update) (·.unitPut))
    (.burstFault (.flushCh (.ite hs.readUnits.setReg hs.readUnits.setReg.update) (·.unitPut))), .ite
    hs.readUnits.setReg hs.readUnits.setReg.update]

theorem State.Has.newWindow {fresh : Bool} (hs : s.Has K) : (newWindow fresh s).Has K := .ite hs.update hs

theorem State.Has.turnTaken {n : Nat} (hs : s.Has K) : (turnTaken n s).Has K := hs.update

theorem State.Has.rwinTurn {c0 : Bool} (hs : s.Has K) : (rwinTurn c0 s).Has K := .ite hs hs.update

theorem State.Has.dmaBurst {n : Fin 32} {at_ : BurstTime} (hs : s.Has K) : (dmaBurst n at_ s).Has K :=
  .ite (hs.newWindow.flushCh (·.unitPut))
    (.ite (hs.newWindow.writeOldest (·.unitPut)) (hs.newWindow.update.turnTaken.readBurst.writeSome (·.unitPut)))

theorem State.Has.dmaLoop {n : Nat} {l : List Word} (hs : s.Has K) : (dmaLoop n l s).Has K :=
  .ite hs.dmaIllegal (.ite (.dmaNext (.setDma (.ite hs hs.setReg.setDma)))
    (.setReg (.ite (.ite hs hs.setReg.setDma) (.setReg (.ite hs hs.setReg.setDma)))))

theorem State.Has.dmaHold {n : Nat} {w0 w1 : Word} (hs : s.Has K) : (dmaHold n w0 w1 s).Has K := hs.setDma.setDmaSt

theorem State.Has.takeTrig {n : Nat} (hs : s.Has K) : (takeTrig n s).Has K := hs.setFld

theorem State.Has.popDreg {n q : Nat} (hs : s.Has K) : (popDreg n q s).Has K := by
  unfold Machine.popDreg
  split
  next e => exact (hs.qPop.of_eq e).setReg

theorem State.Has.dmaGoOn {n : Nat} {w0 : Word} (hs : s.Has K) : (dmaGoOn n w0 s).Has K :=
  .ite hs.popDreg.dmaNext (.ite hs.takeTrig.dmaNext hs.dmaNext)

theorem State.Has.dmaWait {n : Nat} {l : List Word} (hs : s.Has K) : (dmaWait n l s).Has K :=
  .ite hs.dmaIllegal (.ite hs.dmaGoOn hs.dmaHold)

theorem State.Has.dmaTimeout {n : Nat} (hs : s.Has K) : (dmaTimeout n s).Has K := hs.dmaFault

theorem State.Has.dmaPush {n : Fin 32} {q : Nat} {v : Word} (hs : s.Has K) : (dmaPush n q v s).Has K := by
  refine .ite ?_ hs
  split
  next e => exact .ite (hs.qPush.of_eq e) (.setBit ((hs.qPush.of_eq e).when (·.freeChain)))

theorem State.Has.dmaFlag {n : Nat} (hs : s.Has K) : (dmaFlag n s).Has K := .ite hs.setBit hs.setBit.fire

theorem State.Has.dmaSignal {n : Fin 32} {l : List Word} (hs : s.Has K) : (dmaSignal n l s).Has K := by
  refine .ite hs.dmaIllegal ?_
  split
  exacts [hs.fire.dmaNext, hs.dmaFlag.dmaNext, hs.dmaPush.dmaNext, hs.dmaIllegal]

theorem State.Has.dmaQpop {n : Fin 32} {l : List Word} (hs : s.Has K) : (dmaQpop n l s).Has K :=
  .ite hs.dmaIllegal (.ite hs.setReg.dmaNext (.ite hs.dmaGoOn hs.dmaHold))

theorem State.Has.dmaQpush {n : Fin 32} {l : List Word} (hs : s.Has K) : (dmaQpush n l s).Has K :=
  .ite hs.dmaIllegal hs.dmaPush.dmaNext

theorem State.Has.dmaSync {n : Nat} {l : List Word} (hs : s.Has K) : (dmaSync n l s).Has K := by
  refine .ite hs.dmaIllegal ?_
  split
  exacts [hs.dmaNext, hs.setDma]

theorem State.Has.dmaSyncDone {n : Fin 32} (hs : s.Has K) : (dmaSyncDone n s).Has K := by
  unfold Machine.dmaSyncDone
  dsimp only
  split
  exacts [hs.syncLand.busRead.setDma.dmaEcc, hs.syncLand.busRead.setDma.setReg]

theorem State.Has.dmaEnd {n : Nat} {l : List Word} (hs : s.Has K) : (dmaEnd n l s).Has K :=
  .ite hs.dmaIllegal hs.drawn.dmaNext.setDmaSt

theorem State.Has.dmaStopped {n : Nat} {s0 : State} (hs : s0.Has K) : (dmaStopped n s0).Has K := by
  unfold Machine.dmaStopped
  extract_lets +onlyGivenNames s x s1
  have h1 : s1.Has K := (hs.flushCh (·.unitPut)).setDma.when (·.setDmaSt)
  split
  exacts [h1.dmaStart, h1]

/-! ### Data accesses of the application cores -/

theorem State.Has.cleanLine {k : Fin 4} {a : Nat} (hs : s.Has K) : (cleanLine k a s).2.Has K := by
  unfold Machine.cleanLine
  split
  exacts [hs.writeBack, hs]

theorem State.Has.flushLine {k : Fin 4} {a : Nat} (hs : s.Has K) : (flushLine k a s).2.Has K := by
  unfold Machine.flushLine
  split
  next e => exact (hs.cleanLine.of_eq e).dropLine

theorem State.Has.makeRoom {k : Fin 4} {a : Nat} (hs : s.Has K) : (makeRoom k a s).2.Has K := by
  refine .ite_snd hs ?_
  split
  · split
    next e => exact (hs.drawn.writeBack.of_eq e).dropLine
  · exact hs.drawn

theorem State.Has.fillWords {k : Fin 4} {a n : Nat} (hs : s.Has K) : (fillWords k a n s).2.2.Has K := by
  induction n generalizing a s with
  | zero => exact hs
  | succ n ih =>
    unfold Machine.fillWords
    split
    next e =>
      refine .ite_snd_snd (hs.memRead.of_eq' e) ?_
      split
      next e1 => exact (ih (hs.memRead.of_eq' e)).of_eq' e1

theorem State.Has.fillLine {k : Fin 4} {a : Nat} (hs : s.Has K) : (fillLine k a s).2.Has K := by
  unfold Machine.fillLine
  dsimp only
  split
  · next e => exact hs.makeRoom.of_eq e
  · next e =>
      split
      · next e1 => exact (hs.makeRoom.of_eq e).fillWords.of_eq' e1
      · next e1 => exact ((hs.makeRoom.of_eq e).fillWords.of_eq' e1).setCore

theorem State.Has.dPut {k : Fin 4} {a : Nat} {v : Word} (hs : s.Has K) : (dPut k a v s).Has K := hs.setCore

theorem State.Has.dEnsure {k : Fin 4} {a : Nat} (hs : s.Has K) : (dEnsure k a s).2.Has K := by
  unfold Machine.dEnsure
  split
  exacts [.ite_snd hs (.ite_snd hs hs.dropLine.fillLine), hs.fillLine]

theorem State.Has.rawRead {k : Fin 4} {a : Nat} (hs : s.Has K) : (rawRead k a s).2.2.Has K := by
  refine .ite_snd_snd ?_ ?_
  · split
    next e => exact hs.dEnsure.of_eq e
  · split
    next e => exact hs.busRead.of_eq' e

theorem State.Has.dRead {k : Fin 4} {a : Nat} (hs : s.Has K) : (dRead k a s).2.2.Has K := hs.rawRead.watch

theorem State.Has.dReadOctet {k : Fin 4} {a lane : Nat} (hs : s.Has K) : (dReadOctet k a lane s).2.2.Has K := by
  unfold Machine.dReadOctet
  dsimp only
  split
  exacts [hs.rawRead.watch, hs.busReadOctet.watch]

theorem State.Has.rawWrite {k : Fin 4} {a : Nat} {v : Word} (hs : s.Has K) : (rawWrite k a v s).Has K := by
  refine .ite ?_ hs.busWrite
  split
  · next e => exact (hs.dEnsure.of_eq e).dPut
  · next e => exact (hs.dEnsure.of_eq e).memWrite

theorem State.Has.watchWrite {k : Fin 4} {a : Nat} {v : Word} (hs : s.Has K) : (watchWrite k a v s).Has K := hs.watch

theorem State.Has.dWrite {k : Fin 4} {a : Nat} {v : Word} (hs : s.Has K) : (dWrite k a v s).Has K :=
  hs.watchWrite.rawWrite

theorem State.Has.rawWriteOctet {k : Fin 4} {a lane : Nat} {o : Octet} (hs : s.Has K) :
    (rawWriteOctet k a lane o s).Has K := by
  refine .ite ?_ hs.busWriteOctet
  split
  · next e => exact (hs.dEnsure.of_eq e).dPut
  · next e => exact (hs.dEnsure.of_eq e).memWriteOctet

theorem State.Has.dReads {k : Fin 4} {a n : Nat} (hs : s.Has K) : (dReads k a n s).2.2.Has K := by
  induction n generalizing a s with
  | zero => exact hs
  | succ n ih =>
    unfold Machine.dReads
    split
    · next e => exact hs.dRead.of_eq' e
    · next e =>
      split
      next e1 => exact (ih (hs.dRead.of_eq' e)).of_eq' e1

theorem State.Has.rawWrites {k : Fin 4} {a : Nat} {l : List Word} (hs : s.Has K) : (rawWrites k a l s).Has K := by
  induction l generalizing a s with
  | nil => exact hs
  | cons v l ih => exact ih hs.rawWrite

theorem State.Has.watchWrites {k : Fin 4} {a : Nat} {l : List Word} (hs : s.Has K) : (watchWrites k a l s).Has K := by
  induction l generalizing a s with
  | nil => exact hs
  | cons v l ih => exact ih hs.watchWrite

theorem State.Has.makeRooms {k : Fin 4} {a n : Nat} (hs : s.Has K) : (makeRooms k a n s).2.Has K := by
  induction n generalizing a s with
  | zero => exact hs
  | succ n ih =>
    refine .ite_snd ?_ (ih hs)
    split
    · next e => exact hs.makeRoom.of_eq e
    · next e => exact ih (hs.makeRoom.of_eq e)

theorem State.Has.eccData {k : Fin 4} {a : Nat} (hs : s.Has K) : (eccData k a s).Has K := hs.raise

theorem State.Has.eccOr {k : Fin 4} {f : State → State} {r : Option Nat × State} (hs : r.2.Has K)
    (hf : ∀ {y : State}, y.Has K → (f y).Has K) : (eccOr k f r).Has K := by
  obtain ⟨e, t⟩ := r
  cases e with
  | none => exact hf hs
  | some e => exact hs.eccData

theorem State.Has.storeWords {k : Fin 4} {a : Nat} {l : List Word} (hs : s.Has K) : (storeWords k a l s).Has K :=
  hs.watchWrites.makeRooms.eccOr (·.nextPc.rawWrites)

theorem State.Has.memInstr {k : Fin 4} {word : Word} {legal priv : Bool} {spans : State → List (Nat × Nat)}
    {body : State → State} (hs : s.Has K) (hbody : ∀ {t : State}, t.Has K → (body t).Has K) :
    OutHas K (memInstr k word legal priv spans body s) := .ite (.next hs) (hs.coreInstr (fun h => hbody h))

theorem State.Has.loadOctet {k : Fin 4} {d a : BitVec 4} {imm : BitVec 10} {f : Octet → Word} (hs : s.Has K) :
    (loadOctet k d a imm f s).Has K := by
  unfold Machine.loadOctet
  split
  · next e => exact (hs.dReadOctet.of_eq' e).eccData
  · next e => exact (hs.dReadOctet.of_eq' e).putReg

theorem State.Has.swapPast {k : Fin 4} {d : BitVec 4} {a : Nat} (hs : s.Has K) : (swapPast k d a s).Has K := by
  unfold Machine.swapPast
  refine .ite ?_ hs.watch.watch.putReg
  split
  next e => exact .ite (hs.busRead.of_eq' e).watch.eccData (hs.busRead.of_eq' e).watch.watchWrite.putReg.busWrite

theorem State.Has.swap {k : Fin 4} {d : BitVec 4} {a : Nat} (hs : s.Has K) : (swap k d a s).Has K :=
  hs.flushLine.eccOr (·.swapPast)

theorem State.Has.lineOp {k : Fin 4} {op : BitVec 4} {priv : Bool} {kd : AccKind} {a : BitVec 4} {imm : BitVec 10}
    {f : Nat → State → State} (hs : s.Has K) (hf : ∀ {x} {t : State}, t.Has K → (f x t).Has K) :
    OutHas K (lineOp k op priv kd a imm f s) := hs.coreInstr fun h => .nextPc (.ite (hf h) h)

theorem State.Has.cacheOp {k : Fin 4} {op : BitVec 4} {priv : Bool} {a : BitVec 4} {imm : BitVec 10}
    {f : State → State} (hs : s.Has K) (hf : ∀ {t : State}, t.Has K → (f t).Has K) :
    OutHas K (cacheOp k op priv a imm f s) := hs.coreInstr fun h => .nextPc (hf h)

theorem State.Has.cleanOp {k : Fin 4} {op a : BitVec 4} {imm : BitVec 10} {f : Nat → State → Option Nat × State}
    (hs : s.Has K) (hf : ∀ {x} {t : State}, t.Has K → (f x t).2.Has K) : OutHas K (cleanOp k op a imm f s) :=
  hs.coreInstr fun h => .eccOr (.ite_snd (hf h) h) (·.nextPc)

theorem State.Has.dropAll {k : Fin 4} (hs : s.Has K) : (dropAll k s).Has K := hs.setCore

/-! ### The coprocessors -/

theorem State.Has.withOctets {k : Fin 4} {x n : Nat} {f : List Octet → State → State} (hs : s.Has K)
    (hf : ∀ {x} {t : State}, t.Has K → (f x t).Has K) : (withOctets k x n f s).Has K := by
  unfold Machine.withOctets
  split
  · next e => exact (hs.dReads.of_eq' e).eccData
  · next e => exact hf (hs.dReads.of_eq' e)

theorem State.Has.modOp {k : Fin 4} {d a b : BitVec 4} {f : Nat → Nat → Nat → Nat} (hs : s.Has K) :
    (modOp k d a b f s).Has K := by
  unfold Machine.modOp
  exact hs.withOctets fun h => h.withOctets (·.storeWords)

theorem State.Has.setVpos {k : Fin 4} {v : Word} (hs : s.Has K) : (setVpos k v s).Has K := hs.setCore

theorem State.Has.vecDone {k : Fin 4} {pc : Word} (hs : s.Has K) : (vecDone k pc s).Has K := .ite hs.setVpos.nextPc hs

theorem State.Has.vecShare {k : Fin 4} {n : Nat} (hs : s.Has K) : (vecShare k n s).2.Has K := .ite_snd hs.drawn hs

theorem State.Has.vecElems {k : Fin 4} {pc : Word} {dst x : Nat} {y : Option Nat} {f : Word → Word → Word}
    {n i : Nat} (hs : s.Has K) : (vecElems k pc dst x y f n i s).Has K := by
  induction n generalizing i s with
  | zero => exact .ite hs.vecDone hs.setVpos
  | succ n ih =>
    unfold Machine.vecElems
    extract_lets +onlyGivenNames lost put
    have hl {e t} (ht : State.Has t K) : (lost e t).Has K := ht.setVpos.eccData
    have hp {v t} (ht : State.Has t K) : (put v t).Has K := by
      dsimp only [put]
      split
      · next e => exact hl (ht.makeRooms.of_eq e)
      · next e => exact ih (ht.makeRooms.of_eq e).dWrite
    split
    · next e => exact hl (hs.dRead.of_eq' e)
    · next e =>
      have h1 := hs.dRead.of_eq' e
      split
      · exact hp h1
      · split
        · next e1 => exact hl (h1.dRead.of_eq' e1)
        · next e1 => exact hp (h1.dRead.of_eq' e1)

theorem State.Has.vecOp {k : Fin 4} {d a : BitVec 4} {y : Option Nat} {f : Word → Word → Word} (hs : s.Has K) :
    (vecOp k d a y f s).Has K := hs.vecShare.vecElems

theorem State.Has.dotElems {k : Fin 4} {x y n i : Nat} {re im : Int} (hs : s.Has K) :
    (dotElems k x y n i re im s).2.2.2.2.Has K := by
  induction n generalizing i re im s with
  | zero => exact hs
  | succ n ih =>
    unfold Machine.dotElems
    split
    · next e => exact hs.dRead.of_eq' e
    · next e =>
      split
      · next e1 => exact (hs.dRead.of_eq' e).dRead.of_eq' e1
      · next e1 => exact ih ((hs.dRead.of_eq' e).dRead.of_eq' e1)

theorem State.Has.setVec {k : Fin 4} {p : Option VecPart} (hs : s.Has K) : (setVec k p s).Has K := hs.setCore

theorem State.Has.vecDot {k : Fin 4} {d a b : BitVec 4} (hs : s.Has K) : (vecDot k d a b s).Has K := by
  unfold Machine.vecDot
  extract_lets +onlyGivenNames c i
  split
  next e0 =>
  have h0 := State.Has.of_eq' (K := K) (.ite_snd_snd hs.triple (by
    split
    exacts [hs.triple, hs.drawn.drawn.triple])) e0
  extract_lets +onlyGivenNames keep
  have hk {j x y t} (ht : State.Has t K) : (keep j x y t).Has K := ht.setVec.setVpos
  split
  next e =>
  have h1 := h0.vecShare.of_eq e
  split
  · next e2 => exact (hk (h1.dotElems.of_eq4 e2)).eccData
  · next e2 => exact .ite (hk (h1.dotElems.of_eq4 e2)) (h1.dotElems.of_eq4 e2).setVpos.putReg

theorem State.Has.freeWords {n : Nat} (hs : s.Has K) : (freeWords n s).2.Has K := by
  induction n generalizing s with
  | zero => exact hs
  | succ n ih =>
    unfold Machine.freeWords
    split
    next e => exact (ih hs.drawn).of_eq e

theorem State.Has.vecFft {inverse : Bool} {k : Fin 4} {a : BitVec 4} (hs : s.Has K) :
    (vecFft inverse k a s).Has K := by
  refine .ite hs.nextPc ?_
  split
  · next e => exact (hs.dReads.of_eq' e).drawn.setVpos.eccData
  · next e =>
    have h1 := hs.dReads.of_eq' e
    refine .ite (.ite (.ite h1 h1.vecShare) h1.vecShare.freeWords.setVec.setVpos.watchWrites.rawWrites)
      (.storeWords (.setVpos ?_))
    split
    exacts [h1.vecShare, h1.vecShare.freeWords]

/-! ## The commands -/

/-! ### Mesh time -/

theorem State.Has.execReadMtNow0 {w : Who} (hs : s.Has K) : OutHas K (execReadMtNow0 w s) := hs.readCmd (·.readNow0)

theorem State.Has.execMtCtrlStep {w : Who} {v : Word} (hs : s.Has K) : OutHas K (execMtCtrlStep w v s) :=
  hs.act (·.mtCtrlWrite)

theorem State.Has.execMtRateCommit {w : Who} {v : Word} (hs : s.Has K) : OutHas K (execMtRateCommit w v s) :=
  hs.act (·.rateWrite)

theorem State.Has.execMtUsetWrite {w : Who} {v : Word} (hs : s.Has K) : OutHas K (execMtUsetWrite w v s) :=
  hs.act (·.usetWrite)

theorem State.Has.execMtUalarmWrite {w : Who} {v : Word} (hs : s.Has K) : OutHas K (execMtUalarmWrite w v s) :=
  hs.act (·.ualarmWrite)

theorem State.Has.execLfWindowEnd (hs : s.Has K) : OutHas K (execLfWindowEnd s) := hs.act (·.lfWindowEnd)

theorem State.Has.execArmCompare {w : Who} {n : Fin 32} {v : Word} (hs : s.Has K) :
    OutHas K (execArmCompare w n v s) := hs.act (·.armCompare)

theorem State.Has.execCompareDisarm {w : Who} {n : Fin 32} {v : Word} (hs : s.Has K) :
    OutHas K (execCompareDisarm w n v s) := hs.act (·.mtcCtrlWrite)

theorem State.Has.execCompareMatch {n : Fin 32} (hs : s.Has K) : OutHas K (execCompareMatch n s) :=
  hs.act (·.compareFire)

theorem State.Has.execPpsPulseEnd (hs : s.Has K) : OutHas K (execPpsPulseEnd s) := hs.act (·.setMt)

theorem State.Has.execCaptureEvent {n : Fin 8} {e : CapEdge} (hs : s.Has K) : OutHas K (execCaptureEvent n e s) :=
  hs.act (·.capture)

theorem State.Has.execReadCapture {w : Who} {n : Fin 8} (hs : s.Has K) : OutHas K (execReadCapture w n s) :=
  hs.readCmd (·.readCap)

theorem State.Has.execPtpEventStamp (hs : s.Has K) : OutHas K (execPtpEventStamp s) := hs.act (·.ptpStamp)

/-! ### The general timers -/

theorem State.Has.execGtArm {w : Who} {n : Fin 16} (hs : s.Has K) : OutHas K (execGtArm w n s) := hs.act (·.gtArm)

theorem State.Has.execGtAdvance {n : Fin 16} (hs : s.Has K) : OutHas K (execGtAdvance n s) := hs.act (·.gtClock)

theorem State.Has.execGtEnd {n : Fin 16} (hs : s.Has K) : OutHas K (execGtEnd n s) := hs.act (·.gtStopAtTop)

theorem State.Has.execGtCascadeWrap {n : Fin 16} (hs : s.Has K) : OutHas K (execGtCascadeWrap n s) :=
  hs.act (·.gtCount)

theorem State.Has.execGtTopWrite {w : Who} {n : Fin 16} {v : Word} (hs : s.Has K) :
    OutHas K (execGtTopWrite w n v s) := hs.act (·.gtTopWrite)

theorem State.Has.execGtCapture {n : Fin 16} (hs : s.Has K) : OutHas K (execGtCapture n s) := hs.act (·.gtCapture)

theorem State.Has.execGtCapRead {w : Who} {n : Fin 16} (hs : s.Has K) : OutHas K (execGtCapRead w n s) :=
  hs.readCmd (·.gtCapRead)

/-! ### The event fabric -/

theorem State.Has.execFabricChannelEvent {c : Fin 64} (hs : s.Has K) : OutHas K (execFabricChannelEvent c s) :=
  hs.act (·.chanArrive.setFab)

theorem State.Has.execFabricHeldEmit {c : Fin 64} (hs : s.Has K) : OutHas K (execFabricHeldEmit c s) :=
  hs.act (·.heldEmit)

theorem State.Has.execTaskDeliver {c : Fin 64} (hs : s.Has K) : OutHas K (execTaskDeliver c s) := hs.act (·.deliver)

theorem State.Has.execLutUpdate (hs : s.Has K) : OutHas K (execLutUpdate s) := hs.act (·.fabricClock)

theorem State.Has.execLutCtlWrite {w : Who} {j : Fin 32} {v : Word} (hs : s.Has K) :
    OutHas K (execLutCtlWrite w j v s) := hs.act (·.lutCtlWrite)

theorem State.Has.execFabricLock {w : Who} {c : Fin 64} {v : Word} (hs : s.Has K) :
    OutHas K (execFabricLock w c v s) := hs.act (·.evfCfgWrite)

theorem State.Has.execPinEvent {pin : Fin 48} {rising : Bool} (hs : s.Has K) : OutHas K (execPinEvent pin rising s) :=
  hs.act (·.pinEdge)

theorem State.Has.execMadcSequenceEnd {limit : Bool} (hs : s.Has K) : OutHas K (execMadcSequenceEnd limit s) :=
  hs.act fun h => h.update.fire.when (·.fire)

theorem State.Has.execPeripheralServiceRequest {src : BitVec 7} (hs : s.Has K) :
    OutHas K (execPeripheralServiceRequest src s) := hs.act (·.fire)

/-! ### The SRAM ports -/

theorem State.Has.execMergeDrain {word : Word} (hs : s.Has K) : OutHas K (execMergeDrain word s) :=
  hs.act (·.drainWord)

theorem State.Has.execGroomRead (hs : s.Has K) : OutHas K (execGroomRead s) := hs.act (·.groomRead)

theorem State.Has.execBankOffline {w : Who} {k : Fin 16} (hs : s.Has K) : OutHas K (execBankOffline w k s) :=
  hs.act (·.offlineWrite)

theorem State.Has.execBankIsolated {k : Fin 16} (hs : s.Has K) : OutHas K (execBankIsolated k s) :=
  hs.act (·.bankIsolated)

theorem State.Has.execBankOnline {w : Who} {k : Fin 16} (hs : s.Has K) : OutHas K (execBankOnline w k s) :=
  hs.act (·.offlineWrite)

theorem State.Has.execBankInitDone {k : Fin 16} (hs : s.Has K) : OutHas K (execBankInitDone k s) :=
  hs.act (·.bankInitDone)

/-! ### The queue manager and the packet buffers -/

theorem State.Has.execQueuePush {w : Who} {n : Fin 128} {v : Word} (hs : s.Has K) :
    OutHas K (execQueuePush w n v s) := hs.act (·.qPush)

theorem State.Has.execQueuePushhead {w : Who} {n : Fin 128} {v : Word} (hs : s.Has K) :
    OutHas K (execQueuePushhead w n v s) := hs.act (·.qPushHead)

theorem State.Has.execQueuePop {w : Who} {n : Fin 128} (hs : s.Has K) : OutHas K (execQueuePop w n s) :=
  hs.readCmd (·.qPop)

theorem State.Has.execQueuePeek {w : Who} {n : Fin 128} (hs : s.Has K) : OutHas K (execQueuePeek w n s) :=
  hs.readCmd fun h => h

theorem State.Has.execQueueClassWrite {w : Who} {n : Fin 128} {v : Word} (hs : s.Has K) :
    OutHas K (execQueueClassWrite w n v s) := hs.act (·.plainWrite)

theorem State.Has.execFreebuf {w : Who} {v : Word} (hs : s.Has K) : OutHas K (execFreebuf w v s) :=
  hs.act (·.freeChain)

theorem State.Has.execAlloc {w : Who} (hs : s.Has K) : OutHas K (execAlloc w s) := hs.readCmd (·.allocRead)

theorem State.Has.execQmTimeout {n : Fin 128} (hs : s.Has K) : OutHas K (execQmTimeout n s) := hs.act (·.qmTimeout)

/-! ### Front ends and transmit chains -/

theorem State.Has.execSynthColdFallback {band : Fin 2} {syn : Fin 3} (hs : s.Has K) :
    OutHas K (execSynthColdFallback band syn s) := hs.act (·.setBit.setBand.count)

theorem State.Has.execCalCommit {w : Who} {band : Fin 2} {v : Word} (hs : s.Has K) :
    OutHas K (execCalCommit w band v s) := hs.act (·.calCommitWrite)

theorem State.Has.execCalageTick {band : Fin 2} (hs : s.Has K) : OutHas K (execCalageTick band s) :=
  hs.act fun h => h.forAll (·.ageItem)

theorem State.Has.execSensorRefresh {band : Fin 2} {temp vmain : Octet} (hs : s.Has K) :
    OutHas K (execSensorRefresh band temp vmain s) := hs.act (·.sensorRefresh)

theorem State.Has.execOffminEnd {band : Fin 2} {rule : Fin 4} (hs : s.Has K) : OutHas K (execOffminEnd band rule s) :=
  hs.act (·.offShow)

theorem State.Has.execBucketEntry {band : Fin 2} {rule : Fin 4} (hs : s.Has K) :
    OutHas K (execBucketEntry band rule s) := hs.act (·.bucketEnter)

/-! ### Key slots, and the building of frames -/

theorem State.Has.execKeyLoadCommit {w : Who} {v : Word} (hs : s.Has K) : OutHas K (execKeyLoadCommit w v s) :=
  hs.act (·.keyCommitWrite)

theorem State.Has.execKeyClear {w : Who} {v : Word} (hs : s.Has K) : OutHas K (execKeyClear w v s) :=
  hs.act (·.keyCommitWrite)

theorem State.Has.execTxctrCommit {w : Who} {slot : Fin 16} {v : Word} (hs : s.Has K) :
    OutHas K (execTxctrCommit w slot v s) := hs.act (·.ctrCommit)

theorem State.Has.execTxlimCommit {w : Who} {slot : Fin 16} {v : Word} (hs : s.Has K) :
    OutHas K (execTxlimCommit w slot v s) := hs.act (·.ctrCommit)

/-! ### The discipline of mesh time -/

theorem State.Has.execDisciplineSample {m : DiscSample} (hs : s.Has K) : OutHas K (execDisciplineSample m s) :=
  hs.act (·.discipline)

theorem State.Has.execSourceLost {src : BitVec 2} (hs : s.Has K) : OutHas K (execSourceLost src s) :=
  hs.act (·.sourceLost)

/-! ### Lanes and paths of the receiver -/

theorem State.Has.execPathAgcWindow {band path : Fin 2} {power : Octet} {ovl : Bool} (hs : s.Has K) :
    OutHas K (execPathAgcWindow band path power ovl s) := hs.act (·.agcWindow)

theorem State.Has.execGainApply {p : Fin 4} (hs : s.Has K) : OutHas K (execGainApply p s) := hs.act (·.gainApply)

/-! ### The neighbour table -/

theorem State.Has.execKeyWalkDone {slot : Fin 16} (hs : s.Has K) : OutHas K (execKeyWalkDone slot s) :=
  hs.act (·.walkDone.finishRun)

theorem State.Has.execNbrCommit {w : Who} {v : Word} (hs : s.Has K) : OutHas K (execNbrCommit w v s) :=
  hs.act (·.nbrCommitWrite)

theorem State.Has.execHeardRefresh (hs : s.Has K) : OutHas K (execHeardRefresh s) := hs.act (·.heardRefresh)

/-! ### The judgement of received frames -/

theorem State.Has.execPreambleDetect {n : Fin 16} {m : Metrics} {peak : BitVec 72} {rssi1 rssi2 snr : Octet}
    (hs : s.Has K) : OutHas K (execPreambleDetect n m peak rssi1 rssi2 snr s) := by
  unfold Machine.execPreambleDetect
  split
  exacts [hs.act (·.laneSee.preambleDetect.settle), .next hs]

theorem State.Has.execHeaderDecode {n : Fin 16} {hdr : BitVec 52} {phr : Bool} (hs : s.Has K) :
    OutHas K (execHeaderDecode n hdr phr s) := hs.act (·.mapSee.headerDecode.settle)

theorem State.Has.execCodewordDecode {arrived : List (Fin 16)} {e : Fin 4} {its : BitVec 5} (hs : s.Has K) :
    OutHas K (execCodewordDecode arrived e its s) := hs.act fun h => .settle (.cwDecodeBy (h.forAll (·.cwArrive)))

theorem State.Has.execFrameEnd {n : Fin 16} {psdu : List Octet} {fcsOk : Bool} {spread : BitVec 12}
    {tones : List Word} (hs : s.Has K) : OutHas K (execFrameEnd n psdu fcsOk spread tones s) :=
  hs.act (·.frameEnd.settle)

theorem State.Has.execLaneOosWrite {w : Who} {v : Word} (hs : s.Has K) : OutHas K (execLaneOosWrite w v s) :=
  hs.act (·.oosWrite.settle)

theorem State.Has.execSpanApply {band : Fin 2} (hs : s.Has K) : OutHas K (execSpanApply band s) :=
  hs.act (·.spanApply.settle)

/-! ### The gate engine -/

theorem State.Has.execCourseRunWrite {w : Who} {n : Fin 16} {v : Word} (hs : s.Has K) :
    OutHas K (execCourseRunWrite w n v s) := hs.act (·.courseCfgWrite)

theorem State.Has.execCourseStopWrite {w : Who} {n : Fin 16} {v : Word} (hs : s.Has K) :
    OutHas K (execCourseStopWrite w n v s) := hs.act (·.courseCfgWrite)

theorem State.Has.execCourseStopnow {w : Who} {n : Fin 16} {v : Word} (hs : s.Has K) :
    OutHas K (execCourseStopnow w n v s) := hs.act (·.courseCfgWrite)

theorem State.Has.execCourseBoundary {n : Fin 16} (hs : s.Has K) : OutHas K (execCourseBoundary n s) :=
  hs.act (·.courseBoundary)

theorem State.Has.execGateCommit {w : Who} {v : Word} (hs : s.Has K) : OutHas K (execGateCommit w v s) :=
  hs.act (·.gateCommitWrite)

theorem State.Has.execGuardEvaluation {g : BitVec 12} {i : BitVec 48} (hs : s.Has K) :
    OutHas K (execGuardEvaluation g i s) := hs.act (·.guardEval)

theorem State.Has.execGatePretune {g : BitVec 12} {i : BitVec 48} (hs : s.Has K) :
    OutHas K (execGatePretune g i s) := by
  unfold Machine.execGatePretune
  dsimp only
  split
  exacts [hs.act (·.pretune.settle), hs.act (·.pretune.settle)]

theorem State.Has.execFrameAccept (hs : s.Has K) : OutHas K (execFrameAccept s) := hs.act (·.frameAccept)

/-! ### Activations at and after their instants -/

theorem State.Has.execRxListen {g : BitVec 12} {i : BitVec 48} (hs : s.Has K) : OutHas K (execRxListen g i s) :=
  hs.onAct (·.openWindow)

theorem State.Has.execRxExpect {g : BitVec 12} {i : BitVec 48} (hs : s.Has K) : OutHas K (execRxExpect g i s) :=
  hs.onAct (·.openWindow)

theorem State.Has.execRxSound {g : BitVec 12} {i : BitVec 48} (hs : s.Has K) : OutHas K (execRxSound g i s) :=
  hs.onAct (·.openWindow)

theorem State.Has.execTxQueue {g : BitVec 12} {i : BitVec 48} (hs : s.Has K) : OutHas K (execTxQueue g i s) :=
  hs.onAct (·.txFire)

theorem State.Has.execTxBeacon {g : BitVec 12} {i : BitVec 48} (hs : s.Has K) : OutHas K (execTxBeacon g i s) :=
  hs.onAct (·.txFire)

theorem State.Has.execTxSound {g : BitVec 12} {i : BitVec 48} (hs : s.Has K) : OutHas K (execTxSound g i s) :=
  hs.onAct (·.txFire)

theorem State.Has.execEmitEvent {g : BitVec 12} {i : BitVec 48} (hs : s.Has K) : OutHas K (execEmitEvent g i s) :=
  hs.onAct (·.emitEvent)

theorem State.Has.execGateWinEnd {g : BitVec 12} {i : BitVec 48} (hs : s.Has K) : OutHas K (execGateWinEnd g i s) :=
  hs.onAct (·.winLevelEnd)

theorem State.Has.execGateTune {g : BitVec 12} {i : BitVec 48} (hs : s.Has K) : OutHas K (execGateTune g i s) :=
  hs.onAct (·.tuneFire)

theorem State.Has.execGateCalibrate {g : BitVec 12} {i : BitVec 48} (hs : s.Has K) :
    OutHas K (execGateCalibrate g i s) := hs.onAct (·.calFire)

theorem State.Has.execWakeApp {g : BitVec 12} {i : BitVec 48} (hs : s.Has K) : OutHas K (execWakeApp g i s) :=
  hs.onAct (·.wakeApp)

theorem State.Has.execRxWindowClose {g : BitVec 12} {i : BitVec 48} (hs : s.Has K) :
    OutHas K (execRxWindowClose g i s) := hs.onAct (·.closeWindow)

theorem State.Has.execAckWaitEnd {band : Fin 2} (hs : s.Has K) : OutHas K (execAckWaitEnd band s) := by
  unfold Machine.execAckWaitEnd
  dsimp only
  split
  exacts [hs.act (·.setBand.settleWait), .next hs]

theorem State.Has.execSynthLock {band : Fin 2} {syn : Fin 3} (hs : s.Has K) : OutHas K (execSynthLock band syn s) :=
  hs.act (·.synthLock)

theorem State.Has.execCalSliceStart {band : Fin 2} (hs : s.Has K) : OutHas K (execCalSliceStart band s) :=
  hs.act (·.calStart)

theorem State.Has.execCalSliceDone {band : Fin 2} {res : Option (List Word)} {w1 w2 w3 : Word} (hs : s.Has K) :
    OutHas K (execCalSliceDone band res w1 w2 w3 s) := hs.act (·.sliceDone.settle)

theorem State.Has.execFullCalStart {w : Who} {band : Fin 2} {v : Word} (hs : s.Has K) :
    OutHas K (execFullCalStart w band v s) := hs.act (·.feCtrlWrite)

theorem State.Has.execFullCalDone {band : Fin 2} {e : FullCalEnd} {results : List (Nat × List Word)} (hs : s.Has K) :
    OutHas K (execFullCalDone band e results s) := hs.act (·.fullDone)

theorem State.Has.execCalstop {w : Who} {band : Fin 2} {v : Word} (hs : s.Has K) :
    OutHas K (execCalstop w band v s) := hs.act (·.feCtrlWrite)

theorem State.Has.execTxRampUp {band : Fin 2} (hs : s.Has K) : OutHas K (execTxRampUp band s) := hs.act (·.rampUp)

theorem State.Has.execTxLate {band : Fin 2} (hs : s.Has K) : OutHas K (execTxLate band s) := hs.act (·.txLateNow)

theorem State.Has.execTxEnd {band : Fin 2} {paDev : Bool} (hs : s.Has K) : OutHas K (execTxEnd band paDev s) :=
  hs.act (·.txEnd)

theorem State.Has.execBlankEnd {band : Fin 2} (hs : s.Has K) : OutHas K (execBlankEnd band s) := hs.act (·.setBand)

theorem State.Has.execTxHalt {w : Who} {band : Fin 2} {v : Word} (hs : s.Has K) : OutHas K (execTxHalt w band v s) :=
  hs.act (·.halt)

theorem State.Has.execCcaDone {band : Fin 2} {mean : Octet} (hs : s.Has K) : OutHas K (execCcaDone band mean s) :=
  hs.act (·.ccaDone)

theorem State.Has.execAckTransmit {band : Fin 2} (hs : s.Has K) : OutHas K (execAckTransmit band s) :=
  hs.act (·.ackLeaves)

theorem State.Has.execTuneHoldEnd {g : BitVec 12} {i : BitVec 48} (hs : s.Has K) : OutHas K (execTuneHoldEnd g i s) :=
  hs.onAct (·.releaseAct)

theorem State.Has.execFemLeadSwitch {band : Fin 2} (hs : s.Has K) : OutHas K (execFemLeadSwitch band s) :=
  hs.act (·.femLead)

theorem State.Has.execFemLagReturn {band : Fin 2} (hs : s.Has K) : OutHas K (execFemLagReturn band s) :=
  hs.act (·.femLag)

/-! ### Tone maps and stand-alone transmissions -/

theorem State.Has.execTonemapCompute (hs : s.Has K) : OutHas K (execTonemapCompute s) := hs.act (·.tonemapCompute)

theorem State.Has.execTonemapFeedback {nbr : BitVec 13} {elem : List Octet} (hs : s.Has K) :
    OutHas K (execTonemapFeedback nbr elem s) := hs.act fun h => .ite h.setLink h.setLink.tonemapFeedback

theorem State.Has.execSoundingPolicyTick {nbr : BitVec 13} (hs : s.Has K) :
    OutHas K (execSoundingPolicyTick nbr s) := by
  unfold Machine.execSoundingPolicyTick
  dsimp only
  split
  exacts [.ite (hs.act (·.setLink)) (hs.act (·.soundReq)), .next hs]

theorem State.Has.execTxFrameRetry {t : Transport} {tag : Octet} (hs : s.Has K) :
    OutHas K (execTxFrameRetry t tag s) := by
  unfold Machine.execTxFrameRetry
  split
  exacts [hs.act (·.retryNow), .next hs]

theorem State.Has.execTmholdExpiry {idx : BitVec 11} (hs : s.Has K) : OutHas K (execTmholdExpiry idx s) :=
  hs.act (·.tmExpire)

/-! ### Remote windows -/

theorem State.Has.execRwinRequest (hs : s.Has K) : OutHas K (execRwinRequest s) := hs.act (·.takeRequest)

theorem State.Has.execRwinReadbackDone {c0 : Bool} (hs : s.Has K) : OutHas K (execRwinReadbackDone c0 s) :=
  hs.act (·.readBack)

theorem State.Has.execRwinResponse (hs : s.Has K) : OutHas K (execRwinResponse s) := hs.act (·.takeResponse)

theorem State.Has.execRwinTimeout {opid : BitVec 16} (hs : s.Has K) : OutHas K (execRwinTimeout opid s) :=
  hs.act (·.rwinTimeout)

theorem State.Has.execWindowCommit {w : Who} {v : Word} (hs : s.Has K) : OutHas K (execWindowCommit w v s) :=
  hs.act (·.windowCommitWrite)

/-! ### Forwarding -/

theorem State.Has.execFwdProcess {c0 : Bool} (hs : s.Has K) : OutHas K (execFwdProcess c0 s) := hs.act (·.fwdStep)

theorem State.Has.execRouteCommit {w : Who} {v : Word} (hs : s.Has K) : OutHas K (execRouteCommit w v s) :=
  hs.act (·.routeCommitWrite)

/-! ### Ticks of mesh time -/

theorem State.Has.execMtTick (hs : s.Has K) : OutHas K (execMtTick s) := hs.act (·.tick)

theorem State.Has.execLfTick (hs : s.Has K) : OutHas K (execLfTick s) := hs.act fun h => .ite h.lfTick h.lfEdge

theorem State.Has.execMtStepApply (hs : s.Has K) : OutHas K (execMtStepApply s) := hs.act (·.applyStep)

theorem State.Has.execSlewStart {w : Who} {v : Word} (hs : s.Has K) : OutHas K (execSlewStart w v s) :=
  hs.act (·.slewReplace)

theorem State.Has.execSlewstop {w : Who} {v : Word} (hs : s.Has K) : OutHas K (execSlewstop w v s) :=
  hs.act fun h => h.slewWatch (·.mtCtrlWrite)

theorem State.Has.execMtSlewDone (hs : s.Has K) : OutHas K (execMtSlewDone s) :=
  hs.act fun h => h.slewWatch (·.slewDone)

theorem State.Has.execBridgeEnter (hs : s.Has K) : OutHas K (execBridgeEnter s) := hs.act (·.bridgeEnter.gateSync)

theorem State.Has.execBridgeExit (hs : s.Has K) : OutHas K (execBridgeExit s) := hs.act (·.bridgeExit.gateSync)

/-! ### What every instruction of an application core shares -/

theorem State.Has.execSetpend {w : Who} {k : Fin 4} {v : Word} (hs : s.Has K) : OutHas K (execSetpend w k v s) :=
  hs.act (·.setpendWrite)

theorem State.Has.execWatchdogWarn {k : Fin 4} (hs : s.Has K) : OutHas K (execWatchdogWarn k s) := hs.act (·.wdWarn)

/-! ### The ALU -/

theorem State.Has.execAdd {k : Fin 4} {d a b : BitVec 4} (hs : s.Has K) : OutHas K (execAdd k d a b s) := hs.aluR

theorem State.Has.execSub {k : Fin 4} {d a b : BitVec 4} (hs : s.Has K) : OutHas K (execSub k d a b s) := hs.aluR

theorem State.Has.execAndR {k : Fin 4} {d a b : BitVec 4} (hs : s.Has K) : OutHas K (execAndR k d a b s) := hs.aluR

theorem State.Has.execOrR {k : Fin 4} {d a b : BitVec 4} (hs : s.Has K) : OutHas K (execOrR k d a b s) := hs.aluR

theorem State.Has.execXorR {k : Fin 4} {d a b : BitVec 4} (hs : s.Has K) : OutHas K (execXorR k d a b s) := hs.aluR

theorem State.Has.execNor {k : Fin 4} {d a b : BitVec 4} (hs : s.Has K) : OutHas K (execNor k d a b s) := hs.aluR

theorem State.Has.execLts {k : Fin 4} {d a b : BitVec 4} (hs : s.Has K) : OutHas K (execLts k d a b s) := hs.aluR

theorem State.Has.execLtu {k : Fin 4} {d a b : BitVec 4} (hs : s.Has K) : OutHas K (execLtu k d a b s) := hs.aluR

theorem State.Has.execShl {k : Fin 4} {d a b : BitVec 4} (hs : s.Has K) : OutHas K (execShl k d a b s) := hs.aluR

theorem State.Has.execShr {k : Fin 4} {d a b : BitVec 4} (hs : s.Has K) : OutHas K (execShr k d a b s) := hs.aluR

theorem State.Has.execSar {k : Fin 4} {d a b : BitVec 4} (hs : s.Has K) : OutHas K (execSar k d a b s) := hs.aluR

theorem State.Has.execRor {k : Fin 4} {d a b : BitVec 4} (hs : s.Has K) : OutHas K (execRor k d a b s) := hs.aluR

theorem State.Has.execMinS {k : Fin 4} {d a b : BitVec 4} (hs : s.Has K) : OutHas K (execMinS k d a b s) := hs.aluR

theorem State.Has.execMaxS {k : Fin 4} {d a b : BitVec 4} (hs : s.Has K) : OutHas K (execMaxS k d a b s) := hs.aluR

theorem State.Has.execMinu {k : Fin 4} {d a b : BitVec 4} (hs : s.Has K) : OutHas K (execMinu k d a b s) := hs.aluR

theorem State.Has.execMaxu {k : Fin 4} {d a b : BitVec 4} (hs : s.Has K) : OutHas K (execMaxu k d a b s) := hs.aluR

theorem State.Has.execAdds {k : Fin 4} {d a b : BitVec 4} (hs : s.Has K) : OutHas K (execAdds k d a b s) := hs.aluR

theorem State.Has.execSubs {k : Fin 4} {d a b : BitVec 4} (hs : s.Has K) : OutHas K (execSubs k d a b s) := hs.aluR

theorem State.Has.execAbs {k : Fin 4} {d a b : BitVec 4} (hs : s.Has K) : OutHas K (execAbs k d a b s) := hs.aluR

theorem State.Has.execClz {k : Fin 4} {d a b : BitVec 4} (hs : s.Has K) : OutHas K (execClz k d a b s) := hs.aluR

theorem State.Has.execPopc {k : Fin 4} {d a b : BitVec 4} (hs : s.Has K) : OutHas K (execPopc k d a b s) := hs.aluR

theorem State.Has.execRevo {k : Fin 4} {d a b : BitVec 4} (hs : s.Has K) : OutHas K (execRevo k d a b s) := hs.aluR

theorem State.Has.execSexo {k : Fin 4} {d a b : BitVec 4} (hs : s.Has K) : OutHas K (execSexo k d a b s) := hs.aluR

theorem State.Has.execSex12 {k : Fin 4} {d a b : BitVec 4} (hs : s.Has K) : OutHas K (execSex12 k d a b s) := hs.aluR

theorem State.Has.execAddK {k : Fin 4} {d a : BitVec 4} {imm : BitVec 10} (hs : s.Has K) :
    OutHas K (execAddK k d a imm s) := hs.aluI

theorem State.Has.execAndK {k : Fin 4} {d a : BitVec 4} {imm : BitVec 10} (hs : s.Has K) :
    OutHas K (execAndK k d a imm s) := hs.aluI

theorem State.Has.execOrK {k : Fin 4} {d a : BitVec 4} {imm : BitVec 10} (hs : s.Has K) :
    OutHas K (execOrK k d a imm s) := hs.aluI

theorem State.Has.execXorK {k : Fin 4} {d a : BitVec 4} {imm : BitVec 10} (hs : s.Has K) :
    OutHas K (execXorK k d a imm s) := hs.aluI

theorem State.Has.execLtsK {k : Fin 4} {d a : BitVec 4} {imm : BitVec 10} (hs : s.Has K) :
    OutHas K (execLtsK k d a imm s) := hs.aluI

theorem State.Has.execLtuK {k : Fin 4} {d a : BitVec 4} {imm : BitVec 10} (hs : s.Has K) :
    OutHas K (execLtuK k d a imm s) := hs.aluI

theorem State.Has.execShlK {k : Fin 4} {d a : BitVec 4} {imm : BitVec 10} (hs : s.Has K) :
    OutHas K (execShlK k d a imm s) := hs.aluI

theorem State.Has.execShrK {k : Fin 4} {d a : BitVec 4} {imm : BitVec 10} (hs : s.Has K) :
    OutHas K (execShrK k d a imm s) := hs.aluI

theorem State.Has.execSarK {k : Fin 4} {d a : BitVec 4} {imm : BitVec 10} (hs : s.Has K) :
    OutHas K (execSarK k d a imm s) := hs.aluI

theorem State.Has.execRorK {k : Fin 4} {d a : BitVec 4} {imm : BitVec 10} (hs : s.Has K) :
    OutHas K (execRorK k d a imm s) := hs.aluI

theorem State.Has.execWhi {k : Fin 4} {d : BitVec 4} {imm : BitVec 14} (hs : s.Has K) :
    OutHas K (execWhi k d imm s) := hs.aluU

theorem State.Has.execAdh {k : Fin 4} {d : BitVec 4} {imm : BitVec 14} (hs : s.Has K) :
    OutHas K (execAdh k d imm s) := hs.aluU

theorem State.Has.execAddsK {k : Fin 4} {d a : BitVec 4} {imm : BitVec 10} (hs : s.Has K) :
    OutHas K (execAddsK k d a imm s) := hs.aluI

theorem State.Has.execRsbK {k : Fin 4} {d a : BitVec 4} {imm : BitVec 10} (hs : s.Has K) :
    OutHas K (execRsbK k d a imm s) := hs.aluI

theorem State.Has.execExtK {k : Fin 4} {d a : BitVec 4} {imm : BitVec 10} (hs : s.Has K) :
    OutHas K (execExtK k d a imm s) := hs.aluI

theorem State.Has.execHint {k : Fin 4} {rest : BitVec 18} (hs : s.Has K) : OutHas K (execHint k rest s) :=
  hs.coreInstr (·.nextPc)

/-! ### Multiply and divide -/

theorem State.Has.execMul {k : Fin 4} {d a b : BitVec 4} (hs : s.Has K) : OutHas K (execMul k d a b s) := hs.mulR

theorem State.Has.execMulh {k : Fin 4} {d a b : BitVec 4} (hs : s.Has K) : OutHas K (execMulh k d a b s) := hs.mulR

theorem State.Has.execMulhu {k : Fin 4} {d a b : BitVec 4} (hs : s.Has K) : OutHas K (execMulhu k d a b s) := hs.mulR

theorem State.Has.execMull {k : Fin 4} {d a b : BitVec 4} (hs : s.Has K) : OutHas K (execMull k d a b s) := hs.mulPair

theorem State.Has.execMullu {k : Fin 4} {d a b : BitVec 4} (hs : s.Has K) : OutHas K (execMullu k d a b s) :=
  hs.mulPair

theorem State.Has.execDiv {k : Fin 4} {d a b : BitVec 4} (hs : s.Has K) : OutHas K (execDiv k d a b s) := hs.mulR

theorem State.Has.execDivu {k : Fin 4} {d a b : BitVec 4} (hs : s.Has K) : OutHas K (execDivu k d a b s) := hs.mulR

theorem State.Has.execRem {k : Fin 4} {d a b : BitVec 4} (hs : s.Has K) : OutHas K (execRem k d a b s) := hs.mulR

theorem State.Has.execRemu {k : Fin 4} {d a b : BitVec 4} (hs : s.Has K) : OutHas K (execRemu k d a b s) := hs.mulR

theorem State.Has.execMulK {k : Fin 4} {d a : BitVec 4} {imm : BitVec 10} (hs : s.Has K) :
    OutHas K (execMulK k d a imm s) := hs.aluI

theorem State.Has.execDivl {k : Fin 4} {d a b : BitVec 4} (hs : s.Has K) : OutHas K (execDivl k d a b s) := hs.mulPair

theorem State.Has.execDivlu {k : Fin 4} {d a b : BitVec 4} (hs : s.Has K) : OutHas K (execDivlu k d a b s) :=
  hs.mulPair

theorem State.Has.execFmul {k : Fin 4} {d a b : BitVec 4} (hs : s.Has K) : OutHas K (execFmul k d a b s) := hs.mulR

theorem State.Has.execFmult {k : Fin 4} {d a b : BitVec 4} (hs : s.Has K) : OutHas K (execFmult k d a b s) := hs.mulR

theorem State.Has.execMac {k : Fin 4} {d a b : BitVec 4} (hs : s.Has K) : OutHas K (execMac k d a b s) := hs.accI

theorem State.Has.execMsu {k : Fin 4} {d a b : BitVec 4} (hs : s.Has K) : OutHas K (execMsu k d a b s) := hs.accI

theorem State.Has.execMacz {k : Fin 4} {d a b : BitVec 4} (hs : s.Has K) : OutHas K (execMacz k d a b s) := hs.accI

theorem State.Has.execAccr {k : Fin 4} {d a b : BitVec 4} (hs : s.Has K) : OutHas K (execAccr k d a b s) :=
  hs.coreInstr (·.putReg)

theorem State.Has.execAccw {k : Fin 4} {d a b : BitVec 4} (hs : s.Has K) : OutHas K (execAccw k d a b s) := hs.accI

theorem State.Has.execAccsh {k : Fin 4} {d a b : BitVec 4} (hs : s.Has K) : OutHas K (execAccsh k d a b s) := hs.accI

theorem State.Has.execCadd {k : Fin 4} {d a b : BitVec 4} (hs : s.Has K) : OutHas K (execCadd k d a b s) := hs.mulR

theorem State.Has.execCadds {k : Fin 4} {d a b : BitVec 4} (hs : s.Has K) : OutHas K (execCadds k d a b s) := hs.mulR

theorem State.Has.execCsub {k : Fin 4} {d a b : BitVec 4} (hs : s.Has K) : OutHas K (execCsub k d a b s) := hs.mulR

theorem State.Has.execCsubs {k : Fin 4} {d a b : BitVec 4} (hs : s.Has K) : OutHas K (execCsubs k d a b s) := hs.mulR

theorem State.Has.execCconj {k : Fin 4} {d a b : BitVec 4} (hs : s.Has K) : OutHas K (execCconj k d a b s) := hs.mulR

theorem State.Has.execCmul {k : Fin 4} {d a b : BitVec 4} (hs : s.Has K) : OutHas K (execCmul k d a b s) := hs.mulR

/-! ### Branches, jumps and system functions -/

theorem State.Has.execCbEq {k : Fin 4} {a b : BitVec 4} {off : BitVec 10} (hs : s.Has K) :
    OutHas K (execCbEq k a b off s) := hs.branch

theorem State.Has.execCbNe {k : Fin 4} {a b : BitVec 4} {off : BitVec 10} (hs : s.Has K) :
    OutHas K (execCbNe k a b off s) := hs.branch

theorem State.Has.execCbLt {k : Fin 4} {a b : BitVec 4} {off : BitVec 10} (hs : s.Has K) :
    OutHas K (execCbLt k a b off s) := hs.branch

theorem State.Has.execCbGe {k : Fin 4} {a b : BitVec 4} {off : BitVec 10} (hs : s.Has K) :
    OutHas K (execCbGe k a b off s) := hs.branch

theorem State.Has.execCbLtu {k : Fin 4} {a b : BitVec 4} {off : BitVec 10} (hs : s.Has K) :
    OutHas K (execCbLtu k a b off s) := hs.branch

theorem State.Has.execCbGeu {k : Fin 4} {a b : BitVec 4} {off : BitVec 10} (hs : s.Has K) :
    OutHas K (execCbGeu k a b off s) := hs.branch

theorem State.Has.execCbDec {k : Fin 4} {a b : BitVec 4} {off : BitVec 10} (hs : s.Has K) :
    OutHas K (execCbDec k a b off s) := hs.coreInstr fun h => .ite h.setCore.jumpTo h.setCore.nextPc

theorem State.Has.execCbAny {k : Fin 4} {a b : BitVec 4} {off : BitVec 10} (hs : s.Has K) :
    OutHas K (execCbAny k a b off s) := hs.branch

theorem State.Has.execJmp {k : Fin 4} {off : BitVec 18} (hs : s.Has K) : OutHas K (execJmp k off s) :=
  hs.coreInstr (·.jumpTo)

theorem State.Has.execCall {k : Fin 4} {off : BitVec 18} (hs : s.Has K) : OutHas K (execCall k off s) :=
  hs.coreInstr (·.setCore.jumpTo)

theorem State.Has.execJmpr {k : Fin 4} {d a : BitVec 4} {imm : BitVec 10} (hs : s.Has K) :
    OutHas K (execJmpr k d a imm s) := hs.coreInstr (·.jumpTo)

theorem State.Has.execCallr {k : Fin 4} {d a : BitVec 4} {imm : BitVec 10} (hs : s.Has K) :
    OutHas K (execCallr k d a imm s) := hs.coreInstr (·.setCore.jumpTo)

theorem State.Has.execTrap {k : Fin 4} {code : BitVec 12} (hs : s.Has K) : OutHas K (execTrap k code s) :=
  hs.coreInstr (·.raise)

theorem State.Has.execBkpt {k : Fin 4} {code : BitVec 12} (hs : s.Has K) : OutHas K (execBkpt k code s) :=
  hs.coreInstr fun h => .ite h.setBit h.raise

theorem State.Has.execXret {k : Fin 4} {rest : BitVec 12} (hs : s.Has K) : OutHas K (execXret k rest s) :=
  hs.coreInstr (·.setCore.svcPoll)

theorem State.Has.execWait {k : Fin 4} {rest : BitVec 12} (hs : s.Has K) : OutHas K (execWait k rest s) :=
  hs.coreInstr fun h => .ite h.nextPc h.nextPc.setCore

theorem State.Has.execEi {k : Fin 4} {rest : BitVec 12} (hs : s.Has K) : OutHas K (execEi k rest s) :=
  hs.coreInstr (·.setCore.nextPc)

theorem State.Has.execDi {k : Fin 4} {d : BitVec 4} {rest : BitVec 8} (hs : s.Has K) : OutHas K (execDi k d rest s) :=
  hs.coreInstr (·.setCore.putReg)

theorem State.Has.execMfs {k : Fin 4} {d a : BitVec 4} {imm : BitVec 10} (hs : s.Has K) :
    OutHas K (execMfs k d a imm s) :=
  hs.coreInstr fun h => by
    split
    next e1 => exact (h.sysRead.of_eq e1).putReg

theorem State.Has.execMts {k : Fin 4} {d a : BitVec 4} {imm : BitVec 10} (hs : s.Has K) :
    OutHas K (execMts k d a imm s) := hs.coreInstr (·.setCore.nextPc)

/-! ### The flash controller and its service -/

theorem State.Has.execRepairRow {w : Who} {bank row : Word} {verified : Bool} (hs : s.Has K) :
    OutHas K (execRepairRow w bank row verified s) := hs.svcCall (·.repairRow)

theorem State.Has.execFsInfo {w : Who} {g2 : Word} (hs : s.Has K) : OutHas K (execFsInfo w g2 s) :=
  hs.svcCall (·.fsInfo)

theorem State.Has.execFsErase {w : Who} {g2 g3 : Word} (hs : s.Has K) : OutHas K (execFsErase w g2 g3 s) :=
  hs.svcCall (·.fsErase)

theorem State.Has.execFsProgram {w : Who} {g2 g3 g4 : Word} (hs : s.Has K) : OutHas K (execFsProgram w g2 g3 g4 s) :=
  hs.svcCall (·.fsProgram)

theorem State.Has.execFsStatus {w : Who} (hs : s.Has K) : OutHas K (execFsStatus w s) := hs.svcCall (·.fsStatus)

theorem State.Has.execFsSuspend {w : Who} (hs : s.Has K) : OutHas K (execFsSuspend w s) := hs.svcCall (·.fsSuspend)

theorem State.Has.execFsResume {w : Who} (hs : s.Has K) : OutHas K (execFsResume w s) := hs.svcCall (·.fsResume)

theorem State.Has.execFsAbandon {w : Who} (hs : s.Has K) : OutHas K (execFsAbandon w s) := hs.svcCall (·.fsAbandon)

theorem State.Has.execFsRefresh {w : Who} {g2 : Word} (hs : s.Has K) : OutHas K (execFsRefresh w g2 s) :=
  hs.svcCall (·.fsRefresh)

theorem State.Has.execFlashDone (hs : s.Has K) : OutHas K (execFlashDone s) := by
  unfold Machine.execFlashDone
  split
  · split
    exacts [hs.act (·.flashEnd), .next hs]
  · exact .next hs

theorem State.Has.execAutoSuspend (hs : s.Has K) : OutHas K (execAutoSuspend s) := hs.act (·.suspend)

theorem State.Has.execAutoResume (hs : s.Has K) : OutHas K (execAutoResume s) := hs.act (·.unsuspend)

theorem State.Has.execStartHouseCopy (hs : s.Has K) : OutHas K (execStartHouseCopy s) := hs.act (·.bootCheck)

theorem State.Has.execCopyComplete (hs : s.Has K) : OutHas K (execCopyComplete s) := by
  unfold Machine.execCopyComplete
  split
  exacts [hs.act (·.copyEnd), .next hs]

theorem State.Has.execFlashPulseEnd {ok : Bool} (hs : s.Has K) : OutHas K (execFlashPulseEnd ok s) :=
  hs.act (·.pulseEnd)

/-! ### Resets, supplies and the backup domain -/

theorem State.Has.execModeRequest {w : Who} {v : Word} (hs : s.Has K) : OutHas K (execModeRequest w v s) :=
  hs.act (·.pmuReqWrite)

theorem State.Has.execAgentAnswer {agent : Fin 19} {ans : AgentAnswer} {load : BitVec 12} (hs : s.Has K) :
    OutHas K (execAgentAnswer agent ans load s) := hs.act (·.agentAnswer)

theorem State.Has.execAgentDelayExpiry {agent : Fin 19} (hs : s.Has K) : OutHas K (execAgentDelayExpiry agent s) :=
  hs.act (·.delayExpiry)

theorem State.Has.execModeChangeTimeout (hs : s.Has K) : OutHas K (execModeChangeTimeout s) := hs.act (·.cancelChange)

theorem State.Has.execModeCommit (hs : s.Has K) : OutHas K (execModeCommit s) := hs.act (·.modeCommit)

theorem State.Has.execDomainIsolate (hs : s.Has K) : OutHas K (execDomainIsolate s) := hs.act (·.isolate)

theorem State.Has.execModeChangeComplete (hs : s.Has K) : OutHas K (execModeChangeComplete s) := hs.act (·.modeEnter)

theorem State.Has.execWakeSource {code : Octet} (hs : s.Has K) : OutHas K (execWakeSource code s) :=
  hs.wakePinAt.act (·.wakeSource)

theorem State.Has.execWakePinEdge {pin : Fin 4} {rising : Bool} (hs : s.Has K) :
    OutHas K (execWakePinEdge pin rising s) := hs.act (·.wakeEdge)

theorem State.Has.execRegulatorReady (hs : s.Has K) : OutHas K (execRegulatorReady s) := hs.act (·.setPwr)

theorem State.Has.execRegulatorTimeout (hs : s.Has K) : OutHas K (execRegulatorTimeout s) := hs.act (·.regTimeout)

theorem State.Has.execRegRetry (hs : s.Has K) : OutHas K (execRegRetry s) := hs.act (·.regRetry)

theorem State.Has.execXoReady (hs : s.Has K) : OutHas K (execXoReady s) := hs.act (·.xoReady)

theorem State.Has.execXoTimeout (hs : s.Has K) : OutHas K (execXoTimeout s) := hs.act (·.setBit.setPwr)

theorem State.Has.execXoRetry (hs : s.Has K) : OutHas K (execXoRetry s) := hs.act (·.setPwr)

theorem State.Has.execPllLock (hs : s.Has K) : OutHas K (execPllLock s) := hs.act (·.pllLock)

theorem State.Has.execTclkTrimWindow {count : Nat} (hs : s.Has K) : OutHas K (execTclkTrimWindow count s) :=
  hs.act (·.tclkWindow)

theorem State.Has.execPor (hs : s.Has K) : OutHas K (execPor s) := hs.act (·.powerOn)

theorem State.Has.execBrownoutMain (hs : s.Has K) : OutHas K (execBrownoutMain s) := hs.act (·.chipCycle)

theorem State.Has.execBrownoutLp (hs : s.Has K) : OutHas K (execBrownoutLp s) := hs.act (·.chipCycle)

theorem State.Has.execResetPinAssert (hs : s.Has K) : OutHas K (execResetPinAssert s) := hs.act (·.resetPinLow)

theorem State.Has.execResetPinRelease (hs : s.Has K) : OutHas K (execResetPinRelease s) := hs.act (·.setPwr.chipStart)

theorem State.Has.execRstctrlGo {w : Who} {v : Word} (hs : s.Has K) : OutHas K (execRstctrlGo w v s) :=
  hs.act (·.rstctrlWrite)

theorem State.Has.execVmainLoss (hs : s.Has K) : OutHas K (execVmainLoss s) := hs.act (·.vmainLoss)

theorem State.Has.execSupplySwitch {cell : Bool} (hs : s.Has K) : OutHas K (execSupplySwitch cell s) :=
  hs.act (·.setBit)

theorem State.Has.execBackupReset (hs : s.Has K) : OutHas K (execBackupReset s) := hs.act (·.backupReset)

theorem State.Has.execRtcTick (hs : s.Has K) : OutHas K (execRtcTick s) := hs.act (·.rtcTick)

theorem State.Has.execRtcAlarm {k : Fin 2} (hs : s.Has K) : OutHas K (execRtcAlarm k s) := hs.act (·.almTick)

theorem State.Has.execAdjgo {w : Who} {v : Word} (hs : s.Has K) : OutHas K (execAdjgo w v s) :=
  hs.act (·.rtcCtrlWrite)

theorem State.Has.execRtcTrimWindow (hs : s.Has K) : OutHas K (execRtcTrimWindow s) := hs.act (·.trimWindow)

theorem State.Has.execTapInstructionLoad {ir : Octet} (hs : s.Has K) : OutHas K (execTapInstructionLoad ir s) :=
  hs.act (·.tapLoad)

theorem State.Has.execTapReset (hs : s.Has K) : OutHas K (execTapReset s) := hs.act (·.tapLoad)

theorem State.Has.execVioLoss {second : Bool} (hs : s.Has K) : OutHas K (execVioLoss second s) := hs.act (·.vioLoss)

theorem State.Has.execVioReturn {second : Bool} (hs : s.Has K) : OutHas K (execVioReturn second s) :=
  hs.act (·.vioReturn)

theorem State.Has.execReferenceFailure (hs : s.Has K) : OutHas K (execReferenceFailure s) :=
  hs.act (·.referenceFailure)

theorem State.Has.execLfOscillatorReady (hs : s.Has K) : OutHas K (execLfOscillatorReady s) := hs.act (·.setBit)

/-! ### How a command starts and ends -/

theorem State.Has.execAbort {t : Transport} {tag : Octet} (hs : s.Has K) : OutHas K (execAbort t tag s) := by
  unfold Machine.execAbort
  split
  exacts [hs.act (·.abortBody), .next hs]

/-! ### System and mesh-time commands -/

theorem State.Has.execPing {t : Transport} {tag : Octet} (hs : s.Has K) : OutHas K (execPing t tag s) :=
  hs.command (·.pingBody)

theorem State.Has.execGetInfo {t : Transport} {tag : Octet} (hs : s.Has K) : OutHas K (execGetInfo t tag s) :=
  hs.command (·.getInfoBody)

theorem State.Has.execResetDomain {t : Transport} {tag : Octet} (hs : s.Has K) : OutHas K (execResetDomain t tag s) :=
  hs.command (·.resetDomainBody)

theorem State.Has.execGetResetCause {t : Transport} {tag : Octet} (hs : s.Has K) :
    OutHas K (execGetResetCause t tag s) := hs.command (·.getCauseBody)

theorem State.Has.execSetMode {t : Transport} {tag : Octet} (hs : s.Has K) : OutHas K (execSetMode t tag s) :=
  hs.command (·.setModeBody)

theorem State.Has.execGetMode {t : Transport} {tag : Octet} (hs : s.Has K) : OutHas K (execGetMode t tag s) :=
  hs.command (·.getModeBody)

theorem State.Has.execGetWakeRecord {t : Transport} {tag : Octet} (hs : s.Has K) :
    OutHas K (execGetWakeRecord t tag s) := hs.command (·.wakeRecordBody)

theorem State.Has.execMtGet {t : Transport} {tag : Octet} (hs : s.Has K) : OutHas K (execMtGet t tag s) :=
  hs.command (·.mtGetBody)

theorem State.Has.execMtStep {t : Transport} {tag : Octet} (hs : s.Has K) : OutHas K (execMtStep t tag s) :=
  hs.command (·.mtStepBody)

theorem State.Has.execMtSlew {t : Transport} {tag : Octet} (hs : s.Has K) : OutHas K (execMtSlew t tag s) :=
  hs.command (·.mtSlewBody)

theorem State.Has.execMtSource {t : Transport} {tag : Octet} (hs : s.Has K) : OutHas K (execMtSource t tag s) :=
  hs.command (·.sourceBody)

theorem State.Has.execMtStatus {t : Transport} {tag : Octet} (hs : s.Has K) : OutHas K (execMtStatus t tag s) :=
  hs.command (·.mtStatusBody)

/-! ### Radio commands -/

theorem State.Has.execRadioConfig {t : Transport} {tag : Octet} (hs : s.Has K) : OutHas K (execRadioConfig t tag s) :=
  hs.command (·.radioConfigBody)

theorem State.Has.execTune {t : Transport} {tag : Octet} (hs : s.Has K) : OutHas K (execTune t tag s) :=
  hs.command (·.tuneBody)

theorem State.Has.execCalibrate {t : Transport} {tag : Octet} (hs : s.Has K) : OutHas K (execCalibrate t tag s) :=
  hs.command (·.calibrateBody)

theorem State.Has.execSetCalPolicy {t : Transport} {tag : Octet} (hs : s.Has K) :
    OutHas K (execSetCalPolicy t tag s) := hs.command (·.calPolicyBody)

theorem State.Has.execSetTxPower {t : Transport} {tag : Octet} (hs : s.Has K) : OutHas K (execSetTxPower t tag s) :=
  hs.command (·.setTxPowerBody)

theorem State.Has.execLoadPowerCurve {t : Transport} {tag : Octet} (hs : s.Has K) :
    OutHas K (execLoadPowerCurve t tag s) := hs.command (·.powerCurveBody)

theorem State.Has.execLaneAssign {t : Transport} {tag : Octet} (hs : s.Has K) : OutHas K (execLaneAssign t tag s) :=
  hs.command (·.laneAssignBody)

theorem State.Has.execLaneRelease {t : Transport} {tag : Octet} (hs : s.Has K) : OutHas K (execLaneRelease t tag s) :=
  hs.command (·.laneReleaseBody)

theorem State.Has.execTxFrame {t : Transport} {tag : Octet} (hs : s.Has K) : OutHas K (execTxFrame t tag s) :=
  hs.command (·.txFrameBody)

theorem State.Has.execMeasureChannel {t : Transport} {tag : Octet} (hs : s.Has K) :
    OutHas K (execMeasureChannel t tag s) := hs.command (·.measureBody)

theorem State.Has.execMeasureDone {t : Transport} {tag mean peak share : Octet} (hs : s.Has K) :
    OutHas K (execMeasureDone t tag mean peak share s) := by
  unfold Machine.execMeasureDone
  split
  exacts [hs.act (·.freeLane.finishTag), .next hs]

theorem State.Has.execSound {t : Transport} {tag : Octet} (hs : s.Has K) : OutHas K (execSound t tag s) :=
  hs.command (·.soundBody)

/-! ### Commands over tables -/

theorem State.Has.execGateWrite {t : Transport} {tag : Octet} (hs : s.Has K) : OutHas K (execGateWrite t tag s) :=
  hs.command (·.gateWriteBody)

theorem State.Has.execGateRead {t : Transport} {tag : Octet} (hs : s.Has K) : OutHas K (execGateRead t tag s) :=
  hs.command (·.gateReadBody)

theorem State.Has.execCourseConfig {t : Transport} {tag : Octet} (hs : s.Has K) :
    OutHas K (execCourseConfig t tag s) := hs.command (·.courseConfigBody)

theorem State.Has.execCourseStart {t : Transport} {tag : Octet} (hs : s.Has K) : OutHas K (execCourseStart t tag s) :=
  hs.command (·.courseStartBody)

theorem State.Has.execCourseStop {t : Transport} {tag : Octet} (hs : s.Has K) : OutHas K (execCourseStop t tag s) :=
  hs.command (·.courseStopBody)

theorem State.Has.execHopseqWrite {t : Transport} {tag : Octet} (hs : s.Has K) : OutHas K (execHopseqWrite t tag s) :=
  hs.command (·.hopseqBody)

theorem State.Has.execNbrRead {t : Transport} {tag : Octet} (hs : s.Has K) : OutHas K (execNbrRead t tag s) :=
  hs.command (·.nbrReadBody)

theorem State.Has.execNbrWrite {t : Transport} {tag : Octet} (hs : s.Has K) : OutHas K (execNbrWrite t tag s) :=
  hs.command (·.nbrWriteBody)

theorem State.Has.execNbrEvict {t : Transport} {tag : Octet} (hs : s.Has K) : OutHas K (execNbrEvict t tag s) :=
  hs.command (·.nbrEvictBody)

theorem State.Has.execRouteWrite {t : Transport} {tag : Octet} (hs : s.Has K) : OutHas K (execRouteWrite t tag s) :=
  hs.command (·.routeWriteBody)

theorem State.Has.execRouteRead {t : Transport} {tag : Octet} (hs : s.Has K) : OutHas K (execRouteRead t tag s) :=
  hs.command (·.routeReadBody)

theorem State.Has.execTonemapWrite {t : Transport} {tag : Octet} (hs : s.Has K) :
    OutHas K (execTonemapWrite t tag s) := hs.command (·.tonemapWriteBody)

theorem State.Has.execTonemapRead {t : Transport} {tag : Octet} (hs : s.Has K) : OutHas K (execTonemapRead t tag s) :=
  hs.command (·.tonemapReadBody)

theorem State.Has.execKeyLoad {t : Transport} {tag : Octet} (hs : s.Has K) : OutHas K (execKeyLoad t tag s) :=
  hs.command (·.keyLoadBody)

theorem State.Has.execKeySelect {t : Transport} {tag : Octet} (hs : s.Has K) : OutHas K (execKeySelect t tag s) :=
  hs.command (·.keySelectBody)

theorem State.Has.execSecStatus {t : Transport} {tag : Octet} (hs : s.Has K) : OutHas K (execSecStatus t tag s) :=
  hs.command (·.secStatusBody)

theorem State.Has.execWindowDefine {t : Transport} {tag : Octet} (hs : s.Has K) :
    OutHas K (execWindowDefine t tag s) := hs.command (·.windowDefineBody)

theorem State.Has.execWindowClose {t : Transport} {tag : Octet} (hs : s.Has K) : OutHas K (execWindowClose t tag s) :=
  hs.command (·.windowCloseBody)

theorem State.Has.execWindowOp {t : Transport} {tag : Octet} (hs : s.Has K) : OutHas K (execWindowOp t tag s) :=
  hs.command (·.windowOpBody)

/-! ### The link supervisor -/

theorem State.Has.execHeartbeat {c : Bool} {v : Word} (hs : s.Has K) : OutHas K (execHeartbeat c v s) :=
  hs.act (·.heartbeat)

theorem State.Has.execSupervisorTimeout {c : Bool} (hs : s.Has K) : OutHas K (execSupervisorTimeout c s) :=
  hs.act (·.supervisorTimeout)

theorem State.Has.execSwapgo {w : Who} {v : Word} (hs : s.Has K) : OutHas K (execSwapgo w v s) :=
  hs.act (·.lsupCtrlWrite)

theorem State.Has.execStandbyLoad {w : Who} {v : Word} (hs : s.Has K) : OutHas K (execStandbyLoad w v s) :=
  hs.act (·.stbycmdWrite)

theorem State.Has.execStandbyReady (hs : s.Has K) : OutHas K (execStandbyReady s) := by
  unfold Machine.execStandbyReady
  split
  exacts [hs.act (·.standbyReady), .next hs]

theorem State.Has.execBankswapGo {w : Who} {v : Word} (hs : s.Has K) : OutHas K (execBankswapGo w v s) :=
  hs.act (·.bankswapWrite)

theorem State.Has.execBankswapCancel {w : Who} {v : Word} (hs : s.Has K) : OutHas K (execBankswapCancel w v s) :=
  hs.act (·.bankswapWrite)

/-! ### Staging commands -/

theorem State.Has.execStageBegin {t : Transport} {tag : Octet} (hs : s.Has K) : OutHas K (execStageBegin t tag s) :=
  hs.command (·.stageBeginBody)

theorem State.Has.execStageWrite {t : Transport} {tag : Octet} (hs : s.Has K) : OutHas K (execStageWrite t tag s) :=
  hs.command (·.stageWriteBody)

theorem State.Has.execStageCommit {t : Transport} {tag : Octet} (hs : s.Has K) : OutHas K (execStageCommit t tag s) :=
  hs.command (·.stageCommitBody)

theorem State.Has.execStageStatus {t : Transport} {tag : Octet} (hs : s.Has K) : OutHas K (execStageStatus t tag s) :=
  hs.command (·.stageStatusBody)

theorem State.Has.execLinkfwLoad {t : Transport} {tag : Octet} (hs : s.Has K) : OutHas K (execLinkfwLoad t tag s) :=
  hs.command (·.linkfwLoadBody)

theorem State.Has.execLinkfwSwap {t : Transport} {tag : Octet} (hs : s.Has K) : OutHas K (execLinkfwSwap t tag s) :=
  hs.command (·.linkfwSwapBody)

theorem State.Has.execTableBankSwap {t : Transport} {tag : Octet} (hs : s.Has K) :
    OutHas K (execTableBankSwap t tag s) := hs.command (·.tableSwapBody)

theorem State.Has.execSelftest {t : Transport} {tag : Octet} (hs : s.Has K) : OutHas K (execSelftest t tag s) :=
  hs.command (·.selftestBody)

theorem State.Has.execClearCounters {t : Transport} {tag : Octet} (hs : s.Has K) :
    OutHas K (execClearCounters t tag s) := hs.command (·.clearCountersBody)

theorem State.Has.execEcho {t : Transport} {tag : Octet} (hs : s.Has K) : OutHas K (execEcho t tag s) :=
  hs.command (·.echoBody)

/-! ### DMA control -/

theorem State.Has.execChannelStart {w : Who} {n : Fin 32} {v : Word} (hs : s.Has K) :
    OutHas K (execChannelStart w n v s) := hs.act (·.chctrlWrite)

theorem State.Has.execChannelStop {w : Who} {n : Fin 32} {v : Word} (hs : s.Has K) :
    OutHas K (execChannelStop w n v s) := hs.act (·.chctrlWrite)

theorem State.Has.execSwtrig {w : Who} {n : Fin 32} {v : Word} (hs : s.Has K) : OutHas K (execSwtrig w n v s) :=
  hs.act (·.chctrlWrite)

theorem State.Has.execClrpend {w : Who} {n : Fin 32} {v : Word} (hs : s.Has K) : OutHas K (execClrpend w n v s) :=
  hs.act (·.chctrlWrite)

/-! ### The bus -/

theorem State.Has.execCoreOffline {w : Who} {k : Fin 4} (hs : s.Has K) : OutHas K (execCoreOffline w k s) :=
  hs.act (·.corectlWrite)

theorem State.Has.execCoreRestart {w : Who} {k : Fin 4} (hs : s.Has K) : OutHas K (execCoreRestart w k s) :=
  hs.act (·.corectlWrite)

theorem State.Has.execWatchdogKick {w : Who} {k : Fin 4} {v : Word} (hs : s.Has K) :
    OutHas K (execWatchdogKick w k v s) := hs.act (·.wdKick)

theorem State.Has.execWatchdogExpire {k : Fin 4} (hs : s.Has K) : OutHas K (execWatchdogExpire k s) :=
  hs.act (·.setFld.wdExpire)

theorem State.Has.execDebugHalt {v : Word} (hs : s.Has K) : OutHas K (execDebugHalt v s) := hs.act (·.dbgHalt)

theorem State.Has.execDebugStep {v : Word} (hs : s.Has K) : OutHas K (execDebugStep v s) := hs.act (·.dbgStep)

theorem State.Has.execDebugResume {v : Word} (hs : s.Has K) : OutHas K (execDebugResume v s) := hs.act (·.dbgResume)

theorem State.Has.execLhalt {c : Bool} (hs : s.Has K) : OutHas K (execLhalt c s) := hs.act (·.lhaltWrite)

theorem State.Has.execDbgaccUpdate {dr : BitVec 50} (hs : s.Has K) : OutHas K (execDbgaccUpdate dr s) :=
  hs.act (·.dbgUpdate)

theorem State.Has.execDebugLevelWrite {v : Word} (hs : s.Has K) : OutHas K (execDebugLevelWrite v s) :=
  hs.act (·.dbgLevelWrite)

theorem State.Has.execRegisterWrite {w : Who} {a v : Word} (hs : s.Has K) : OutHas K (execRegisterWrite w a v s) :=
  hs.act (·.regWrite)

/-! ### GET_COUNTERS -/

theorem State.Has.execGetCounters {t : Transport} {tag : Octet} (hs : s.Has K) : OutHas K (execGetCounters t tag s) :=
  hs.command (·.getCountersBody)

/-! ### Transports -/

theorem State.Has.execSpiWrite {p : List Octet} (hs : s.Has K) : OutHas K (execSpiWrite p s) :=
  hs.act fun h => h.spiTalk (·.spiWrite)

theorem State.Has.execSpiRead {n : Nat} (hs : s.Has K) : OutHas K (execSpiRead n s) :=
  hs.act fun h => h.spiTalk (·.spiRead)

theorem State.Has.execSpiStatus {op : Octet} {n : Nat} (hs : s.Has K) : OutHas K (execSpiStatus op n s) :=
  hs.act fun h => h.spiTalk (·.spiStatus)

theorem State.Has.execSpiRepeat {n : Nat} (hs : s.Has K) : OutHas K (execSpiRepeat n s) :=
  hs.act fun h => h.spiTalk (·.spiRepeat)

theorem State.Has.execUartPacket {p : List Octet} (hs : s.Has K) : OutHas K (execUartPacket p s) :=
  hs.act (·.sayReset.uartPacket)

theorem State.Has.execUartGapTimeout (hs : s.Has K) : OutHas K (execUartGapTimeout s) := hs.act (·.uartHunt.tCount)

theorem State.Has.execUartReplySent (hs : s.Has K) : OutHas K (execUartReplySent s) := hs.act (·.sayReset.uartReply)

theorem State.Has.execMailboxPost {w : Who} {k : Fin 4} {v : Word} (hs : s.Has K) :
    OutHas K (execMailboxPost w k v s) := hs.act (·.sayReset.mailboxPost)

theorem State.Has.execMailboxCopyDone {k : Fin 4} (hs : s.Has K) : OutHas K (execMailboxCopyDone k s) := by
  unfold Machine.execMailboxCopyDone
  split
  exacts [hs.act (·.mailboxCopy), .next hs]

theorem State.Has.execMailboxReplyWrite {k : Fin 4} (hs : s.Has K) : OutHas K (execMailboxReplyWrite k s) :=
  hs.act (·.sayReset.mailboxReply)

theorem State.Has.execDeferredResetStart (hs : s.Has K) : OutHas K (execDeferredResetStart s) :=
  hs.act (·.deferredStart)

theorem State.Has.execTakeoverResume {dur : BitVec 16} (hs : s.Has K) : OutHas K (execTakeoverResume dur s) := by
  unfold Machine.execTakeoverResume
  split
  exacts [hs.act (·.takeoverResume), .next hs]

theorem State.Has.execUartSyncOctet (hs : s.Has K) : OutHas K (execUartSyncOctet s) := hs.act (·.sayReset.uartSync)

theorem State.Has.execHostCtsNChange {low : Bool} (hs : s.Has K) : OutHas K (execHostCtsNChange low s) :=
  hs.act (·.ctsChange)

/-! ### DMA programs -/

theorem State.Has.execRwRead {c0 : Bool} (hs : s.Has K) : OutHas K (execRwRead c0 s) :=
  hs.act fun h => h.rwinTurn.serve (·.goRead)

theorem State.Has.execRwWrite {c0 : Bool} (hs : s.Has K) : OutHas K (execRwWrite c0 s) :=
  hs.act fun h => h.rwinTurn.serve (·.goWrite)

theorem State.Has.execRwAdd {c0 : Bool} (hs : s.Has K) : OutHas K (execRwAdd c0 s) :=
  hs.act fun h => h.rwinTurn.serve (·.goAdd)

theorem State.Has.execRwSwap {c0 : Bool} (hs : s.Has K) : OutHas K (execRwSwap c0 s) :=
  hs.act fun h => h.rwinTurn.serve (·.goSwap)

theorem State.Has.execDmaMove {n : Fin 32} (hs : s.Has K) : OutHas K (execDmaMove n s) :=
  hs.act fun h => h.dmaInstr (·.dmaMove)

theorem State.Has.execDmaLoop {n : Fin 32} (hs : s.Has K) : OutHas K (execDmaLoop n s) :=
  hs.act fun h => h.dmaInstr (·.dmaLoop)

theorem State.Has.execDmaWait {n : Fin 32} (hs : s.Has K) : OutHas K (execDmaWait n s) :=
  hs.act fun h => h.dmaInstr (·.dmaWait)

theorem State.Has.execDmaWaitEnd {n : Fin 32} (hs : s.Has K) : OutHas K (execDmaWaitEnd n s) := hs.act (·.dmaGoOn)

theorem State.Has.execDmaTimeout {n : Fin 32} (hs : s.Has K) : OutHas K (execDmaTimeout n s) := hs.act (·.dmaTimeout)

theorem State.Has.execDmaSignal {n : Fin 32} (hs : s.Has K) : OutHas K (execDmaSignal n s) :=
  hs.act fun h => h.dmaInstr (·.dmaSignal)

theorem State.Has.execDmaQpop {n : Fin 32} (hs : s.Has K) : OutHas K (execDmaQpop n s) :=
  hs.act fun h => h.dmaInstr (·.dmaQpop)

theorem State.Has.execDmaQpush {n : Fin 32} (hs : s.Has K) : OutHas K (execDmaQpush n s) :=
  hs.act fun h => h.dmaInstr (·.dmaQpush)

theorem State.Has.execDmaSync {n : Fin 32} (hs : s.Has K) : OutHas K (execDmaSync n s) :=
  hs.act fun h => h.dmaInstr (·.dmaSync)

theorem State.Has.execDmaSyncDone {n : Fin 32} (hs : s.Has K) : OutHas K (execDmaSyncDone n s) :=
  hs.act (·.dmaSyncDone)

theorem State.Has.execDmaEnd {n : Fin 32} (hs : s.Has K) : OutHas K (execDmaEnd n s) :=
  hs.act fun h => h.dmaInstr (·.dmaEnd)

theorem State.Has.execDmaBurst {n : Fin 32} {at_ : BurstTime} (hs : s.Has K) : OutHas K (execDmaBurst n at_ s) :=
  hs.act (·.dmaBurst)

theorem State.Has.execChannelStopped {n : Fin 32} (hs : s.Has K) : OutHas K (execChannelStopped n s) :=
  hs.act (·.dmaStopped)

/-! ### Data accesses of the application cores -/

theorem State.Has.execInterruptTake {k : Fin 4} (hs : s.Has K) : OutHas K (execInterruptTake k s) := by
  unfold Machine.execInterruptTake
  split
  exacts [hs.act (·.takeInput), .next hs]

theorem State.Has.execLdw {k : Fin 4} {d a : BitVec 4} {imm : BitVec 10} (hs : s.Has K) :
    OutHas K (execLdw k d a imm s) :=
  hs.memInstr fun h => by
    split
    · next e1 => exact (h.dRead.of_eq' e1).eccData
    · next e1 => exact (h.dRead.of_eq' e1).putReg

theorem State.Has.execStw {k : Fin 4} {d a : BitVec 4} {imm : BitVec 10} (hs : s.Has K) :
    OutHas K (execStw k d a imm s) := hs.coreInstr (·.storeWords)

theorem State.Has.execLdo {k : Fin 4} {d a : BitVec 4} {imm : BitVec 10} (hs : s.Has K) :
    OutHas K (execLdo k d a imm s) := hs.memInstr (·.loadOctet)

theorem State.Has.execLdos {k : Fin 4} {d a : BitVec 4} {imm : BitVec 10} (hs : s.Has K) :
    OutHas K (execLdos k d a imm s) := hs.memInstr (·.loadOctet)

theorem State.Has.execSto {k : Fin 4} {d a : BitVec 4} {imm : BitVec 10} (hs : s.Has K) :
    OutHas K (execSto k d a imm s) := hs.coreInstr fun h => h.watchWrite.makeRooms.eccOr (·.nextPc.rawWriteOctet)

theorem State.Has.execLdp {k : Fin 4} {d a : BitVec 4} {imm : BitVec 10} (hs : s.Has K) :
    OutHas K (execLdp k d a imm s) :=
  hs.memInstr fun h => by
    split
    · next e1 => exact (h.dReads.of_eq' e1).eccData
    · next e1 => exact (h.dReads.of_eq' e1).setCore.nextPc

theorem State.Has.execStp {k : Fin 4} {d a : BitVec 4} {imm : BitVec 10} (hs : s.Has K) :
    OutHas K (execStp k d a imm s) := hs.coreInstr (·.storeWords)

theorem State.Has.execSwp {k : Fin 4} {d a : BitVec 4} {imm : BitVec 10} (hs : s.Has K) :
    OutHas K (execSwp k d a imm s) := hs.memInstr (·.swap)

theorem State.Has.execFence {k : Fin 4} {rest : BitVec 12} (hs : s.Has K) : OutHas K (execFence k rest s) :=
  hs.coreInstr (·.drainAll.nextPc)

theorem State.Has.execIline {k : Fin 4} {a : BitVec 4} {imm : BitVec 10} (hs : s.Has K) :
    OutHas K (execIline k a imm s) := hs.lineOp (·.setCore)

theorem State.Has.execDclean {k : Fin 4} {a : BitVec 4} {imm : BitVec 10} (hs : s.Has K) :
    OutHas K (execDclean k a imm s) := hs.cleanOp (·.cleanLine)

theorem State.Has.execDflush {k : Fin 4} {a : BitVec 4} {imm : BitVec 10} (hs : s.Has K) :
    OutHas K (execDflush k a imm s) := hs.cleanOp (·.flushLine)

theorem State.Has.execDinv {k : Fin 4} {a : BitVec 4} {imm : BitVec 10} (hs : s.Has K) :
    OutHas K (execDinv k a imm s) := hs.lineOp (·.dropLine)

theorem State.Has.execIall {k : Fin 4} {a : BitVec 4} {imm : BitVec 10} (hs : s.Has K) :
    OutHas K (execIall k a imm s) := hs.cacheOp (·.setCore)

theorem State.Has.execDcleanall {k : Fin 4} {a : BitVec 4} {imm : BitVec 10} (hs : s.Has K) :
    OutHas K (execDcleanall k a imm s) := hs.coreInstr fun h => h.cleanCore.eccOr (·.nextPc)

theorem State.Has.execDflushall {k : Fin 4} {a : BitVec 4} {imm : BitVec 10} (hs : s.Has K) :
    OutHas K (execDflushall k a imm s) := hs.coreInstr fun h => h.cleanCore.eccOr (·.dropAll.nextPc)

theorem State.Has.execDinvall {k : Fin 4} {a : BitVec 4} {imm : BitVec 10} (hs : s.Has K) :
    OutHas K (execDinvall k a imm s) := hs.cacheOp (·.dropAll)

theorem State.Has.execFcinv {k : Fin 4} {a : BitVec 4} {imm : BitVec 10} (hs : s.Has K) :
    OutHas K (execFcinv k a imm s) := hs.cacheOp (·.setFlash)

/-! ### The coprocessors -/

theorem State.Has.execAeskey {k : Fin 4} {d a b : BitVec 4} (hs : s.Has K) : OutHas K (execAeskey k d a b s) :=
  hs.memInstr fun h => h.withOctets (·.setCore.nextPc)

theorem State.Has.execAesenc {k : Fin 4} {d a b : BitVec 4} (hs : s.Has K) : OutHas K (execAesenc k d a b s) :=
  hs.memInstr fun h => h.withOctets (·.storeWords)

theorem State.Has.execAesdec {k : Fin 4} {d a b : BitVec 4} (hs : s.Has K) : OutHas K (execAesdec k d a b s) :=
  hs.memInstr fun h => h.withOctets (·.storeWords)

theorem State.Has.execShainit {k : Fin 4} {d a b : BitVec 4} (hs : s.Has K) : OutHas K (execShainit k d a b s) :=
  hs.coreInstr (·.setCore.nextPc)

theorem State.Has.execShablk {k : Fin 4} {d a b : BitVec 4} (hs : s.Has K) : OutHas K (execShablk k d a b s) :=
  hs.memInstr fun h => h.withOctets (·.setCore.nextPc)

theorem State.Has.execShaout {k : Fin 4} {d a b : BitVec 4} (hs : s.Has K) : OutHas K (execShaout k d a b s) :=
  hs.coreInstr (·.storeWords)

theorem State.Has.execModsel {k : Fin 4} {d a b : BitVec 4} (hs : s.Has K) : OutHas K (execModsel k d a b s) :=
  hs.coreInstr (·.setCore.nextPc)

theorem State.Has.execModmul {k : Fin 4} {d a b : BitVec 4} (hs : s.Has K) : OutHas K (execModmul k d a b s) :=
  hs.memInstr (·.modOp)

theorem State.Has.execModadd {k : Fin 4} {d a b : BitVec 4} (hs : s.Has K) : OutHas K (execModadd k d a b s) :=
  hs.memInstr (·.modOp)

theorem State.Has.execModsub {k : Fin 4} {d a b : BitVec 4} (hs : s.Has K) : OutHas K (execModsub k d a b s) :=
  hs.memInstr (·.modOp)

theorem State.Has.execRand {k : Fin 4} {d a b : BitVec 4} (hs : s.Has K) : OutHas K (execRand k d a b s) :=
  hs.coreInstr (·.drawn.putReg)

theorem State.Has.execVsetl {k : Fin 4} {d a b : BitVec 4} (hs : s.Has K) : OutHas K (execVsetl k d a b s) :=
  hs.coreInstr (·.setCore.nextPc)

theorem State.Has.execVadd {k : Fin 4} {d a b : BitVec 4} (hs : s.Has K) : OutHas K (execVadd k d a b s) :=
  hs.memInstr (·.vecOp)

theorem State.Has.execVsub {k : Fin 4} {d a b : BitVec 4} (hs : s.Has K) : OutHas K (execVsub k d a b s) :=
  hs.memInstr (·.vecOp)

theorem State.Has.execVmul {k : Fin 4} {d a b : BitVec 4} (hs : s.Has K) : OutHas K (execVmul k d a b s) :=
  hs.memInstr (·.vecOp)

theorem State.Has.execVmulc {k : Fin 4} {d a b : BitVec 4} (hs : s.Has K) : OutHas K (execVmulc k d a b s) :=
  hs.memInstr (·.vecOp)

theorem State.Has.execVscale {k : Fin 4} {d a b : BitVec 4} (hs : s.Has K) : OutHas K (execVscale k d a b s) :=
  hs.memInstr (·.vecOp)

theorem State.Has.execVpow {k : Fin 4} {d a b : BitVec 4} (hs : s.Has K) : OutHas K (execVpow k d a b s) :=
  hs.memInstr (·.vecOp)

theorem State.Has.execVdot {k : Fin 4} {d a b : BitVec 4} (hs : s.Has K) : OutHas K (execVdot k d a b s) :=
  hs.memInstr (·.vecDot)

theorem State.Has.execVfft {k : Fin 4} {d a b : BitVec 4} (hs : s.Has K) : OutHas K (execVfft k d a b s) :=
  hs.memInstr (·.vecFft)

theorem State.Has.execVifft {k : Fin 4} {d a b : BitVec 4} (hs : s.Has K) : OutHas K (execVifft k d a b s) :=
  hs.memInstr (·.vecFft)

/-! ## Every command, and the step -/

/-- No command takes from a state what lasts; the meaning of each is a lemma above. -/
theorem State.Has.exec {c : Instr} (hs : s.Has K) : OutHas K (exec c s) := by
  cases c with
  | mtTick => exact hs.execMtTick
  | lfTick => exact hs.execLfTick
  | readMtNow0 => exact hs.execReadMtNow0
  | mtCtrlStep => exact hs.execMtCtrlStep
  | mtStepApply => exact hs.execMtStepApply
  | slewStart => exact hs.execSlewStart
  | slewstop => exact hs.execSlewstop
  | mtSlewDone => exact hs.execMtSlewDone
  | mtRateCommit => exact hs.execMtRateCommit
  | mtUsetWrite => exact hs.execMtUsetWrite
  | mtUalarmWrite => exact hs.execMtUalarmWrite
  | lfWindowEnd => exact hs.execLfWindowEnd
  | bridgeEnter => exact hs.execBridgeEnter
  | bridgeExit => exact hs.execBridgeExit
  | armCompare => exact hs.execArmCompare
  | compareDisarm => exact hs.execCompareDisarm
  | compareMatch => exact hs.execCompareMatch
  | ppsPulseEnd => exact hs.execPpsPulseEnd
  | captureEvent => exact hs.execCaptureEvent
  | readCapture => exact hs.execReadCapture
  | disciplineSample => exact hs.execDisciplineSample
  | sourceLost => exact hs.execSourceLost
  | ptpEventStamp => exact hs.execPtpEventStamp
  | courseRunWrite => exact hs.execCourseRunWrite
  | courseStopWrite => exact hs.execCourseStopWrite
  | courseStopnow => exact hs.execCourseStopnow
  | courseBoundary => exact hs.execCourseBoundary
  | gateCommit => exact hs.execGateCommit
  | guardEvaluation => exact hs.execGuardEvaluation
  | gatePretune => exact hs.execGatePretune
  | rxListen => exact hs.execRxListen
  | rxExpect => exact hs.execRxExpect
  | rxSound => exact hs.execRxSound
  | txQueue => exact hs.execTxQueue
  | txBeacon => exact hs.execTxBeacon
  | txSound => exact hs.execTxSound
  | emitEvent => exact hs.execEmitEvent
  | gateWinEnd => exact hs.execGateWinEnd
  | gateTune => exact hs.execGateTune
  | gateCalibrate => exact hs.execGateCalibrate
  | wakeApp => exact hs.execWakeApp
  | rxWindowClose => exact hs.execRxWindowClose
  | ackWaitEnd => exact hs.execAckWaitEnd
  | synthLock => exact hs.execSynthLock
  | synthColdFallback => exact hs.execSynthColdFallback
  | calCommit => exact hs.execCalCommit
  | calSliceStart => exact hs.execCalSliceStart
  | calSliceDone => exact hs.execCalSliceDone
  | fullCalStart => exact hs.execFullCalStart
  | fullCalDone => exact hs.execFullCalDone
  | calstop => exact hs.execCalstop
  | calageTick => exact hs.execCalageTick
  | sensorRefresh => exact hs.execSensorRefresh
  | txRampUp => exact hs.execTxRampUp
  | txLate => exact hs.execTxLate
  | txEnd => exact hs.execTxEnd
  | blankEnd => exact hs.execBlankEnd
  | txHalt w band v => exact hs.execTxHalt (v := v)
  | ccaDone => exact hs.execCcaDone
  | offminEnd => exact hs.execOffminEnd
  | bucketEntry => exact hs.execBucketEntry
  | pathAgcWindow => exact hs.execPathAgcWindow
  | gainApply => exact hs.execGainApply
  | preambleDetect => exact hs.execPreambleDetect
  | headerDecode => exact hs.execHeaderDecode
  | codewordDecode => exact hs.execCodewordDecode
  | frameEnd => exact hs.execFrameEnd
  | laneOosWrite => exact hs.execLaneOosWrite
  | spanApply => exact hs.execSpanApply
  | frameAccept => exact hs.execFrameAccept
  | ackTransmit => exact hs.execAckTransmit
  | keyLoadCommit => exact hs.execKeyLoadCommit
  | keyClear => exact hs.execKeyClear
  | keyWalkDone => exact hs.execKeyWalkDone
  | txctrCommit => exact hs.execTxctrCommit
  | txlimCommit => exact hs.execTxlimCommit
  | nbrCommit => exact hs.execNbrCommit
  | heardRefresh => exact hs.execHeardRefresh
  | tonemapCompute => exact hs.execTonemapCompute
  | tonemapFeedback => exact hs.execTonemapFeedback
  | soundingPolicyTick => exact hs.execSoundingPolicyTick
  | fwdProcess => exact hs.execFwdProcess
  | routeCommit => exact hs.execRouteCommit
  | queuePush => exact hs.execQueuePush
  | queuePushhead => exact hs.execQueuePushhead
  | queuePop => exact hs.execQueuePop
  | queuePeek => exact hs.execQueuePeek
  | queueClassWrite => exact hs.execQueueClassWrite
  | freebuf => exact hs.execFreebuf
  | alloc => exact hs.execAlloc
  | qmTimeout => exact hs.execQmTimeout
  | rwinRequest => exact hs.execRwinRequest
  | rwRead => exact hs.execRwRead
  | rwWrite => exact hs.execRwWrite
  | rwAdd => exact hs.execRwAdd
  | rwSwap => exact hs.execRwSwap
  | rwinReadbackDone => exact hs.execRwinReadbackDone
  | rwinResponse => exact hs.execRwinResponse
  | rwinTimeout => exact hs.execRwinTimeout
  | windowCommit => exact hs.execWindowCommit
  | spiWrite => exact hs.execSpiWrite
  | spiRead => exact hs.execSpiRead
  | spiStatus => exact hs.execSpiStatus
  | spiRepeat => exact hs.execSpiRepeat
  | uartPacket => exact hs.execUartPacket
  | uartGapTimeout => exact hs.execUartGapTimeout
  | uartReplySent => exact hs.execUartReplySent
  | mailboxPost => exact hs.execMailboxPost
  | mailboxCopyDone => exact hs.execMailboxCopyDone
  | mailboxReplyWrite => exact hs.execMailboxReplyWrite
  | ping => exact hs.execPing
  | getInfo => exact hs.execGetInfo
  | resetDomain => exact hs.execResetDomain
  | deferredResetStart => exact hs.execDeferredResetStart
  | getResetCause => exact hs.execGetResetCause
  | setMode => exact hs.execSetMode
  | getMode => exact hs.execGetMode
  | getWakeRecord => exact hs.execGetWakeRecord
  | radioConfig => exact hs.execRadioConfig
  | tune => exact hs.execTune
  | calibrate => exact hs.execCalibrate
  | setCalPolicy => exact hs.execSetCalPolicy
  | setTxPower => exact hs.execSetTxPower
  | loadPowerCurve => exact hs.execLoadPowerCurve
  | laneAssign => exact hs.execLaneAssign
  | laneRelease => exact hs.execLaneRelease
  | txFrame => exact hs.execTxFrame
  | txFrameRetry => exact hs.execTxFrameRetry
  | measureChannel => exact hs.execMeasureChannel
  | measureDone => exact hs.execMeasureDone
  | sound => exact hs.execSound
  | mtGet => exact hs.execMtGet
  | mtStep => exact hs.execMtStep
  | mtSlew => exact hs.execMtSlew
  | mtSource => exact hs.execMtSource
  | mtStatus => exact hs.execMtStatus
  | gateWrite => exact hs.execGateWrite
  | gateRead => exact hs.execGateRead
  | courseConfig => exact hs.execCourseConfig
  | courseStart => exact hs.execCourseStart
  | courseStop => exact hs.execCourseStop
  | hopseqWrite => exact hs.execHopseqWrite
  | nbrRead => exact hs.execNbrRead
  | nbrWrite => exact hs.execNbrWrite
  | nbrEvict => exact hs.execNbrEvict
  | routeWrite => exact hs.execRouteWrite
  | routeRead => exact hs.execRouteRead
  | tonemapWrite => exact hs.execTonemapWrite
  | tonemapRead => exact hs.execTonemapRead
  | keyLoad => exact hs.execKeyLoad
  | keySelect => exact hs.execKeySelect
  | secStatus => exact hs.execSecStatus
  | windowDefine => exact hs.execWindowDefine
  | windowClose => exact hs.execWindowClose
  | windowOp => exact hs.execWindowOp
  | stageBegin => exact hs.execStageBegin
  | stageWrite => exact hs.execStageWrite
  | stageCommit => exact hs.execStageCommit
  | stageStatus => exact hs.execStageStatus
  | linkfwLoad => exact hs.execLinkfwLoad
  | linkfwSwap => exact hs.execLinkfwSwap
  | tableBankSwap => exact hs.execTableBankSwap
  | selftest => exact hs.execSelftest
  | getCounters => exact hs.execGetCounters
  | clearCounters => exact hs.execClearCounters
  | echo => exact hs.execEcho
  | abort => exact hs.execAbort
  | heartbeat => exact hs.execHeartbeat
  | supervisorTimeout => exact hs.execSupervisorTimeout
  | takeoverResume => exact hs.execTakeoverResume
  | swapgo => exact hs.execSwapgo
  | standbyLoad => exact hs.execStandbyLoad
  | standbyReady => exact hs.execStandbyReady
  | bankswapGo => exact hs.execBankswapGo
  | bankswapCancel => exact hs.execBankswapCancel
  | interruptTake => exact hs.execInterruptTake
  | add => exact hs.execAdd
  | sub => exact hs.execSub
  | andR => exact hs.execAndR
  | orR => exact hs.execOrR
  | xorR => exact hs.execXorR
  | nor => exact hs.execNor
  | lts => exact hs.execLts
  | ltu => exact hs.execLtu
  | shl => exact hs.execShl
  | shr => exact hs.execShr
  | sar => exact hs.execSar
  | ror => exact hs.execRor
  | minS => exact hs.execMinS
  | maxS => exact hs.execMaxS
  | minu => exact hs.execMinu
  | maxu => exact hs.execMaxu
  | adds => exact hs.execAdds
  | subs => exact hs.execSubs
  | abs => exact hs.execAbs
  | clz => exact hs.execClz
  | popc => exact hs.execPopc
  | revo => exact hs.execRevo
  | sexo => exact hs.execSexo
  | sex12 => exact hs.execSex12
  | addK => exact hs.execAddK
  | andK => exact hs.execAndK
  | orK => exact hs.execOrK
  | xorK => exact hs.execXorK
  | ltsK => exact hs.execLtsK
  | ltuK => exact hs.execLtuK
  | shlK => exact hs.execShlK
  | shrK => exact hs.execShrK
  | sarK => exact hs.execSarK
  | rorK => exact hs.execRorK
  | whi => exact hs.execWhi
  | adh => exact hs.execAdh
  | addsK => exact hs.execAddsK
  | rsbK => exact hs.execRsbK
  | extK => exact hs.execExtK
  | ldw => exact hs.execLdw
  | stw => exact hs.execStw
  | ldo => exact hs.execLdo
  | ldos => exact hs.execLdos
  | sto => exact hs.execSto
  | ldp => exact hs.execLdp
  | stp => exact hs.execStp
  | swp => exact hs.execSwp
  | cbEq => exact hs.execCbEq
  | cbNe => exact hs.execCbNe
  | cbLt => exact hs.execCbLt
  | cbGe => exact hs.execCbGe
  | cbLtu => exact hs.execCbLtu
  | cbGeu => exact hs.execCbGeu
  | cbDec => exact hs.execCbDec
  | cbAny => exact hs.execCbAny
  | jmp => exact hs.execJmp
  | call => exact hs.execCall
  | jmpr => exact hs.execJmpr
  | callr => exact hs.execCallr
  | trap => exact hs.execTrap
  | bkpt => exact hs.execBkpt
  | xret => exact hs.execXret
  | wait => exact hs.execWait
  | fence => exact hs.execFence
  | ei => exact hs.execEi
  | di => exact hs.execDi
  | iline => exact hs.execIline
  | dclean => exact hs.execDclean
  | dflush => exact hs.execDflush
  | dinv => exact hs.execDinv
  | iall => exact hs.execIall
  | dcleanall => exact hs.execDcleanall
  | dflushall => exact hs.execDflushall
  | dinvall => exact hs.execDinvall
  | fcinv => exact hs.execFcinv
  | mfs => exact hs.execMfs
  | mts => exact hs.execMts
  | mul => exact hs.execMul
  | mulh => exact hs.execMulh
  | mulhu => exact hs.execMulhu
  | mull => exact hs.execMull
  | mullu => exact hs.execMullu
  | div => exact hs.execDiv
  | divu => exact hs.execDivu
  | rem => exact hs.execRem
  | remu => exact hs.execRemu
  | mulK => exact hs.execMulK
  | divl => exact hs.execDivl
  | divlu => exact hs.execDivlu
  | fmul => exact hs.execFmul
  | fmult => exact hs.execFmult
  | mac => exact hs.execMac
  | msu => exact hs.execMsu
  | macz => exact hs.execMacz
  | accr => exact hs.execAccr
  | accw => exact hs.execAccw
  | accsh => exact hs.execAccsh
  | cadd => exact hs.execCadd
  | cadds => exact hs.execCadds
  | csub => exact hs.execCsub
  | csubs => exact hs.execCsubs
  | cconj => exact hs.execCconj
  | cmul => exact hs.execCmul
  | hint => exact hs.execHint
  | aeskey => exact hs.execAeskey
  | aesenc => exact hs.execAesenc
  | aesdec => exact hs.execAesdec
  | shainit => exact hs.execShainit
  | shablk => exact hs.execShablk
  | shaout => exact hs.execShaout
  | modsel => exact hs.execModsel
  | modmul => exact hs.execModmul
  | modadd => exact hs.execModadd
  | modsub => exact hs.execModsub
  | rand => exact hs.execRand
  | vsetl => exact hs.execVsetl
  | vadd => exact hs.execVadd
  | vsub => exact hs.execVsub
  | vmul => exact hs.execVmul
  | vmulc => exact hs.execVmulc
  | vscale => exact hs.execVscale
  | vpow => exact hs.execVpow
  | vdot => exact hs.execVdot
  | vfft => exact hs.execVfft
  | vifft => exact hs.execVifft
  | setpend => exact hs.execSetpend
  | coreOffline => exact hs.execCoreOffline
  | coreRestart => exact hs.execCoreRestart
  | watchdogKick => exact hs.execWatchdogKick
  | watchdogWarn => exact hs.execWatchdogWarn
  | watchdogExpire => exact hs.execWatchdogExpire
  | debugHalt => exact hs.execDebugHalt
  | debugStep => exact hs.execDebugStep
  | debugResume => exact hs.execDebugResume
  | lhalt => exact hs.execLhalt
  | dbgaccUpdate => exact hs.execDbgaccUpdate
  | debugLevelWrite => exact hs.execDebugLevelWrite
  | mergeDrain => exact hs.execMergeDrain
  | groomRead => exact hs.execGroomRead
  | bankOffline => exact hs.execBankOffline
  | bankIsolated => exact hs.execBankIsolated
  | bankOnline => exact hs.execBankOnline
  | bankInitDone => exact hs.execBankInitDone
  | repairRow => exact hs.execRepairRow
  | fsInfo => exact hs.execFsInfo
  | fsErase => exact hs.execFsErase
  | fsProgram => exact hs.execFsProgram
  | fsStatus => exact hs.execFsStatus
  | fsSuspend => exact hs.execFsSuspend
  | fsResume => exact hs.execFsResume
  | fsAbandon => exact hs.execFsAbandon
  | fsRefresh => exact hs.execFsRefresh
  | flashDone => exact hs.execFlashDone
  | autoSuspend => exact hs.execAutoSuspend
  | autoResume => exact hs.execAutoResume
  | startHouseCopy => exact hs.execStartHouseCopy
  | copyComplete => exact hs.execCopyComplete
  | dmaMove => exact hs.execDmaMove
  | dmaLoop => exact hs.execDmaLoop
  | dmaWait => exact hs.execDmaWait
  | dmaWaitEnd => exact hs.execDmaWaitEnd
  | dmaTimeout => exact hs.execDmaTimeout
  | dmaSignal => exact hs.execDmaSignal
  | dmaQpop => exact hs.execDmaQpop
  | dmaQpush => exact hs.execDmaQpush
  | dmaSync => exact hs.execDmaSync
  | dmaSyncDone => exact hs.execDmaSyncDone
  | dmaEnd => exact hs.execDmaEnd
  | dmaBurst => exact hs.execDmaBurst
  | channelStart => exact hs.execChannelStart
  | channelStop => exact hs.execChannelStop
  | channelStopped => exact hs.execChannelStopped
  | swtrig => exact hs.execSwtrig
  | clrpend => exact hs.execClrpend
  | fabricChannelEvent => exact hs.execFabricChannelEvent
  | fabricHeldEmit => exact hs.execFabricHeldEmit
  | taskDeliver => exact hs.execTaskDeliver
  | lutUpdate => exact hs.execLutUpdate
  | lutCtlWrite => exact hs.execLutCtlWrite
  | fabricLock => exact hs.execFabricLock
  | pinEvent => exact hs.execPinEvent
  | gtArm => exact hs.execGtArm
  | gtAdvance => exact hs.execGtAdvance
  | gtEnd => exact hs.execGtEnd
  | gtCascadeWrap => exact hs.execGtCascadeWrap
  | gtTopWrite => exact hs.execGtTopWrite
  | gtCapture => exact hs.execGtCapture
  | gtCapRead => exact hs.execGtCapRead
  | modeRequest => exact hs.execModeRequest
  | agentAnswer => exact hs.execAgentAnswer
  | agentDelayExpiry => exact hs.execAgentDelayExpiry
  | modeChangeTimeout => exact hs.execModeChangeTimeout
  | modeCommit => exact hs.execModeCommit
  | domainIsolate => exact hs.execDomainIsolate
  | modeChangeComplete => exact hs.execModeChangeComplete
  | wakeSource => exact hs.execWakeSource
  | wakePinEdge => exact hs.execWakePinEdge
  | regulatorReady => exact hs.execRegulatorReady
  | regulatorTimeout => exact hs.execRegulatorTimeout
  | regRetry => exact hs.execRegRetry
  | xoReady => exact hs.execXoReady
  | xoTimeout => exact hs.execXoTimeout
  | xoRetry => exact hs.execXoRetry
  | pllLock => exact hs.execPllLock
  | tclkTrimWindow => exact hs.execTclkTrimWindow
  | por => exact hs.execPor
  | brownoutMain => exact hs.execBrownoutMain
  | brownoutLp => exact hs.execBrownoutLp
  | resetPinAssert => exact hs.execResetPinAssert
  | resetPinRelease => exact hs.execResetPinRelease
  | rstctrlGo => exact hs.execRstctrlGo
  | vmainLoss => exact hs.execVmainLoss
  | supplySwitch => exact hs.execSupplySwitch
  | backupReset => exact hs.execBackupReset
  | rtcTick => exact hs.execRtcTick
  | rtcAlarm => exact hs.execRtcAlarm
  | adjgo => exact hs.execAdjgo
  | rtcTrimWindow => exact hs.execRtcTrimWindow
  | tapInstructionLoad => exact hs.execTapInstructionLoad
  | tapReset => exact hs.execTapReset
  | registerWrite => exact hs.execRegisterWrite
  | tuneHoldEnd => exact hs.execTuneHoldEnd
  | femLeadSwitch => exact hs.execFemLeadSwitch
  | femLagReturn => exact hs.execFemLagReturn
  | tmholdExpiry => exact hs.execTmholdExpiry
  | flashPulseEnd => exact hs.execFlashPulseEnd
  | uartSyncOctet => exact hs.execUartSyncOctet
  | hostCtsNChange => exact hs.execHostCtsNChange
  | vioLoss => exact hs.execVioLoss
  | vioReturn => exact hs.execVioReturn
  | referenceFailure => exact hs.execReferenceFailure
  | lfOscillatorReady => exact hs.execLfOscillatorReady
  | madcSequenceEnd => exact hs.execMadcSequenceEnd
  | peripheralServiceRequest => exact hs.execPeripheralServiceRequest

theorem State.Has.withPending {n : Nat} {l : List Instr} (hs : s.Has (.level n)) : (s.withPending l).Has (.level n) := by
  cases hs with
  | level h => exact .level h

theorem State.Has.step {n : Nat} (hs : s.Has (.level n)) : OutHas (.level n) (step s) := by
  unfold Machine.step
  split
  exacts [.next hs, hs.withPending.exec]

theorem OutHas.level_le {n : Nat} {t : State} (h : OutHas (.level n) (.next t)) : n ≤ t.otp.debugLevel.toNat := by
  cases h with
  | next ht =>
    cases ht with
    | level h => exact h

/-- Settles O7: the level in force is one that no command takes from a state, and DBG.LEVEL can only raise it (R467). -/
theorem debugLevelNeverFalls : Obligations.DebugLevelNeverFalls := by
  intro s t h
  have hs : s.Has (.level s.otp.debugLevel.toNat) := .level (Nat.le_refl _)
  exact (h ▸ hs.step).level_le

end Sys2Proof.Machine

/-! # The machine: what every command answers, and what it leaves alone

The step (95_what_each_step_holds.md), the canonical form of memory and registers, and the fetch of an instruction (R328, R333). -/

namespace Sys2Proof.Machine

open Sys2Proof

/-! ## Every command, and the step -/

theorem OutHas.exists_next {K : Lasting} {o : Host.Outcome State Fault Refusal} (h : OutHas K o) : ∃ t, o = .next t := by
  cases h with
  | next => exact ⟨_, rfl⟩

theorem OutHas.pending_eq {l : List Instr} {t : State} (h : OutHas (.queue l) (.next t)) : t.pending = l := by
  cases h with
  | next ht =>
    cases ht with
    | queue h => exact h

theorem OutHas.canonical {t : State} (h : OutHas .canonical (.next t)) : t.canonical := by
  cases h with
  | next ht =>
    cases ht with
    | canonical h => exact h

/-- The queue is no part of the canonical form, so the step is one of the command at its front. -/
theorem outHas_step_of_canonical {s : State} (hs : s.canonical) : OutHas .canonical (step s) := by
  unfold step
  split
  · exact .next (.canonical hs)
  · next rest _ =>
    have hrest : (s.withPending rest).canonical := hs
    exact (State.Has.canonical hrest).exec

/-- Settles O5: every command keeps the canonical form, and so does the step. -/
theorem stepKeepsCanonicalForm : Obligations.StepKeepsCanonicalForm := by
  intro s t hs h
  exact (h ▸ outHas_step_of_canonical hs).canonical

/-- Settles O4: the queue is one of the things that no command takes from a state. -/
theorem commandsKeepTheQueue : Obligations.CommandsKeepTheQueue := by
  intro c s t h
  have hs : s.Has (.queue s.pending) := .queue rfl
  exact (h ▸ hs.exec).pending_eq

/-- Settles O3: every meaning ends in a next state; a debug level of 0 or more, which every state has, is all that is asked of it. -/
theorem everyCommandCompletes : Obligations.EveryCommandCompletes := by
  intro c s
  have hs : s.Has (.level 0) := .level (Nat.zero_le _)
  exact hs.exec.exists_next

/-- Settles O1, by the definition of the step. -/
theorem stepRunsFrontCommand : Obligations.StepRunsFrontCommand := fun _ _ _ => rfl

/-- Settles O2, by the definition of the step. -/
theorem idleStepChangesNothing : Obligations.IdleStepChangesNothing := by
  intro s hs
  rw [step, hs]

/-- Settles O6: both tables list nothing. -/
theorem resetIsCanonical : Obligations.ResetIsCanonical := ⟨rfl, rfl⟩

/-! ## The fetch (R328, R333) -/

section

variable (line : Nat) (k : Fin 4) (s : State)

theorem core_icAlloc_ne {j : Fin 4} (h : j ≠ k) : (icAlloc line k s).core j = s.core j := by
  unfold icAlloc
  dsimp only
  rw [State.core_setCore_ne _ _ h]
  split <;> rfl

theorem mt_icAlloc : (icAlloc line k s).mt = s.mt := by
  unfold icAlloc
  dsimp only [State.setCore]
  split <;> rfl

theorem pending_icAlloc : (icAlloc line k s).pending = s.pending := by
  unfold icAlloc
  dsimp only [State.setCore]
  split <;> rfl

/-- A fetch is at most a memory read, after which a line may come into the I-cache. -/
theorem fetch_cases : ∃ t, SameAside s t ∧ ((fetch k s).2 = t ∨ ∃ line, (fetch k s).2 = icAlloc line k t) := by
  have read (a : Nat) : SameAside s (memRead k.val a s).2.2 := memRead_aside k.val a s aside_self
  unfold fetch
  dsimp only
  split
  · exact ⟨s, aside_self, .inl rfl⟩
  · split
    · exact ⟨s, aside_self, .inl rfl⟩
    · split
      · split
        · exact ⟨s, aside_self, .inl rfl⟩
        · dsimp only
          split
          · exact ⟨s, aside_self, .inr ⟨_, rfl⟩⟩
          · exact ⟨s, aside_self, .inl rfl⟩
      · split
        · exact ⟨_, read _, .inl rfl⟩
        · dsimp only
          split
          · exact ⟨_, read _, .inr ⟨_, rfl⟩⟩
          · exact ⟨_, read _, .inl rfl⟩

end

/-- Settles O10: a memory read leaves the cores, mesh time and the queue alone, and a line comes into the fetching core's I-cache only. -/
theorem fetchKeepsTheCores : Obligations.FetchKeepsTheCores := by
  intro k s
  obtain ⟨t, ht, h⟩ := fetch_cases k (resume k s)
  have hcore (j : Fin 4) (hj : j ≠ k) : t.core j = s.core j :=
    (State.core_of_cores ht.cores j).trans (State.core_setCore_ne _ _ hj)
  have hmt : t.mt = s.mt := ht.mt
  have hpending : t.pending = s.pending := ht.pending
  unfold State.fetched
  refine ⟨fun j hj => ?_, s.core_fetched k, ?_, ?_⟩
  all_goals obtain h | ⟨line, h⟩ := h
  · rw [h, hcore j hj]
  · rw [h, core_icAlloc_ne line k t hj, hcore j hj]
  · rw [h, hmt]
  · rw [h, mt_icAlloc, hmt]
  · rw [h, hpending]
  · rw [h, pending_icAlloc, hpending]

end Sys2Proof.Machine

/-! # The rows of the blocks: completion and effect

An event or a register write whose condition does not hold changes nothing (the model's choice, log 1; R4 for a register access
that is not honoured). -/

namespace Sys2Proof.Machine

open Sys2Proof

/-- A command that answers `t` under a condition, and its own state otherwise. -/
theorem acts_of_exec {i : Instr} {s t : State} {g : Bool} (h : exec i s = if g then .next t else .next s) : Acts i s g t :=
  acts_of_act (f := fun _ => t) h

/-! ## Mesh time (R8 to R50) -/

/-- Settles O49: the reads of the counter and of a capture are commanded reads; every other row is one effect under its condition. -/
theorem meshTimeCommands : Obligations.MeshTimeCommands := by
  refine ⟨?readMtNow0, ?mtCtrlStep, ?mtRateCommit, ?mtUsetWrite, ?mtUalarmWrite, ?lfWindowEnd, ?armCompare, ?compareDisarm,
    ?compareMatch, ?ppsPulseEnd, ?captureEvent, ?readCapture, ?ptpEventStamp, ?mtTick, ?lfTick, ?mtStepApply, ?slewStart,
    ?slewstop, ?mtSlewDone, ?bridgeEnter, ?bridgeExit, ?disciplineSample, ?sourceLost⟩
  case readMtNow0 | readCapture => intros; exact reads_of_readCmd rfl
  all_goals intros; exact acts_of_exec rfl

/-! ## Gates, courses and activations (R51 to R81) -/

/-- What the engine does with an activation that it finds. -/
theorem acts_of_onAct {i : Instr} {g : BitVec 12} {it : BitVec 48} {p : Activ → Bool} {f : Activ → State → State} {s : State}
    {a : Activ} (hi : exec i s = onAct g it p f s) (ha : s.actFor g.toNat it.toNat p = some a) :
    Acts i s s.gatesRun (f a s) :=
  acts_of_act (hi.trans (by rw [onAct, ha]))

/-- Settles O50: a row about an activation that exists is `onAct`; the pre-tune asks whether its gate's activation is made already. -/
theorem gateCommands : Obligations.GateCommands := by
  refine ⟨?courseRunWrite, ?courseStopWrite, ?courseStopnow, ?courseBoundary, ?gateCommit, ?guardEvaluation, ?pretuneMade,
    ?pretuneNew, ?frameAccept, ?rxListen, ?rxExpect, ?rxSound, ?txQueue, ?txBeacon, ?txSound, ?emitEvent, ?gateWinEnd,
    ?gateTune, ?gateCalibrate, ?wakeApp, ?rxWindowClose, ?ackWaitEnd, ?synthLock, ?calSliceStart, ?calSliceDone, ?fullCalStart,
    ?fullCalDone, ?calstop, ?txRampUp, ?txLate, ?txEnd, ?blankEnd, ?txHalt, ?ccaDone, ?ackTransmit, ?tuneHoldEnd,
    ?femLeadSwitch, ?femLagReturn⟩
  case rxListen | rxExpect | rxSound | txQueue | txBeacon | txSound | emitEvent | gateWinEnd | gateTune | gateCalibrate |
      wakeApp | rxWindowClose | tuneHoldEnd =>
    exact fun _ _ _ _ ha => acts_of_onAct rfl ha
  case guardEvaluation =>
    rintro g it s _ rfl
    exact acts_of_exec rfl
  case pretuneMade =>
    intro g it s a ha
    exact acts_of_exec (show execGatePretune g it s = _ by rw [execGatePretune, ha]; rfl)
  case pretuneNew =>
    rintro g it s _ _ _ hnone rfl rfl rfl
    exact acts_of_exec (show execGatePretune g it s = _ by rw [execGatePretune, hnone]; rfl)
  case ackWaitEnd =>
    intro band s wt hwt
    exact acts_of_exec (show execAckWaitEnd band s = _ by rw [execAckWaitEnd, hwt]; rfl)
  all_goals intros; exact acts_of_exec rfl

/-! ## Front ends and lanes (R82 to R148) -/

/-- Settles O51: a preamble is detected where one of the lane's hypotheses wins. -/
theorem radioAndLaneCommands : Obligations.RadioAndLaneCommands := by
  refine ⟨?synthColdFallback, ?calCommit, ?calageTick, ?sensorRefresh, ?offminEnd, ?bucketEntry, ?pathAgcWindow, ?gainApply,
    ?detectWinner, ?detectNone, ?headerDecode, ?codewordDecode, ?frameEnd, ?laneOosWrite, ?spanApply⟩
  case detectWinner =>
    intro n m peak rssi1 rssi2 snr s i hi
    exact acts_of_exec (show execPreambleDetect n m peak rssi1 rssi2 snr s = _ by rw [execPreambleDetect, hi]; rfl)
  case detectNone =>
    intro n m peak rssi1 rssi2 snr s hnone
    show execPreambleDetect n m peak rssi1 rssi2 snr s = _
    rw [execPreambleDetect, hnone]
  all_goals intros; exact acts_of_exec rfl

/-! ## Keys, neighbours and tone maps (R149 to R204) -/

/-- Settles O52: the sounding policy of a neighbour that is gone is dropped; that of one that is there asks for a sounding frame. -/
theorem linkTableCommands : Obligations.LinkTableCommands := by
  refine ⟨?keyLoadCommit, ?keyClear, ?txctrCommit, ?txlimCommit, ?keyWalkDone, ?nbrCommit, ?heardRefresh, ?tonemapCompute,
    ?tonemapFeedback, ?policyOfFree, ?policyOfHeld, ?txFrameRetry, ?tmholdExpiry⟩
  case tonemapFeedback =>
    rintro nbr elem s _ rfl
    exact acts_of_exec rfl
  case policyOfFree =>
    intro nbr s e he hfree
    exact acts_of_exec (show execSoundingPolicyTick nbr s = _ by rw [execSoundingPolicyTick, he]; exact if_pos hfree)
  case policyOfHeld =>
    intro nbr s e he hheld
    exact acts_of_exec (show execSoundingPolicyTick nbr s = _ by rw [execSoundingPolicyTick, he]; exact if_neg hheld)
  case txFrameRetry =>
    intro t tag s b r hr
    exact acts_of_exec (show execTxFrameRetry t tag s = _ by rw [execTxFrameRetry, hr]; rfl)
  all_goals intros; exact acts_of_exec rfl

/-! ## Forwarding, queues and remote windows (R205 to R249) -/

/-- Settles O53: pop, peek and the allocation of a buffer are commanded reads. -/
theorem forwardAndQueueCommands : Obligations.ForwardAndQueueCommands := by
  refine ⟨?fwdProcess, ?routeCommit, ?queuePush, ?queuePushhead, ?queuePop, ?queuePeek, ?queueClassWrite, ?freebuf, ?alloc,
    ?qmTimeout, ?rwinRequest, ?rwinReadbackDone, ?rwinResponse, ?rwinTimeout, ?windowCommit⟩
  case queuePop | queuePeek | alloc => intros; exact reads_of_readCmd rfl
  all_goals intros; exact acts_of_exec rfl

/-! ## The command port (R250 to R268) -/

/-- Settles O54: a mailbox copy that is under way ends, and a takeover that is under way goes on. -/
theorem commandPortEvents : Obligations.CommandPortEvents := by
  refine ⟨?spiWrite, ?spiRead, ?spiStatus, ?spiRepeat, ?uartPacket, ?uartGapTimeout, ?uartReplySent, ?mailboxPost,
    ?mailboxCopyDone, ?mailboxReplyWrite, ?deferredResetStart, ?takeoverResume, ?uartSyncOctet, ?hostCtsNChange⟩
  case mailboxCopyDone =>
    intro k s e he
    exact acts_of_exec (show execMailboxCopyDone k s = _ by rw [execMailboxCopyDone, he]; rfl)
  case takeoverResume =>
    intro dur s c hc
    exact acts_of_exec (show execTakeoverResume dur s = _ by rw [execTakeoverResume, hc]; rfl)
  all_goals intros; exact acts_of_exec rfl

/-! ## The host's commands (R269 to R289) -/

/-- Settles O55: every command but ABORT is one that link firmware starts, judging steps 9 and 10 of R260 again (log 114); ABORT acts on
the record that holds it. -/
theorem hostCommandsOfTheSystem : Obligations.HostCommandsOfTheSystem := by
  refine ⟨?ping, ?getInfo, ?resetDomain, ?getResetCause, ?setMode, ?getMode, ?getWakeRecord, ?mtGet, ?mtStep, ?mtSlew, ?mtSource,
    ?mtStatus, ?abort, ?stageBegin, ?stageWrite, ?stageCommit, ?stageStatus, ?linkfwLoad, ?linkfwSwap, ?tableBankSwap, ?selftest,
    ?clearCounters, ?echo, ?getCounters⟩
  case abort =>
    intro t tag s r hr
    exact acts_of_exec (show execAbort t tag s = _ by rw [execAbort, hr]; rfl)
  all_goals exact fun _ _ _ => starts_of_command rfl

/-- Settles O56: every command is one that link firmware starts, judging steps 9 and 10 of R260 again (log 114); MEASURE_DONE
is the event that ends one, on the lane that measures. -/
theorem hostCommandsOfTheRadio : Obligations.HostCommandsOfTheRadio := by
  refine ⟨?radioConfig, ?tune, ?calibrate, ?setCalPolicy, ?setTxPower, ?loadPowerCurve, ?laneAssign, ?laneRelease, ?txFrame,
    ?measureChannel, ?measureDone, ?sound, ?gateWrite, ?gateRead, ?courseConfig, ?courseStart, ?courseStop, ?hopseqWrite, ?nbrRead,
    ?nbrWrite, ?nbrEvict, ?routeWrite, ?routeRead, ?tonemapWrite, ?tonemapRead, ?keyLoad, ?keySelect, ?secStatus, ?windowDefine,
    ?windowClose, ?windowOp⟩
  case measureDone =>
    intro t tag mean peak share s n hn
    exact acts_of_exec (show execMeasureDone t tag mean peak share s = _ by rw [execMeasureDone, hn]; rfl)
  all_goals exact fun _ _ _ => starts_of_command rfl

/-! ## The link supervisor, core control, watchdogs and debug (R290 to R302, R335 to R341, R466, R467) -/

/-- Settles O57: the standby core takes the image of a load that is under way. -/
theorem linkCoreAndCoreControl : Obligations.LinkCoreAndCoreControl := by
  refine ⟨?heartbeat, ?supervisorTimeout, ?swapgo, ?standbyLoad, ?standbyReady, ?bankswapGo, ?bankswapCancel, ?setpend,
    ?watchdogWarn, ?coreOffline, ?coreRestart, ?watchdogKick, ?watchdogExpire, ?debugHalt, ?debugStep, ?debugResume, ?lhalt,
    ?dbgaccUpdate, ?debugLevelWrite, ?registerWrite⟩
  case standbyReady =>
    intro s src rcd hload
    exact acts_of_exec (show execStandbyReady s = _ by rw [execStandbyReady, hload]; rfl)
  all_goals intros; exact acts_of_exec rfl

/-! ## Memory and flash (R342 to R386) -/

section

variable {i : Instr} {n : Nat} {a2 a3 a4 : Word} {body : Word → Word → Word → State → SvcOut × State} {s : State}

/-- A call by a core that stands at a service's own entry; the words of the call are in its registers. -/
theorem acts_of_svcCall_core {k : Fin 4} (hi : exec i s = svcCall n (.app k) 0 0 0 body s) (hk : s.atReserved k = false) :
    Acts i s (s.atService k n) (svcByCore k body s) :=
  acts_of_act (hi.trans (by simp only [svcCall, hk, Bool.false_eq_true, if_false]))

/-- A core at a reserved entry is answered BAD_PARAM, whichever service's command lets it go on (R362). -/
theorem exec_of_svcCall_reserved {k : Fin 4} (hi : exec i s = svcCall n (.app k) 0 0 0 body s)
    (hk : s.atReserved k = true) : exec i s = .next (svcByCore k (fun _ _ _ t => (SvcOut.st St.badParam, t)) s) :=
  hi.trans (if_pos hk)

/-- A call by a link core. -/
theorem acts_of_svcCall_link {w : Who} (hi : exec i s = svcCall n w a2 a3 a4 body s) (hw : w = .lcA ∨ w = .lcB) :
    Acts i s s.linkRuns (svcByLink n w a2 a3 a4 body s) := by
  obtain rfl | rfl := hw <;> exact acts_of_act hi

end

/-- Settles O58: each service answers an application core at its entry, a link core, and a core at a reserved entry. -/
theorem memoryAndFlashCommands : Obligations.MemoryAndFlashCommands := by
  refine ⟨?mergeDrain, ?groomRead, ?bankOffline, ?bankIsolated, ?bankOnline, ?bankInitDone,
    ?repairCore, ?repairLink, ?repairReserved, ?infoCore, ?infoLink, ?infoReserved, ?eraseCore, ?eraseLink, ?eraseReserved,
    ?programCore, ?programLink, ?programReserved, ?statusCore, ?statusLink, ?statusReserved,
    ?suspendCore, ?suspendLink, ?suspendReserved, ?resumeCore, ?resumeLink, ?resumeReserved,
    ?abandonCore, ?abandonLink, ?abandonReserved, ?refreshCore, ?refreshLink, ?refreshReserved,
    ?flashDone, ?autoSuspend, ?autoResume, ?startHouseCopy, ?copyComplete, ?flashPulseEnd⟩
  case repairCore | infoCore | eraseCore | programCore | statusCore | suspendCore | resumeCore | abandonCore | refreshCore =>
    intros; exact acts_of_svcCall_core rfl (by assumption)
  case repairLink | infoLink | eraseLink | programLink | statusLink | suspendLink | resumeLink | abandonLink | refreshLink =>
    intros; exact acts_of_svcCall_link rfl (by assumption)
  case repairReserved | infoReserved | eraseReserved | programReserved | statusReserved | suspendReserved | resumeReserved |
      abandonReserved | refreshReserved =>
    intros; exact exec_of_svcCall_reserved rfl (by assumption)
  case flashDone =>
    intro s o r ho hr
    exact acts_of_exec (show execFlashDone s = _ by simp only [execFlashDone, ho, hr]; rfl)
  case copyComplete =>
    intro s c hc
    exact acts_of_exec (show execCopyComplete s = _ by rw [execCopyComplete, hc]; rfl)
  all_goals intros; exact acts_of_exec rfl

/-! ## DMA, the event fabric and the general timers (R387 to R422) -/

/-- Settles O59: the capture of a timer is a commanded read; an instruction of a channel runs where the channel is ready. -/
theorem dmaFabricAndTimerCommands : Obligations.DmaFabricAndTimerCommands := by
  refine ⟨?rwRead, ?rwWrite, ?rwAdd, ?rwSwap, ?dmaMove, ?dmaLoop, ?dmaWait, ?dmaWaitEnd, ?dmaTimeout, ?dmaSignal, ?dmaQpop,
    ?dmaQpush, ?dmaSync, ?dmaSyncDone, ?dmaEnd, ?dmaBurst, ?channelStopped, ?channelStart, ?channelStop, ?swtrig, ?clrpend,
    ?fabricChannelEvent, ?fabricHeldEmit, ?taskDeliver, ?lutUpdate, ?lutCtlWrite, ?fabricLock, ?pinEvent, ?madcSequenceEnd,
    ?peripheralServiceRequest, ?gtArm, ?gtAdvance, ?gtEnd, ?gtCascadeWrap, ?gtTopWrite, ?gtCapture, ?gtCapRead⟩
  case gtCapRead => intros; exact reads_of_readCmd rfl
  all_goals intros; exact acts_of_exec rfl

/-! ## Power, clocks, resets, supplies, the backup domain and the TAP (R423 to R474) -/

/-- Settles O60: a wake source acts on the state in which its pin's level has been taken. -/
theorem powerAndClockCommands : Obligations.PowerAndClockCommands := by
  refine ⟨?modeRequest, ?agentAnswer, ?agentDelayExpiry, ?modeChangeTimeout, ?modeCommit, ?domainIsolate, ?modeChangeComplete,
    ?wakeSource, ?wakePinEdge, ?regulatorReady, ?regulatorTimeout, ?regRetry, ?xoReady, ?xoTimeout, ?xoRetry, ?pllLock,
    ?tclkTrimWindow, ?por, ?brownoutMain, ?brownoutLp, ?resetPinAssert, ?resetPinRelease, ?rstctrlGo, ?vmainLoss, ?supplySwitch,
    ?backupReset, ?rtcTick, ?rtcAlarm, ?adjgo, ?rtcTrimWindow, ?tapInstructionLoad, ?tapReset, ?vioLoss, ?vioReturn,
    ?referenceFailure, ?lfOscillatorReady⟩
  case wakeSource => exact fun code s h => act_of_true wakeSource (s.wakePinAt code) h
  all_goals intros; exact acts_of_exec rfl

end Sys2Proof.Machine
